-- ==== Sys2Proof/Word.lean ====
section
/-!
DEFINITION. The word types of the block: a BAR0 register is 32 bits wide (R10), memory is bytes (R9).
-/

namespace Sys2Proof

/-- A BAR0 register, 32 bits (R10). -/
abbrev Word := BitVec 32

/-- The smallest addressable unit (R9). -/
abbrev Byte := BitVec 8

end Sys2Proof
end

