-- ==== Sys2Proof/Syntax.lean ====
section
/-!
DEFINITION. The commands the block takes: one constructor of `Instr` for each row of the table of operations and events.
An event of the device or of the outside carries `dt`, the cc that pass before it (notes/assumptions/2.md); a command of
software comes from a `Requester` and acts in the present cc. Where a row depends on what the outside presents (a sampled
edge, a measured value, a received frame), that is an operand.
-/

namespace Sys2Proof

/-- A region, 0-15 (R14). -/
abbrev Region := Fin 16
/-- A cluster, g = 0-63 (R14). -/
abbrev Cluster := Fin 64
/-- A tile die, T0-T7 (R14). -/
abbrev Tile := Fin 8
/-- A Cihisin link, 0-23 (R14). -/
abbrev Link := Fin 24
/-- A number 0-7 of a unit or engine of a cluster: a Script engine, a voice, a stream. -/
abbrev Eighth := Fin 8

/-- Who makes an access: the host over PCIe or a Gaffer core (R32). -/
inductive Requester where
  | host
  | gaffer (core : Fin 4)
  deriving DecidableEq, Repr

/-- One access to BAR0, or to the same place from a Gaffer core: 32 or 64 bits wide (R10). The `msix` accesses are the
host's to the MSI-X structures in BAR4 (R353), at word `w` (the byte offset divided by 4). -/
inductive BusOp where
  | read32 (addr : BitVec 28)
  | read64 (addr : BitVec 28)
  | write32 (addr : BitVec 28) (v : BitVec 32)
  | write64 (addr : BitVec 28) (v : BitVec 64)
  | msixRead (w : Nat)
  | msixWrite (w : Nat) (v : Word)
  deriving DecidableEq, Repr

/-- A latency-locked crossing (R22): between a cluster and its region, or between a region and the hub. `away` is the
direction away from the hub (`XLOCK_FAULT0.DIR`). -/
inductive Crossing where
  | clusterRegion (g : Cluster) (away : Bool)
  | regionHub (n : Region) (away : Bool)
  deriving DecidableEq, Repr

/-- What a crossing can find (R25, `XLOCK_FAULT0.KIND`). -/
inductive CrossingKind where
  | emptyRead | fullWrite | occupancy
  deriving DecidableEq, Repr

/-- A crossing and what it finds in a cc. -/
structure CrossingFinding where
  x : Crossing
  kind : CrossingKind
  deriving DecidableEq, Repr

/-- The PLLs that take their reference from REF_IN (R37). -/
inductive Pll where
  | hub
  | tile (t : Tile)
  deriving DecidableEq, Repr

/-- The clapper and reference taps (R56). -/
inductive ClapTap where
  | ref | tapIn | tapOut
  | tile (t : Tile)
  deriving DecidableEq, Repr

/-- What the hardware measures at a clapper check: the phase detector of each tile (R57, LSB 0.25 ps), the regions whose
footage counter differs from the hub's (R48), the crossings whose occupancy differs from L (R25), and the links that
pass what of R334 is no state of this module: for a link in RT the occupancy of its receive buffer, for another link that its
partner allows the class. -/
structure CheckObservation where
  skews : List (Tile × BitVec 16)
  counterMismatch : List Region
  occupancyMismatch : List Crossing
  linksReady : List Link
  deriving DecidableEq, Repr

/-- A unit of a cluster as the Script instructions number it (R99): voices 0-7 of the first RF output, voices 8-15 of the
second, baseband outputs 16-19. -/
abbrev UnitId := Fin 20

/-- A shadowed set of a cluster: the units 0-19, then tones 0-15 as 20-35 (R87, R124). -/
abbrev SetId := Fin 36

/-- The shadow registers of a voice (R94). -/
inductive VoiceField where
  | ftwLo | ftwHi | poff | amp | segbase
  deriving DecidableEq, Repr

/-- The shadow registers of a baseband output (R94). -/
inductive BboField where
  | gain | offset
  deriving DecidableEq, Repr

/-- The shadow registers of a tone (R140). -/
inductive ToneField where
  | ftwLo | ftwHi | poff | wbase | rot | th0 | th1 | th2
  deriving DecidableEq, Repr

/-- A register of a shadow copy in a cluster. -/
inductive ShadowReg where
  | voice (u : Fin 16) (f : VoiceField)
  | bbo (b : Fin 4) (f : BboField)
  | tone (t : Fin 16) (f : ToneField)
  deriving DecidableEq, Repr

/-- A marker route of a cluster (R92). -/
inductive MarkerRoute where
  | rfo (o : Fin 2) (m : Fin 8)
  | bbo (b : Fin 4)
  deriving DecidableEq, Repr

/-- The configuration registers of a sweep generator (R116). -/
inductive SwgReg where
  | ctrl | n1 | n2 | poly | seed | baseLo | baseHi | stepLo | stepHi | step2Lo | step2Hi
  deriving DecidableEq, Repr

/-- A comparator (R136, R201): of a tone, of a tracker, or the raw level comparator of a region's channel. -/
inductive Comparator where
  | tone (g : Cluster) (t : Fin 16)
  | tracker (g : Cluster) (k : Fin 256)
  | raw (n : Region) (c : Fin 4)
  deriving DecidableEq, Repr

/-- What the ADC reports of overrange samples (R121): how many since the last report, and whether one lies in the span. -/
structure Overrange where
  count : Nat
  inSpan : Bool
  deriving DecidableEq, Repr

/-- The samples of a take's span, which only the outside knows: for each channel its raw samples from the first position of the
span on, and for each IQ reduction its stream samples of the span (R210). -/
structure TakeSamples where
  raw : List (List Int)
  iq : List (Nat × List (Int × Int))
  deriving DecidableEq, Repr

/-- How the take port of the Grip channel finished with a take (R218, R221): every write completed, or one failed with TIMEOUT
or POISON, and then whether the slate was still written. -/
inductive TakePort where
  | completed
  | timeout (slate : Bool)
  | poison (slate : Bool)
  deriving DecidableEq, Repr

/-- An output sample of a reduction: one value, a minimum and maximum, or I and Q (R220). -/
abbrev OutputSample := Int × Int

/-- A freeze register (R242, R243): of a cluster, of the tiles, of the TIO inputs 32j to 32j + 31, of the bias outputs 32j to
32j + 31 of a die, of the converters of a die. -/
inductive FreezeReg where
  | cluster (g : Cluster)
  | tiles
  | tio (j : Fin 4)
  | bias (die : Fin 2) (j : Fin 4)
  | converters (die : Fin 2)
  deriving DecidableEq, Repr

/-- What the monitor accumulated over a block (R234): the DC voltage and the square-law reading in factory units, the codes and
the squares of the codes shifted right by 8, and, by the factory's LSB voltage and prediction, the offset error in 2^-16 code
and the gain error in 2^-32. -/
structure MonitorBlock where
  vdc : Int
  vms : Int
  cdc : Int
  cms : Int
  offset : Int
  gain : Int
  deriving DecidableEq, Repr

/-- What the mixture fit of R235 finds in the last W results of a tone: the means as I, Q pairs, the spread of the projections
in 2^-16, and whether a component holds less than 1 % of the results. -/
structure MixtureFit where
  means : List (Int × Int)
  sigma : Nat
  weak : Bool
  deriving DecidableEq, Repr

/-- The registers of a converter whose write restarts it (R257). -/
inductive IcReg where
  | ctrl | period | scan
  deriving DecidableEq, Repr

/-- An event channel (R263). -/
inductive Channel where
  | ev (c : Fin 128)
  | lev (n : Region) (c : Fin 32)
  deriving DecidableEq, Repr

/-- What takes an event off a channel: the task inputs of R268 and the output lines of R272. -/
inductive EventInput where
  | script (g : Cluster) (e : Eighth) (k : Fin 4)
  | kernel (g : Cluster)
  | take (n : Region) (k : Fin 2)
  | pacingTimer (p : Fin 32)
  | gripStart (ch : Fin 80)
  | gripPace (ch : Fin 80)
  | tio (l : Fin 128)
  deriving DecidableEq, Repr

/-- What a read that a Grip operation or a descriptor fetch makes comes back with: data (used where only the outside knows it:
host memory, pre-roll samples), a host completion with Unsupported Request or Completer Abort, a poisoned one, or data that the
DDR5 controller corrected or could not correct, with the line of 64 bytes in the operation and the DRAM device (R309-R311,
R317). -/
inductive GripAnswer where
  | data (bytes : List Byte)
  | unsupported
  | poisoned
  | corrected (line : Nat) (device : Nat)
  | uncorrectable (line : Nat) (device : Nat)
  deriving DecidableEq, Repr

/-- What times out on a Grip channel (R310, R314): the descriptor fetch, an operation in flight, or the dailies port. -/
inductive GripPort where
  | fetch
  | op (i : Nat)
  | dailies
  deriving DecidableEq, Repr

/-- What a DDR5 channel holds (R315): its DIMMs, whether all have ECC, whether they are 3DS, and their capacity in GB. -/
structure DimmChannel where
  ndimm : Nat
  ecc : Bool
  threeDs : Bool
  gb : Nat
  deriving DecidableEq, Repr

/-- What a controller finds in a line (R317). -/
inductive EccResult where
  | clean
  | corrected (device : Nat)
  | uncorrectable (device : Nat)
  deriving DecidableEq, Repr

/-- How far a march run came and what it found (R319, R320): steps completed, lines of the next step visited, compare mismatches,
the channel-local address of the first, and ECC errors by channel-local address and device. -/
structure MarchOutcome where
  steps : Nat
  lines : Nat
  mismatches : Nat
  firstFail : Nat
  corrected : List (Nat × Nat)
  uncorrectable : List (Nat × Nat)
  deriving DecidableEq, Repr

/-- What a HELLO carries (R331). -/
structure LinkHello where
  mod : BitVec 6
  link : Link
  serial : BitVec 64
  running : Bool
  deriving DecidableEq, Repr

/-- An access to BAR2 at offset `x` (R351): a read of `n` bytes with what the controller finds in the data, or a write with its
byte enables. -/
inductive Bar2Op where
  | read (x n : Nat) (ecc : EccResult)
  | write (x : Nat) (bytes : List (Option Byte))
  deriving DecidableEq, Repr

/-- A UDP datagram to port 48620 (R381): the port it came in on, its source, whether it is an IP fragment, and its payload. -/
structure Datagram where
  netB : Bool
  addr : BitVec 32
  port : BitVec 16
  fragment : Bool
  bytes : List Byte
  deriving DecidableEq, Repr

/-- A network time domain, 0 = A and 1 = B (R401). -/
abbrev Domain := Fin 2

/-- What a PTP message of the served kinds says (R401, R403). Times are in units of 2^-16 ns. `rank` is the data set an
Announce carries, most significant first: priority1, clockClass, clockAccuracy, offsetScaledLogVariance, priority2,
grandmasterIdentity, stepsRemoved. `other` covers the messages that are ignored: Pdelay and management. -/
inductive PtpBody where
  | announce (rank : List Nat) (logInterval : Int)
  | sync (oneStep : Bool) (seq : Nat) (origin : Int) (corr : Int)
  | followUp (seq : Nat) (origin : Int) (corr : Int)
  | delayResp (seq : Nat) (t4 : Int) (corr : Int) (logInterval : Int)
  | other
  deriving DecidableEq, Repr

/-- A PTP message as it arrives: the port, the transport, whether it passes the checks of IEEE 1588-2019, its domainNumber, the
sourcePortIdentity and the body. -/
structure PtpMessage where
  netB : Bool
  udp : Bool
  wellFormed : Bool
  domainNumber : Nat
  clock : BitVec 64
  portNumber : BitVec 16
  body : PtpBody
  deriving DecidableEq, Repr

/-- What a reset covers (R421). -/
inductive ResetScope where
  | region (n : Region)
  | cluster (g : Cluster)
  deriving DecidableEq, Repr

/-- What the Gaffer measures of itself over 100 ms (R380): the busy fractions of cores 0 and 1 and the shares of the three classes
of work as IEEE 754 singles, and the mean service time, as a single and in whole µs. -/
structure GafferLoad where
  core0 : Word
  core1 : Word
  ptp : Word
  cal : Word
  od : Word
  tsvc : Word
  tsvcUs : BitVec 16
  deriving DecidableEq, Repr

/-- The commands: the rows of the table of operations and events, in its order. -/
inductive Instr where
  -- Bus and crossings (Architecture and the Six Levels, Host Interface)
  | registerWrite (who : Requester) (op : BusOp)
  | bar0BadAccess (who : Requester) (addr : Nat) (bytes : Nat) (write : Bool)
  | dozeAccess (who : Requester) (op : BusOp)
  | fabricTimingFault (dt : Nat) (found : List CrossingFinding)
  | crossingLock (dt : Nat) (x : Crossing)
  | xlockFaultClear (who : Requester)
  -- Clocks and clapper (Clapper, Footage and Phase)
  | clkRefSelWrite (who : Requester) (v : Word)
  | pllLock (dt : Nat) (pll : Pll) (refInRange : Bool)
  | referenceLost (dt : Nat)
  | tilePllUnlock (dt : Nat) (t : Tile)
  | clapArm (who : Requester)
  | clapDisarm (who : Requester)
  | loopMeas (who : Requester)
  | loopMeasDone (dt : Nat) (roundTrip : Option (BitVec 32)) (spread : BitVec 16)
  | clapperEdge (dt : Nat) (pos : Fin 16)
  | epochPulseEmit (dt : Nat)
  | checkPulseEmit (dt : Nat)
  | epochStart (dt : Nat)
  | clapperCheck (dt : Nat) (obs : CheckObservation)
  | clapTapWrite (who : Requester) (tap : ClapTap) (v : Word)
  | tapSlewStep (dt : Nat) (tap : ClapTap)
  -- Reels, segments and voices
  | segEntryStage (who : Requester) (n : Region) (e : Fin 4096) (w : Fin 3) (v : Word)
  | segEntryCommit (who : Requester) (n : Region) (e : Fin 4096) (v : Word)
  | spliceDecisionPoint (dt : Nat) (g : Cluster) (u : UnitId)
  | splice (dt : Nat) (g : Cluster) (u : UnitId)
  | streamPortWrite (dt : Nat) (n : Region) (st : Eighth) (words : List Word)
  | streamHeldWriteAppend (dt : Nat) (n : Region) (st : Eighth)
  | underrun (dt : Nat) (g : Cluster) (u : UnitId)
  | strmCfgWrite (who : Requester) (n : Region) (st : Eighth) (v : Word)
  | shadowWrite (who : Requester) (g : Cluster) (r : ShadowReg) (v : Word)
  | voiceCommit (who : Requester) (g : Cluster) (u : UnitId)
  | clCommit (who : Requester) (g : Cluster) (mask : Word)
  | handOver (dt : Nat) (g : Cluster) (set : SetId)
  | markerEdge (dt : Nat) (g : Cluster) (route : MarkerRoute)
  -- Script engines and sweep generators
  | scrStart (who : Requester) (g : Cluster) (mask : BitVec 8)
  | scrStop (who : Requester) (g : Cluster) (mask : BitVec 8)
  | scrStopFlush (who : Requester) (g : Cluster) (mask : BitVec 8)
  | nop (dt : Nat) (g : Cluster) (e : Eighth)
  | halt (dt : Nat) (g : Cluster) (e : Eighth)
  | play (dt : Nat) (g : Cluster) (e : Eighth)
  | playd (dt : Nat) (g : Cluster) (e : Eighth)
  | wait (dt : Nat) (g : Cluster) (e : Eighth)
  | waitu (dt : Nat) (g : Cluster) (e : Eighth)
  | clap (dt : Nat) (g : Cluster) (e : Eighth)
  | setf (dt : Nat) (g : Cluster) (e : Eighth)
  | setp (dt : Nat) (g : Cluster) (e : Eighth)
  | rotp (dt : Nat) (g : Cluster) (e : Eighth)
  | seta (dt : Nat) (g : Cluster) (e : Eighth)
  | commit (dt : Nat) (g : Cluster) (e : Eighth)
  | acq (dt : Nat) (g : Cluster) (e : Eighth)
  | mark (dt : Nat) (g : Cluster) (e : Eighth)
  | br (dt : Nat) (g : Cluster) (e : Eighth)
  | brd (dt : Nat) (g : Cluster) (e : Eighth)
  | bre (dt : Nat) (g : Cluster) (e : Eighth)
  | branchDecisionPoint (dt : Nat) (g : Cluster) (e : Eighth)
  | queuedPlayPlace (dt : Nat) (g : Cluster) (e : Eighth)
  | brc (dt : Nat) (g : Cluster) (e : Eighth)
  | loop (dt : Nat) (g : Cluster) (e : Eighth)
  | endl (dt : Nat) (g : Cluster) (e : Eighth)
  | call (dt : Nat) (g : Cluster) (e : Eighth)
  | ret (dt : Nat) (g : Cluster) (e : Eighth)
  | swp (dt : Nat) (g : Cluster) (e : Eighth)
  | ldi (dt : Nat) (g : Cluster) (e : Eighth)
  | add (dt : Nat) (g : Cluster) (e : Eighth)
  | sub (dt : Nat) (g : Cluster) (e : Eighth)
  | cmp (dt : Nat) (g : Cluster) (e : Eighth)
  | playEntryMature (dt : Nat) (g : Cluster) (u : UnitId)
  | shadowWriteEntryMature (dt : Nat) (g : Cluster) (u : UnitId)
  | commitEntryMature (dt : Nat) (g : Cluster) (u : UnitId)
  | acqEntryMature (dt : Nat) (g : Cluster) (e : Eighth)
  | markEntryMature (dt : Nat) (g : Cluster) (e : Eighth)
  | spliceRequestMature (dt : Nat) (g : Cluster) (u : UnitId)
  | swgRestart (who : Requester) (g : Cluster) (k : Fin 4)
  | swgConfigWrite (who : Requester) (g : Cluster) (k : Fin 4) (r : SwgReg) (v : Word)
  -- Read-out receivers
  | toneCommit (who : Requester) (g : Cluster) (mask : BitVec 16)
  | toneResult (dt : Nat) (g : Cluster) (t : Fin 16) (zs : List (Int × Int)) (ovr : Overrange)
  | rfiModeWrite (who : Requester) (g : Cluster) (v : Word)
  | comparatorEntry (dt : Nat) (c : Comparator) (last : Nat) (zs : List (Int × Int))
  | trackerRecord (dt : Nat) (g : Cluster) (k : Fin 256) (last : Nat) (zs : List (Int × Int)) (ovr : Overrange)
  | dailiesPad (dt : Nat) (n : Region)
  -- Kernel engines
  | krnStart (who : Requester) (g : Cluster) (ie0 : Bool)
  | krnStop (who : Requester) (g : Cluster) (ie0 : Bool)
  | krnAttnSet (who : Requester) (g : Cluster)
  | attentionDivert (dt : Nat) (g : Cluster)
  | krnInWord (dt : Nat) (g : Cluster) (i : Fin 2) (w : Word)
  | krnInCfgWrite (who : Requester) (g : Cluster) (i : Fin 2) (v : Word)
  | krnDeadlineMiss (dt : Nat) (g : Cluster) (t : Fin 16)
  | hardwareLoopEnd (dt : Nat) (g : Cluster)
  -- Kernel instructions: the bundle that holds one issues
  | krnNop (dt : Nat) (g : Cluster)
  | cmac (dt : Nat) (g : Cluster)
  | cmsu (dt : Nat) (g : Cluster)
  | cmul (dt : Nat) (g : Cluster)
  | mag2 (dt : Nat) (g : Cluster)
  | ald (dt : Nat) (g : Cluster)
  | aldw (dt : Nat) (g : Cluster)
  | krnShlAcc (dt : Nat) (g : Cluster)
  | krnShrAcc (dt : Nat) (g : Cluster)
  | trn (dt : Nat) (g : Cluster)
  | norm (dt : Nat) (g : Cluster)
  | expb (dt : Nat) (g : Cluster)
  | cconj (dt : Nat) (g : Cluster)
  | krnShlCplx (dt : Nat) (g : Cluster)
  | krnShrCplx (dt : Nat) (g : Cluster)
  | cthr (dt : Nat) (g : Cluster)
  | mov (dt : Nat) (g : Cluster)
  | ld (dt : Nat) (g : Cluster)
  | st (dt : Nat) (g : Cluster)
  | sta (dt : Nat) (g : Cluster)
  | ldx (dt : Nat) (g : Cluster)
  | stx (dt : Nat) (g : Cluster)
  | rds (dt : Nat) (g : Cluster)
  | wrs (dt : Nat) (g : Cluster)
  | ldp (dt : Nat) (g : Cluster)
  | ldm (dt : Nat) (g : Cluster)
  | ldl (dt : Nat) (g : Cluster)
  | ldb (dt : Nat) (g : Cluster)
  | modp (dt : Nat) (g : Cluster)
  | krnHalt (dt : Nat) (g : Cluster)
  | krnBr (dt : Nat) (g : Cluster)
  | krnBrc (dt : Nat) (g : Cluster)
  | krnLoop (dt : Nat) (g : Cluster)
  | loopr (dt : Nat) (g : Cluster)
  | rti (dt : Nat) (g : Cluster)
  | dec (dt : Nat) (g : Cluster)
  | ei (dt : Nat) (g : Cluster)
  | di (dt : Nat) (g : Cluster)
  | clrgx (dt : Nat) (g : Cluster)
  -- Decision fabric
  | fabricDelivery (dt : Nat) (g : Cluster) (slot : Fin 1280)
  | hubSlotRead (dt : Nat) (slot : Fin 1280)
  | hubBroadcastSend (dt : Nat) (slot : Fin 1280)
  | fabDfltWrite (who : Requester) (j : Fin 80) (v : Word)
  | fabViewSel (who : Requester) (g : Cluster) (v : Word)
  -- Takes and triggers
  | tkArm (who : Requester) (n : Region)
  | tkDisarm (who : Requester) (n : Region)
  | tkForce (who : Requester) (n : Region)
  | regionTrigger (dt : Nat) (n : Region) (r : Fin 8)
  | captureEnd (dt : Nat) (n : Region)
  | slateWrite (dt : Nat) (n : Region) (samples : TakeSamples) (port : TakePort)
  | takeOverflow (dt : Nat) (n : Region) (fl : Nat)
  | maskViolation (dt : Nat) (n : Region) (i : Fin 4) (pos : Nat) (v : OutputSample)
  | tkRdWrite (who : Requester) (n : Region) (v : Word)
  | systemTimestampArrival (dt : Nat) (t : Fin 256)
  | systemTrigger (dt : Nat) (u : Fin 2048)
  | systemTriggerAssert (dt : Nat)
  | systemSlateWrite (dt : Nat)
  | stkArm (who : Requester)
  | stkDisarm (who : Requester)
  | stkRdWrite (who : Requester) (v : Word)
  -- Calibration
  | calRun (v : Word)
  | calRunEnd (dt : Nat) (status : BitVec 8) (writes : List (Nat × Nat)) (a b c : Word)
  | adcStatBlockEnd (dt : Nat) (g : Cluster) (xs : List Int)
  | interleaveUpdate (dt : Nat) (g : Cluster)
  | monitorBlockEnd (dt : Nat) (g : Cluster) (m : MonitorBlock)
  | discriminatorFit (dt : Nat) (t : Fin 1024) (f : MixtureFit)
  | calHistPop (who : Requester) (g : Cluster)
  | calFreezeWrite (who : Requester) (r : FreezeReg) (v : Word)
  -- Bias island and housekeeping converters
  | biasSupplyRise (dt : Nat) (die : Fin 2) (extrefOk : Bool)
  | biasSupplyFault (dt : Nat) (die : Fin 2)
  | isolatorLinkDown (dt : Nat) (die : Fin 2)
  | biasConnWrite (who : Requester) (k : Fin 256) (v : Word)
  | biasConnComplete (dt : Nat) (k : Fin 256)
  | biasGoStage (who : Requester) (die : Fin 2) (i : Fin 4) (mask : Word)
  | biasDieGo (who : Requester) (die : Fin 2)
  | biasStopAll (who : Requester) (die : Fin 2)
  | biasStop (who : Requester) (die : Fin 2) (i : Fin 4) (mask : Word)
  | rampStep (dt : Nat) (k : Fin 256)
  | icResult (dt : Nat) (c : Fin 8) (raw : Int) (extrefOk : Bool)
  | icDataClaim (who : Requester) (c : Fin 8)
  | icConfigWrite (who : Requester) (c : Fin 8) (r : IcReg) (v : Word)
  -- Event router
  | eventCombine (dt : Nat) (ch : Channel)
  | eventDelivery (dt : Nat) (input : EventInput)
  | ptStart (who : Requester) (p : Fin 32)
  | ptStop (who : Requester) (p : Fin 32)
  | pacingTimerEmit (dt : Nat) (p : Fin 32)
  | evInject (who : Requester) (j : Fin 4) (bits : Word)
  | levInject (who : Requester) (n : Region) (bits : Word)
  | tioInputEdge (dt : Nat) (l : Fin 128) (slot : Fin 8) (high : Nat)
  | tioPulseEnd (dt : Nat) (l : Fin 128)
  -- Interrupt controller
  | irqEdge (dt : Nat) (src : Fin 512)
  | irqLevelChange (dt : Nat) (src : Fin 512) (level : Bool)
  | irqClaim (who : Requester) (t : Fin 36)
  | irqFclaim (who : Requester) (t : Fin 36)
  | irqComplete (who : Requester) (t : Fin 36) (v : Word)
  | icPendSet (who : Requester) (j : Fin 16) (bits : Word)
  | icPendClr (who : Requester) (j : Fin 16) (bits : Word)
  | icEnSet (who : Requester) (j : Fin 16) (bits : Word)
  | icEnClr (who : Requester) (j : Fin 16) (bits : Word)
  | icSrcCfgWrite (who : Requester) (src : Fin 512) (v : Word)
  | fastInterruptEntry (dt : Nat) (core : Fin 4) (returned : Bool)
  | msixMessageSend (dt : Nat) (vector : Fin 32)
  | moderationExpire (dt : Nat) (vector : Fin 32)
  | icTgtIdleWrite (who : Requester) (t : Fin 36) (v : Word)
  | msixUnmask (vector : Fin 32)
  | msixEnable (enable funcMask : Bool)
  -- Grip DMA and attached memory
  | gripGo (who : Requester) (ch : Fin 80)
  | gripStop (who : Requester) (ch : Fin 80)
  | gripClr (who : Requester) (ch : Fin 80)
  | descriptorFetch (dt : Nat) (ch : Fin 80) (a : GripAnswer)
  | gripOperationComplete (dt : Nat) (ch : Fin 80) (i : Nat) (a : GripAnswer)
  | gripTimeout (dt : Nat) (ch : Fin 80) (p : GripPort)
  | dailiesBlockWrite (dt : Nat) (n : Region)
  | gripDlyRdWrite (who : Requester) (n : Region) (v : Word)
  | ddr5TrainingDone (dt : Nat) (speed : Fin 5) (chs : List DimmChannel)
  | scrubRead (dt : Nat) (m : Fin 8) (addr : Nat) (r : EccResult)
  | memOfflineWrite (who : Requester) (v : Word)
  | mtStart (who : Requester) (m : Fin 8)
  | mtAbort (who : Requester) (m : Fin 8) (p : MarchOutcome)
  | marchRunEnd (dt : Nat) (m : Fin 8) (p : MarchOutcome)
  -- Cihisin links
  | linkEnable (who : Requester) (l : Link) (v : Word)
  | linkDisable (who : Requester) (l : Link) (v : Word)
  | laneLoss (dt : Nat) (l : Link)
  | superframeSend (dt : Nat) (l : Link)
  | superframeReceive (dt : Nat) (l : Link) (frame : Option (List Byte))
  | helloSend (dt : Nat) (l : Link)
  | helloReceive (dt : Nat) (l : Link) (h : LinkHello)
  | helloTimeout (dt : Nat) (l : Link)
  | byeReceive (dt : Nat) (l : Link)
  | pingSend (dt : Nat) (l : Link)
  | pongReceive (dt : Nat) (l : Link) (rt : BitVec 24)
  | mapReceive (dt : Nat) (l : Link) (hops : List (Fin 4))
  | bulkRetransmit (dt : Nat) (l : Link)
  | linkMsgSend (who : Requester) (l : Link) (len : BitVec 9)
  | linkRxfullClear (who : Requester) (l : Link)
  -- Host interface
  | perstAssert (dt : Nat)
  | perstDeassert (dt : Nat) (speed : Fin 6) (width : Fin 33)
  | flr (dt : Nat)
  | d3hotEntry (dt : Nat)
  | d0Return (dt : Nat)
  | l1Entry (dt : Nat)
  | ltrSend (dt : Nat)
  | featGo (who : Requester)
  | hifBar2BaseWrite (who : Requester) (v : BitVec 64)
  | bar2Access (op : Bar2Op)
  | cutCmd (who : Requester) (scope : Fin 4)
  | cutComplete (dt : Nat)
  -- Object dictionary, Burtis protocol and mailbox
  | requestEnqueue (dt : Nat) (d : Datagram)
  | burtisBadFrame (dt : Nat) (d : Datagram)
  | burtisHello (dt : Nat) (core : Fin 2)
  | burtisBye (dt : Nat) (core : Fin 2)
  | burtisRead (dt : Nat) (core : Fin 2)
  | burtisWrite (dt : Nat) (core : Fin 2)
  | burtisReadBlock (dt : Nat) (core : Fin 2)
  | burtisWriteBlock (dt : Nat) (core : Fin 2)
  | burtisSubscribe (dt : Nat) (core : Fin 2)
  | burtisStatus (dt : Nat) (core : Fin 2)
  | subscriptionNotify (dt : Nat) (slot : Fin 33) (index : BitVec 16) (sub : BitVec 8)
  | sessionLeaseExpire (dt : Nat) (slot : Fin 33)
  | mbSubmit (who : Requester) (k : Fin 4)
  | mbRelease (who : Requester) (k : Fin 4)
  | odSave (v : Word)
  | odRestore (v : Word)
  | saveImageComplete (dt : Nat) (ok : Bool)
  -- Network time
  | wtIncWrite (who : Requester) (v : BitVec 64)
  | wtStep (who : Requester)
  | wtNewEpoch (who : Requester)
  | wtNowSnapshot (who : Requester)
  | wtSrcWrite (who : Requester) (v : Word)
  | ptpMessageReceive (dt : Nat) (m : PtpMessage) (quarter : Fin 4)
  | delayReqSend (dt : Nat) (d : Domain) (quarter : Fin 4)
  | servoUpdate (dt : Nat) (d : Domain)
  | announceTimeout (dt : Nat) (d : Domain)
  | ppsOutRise (dt : Nat)
  | ppsOutFall (dt : Nat)
  | ppsInCapture (dt : Nat) (quarter : Fin 4)
  | ppsInClaim (who : Requester)
  -- Power, reset and health
  | powerUp (dt : Nat)
  | logicSupplyFault (dt : Nat) (rail : Fin 16)
  | supplyRecovery (dt : Nat) (rail : Fin 16)
  | pwrTolWrite (who : Requester) (n : Region) (v : Word)
  | powerStateEntry (dt : Nat) (n : Region)
  | powerStateExit (dt : Nat) (n : Region)
  | powerStateExitComplete (dt : Nat) (n : Region)
  | p4ImageTimeout (dt : Nat) (n : Region)
  | pwrWake (who : Requester) (mask : BitVec 16)
  | regionReset (who : Requester) (mask : BitVec 16)
  | clusterReset (who : Requester) (mask : BitVec 64)
  | thermalSample (dt : Nat) (temps : List (BitVec 16))
  | wearLogImage (dt : Nat)
  | watchdogExpire (dt : Nat) (k : Fin 4)
  | gafWdKick (who : Requester) (k : Fin 4)
  | gafRestart (who : Requester)
  -- Management ports: PMBus (`smb` false), the SMBus sideband, and JTAG
  | statusWord (dt : Nat) (smb : Bool)
  | readTemperature1 (dt : Nat) (smb : Bool)
  | readTemperature2 (dt : Nat) (smb : Bool)
  | readPin (dt : Nat) (smb : Bool) (watts : Nat)
  | pmbusRevision (dt : Nat) (smb : Bool)
  | pmbusUnsupported (dt : Nat) (smb : Bool) (code : Byte) (write : Bool)
  | bypass (dt : Nat)
  | idcode (dt : Nat)
  | sample (dt : Nat) (lands : List Bool)
  -- The rows at the end of the table
  | comparatorActClear (dt : Nat) (c : Comparator) (last : Nat) (zs : List (Int × Int))
  | laneBlockLock (dt : Nat) (l : Link)
  | isolatorLinkUp (dt : Nat) (die : Fin 2)
  | powerStateEntryComplete (dt : Nat) (n : Region)
  | resetComplete (dt : Nat) (scope : ResetScope)
  | gafferLoadUpdate (dt : Nat) (g : GafferLoad)
  deriving DecidableEq, Repr

end Sys2Proof
end

