-- ==== Sys2Proof/Config.lean ====
section
/-!
DEFINITION. What the spec leaves to the implementation or to the factory, and the free values: constants without a body, so
that no proof can rest on what they are (notes/assumptions/6.md, notes/assumptions/7.md).
-/

namespace Sys2Proof.Config

/-- The free values: where the spec states no value, the block takes `free n` at the state's counter `n`, and counts it. -/
opaque free : Nat → BitVec 64

/-- The module's serial number, set at the factory (R366). -/
opaque serial : BitVec 64

/-- The firmware version `ID_FW`: MAJOR, MINOR and PATCH in bits [23:0] (R366). -/
opaque firmware : BitVec 24

/-- The internal loop delay `CLAP_LOOP_INT`, measured at the factory (R60, R61). -/
opaque clapLoopInt : BitVec 32

/-- The interpolator of the voice chain: its coefficients are not published (R80). -/
opaque interp : List (Int × Int) → Nat → Int × Int

/-- The bytes of a link's management message, from the numbers it carries: the spec gives no format (R331, R332, R341). -/
opaque management : List Nat → List Byte

/-- The MAC addresses of NET_A and NET_B, set at the factory (R393). -/
opaque macA : BitVec 48
opaque macB : BitVec 48

/-- Syntager's manufacturer code in the JTAG IDCODE (R449). -/
opaque jedec : BitVec 11

end Sys2Proof.Config
end

