-- ==== Sys2Proof/Machine/RegMap.lean ====
section
/-!
DEFINITION. The BAR0 register map: one constructor of `Reg` for each register the spec's register tables give, with its
address, its repetition and its fields (R11, R27, R28 and the register tables of each chapter). The addresses are absolute BAR0
addresses. A repeated register has a list of (count, stride) pairs, the outermost first; the registers of a region window
start with the region, those of a cluster window with the region and the local cluster (R28).
-/

namespace Sys2Proof.Machine

/-- The access codes of R11. -/
inductive Access where
  | ro | rw | wo | w1s | w1c | rc | rwl
  deriving DecidableEq, Repr

/-- The registers of the BAR0 register tables, by their names in the spec. `IC_STATUS_CH` is the spec's `IC_STATUS` of an
integrating converter (R261); `IC_STATUS` is the interrupt controller's (R293). -/
inductive Reg where
  -- crossing locks (R26)
  | XLOCK_STATUS | XLOCK_FAULT0 | XLOCK_FAULT_FTG_LO | XLOCK_FAULT_FTG_HI | XLOCK_REGION | XLOCK_DROPS
  -- clocks and clapper (R61)
  | CLK_CTRL | CLK_STATUS | CLAP_CTRL | CLAP_CMD | CLAP_STATUS | FTG_LO | FTG_HI | CLAP_SLIP_INFO | CLAP_SLIP_FTG_LO
  | CLAP_SLIP_FTG_HI | CLAP_SLIPS | CLAP_EPOCH_WALL | CLAP_TAP_REF | CLAP_TAP_IN | CLAP_TAP_OUT | CLAP_TILE_TAP
  | CLAP_TILE_SKEW | CLAP_LOOP_RT | CLAP_LOOP_INT | CLAP_LOOP_SPREAD
  -- voices, baseband outputs and reels (R94, R95)
  | RFO_CTRL | RFO_STATUS | RFO_CLIPS | RFO_MKR | VOICE_CTRL | VOICE_STATUS | VOICE_COMMIT | VOICE_FTW_LO
  | VOICE_FTW_HI | VOICE_POFF | VOICE_AMP | VOICE_SEGBASE | VOICE_ACT_FTW_LO | VOICE_ACT_FTW_HI | VOICE_ACT_POFF
  | VOICE_ACT_AMPSEG | BBO_CTRL | BBO_STATUS | BBO_COMMIT | BBO_GAIN | BBO_OFFSET | BBO_ACT | BBO_MKR | CL_COMMIT
  | REEL_STATUS | SEG_STATUS | STRM_CFG | STRM_STATUS | STRM_DROP
  -- Script engines and sweep generators (R116)
  | SCR_START | SCR_STOP | SCR_CL_STATUS | UNIT_OWNER0 | UNIT_OWNER1 | UNIT_OWNER2 | TONE_OWNER0 | TONE_OWNER1
  | SCR_CFG | SCR_PC_INIT | SCR_T0_LO | SCR_T0_HI | SCR_STATUS | SCR_PC | SCR_T_LO | SCR_T_HI | SCR_FLAGS | SCR_EVSEL
  | SCR_LATE_CNT | SCR_SUBST_CNT | SCR_S | SWG_CTRL | SWG_CMD | SWG_STATUS | SWG_N1 | SWG_N2 | SWG_POLY | SWG_SEED
  | SWG_BASE_LO | SWG_BASE_HI | SWG_STEP_LO | SWG_STEP_HI | SWG_STEP2_LO | SWG_STEP2_HI | SWG_POS_I | SWG_POS_J
  -- read-out receivers and dailies (R140, R141)
  | RFI_CTRL | RFI_STATUS | RFI_OVR_CNT | TONE_COMMIT | TONE_HO | TONE_BUSY | TONE_CFG | TONE_WOFF | TONE_WLEN
  | TONE_STATUS | TONE_FTW_LO | TONE_FTW_HI | TONE_POFF | TONE_WBASE | TONE_ROT | TONE_TH0 | TONE_TH1 | TONE_TH2
  | TONE_ACT_FTW_LO | TONE_ACT_FTW_HI | TONE_ACT_POFF | TONE_ACT_WBASE | TONE_ACT_ROT | TONE_ACT_TH0 | TONE_ACT_TH1
  | TONE_ACT_TH2 | TONE_RES_I | TONE_RES_Q | TONE_RES_U | TONE_RES_FTG_LO | TONE_RES_FTG_HI | TONE_CMP_CFG
  | TONE_CMP_TH | TONE_CMP_HYS | TONE_CMP_CNT | TRK_CTRL | TRK_STATUS | TRK_FTW_LO | TRK_FTW_HI | TRK_POFF | TRK_ROT
  | TRK_CMP_CFG | TRK_CMP_TH | TRK_CMP_HYS | TRK_CMP_CNT | TRK_MEAN_I | TRK_MEAN_Q | DLY_CTRL | DLY_STATUS | DLY_DROP
  | DLY_RSEQ
  -- kernel engines (R166)
  | KRN_CTRL | KRN_STATUS | KRN_PC | KRN_PC_INIT | KRN_VEC | KRN_ATTN_CAUSE | KRN_ATTN_SET | KRN_ATTN_EN | KRN_EVSEL
  | KRN_IRQ_EN | KRN_IN_CFG | KRN_IN_STATUS | KRN_IN_DROP | KRN_IN_STALL | KRN_DEC_STATUS | KRN_MISS_CNT
  | KRN_LATE_CNT | KRN_OUTT_CNT | KRN_LPEND | KRN_KDL | KRN_C | KRN_A_I_LO | KRN_A_I_HI | KRN_A_Q_LO | KRN_A_Q_HI
  | KRN_P | KRN_M | KRN_L | KRN_B | KRN_LC0 | KRN_LS0 | KRN_LE0 | KRN_LC1 | KRN_LS1 | KRN_LE1 | KRN_IPC | KRN_ISTAT
  | KRN_KSTAT | KRN_LSH | KRN_BSH
  -- decision fabric (R196, R197)
  | FAB_STATUS | FAB_OVWR_CNT | FAB_LATE_CNT | FAB_BCAST_CNT | FAB_DFLT | FAB_DFLT_ACT | FAB_SLOT | FAB_CL_STATUS
  | FAB_CL_LATE_CNT | FAB_VIEW_SEL | FAB_VIEW_WORD | FAB_VIEW_FTG_LO | FAB_VIEW_FTG_HI | FAB_RG_UP_CNT
  | FAB_RG_DOWN_CNT | FAB_RG_DISC_CNT
  -- take engines (R224, R225)
  | TK_CMD | TK_STATUS | TK_LAG | TK_VAL_LO | TK_VAL_HI | TK_CARE_LO | TK_CARE_HI | TK_PRE | TK_POST_LO | TK_POST_HI
  | TK_WIN_START_LO | TK_WIN_START_HI | TK_WIN_END_LO | TK_WIN_END_HI | TK_NTAKES | TK_KWMAX | TK_RING_BASE_LO
  | TK_RING_BASE_HI | TK_RING_SIZE | TK_TLEN_LO | TK_TLEN_HI | TK_NSLOT | TK_WR | TK_TRIG | TK_RD | TK_MISSED | TK_EV
  | TK_EVIN | TK_RAWCMP_CTRL | TK_RAWCMP_TH | TK_TERM | TK_RED_CTRL | TK_RED_SHARE | TK_RED_CNT | TK_MASK_CTRL
  | TK_MASK_MS | TK_MASK_ME | TK_MASK_LO | TK_MASK_HI | TK_MASK_CNT | STK_CMD | STK_STATUS | STK_HZN | STK_HOLD
  | STK_REGMASK | STK_SNAP | STK_WIN_START_LO | STK_WIN_START_HI | STK_WIN_END_LO | STK_WIN_END_HI | STK_NTAKES
  | STK_RING_BASE_LO | STK_RING_BASE_HI | STK_RING_SIZE | STK_WR | STK_TRIG | STK_RD | STK_MISSED | STK_LATE_CNT
  | STK_EV | STK_VAL | STK_CARE | STK_TERM
  -- calibration (R242, R243)
  | CAL_FRZ | CAL_FRZ_REJ | CAL_CL_CTRL | ADC_STAT_CTRL | ADC_STAT_STATUS | ADC_S1_LO | ADC_S1_HI | ADC_S2_LO
  | ADC_S2_HI | ADC_C1_LO | ADC_C1_HI | ADC_C2_LO | ADC_C2_HI | ADC_OFS_TRIM | ADC_GAIN_TRIM | ADC_SKEW_TAP | MON_CTRL
  | MON_STATUS | MON_VDC_LO | MON_VDC_HI | MON_VMS_LO | MON_VMS_HI | MON_CDC_LO | MON_CDC_HI | MON_CMS_LO | MON_CMS_HI
  | RFO_OFS_TRIM | RFO_FS_TRIM | RFO_SEG_TRIM | BBO_OFS_TRIM | BBO_FS_TRIM | CAL_HIST_EN | CAL_HIST_POP | CAL_HIST_YI
  | CAL_HIST_YQ | CAL_HIST_DROP | CAL_TILE_FRZ | CAL_TIO_FRZ | CAL_HUB_FRZ_REJ | TIO_TAP | CAL_BIAS_FRZ | CAL_IC_FRZ
  | CAL_BIAS_FRZ_REJ
  -- bias dies and converters (R260, R261)
  | BIAS_DIE_STATUS | BIAS_DIE_CMD | BIAS_MON_SEL | BIAS_GO | BIAS_STOP | BIAS_CTRL | BIAS_TGT | BIAS_STEP
  | BIAS_LIM_LO | BIAS_LIM_HI | BIAS_ACT | BIAS_STATUS | BIAS_TRIM | IC_CTRL | IC_PERIOD | IC_SCAN | IC_STATUS_CH
  | IC_DATA_LO | IC_DATA_HI | IC_OFS_CORR | IC_GAIN_CORR
  -- event router (R274, R275)
  | EV_STATUS | EV_INJECT | EV_WATCH | EV_LOOP | EV_WLINE | EV_COINC | EV_LOST | PT_CTRL | PT_PERIOD | PT_PHASE
  | PT_COUNT | PT_CMD | PT_STATUS | PT_EMITTED | TIO_CFG | LEV_STATUS | LEV_INJECT | LEV_WATCH | LEV_LOOP | LEV_COINC
  | LEV_LOST
  -- interrupt controller (R293-R295)
  | IC_STATUS | IC_PEND | IC_PEND_SET | IC_PEND_CLR | IC_EN | IC_EN_SET | IC_EN_CLR | IC_INSVC | IC_LINE | IC_SRC_CFG
  | IC_TGT_CLAIM | IC_TGT_COMPLETE | IC_TGT_FCLAIM | IC_TGT_THRESH | IC_TGT_MOD | IC_TGT_IDLE | IC_TGT_STATUS
  | IC_TGT_SENT
  -- Grip, dailies rings and memory (R321-R324)
  | GRIP_STATUS | GRIP_ABANDON | GRIP_CH_CTRL | GRIP_CH_CFG | GRIP_CH_EVIN | GRIP_CH_EVOUT | GRIP_CH_HEAD_LO
  | GRIP_CH_HEAD_HI | GRIP_CH_BUDGET | GRIP_CH_STATUS | GRIP_CH_DESC_LO | GRIP_CH_DESC_HI | GRIP_CH_DONE
  | GRIP_CH_PREFIX | GRIP_CH_MOVED | GRIP_CH_OPS | GRIP_CH_UNITS | GRIP_DLY_BASE_LO | GRIP_DLY_BASE_HI | GRIP_DLY_CFG
  | GRIP_DLY_SIZE | GRIP_DLY_WR | GRIP_DLY_RD | GRIP_DLY_STATUS | MEM_STATUS | MEM_CTRL | MEM_CAP_LO | MEM_CAP_HI
  | MEM_SCRUB | MEM_CH_STATUS | MEM_CE_CNT | MEM_UE_CNT | MEM_ERR_INFO | MEM_ERR_ADDR_LO | MEM_ERR_ADDR_HI | MT_CTRL
  | MT_CMD | MT_STATUS | MT_N1 | MT_N2 | MT_POLY | MT_SEED | MT_BASE_LO | MT_BASE_HI | MT_STEP_LO | MT_STEP_HI
  | MT_STEP2_LO | MT_STEP2_HI | MT_ELEM | MT_PAT_LO | MT_PAT_HI | MT_FAIL_CNT | MT_FAIL_ADDR_LO | MT_FAIL_ADDR_HI
  | MT_PROG
  -- links (R343, R344)
  | LNK_CTRL | LNK_STATUS | LNK_PARTNER | LNK_PSERIAL | LNK_RT | LNK_LAT | LNK_CRC_CNT | LNK_RETX_CNT | LNK_TXOVWR_CNT
  | LNK_EV_MERGE | LNK_TSDROP | LNK_IRQ_CAUSE | LNK_IRQ_EN | LNK_TS_ADJ | LNK_EVTX | LNK_EVRX | LNK_MSG_CTRL
  | LNK_MSG_STATUS | LNK_TXMAP | LNK_MODID | LNK_UP | LNK_RTMASK | LNK_RXMAP | LNK_RXTS | LNK_TSTX | LNK_TSTX_LINKS
  -- host interface (R366)
  | ID_DEVICE | ID_VARIANT | ID_SERIAL_LO | ID_SERIAL_HI | ID_FW | FEAT_OFFER | FEAT_ACCEPT | FEAT_CTRL | FEAT_STATUS
  | GLB_STATUS | CUT_CMD | CUT_RMASK | CUT_CMASK_LO | CUT_CMASK_HI | CUT_STATUS | CUT_TIME | CUT_RESULT
  | HIF_BAR2_BASE_LO | HIF_BAR2_BASE_HI | HIF_STATUS | HIF_LTR_BUSY | HIF_LTR_IDLE | HIF_LINK
  -- mailbox (R391)
  | MB_CTRL | MB_STATUS | OD_QUEUE
  -- network time (R410)
  | WT_CTRL | WT_CMD | WT_STATUS | WT_NOW | WT_NOW_FTG_LO | WT_NOW_FTG_HI | WT_INC_LO | WT_INC_HI | WT_STEP
  | WT_EPOCH_FTG_LO | WT_EPOCH_FTG_HI | WT_EPOCH_WALL | PTP_CFG | PTP_STATUS | PTP_MASTER_LO | PTP_MASTER_HI
  | PTP_MPORT | PTP_OFS_LO | PTP_OFS_HI | PTP_MPD | PTP_RATE | PTP_SYNC_CNT | PTP_ERR_CNT | PTP_T | PPS_CTRL
  | PPS_STATUS | PPS_IN_TS_LO | PPS_IN_TS_HI | PPS_IN_FTG_LO | PPS_IN_FTG_HI
  -- power and health (R426)
  | PWR_STATUS | PWR_SUP_FAULT | PWR_ALERT_EN | PWR_RRESET | PWR_CRESET_LO | PWR_CRESET_HI | PWR_RSTAT | PWR_WAKE
  | PWR_CSTAT_LO | PWR_CSTAT_HI | PWR_TOL | PWR_STATE | THERM_TEMP | THERM_WARN | GAF_WD_CTRL | GAF_WD_KICK
  | GAF_WD_STATUS | GAF_CMD | WEAR_EQH | WEAR_HOURS | WEAR_CYCLES | WEAR_EVENTS
  deriving DecidableEq, Repr

/-- One field of a register: its name, its bits [hi:lo], its access code and its reset value. -/
structure RegField where
  name : String
  hi : Nat
  lo : Nat
  acc : Access
  reset : Nat
  deriving DecidableEq, Repr

/-- Where a register lies and what it holds. -/
structure RegInfo where
  base : Nat
  dims : List (Nat × Nat)
  fields : List RegField
  deriving DecidableEq, Repr

/-- The register map. -/
def regInfo : Reg → RegInfo
  -- crossing locks (R26)
  | .XLOCK_STATUS => ⟨0x30F00, [],
      [⟨"LOCKED", 0, 0, .ro, 0⟩, ⟨"FAULT", 1, 1, .w1c, 0⟩, ⟨"NFAULT", 15, 8, .ro, 0⟩, ⟨"NUNLOCK", 23, 16, .ro, 0xA0⟩]⟩
  | .XLOCK_FAULT0 => ⟨0x30F04, [],
      [⟨"INDEX", 5, 0, .ro, 0⟩, ⟨"LEVEL", 6, 6, .ro, 0⟩, ⟨"DIR", 7, 7, .ro, 0⟩, ⟨"KIND", 9, 8, .ro, 0⟩,
       ⟨"VALID", 10, 10, .ro, 0⟩]⟩
  | .XLOCK_FAULT_FTG_LO => ⟨0x30F08, [], [⟨"FTG", 31, 0, .ro, 0⟩]⟩
  | .XLOCK_FAULT_FTG_HI => ⟨0x30F0C, [], [⟨"FTG", 31, 0, .ro, 0⟩]⟩
  | .XLOCK_REGION => ⟨0x30F10, [], [⟨"FAULTED", 15, 0, .ro, 0⟩]⟩
  | .XLOCK_DROPS => ⟨0x30F14, [], [⟨"COUNT", 31, 0, .ro, 0⟩]⟩
  -- clocks and clapper (R61)
  | .CLK_CTRL => ⟨0x30000, [], [⟨"REF_SEL", 0, 0, .rwl, 0⟩, ⟨"REF_OUT_EN", 1, 1, .rw, 1⟩, ⟨"REF_OUT_SRC", 2, 2, .rw, 0⟩]⟩
  | .CLK_STATUS => ⟨0x30004, [],
      [⟨"HUB_LOCK", 0, 0, .ro, 0⟩, ⟨"REF_PRESENT", 1, 1, .ro, 0⟩, ⟨"REF_BAD", 2, 2, .ro, 0⟩, ⟨"REF_LOST", 3, 3, .w1c, 0⟩,
       ⟨"TILE_LOCK", 15, 8, .ro, 0⟩, ⟨"TILE_UNLOCKED", 23, 16, .w1c, 0⟩]⟩
  | .CLAP_CTRL => ⟨0x30010, [],
      [⟨"ROLE", 1, 0, .rwl, 0⟩, ⟨"OUT_EN", 2, 2, .rw, 0⟩, ⟨"LINK", 12, 8, .rwl, 0⟩, ⟨"CHK_TOL", 19, 16, .rw, 2⟩]⟩
  | .CLAP_CMD => ⟨0x30014, [], [⟨"ARM", 0, 0, .wo, 0⟩, ⟨"DISARM", 1, 1, .wo, 0⟩, ⟨"LOOP_MEAS", 2, 2, .wo, 0⟩]⟩
  | .CLAP_STATUS => ⟨0x30018, [],
      [⟨"STATE", 1, 0, .ro, 0⟩, ⟨"SLIP", 2, 2, .w1c, 0⟩, ⟨"MARGIN", 3, 3, .ro, 0⟩, ⟨"EDGE_POS", 7, 4, .ro, 0⟩,
       ⟨"LOOP_BUSY", 8, 8, .ro, 0⟩, ⟨"LOOP_VALID", 9, 9, .ro, 0⟩, ⟨"LAST_RESULT", 23, 16, .ro, 0⟩,
       ⟨"STATUS", 31, 24, .ro, 0⟩]⟩
  | .FTG_LO => ⟨0x30020, [], [⟨"FTG", 31, 0, .ro, 0⟩]⟩
  | .FTG_HI => ⟨0x30024, [], [⟨"FTG", 31, 0, .ro, 0⟩]⟩
  | .CLAP_SLIP_INFO => ⟨0x30028, [],
      [⟨"KIND", 2, 0, .ro, 0⟩, ⟨"VALID", 3, 3, .ro, 0⟩, ⟨"INDEX", 7, 4, .ro, 0⟩, ⟨"DELTA", 31, 16, .ro, 0⟩]⟩
  | .CLAP_SLIP_FTG_LO => ⟨0x30030, [], [⟨"FTG", 31, 0, .ro, 0⟩]⟩
  | .CLAP_SLIP_FTG_HI => ⟨0x30034, [], [⟨"FTG", 31, 0, .ro, 0⟩]⟩
  | .CLAP_SLIPS => ⟨0x30038, [], [⟨"COUNT", 31, 0, .ro, 0⟩]⟩
  | .CLAP_EPOCH_WALL => ⟨0x30040, [(3, 4)], [⟨"W", 31, 0, .ro, 0⟩]⟩
  | .CLAP_TAP_REF => ⟨0x30050, [], [⟨"TAP", 8, 0, .rw, 0x100⟩, ⟨"CUR", 24, 16, .ro, 0x100⟩]⟩
  | .CLAP_TAP_IN => ⟨0x30054, [], [⟨"TAP", 8, 0, .rw, 0x100⟩, ⟨"CUR", 24, 16, .ro, 0x100⟩]⟩
  | .CLAP_TAP_OUT => ⟨0x30058, [], [⟨"TAP", 8, 0, .rw, 0x100⟩, ⟨"CUR", 24, 16, .ro, 0x100⟩]⟩
  | .CLAP_TILE_TAP => ⟨0x30060, [(8, 4)], [⟨"TAP", 8, 0, .rw, 0x100⟩, ⟨"CUR", 24, 16, .ro, 0x100⟩]⟩
  | .CLAP_TILE_SKEW => ⟨0x30080, [(8, 4)], [⟨"SKEW", 15, 0, .ro, 0⟩, ⟨"VALID", 16, 16, .ro, 0⟩]⟩
  | .CLAP_LOOP_RT => ⟨0x300A0, [], [⟨"RT", 31, 0, .ro, 0⟩]⟩
  | .CLAP_LOOP_INT => ⟨0x300A4, [], [⟨"INT", 31, 0, .ro, 0⟩]⟩
  | .CLAP_LOOP_SPREAD => ⟨0x300A8, [], [⟨"SPREAD", 15, 0, .ro, 0⟩]⟩
  -- voices, baseband outputs and reels (R94, R95)
  | .RFO_CTRL => ⟨0x8101000, [(16, 0x800000), (4, 0x100000), (2, 0x1000)],
      [⟨"MUTE", 0, 0, .rw, 1⟩, ⟨"MODE", 1, 1, .rwl, 0⟩, ⟨"ZONE", 2, 2, .rwl, 0⟩, ⟨"SHIFT", 5, 4, .rw, 0⟩]⟩
  | .RFO_STATUS => ⟨0x8101004, [(16, 0x800000), (4, 0x100000), (2, 0x1000)],
      [⟨"CLIP", 0, 0, .w1c, 0⟩, ⟨"MUTED", 1, 1, .ro, 1⟩, ⟨"PLAYING", 15, 8, .ro, 0⟩]⟩
  | .RFO_CLIPS => ⟨0x8101008, [(16, 0x800000), (4, 0x100000), (2, 0x1000)], [⟨"COUNT", 31, 0, .ro, 0⟩]⟩
  | .RFO_MKR => ⟨0x8101020, [(16, 0x800000), (4, 0x100000), (2, 0x1000), (8, 4)],
      [⟨"SRC", 4, 0, .rw, 0⟩, ⟨"KIND", 6, 5, .rw, 0⟩, ⟨"DEST", 14, 8, .rw, 0⟩]⟩
  | .VOICE_CTRL => ⟨0x8101100, [(16, 0x800000), (4, 0x100000), (2, 0x1000), (8, 0x40)], [⟨"HO_SRC", 0, 0, .rwl, 0⟩]⟩
  | .VOICE_STATUS => ⟨0x8101104, [(16, 0x800000), (4, 0x100000), (2, 0x1000), (8, 0x40)],
      [⟨"PENDING", 0, 0, .ro, 0⟩, ⟨"WR_REJ", 1, 1, .w1c, 0⟩, ⟨"UNDERRUN", 2, 2, .w1c, 0⟩, ⟨"FMT_ERR", 3, 3, .w1c, 0⟩,
       ⟨"PLAYING", 4, 4, .ro, 0⟩, ⟨"GEN", 15, 8, .ro, 0⟩, ⟨"SEG", 27, 16, .ro, 0⟩]⟩
  | .VOICE_COMMIT => ⟨0x8101108, [(16, 0x800000), (4, 0x100000), (2, 0x1000), (8, 0x40)], [⟨"COMMIT", 0, 0, .wo, 0⟩]⟩
  | .VOICE_FTW_LO => ⟨0x8101110, [(16, 0x800000), (4, 0x100000), (2, 0x1000), (8, 0x40)], [⟨"FTW", 31, 0, .rw, 0⟩]⟩
  | .VOICE_FTW_HI => ⟨0x8101114, [(16, 0x800000), (4, 0x100000), (2, 0x1000), (8, 0x40)], [⟨"FTW", 15, 0, .rw, 0⟩]⟩
  | .VOICE_POFF => ⟨0x8101118, [(16, 0x800000), (4, 0x100000), (2, 0x1000), (8, 0x40)], [⟨"POFF", 31, 0, .rw, 0⟩]⟩
  | .VOICE_AMP => ⟨0x810111C, [(16, 0x800000), (4, 0x100000), (2, 0x1000), (8, 0x40)], [⟨"AMP", 15, 0, .rw, 0⟩]⟩
  | .VOICE_SEGBASE => ⟨0x8101120, [(16, 0x800000), (4, 0x100000), (2, 0x1000), (8, 0x40)], [⟨"SEGBASE", 11, 0, .rw, 0⟩]⟩
  | .VOICE_ACT_FTW_LO => ⟨0x8101130, [(16, 0x800000), (4, 0x100000), (2, 0x1000), (8, 0x40)], [⟨"FTW", 31, 0, .ro, 0⟩]⟩
  | .VOICE_ACT_FTW_HI => ⟨0x8101134, [(16, 0x800000), (4, 0x100000), (2, 0x1000), (8, 0x40)], [⟨"FTW", 15, 0, .ro, 0⟩]⟩
  | .VOICE_ACT_POFF => ⟨0x8101138, [(16, 0x800000), (4, 0x100000), (2, 0x1000), (8, 0x40)], [⟨"POFF", 31, 0, .ro, 0⟩]⟩
  | .VOICE_ACT_AMPSEG => ⟨0x810113C, [(16, 0x800000), (4, 0x100000), (2, 0x1000), (8, 0x40)],
      [⟨"AMP", 15, 0, .ro, 0⟩, ⟨"SEGBASE", 27, 16, .ro, 0⟩]⟩
  | .BBO_CTRL => ⟨0x8103000, [(16, 0x800000), (4, 0x100000), (4, 0x40)], [⟨"MUTE", 0, 0, .rw, 1⟩, ⟨"HO_SRC", 1, 1, .rwl, 0⟩]⟩
  | .BBO_STATUS => ⟨0x8103004, [(16, 0x800000), (4, 0x100000), (4, 0x40)],
      [⟨"PENDING", 0, 0, .ro, 0⟩, ⟨"WR_REJ", 1, 1, .w1c, 0⟩, ⟨"UNDERRUN", 2, 2, .w1c, 0⟩, ⟨"FMT_ERR", 3, 3, .w1c, 0⟩,
       ⟨"PLAYING", 4, 4, .ro, 0⟩, ⟨"CLIP", 5, 5, .w1c, 0⟩, ⟨"GEN", 15, 8, .ro, 0⟩, ⟨"SEG", 27, 16, .ro, 0⟩]⟩
  | .BBO_COMMIT => ⟨0x8103008, [(16, 0x800000), (4, 0x100000), (4, 0x40)], [⟨"COMMIT", 0, 0, .wo, 0⟩]⟩
  | .BBO_GAIN => ⟨0x8103010, [(16, 0x800000), (4, 0x100000), (4, 0x40)], [⟨"GAIN", 15, 0, .rw, 0x4000⟩]⟩
  | .BBO_OFFSET => ⟨0x8103014, [(16, 0x800000), (4, 0x100000), (4, 0x40)], [⟨"OFFSET", 15, 0, .rw, 0⟩]⟩
  | .BBO_ACT => ⟨0x8103018, [(16, 0x800000), (4, 0x100000), (4, 0x40)],
      [⟨"GAIN", 15, 0, .ro, 0x4000⟩, ⟨"OFFSET", 31, 16, .ro, 0⟩]⟩
  | .BBO_MKR => ⟨0x8103020, [(16, 0x800000), (4, 0x100000), (4, 0x40)],
      [⟨"SRC", 4, 0, .rw, 0⟩, ⟨"KIND", 6, 5, .rw, 0⟩, ⟨"DEST", 14, 8, .rw, 0⟩]⟩
  | .CL_COMMIT => ⟨0x8103100, [(16, 0x800000), (4, 0x100000)], [⟨"VOICES", 15, 0, .wo, 0⟩, ⟨"BBOS", 19, 16, .wo, 0⟩]⟩
  | .REEL_STATUS => ⟨0x8008000, [(16, 0x800000)], [⟨"LOST", 0, 0, .w1c, 1⟩, ⟨"STRM_RESULT", 15, 8, .ro, 0⟩]⟩
  | .SEG_STATUS => ⟨0x8008004, [(16, 0x800000)], [⟨"LAST", 7, 0, .ro, 0⟩, ⟨"INDEX", 19, 8, .ro, 0⟩]⟩
  | .STRM_CFG => ⟨0x8008010, [(16, 0x800000), (8, 4)],
      [⟨"BASE", 7, 0, .rwl, 0⟩, ⟨"SIZE", 14, 8, .rwl, 0⟩, ⟨"EN", 15, 15, .rwl, 0⟩]⟩
  | .STRM_STATUS => ⟨0x8008030, [(16, 0x800000), (8, 4)],
      [⟨"FILL", 22, 0, .ro, 0⟩, ⟨"UNDERRUN", 23, 23, .w1c, 0⟩, ⟨"BUSY", 24, 24, .ro, 0⟩]⟩
  | .STRM_DROP => ⟨0x8008050, [(16, 0x800000), (8, 4)], [⟨"COUNT", 31, 0, .ro, 0⟩]⟩
  -- Script engines and sweep generators (R116)
  | .SCR_START => ⟨0x8100000, [(16, 0x800000), (4, 0x100000)], [⟨"START", 7, 0, .wo, 0⟩]⟩
  | .SCR_STOP => ⟨0x8100004, [(16, 0x800000), (4, 0x100000)], [⟨"STOP", 7, 0, .wo, 0⟩, ⟨"FLUSH", 15, 8, .wo, 0⟩]⟩
  | .SCR_CL_STATUS => ⟨0x8100008, [(16, 0x800000), (4, 0x100000)],
      [⟨"RUNNING", 7, 0, .ro, 0⟩, ⟨"HALTED", 15, 8, .w1c, 0⟩, ⟨"LAST_RESULT", 23, 16, .ro, 0⟩]⟩
  | .UNIT_OWNER0 => ⟨0x8100010, [(16, 0x800000), (4, 0x100000)], [⟨"OWN", 23, 0, .rwl, 0xFAC688⟩]⟩
  | .UNIT_OWNER1 => ⟨0x8100014, [(16, 0x800000), (4, 0x100000)], [⟨"OWN", 23, 0, .rwl, 0xFAC688⟩]⟩
  | .UNIT_OWNER2 => ⟨0x8100018, [(16, 0x800000), (4, 0x100000)], [⟨"OWN", 11, 0, .rwl, 0xD10⟩]⟩
  | .TONE_OWNER0 => ⟨0x8100020, [(16, 0x800000), (4, 0x100000)], [⟨"OWN", 23, 0, .rwl, 0xFAC688⟩]⟩
  | .TONE_OWNER1 => ⟨0x8100024, [(16, 0x800000), (4, 0x100000)], [⟨"OWN", 23, 0, .rwl, 0xFAC688⟩]⟩
  | .SCR_CFG => ⟨0x8100400, [(16, 0x800000), (4, 0x100000), (8, 0x80)], [⟨"DPL", 6, 0, .rwl, 4⟩]⟩
  | .SCR_PC_INIT => ⟨0x8100404, [(16, 0x800000), (4, 0x100000), (8, 0x80)], [⟨"PC", 14, 0, .rwl, 0⟩]⟩
  | .SCR_T0_LO => ⟨0x8100408, [(16, 0x800000), (4, 0x100000), (8, 0x80)], [⟨"T0", 31, 0, .rwl, 0⟩]⟩
  | .SCR_T0_HI => ⟨0x810040C, [(16, 0x800000), (4, 0x100000), (8, 0x80)], [⟨"T0", 31, 0, .rwl, 0⟩]⟩
  | .SCR_STATUS => ⟨0x8100410, [(16, 0x800000), (4, 0x100000), (8, 0x80)],
      [⟨"RUN", 0, 0, .ro, 0⟩, ⟨"ERRH", 1, 1, .ro, 0⟩, ⟨"LATE", 2, 2, .w1c, 0⟩, ⟨"SPL_LOST", 3, 3, .w1c, 0⟩,
       ⟨"WAIT_DP", 4, 4, .ro, 0⟩, ⟨"WAIT_AHEAD", 5, 5, .ro, 0⟩, ⟨"WAIT_Q", 6, 6, .ro, 0⟩, ⟨"ERR", 15, 8, .ro, 0⟩,
       ⟨"HCODE", 23, 16, .ro, 0⟩]⟩
  | .SCR_PC => ⟨0x8100414, [(16, 0x800000), (4, 0x100000), (8, 0x80)], [⟨"PC", 14, 0, .ro, 0⟩]⟩
  | .SCR_T_LO => ⟨0x8100418, [(16, 0x800000), (4, 0x100000), (8, 0x80)], [⟨"T", 31, 0, .ro, 0⟩]⟩
  | .SCR_T_HI => ⟨0x810041C, [(16, 0x800000), (4, 0x100000), (8, 0x80)], [⟨"T", 31, 0, .ro, 0⟩]⟩
  | .SCR_FLAGS => ⟨0x8100420, [(16, 0x800000), (4, 0x100000), (8, 0x80)],
      [⟨"NZCV", 3, 0, .ro, 0⟩, ⟨"LDEPTH", 6, 4, .ro, 0⟩, ⟨"CDEPTH", 10, 8, .ro, 0⟩, ⟨"LATCH", 15, 12, .ro, 0⟩,
       ⟨"LIN", 18, 16, .ro, 0⟩, ⟨"LINV", 19, 19, .ro, 0⟩]⟩
  | .SCR_EVSEL => ⟨0x8100424, [(16, 0x800000), (4, 0x100000), (8, 0x80), (4, 4)],
      [⟨"CH", 6, 0, .rwl, 0⟩, ⟨"L", 7, 7, .rwl, 0⟩, ⟨"EN", 8, 8, .rwl, 0⟩]⟩
  | .SCR_LATE_CNT => ⟨0x8100434, [(16, 0x800000), (4, 0x100000), (8, 0x80)], [⟨"COUNT", 31, 0, .ro, 0⟩]⟩
  | .SCR_SUBST_CNT => ⟨0x8100438, [(16, 0x800000), (4, 0x100000), (8, 0x80)], [⟨"COUNT", 31, 0, .ro, 0⟩]⟩
  | .SCR_S => ⟨0x8100440, [(16, 0x800000), (4, 0x100000), (8, 0x80), (16, 4)], [⟨"S", 31, 0, .rwl, 0⟩]⟩
  | .SWG_CTRL => ⟨0x8100800, [(16, 0x800000), (4, 0x100000), (4, 0x40)],
      [⟨"MODE", 2, 0, .rwl, 0⟩, ⟨"WIDE", 3, 3, .rwl, 0⟩, ⟨"HOLD", 4, 4, .rwl, 0⟩, ⟨"ZERO", 5, 5, .rwl, 0⟩,
       ⟨"WB", 10, 6, .rwl, 0⟩, ⟨"DIRS", 19, 12, .rwl, 0⟩]⟩
  | .SWG_CMD => ⟨0x8100804, [(16, 0x800000), (4, 0x100000), (4, 0x40)], [⟨"RESTART", 0, 0, .wo, 0⟩]⟩
  | .SWG_STATUS => ⟨0x8100808, [(16, 0x800000), (4, 0x100000), (4, 0x40)], [⟨"DONE", 0, 0, .ro, 0⟩, ⟨"OVER", 1, 1, .w1c, 0⟩]⟩
  | .SWG_N1 => ⟨0x810080C, [(16, 0x800000), (4, 0x100000), (4, 0x40)], [⟨"N1M1", 23, 0, .rwl, 0⟩]⟩
  | .SWG_N2 => ⟨0x8100810, [(16, 0x800000), (4, 0x100000), (4, 0x40)], [⟨"N2M1", 11, 0, .rwl, 0⟩]⟩
  | .SWG_POLY => ⟨0x8100814, [(16, 0x800000), (4, 0x100000), (4, 0x40)], [⟨"POLY", 23, 0, .rwl, 0⟩]⟩
  | .SWG_SEED => ⟨0x8100818, [(16, 0x800000), (4, 0x100000), (4, 0x40)], [⟨"SEED", 23, 0, .rwl, 1⟩]⟩
  | .SWG_BASE_LO => ⟨0x8100820, [(16, 0x800000), (4, 0x100000), (4, 0x40)], [⟨"BASE", 31, 0, .rwl, 0⟩]⟩
  | .SWG_BASE_HI => ⟨0x8100824, [(16, 0x800000), (4, 0x100000), (4, 0x40)], [⟨"BASE", 15, 0, .rwl, 0⟩]⟩
  | .SWG_STEP_LO => ⟨0x8100828, [(16, 0x800000), (4, 0x100000), (4, 0x40)], [⟨"STEP", 31, 0, .rwl, 0⟩]⟩
  | .SWG_STEP_HI => ⟨0x810082C, [(16, 0x800000), (4, 0x100000), (4, 0x40)], [⟨"STEP", 15, 0, .rwl, 0⟩]⟩
  | .SWG_STEP2_LO => ⟨0x8100830, [(16, 0x800000), (4, 0x100000), (4, 0x40)], [⟨"STEP2", 31, 0, .rwl, 0⟩]⟩
  | .SWG_STEP2_HI => ⟨0x8100834, [(16, 0x800000), (4, 0x100000), (4, 0x40)], [⟨"STEP2", 15, 0, .rwl, 0⟩]⟩
  | .SWG_POS_I => ⟨0x8100838, [(16, 0x800000), (4, 0x100000), (4, 0x40)], [⟨"I", 23, 0, .ro, 0⟩]⟩
  | .SWG_POS_J => ⟨0x810083C, [(16, 0x800000), (4, 0x100000), (4, 0x40)], [⟨"J", 11, 0, .ro, 0⟩]⟩
  -- read-out receivers and dailies (R140, R141)
  | .RFI_CTRL => ⟨0x8104000, [(16, 0x800000), (4, 0x100000)], [⟨"MODE", 0, 0, .rwl, 0⟩, ⟨"ZONE", 1, 1, .rwl, 0⟩]⟩
  | .RFI_STATUS => ⟨0x8104004, [(16, 0x800000), (4, 0x100000)], [⟨"OVR", 0, 0, .w1c, 0⟩, ⟨"LAST_RESULT", 15, 8, .ro, 0⟩]⟩
  | .RFI_OVR_CNT => ⟨0x8104008, [(16, 0x800000), (4, 0x100000)], [⟨"COUNT", 31, 0, .ro, 0⟩]⟩
  | .TONE_COMMIT => ⟨0x8104010, [(16, 0x800000), (4, 0x100000)], [⟨"COMMIT", 15, 0, .wo, 0⟩]⟩
  | .TONE_HO => ⟨0x8104014, [(16, 0x800000), (4, 0x100000)], [⟨"HO_SRC", 15, 0, .rwl, 0⟩]⟩
  | .TONE_BUSY => ⟨0x8104018, [(16, 0x800000), (4, 0x100000)], [⟨"BUSY", 15, 0, .ro, 0⟩]⟩
  | .TONE_CFG => ⟨0x8105000, [(16, 0x800000), (4, 0x100000), (16, 0x80)],
      [⟨"BOX", 0, 0, .rwl, 0⟩, ⟨"DSRC", 1, 1, .rwl, 0⟩, ⟨"DLY", 2, 2, .rw, 0⟩, ⟨"ISHIFT", 12, 8, .rwl, 0⟩]⟩
  | .TONE_WOFF => ⟨0x8105004, [(16, 0x800000), (4, 0x100000), (16, 0x80)], [⟨"WOFF", 19, 0, .rwl, 0⟩]⟩
  | .TONE_WLEN => ⟨0x8105008, [(16, 0x800000), (4, 0x100000), (16, 0x80)], [⟨"WLENM1", 23, 0, .rwl, 0⟩]⟩
  | .TONE_STATUS => ⟨0x810500C, [(16, 0x800000), (4, 0x100000), (16, 0x80)],
      [⟨"PENDING", 0, 0, .ro, 0⟩, ⟨"WR_REJ", 1, 1, .w1c, 0⟩, ⟨"BUSY", 2, 2, .ro, 0⟩, ⟨"ACQ_OVL", 3, 3, .w1c, 0⟩,
       ⟨"CFG_ERR", 4, 4, .w1c, 0⟩, ⟨"WRAP", 5, 5, .w1c, 0⟩, ⟨"GEN", 15, 8, .ro, 0⟩, ⟨"LAST_DEC", 23, 16, .ro, 0⟩]⟩
  | .TONE_FTW_LO => ⟨0x8105010, [(16, 0x800000), (4, 0x100000), (16, 0x80)], [⟨"FTW", 31, 0, .rw, 0⟩]⟩
  | .TONE_FTW_HI => ⟨0x8105014, [(16, 0x800000), (4, 0x100000), (16, 0x80)], [⟨"FTW", 15, 0, .rw, 0⟩]⟩
  | .TONE_POFF => ⟨0x8105018, [(16, 0x800000), (4, 0x100000), (16, 0x80)], [⟨"POFF", 31, 0, .rw, 0⟩]⟩
  | .TONE_WBASE => ⟨0x810501C, [(16, 0x800000), (4, 0x100000), (16, 0x80)], [⟨"WBASE", 15, 0, .rw, 0⟩]⟩
  | .TONE_ROT => ⟨0x8105020, [(16, 0x800000), (4, 0x100000), (16, 0x80)], [⟨"ROT", 15, 0, .rw, 0⟩]⟩
  | .TONE_TH0 => ⟨0x8105024, [(16, 0x800000), (4, 0x100000), (16, 0x80)], [⟨"TH", 31, 0, .rw, 0⟩]⟩
  | .TONE_TH1 => ⟨0x8105028, [(16, 0x800000), (4, 0x100000), (16, 0x80)], [⟨"TH", 31, 0, .rw, 0⟩]⟩
  | .TONE_TH2 => ⟨0x810502C, [(16, 0x800000), (4, 0x100000), (16, 0x80)], [⟨"TH", 31, 0, .rw, 0⟩]⟩
  | .TONE_ACT_FTW_LO => ⟨0x8105030, [(16, 0x800000), (4, 0x100000), (16, 0x80)], [⟨"FTW", 31, 0, .ro, 0⟩]⟩
  | .TONE_ACT_FTW_HI => ⟨0x8105034, [(16, 0x800000), (4, 0x100000), (16, 0x80)], [⟨"FTW", 15, 0, .ro, 0⟩]⟩
  | .TONE_ACT_POFF => ⟨0x8105038, [(16, 0x800000), (4, 0x100000), (16, 0x80)], [⟨"POFF", 31, 0, .ro, 0⟩]⟩
  | .TONE_ACT_WBASE => ⟨0x810503C, [(16, 0x800000), (4, 0x100000), (16, 0x80)], [⟨"WBASE", 15, 0, .ro, 0⟩]⟩
  | .TONE_ACT_ROT => ⟨0x8105040, [(16, 0x800000), (4, 0x100000), (16, 0x80)], [⟨"ROT", 15, 0, .ro, 0⟩]⟩
  | .TONE_ACT_TH0 => ⟨0x8105044, [(16, 0x800000), (4, 0x100000), (16, 0x80)], [⟨"TH", 31, 0, .ro, 0⟩]⟩
  | .TONE_ACT_TH1 => ⟨0x8105048, [(16, 0x800000), (4, 0x100000), (16, 0x80)], [⟨"TH", 31, 0, .ro, 0⟩]⟩
  | .TONE_ACT_TH2 => ⟨0x810504C, [(16, 0x800000), (4, 0x100000), (16, 0x80)], [⟨"TH", 31, 0, .ro, 0⟩]⟩
  | .TONE_RES_I => ⟨0x8105050, [(16, 0x800000), (4, 0x100000), (16, 0x80)], [⟨"YI", 31, 0, .ro, 0⟩]⟩
  | .TONE_RES_Q => ⟨0x8105054, [(16, 0x800000), (4, 0x100000), (16, 0x80)], [⟨"YQ", 31, 0, .ro, 0⟩]⟩
  | .TONE_RES_U => ⟨0x8105058, [(16, 0x800000), (4, 0x100000), (16, 0x80)], [⟨"U", 31, 0, .ro, 0⟩]⟩
  | .TONE_RES_FTG_LO => ⟨0x810505C, [(16, 0x800000), (4, 0x100000), (16, 0x80)], [⟨"FTG", 31, 0, .ro, 0⟩]⟩
  | .TONE_RES_FTG_HI => ⟨0x8105060, [(16, 0x800000), (4, 0x100000), (16, 0x80)], [⟨"FTG", 31, 0, .ro, 0⟩]⟩
  | .TONE_CMP_CFG => ⟨0x8105064, [(16, 0x800000), (4, 0x100000), (16, 0x80)],
      [⟨"EN", 0, 0, .rwl, 0⟩, ⟨"QSEL", 1, 1, .rwl, 0⟩, ⟨"POL", 2, 2, .rwl, 0⟩, ⟨"BK", 7, 3, .rwl, 0⟩, ⟨"TERM", 13, 8, .rwl, 0⟩,
       ⟨"TERM_EN", 14, 14, .rwl, 0⟩]⟩
  | .TONE_CMP_TH => ⟨0x8105068, [(16, 0x800000), (4, 0x100000), (16, 0x80)], [⟨"TH", 31, 0, .rw, 0⟩]⟩
  | .TONE_CMP_HYS => ⟨0x810506C, [(16, 0x800000), (4, 0x100000), (16, 0x80)], [⟨"HYS", 31, 0, .rw, 0⟩]⟩
  | .TONE_CMP_CNT => ⟨0x8105070, [(16, 0x800000), (4, 0x100000), (16, 0x80)], [⟨"CNT", 31, 0, .ro, 0⟩]⟩
  | .TRK_CTRL => ⟨0x8108000, [(16, 0x800000), (4, 0x100000), (256, 0x40)],
      [⟨"EN", 0, 0, .rwl, 0⟩, ⟨"DLY", 1, 1, .rw, 0⟩, ⟨"KB", 5, 2, .rw, 4⟩]⟩
  | .TRK_STATUS => ⟨0x8108004, [(16, 0x800000), (4, 0x100000), (256, 0x40)],
      [⟨"BIN", 11, 0, .ro, 0⟩, ⟨"ACT", 12, 12, .ro, 0⟩, ⟨"ZERR", 13, 13, .w1c, 0⟩]⟩
  | .TRK_FTW_LO => ⟨0x8108008, [(16, 0x800000), (4, 0x100000), (256, 0x40)], [⟨"FTW", 31, 0, .rwl, 0⟩]⟩
  | .TRK_FTW_HI => ⟨0x810800C, [(16, 0x800000), (4, 0x100000), (256, 0x40)], [⟨"FTW", 15, 0, .rwl, 0⟩]⟩
  | .TRK_POFF => ⟨0x8108010, [(16, 0x800000), (4, 0x100000), (256, 0x40)], [⟨"POFF", 31, 0, .rwl, 0⟩]⟩
  | .TRK_ROT => ⟨0x8108014, [(16, 0x800000), (4, 0x100000), (256, 0x40)], [⟨"ROT", 15, 0, .rwl, 0⟩]⟩
  | .TRK_CMP_CFG => ⟨0x8108018, [(16, 0x800000), (4, 0x100000), (256, 0x40)],
      [⟨"EN", 0, 0, .rwl, 0⟩, ⟨"QSEL", 1, 1, .rwl, 0⟩, ⟨"POL", 2, 2, .rwl, 0⟩, ⟨"BK", 7, 3, .rwl, 0⟩, ⟨"TERM", 13, 8, .rwl, 0⟩,
       ⟨"TERM_EN", 14, 14, .rwl, 0⟩]⟩
  | .TRK_CMP_TH => ⟨0x810801C, [(16, 0x800000), (4, 0x100000), (256, 0x40)], [⟨"TH", 31, 0, .rw, 0⟩]⟩
  | .TRK_CMP_HYS => ⟨0x8108020, [(16, 0x800000), (4, 0x100000), (256, 0x40)], [⟨"HYS", 31, 0, .rw, 0⟩]⟩
  | .TRK_CMP_CNT => ⟨0x8108024, [(16, 0x800000), (4, 0x100000), (256, 0x40)], [⟨"CNT", 31, 0, .ro, 0⟩]⟩
  | .TRK_MEAN_I => ⟨0x8108028, [(16, 0x800000), (4, 0x100000), (256, 0x40)], [⟨"MEAN", 31, 0, .ro, 0⟩]⟩
  | .TRK_MEAN_Q => ⟨0x810802C, [(16, 0x800000), (4, 0x100000), (256, 0x40)], [⟨"MEAN", 31, 0, .ro, 0⟩]⟩
  | .DLY_CTRL => ⟨0x8009000, [(16, 0x800000)], [⟨"EN", 0, 0, .rw, 0⟩, ⟨"FLUSH", 31, 16, .rw, 0x40⟩]⟩
  | .DLY_STATUS => ⟨0x8009004, [(16, 0x800000)], [⟨"FILL", 6, 0, .ro, 0⟩, ⟨"DROPPED", 7, 7, .w1c, 0⟩]⟩
  | .DLY_DROP => ⟨0x8009008, [(16, 0x800000)], [⟨"COUNT", 31, 0, .ro, 0⟩]⟩
  | .DLY_RSEQ => ⟨0x800900C, [(16, 0x800000)], [⟨"RSEQ", 15, 0, .ro, 0⟩]⟩
  -- kernel engines (R166)
  | .KRN_CTRL => ⟨0x8106000, [(16, 0x800000), (4, 0x100000)],
      [⟨"START", 0, 0, .wo, 0⟩, ⟨"STOP", 1, 1, .wo, 0⟩, ⟨"IE0", 2, 2, .rw, 0⟩]⟩
  | .KRN_STATUS => ⟨0x8106004, [(16, 0x800000), (4, 0x100000)],
      [⟨"RUN", 0, 0, .ro, 0⟩, ⟨"HALTED", 1, 1, .w1c, 0⟩, ⟨"INATT", 2, 2, .ro, 0⟩, ⟨"ERRH", 3, 3, .ro, 0⟩, ⟨"GX", 4, 4, .ro, 0⟩,
       ⟨"ERR", 15, 8, .ro, 0⟩, ⟨"LAST_RESULT", 23, 16, .ro, 0⟩]⟩
  | .KRN_PC => ⟨0x8106008, [(16, 0x800000), (4, 0x100000)], [⟨"PC", 12, 0, .ro, 0⟩]⟩
  | .KRN_PC_INIT => ⟨0x810600C, [(16, 0x800000), (4, 0x100000)], [⟨"PC", 12, 0, .rwl, 0⟩]⟩
  | .KRN_VEC => ⟨0x8106010, [(16, 0x800000), (4, 0x100000)], [⟨"VEC", 12, 0, .rwl, 0⟩]⟩
  | .KRN_ATTN_CAUSE => ⟨0x8106014, [(16, 0x800000), (4, 0x100000)], [⟨"CAUSE", 4, 0, .w1c, 0⟩]⟩
  | .KRN_ATTN_SET => ⟨0x8106018, [(16, 0x800000), (4, 0x100000)], [⟨"SW", 0, 0, .wo, 0⟩]⟩
  | .KRN_ATTN_EN => ⟨0x810601C, [(16, 0x800000), (4, 0x100000)], [⟨"EN", 4, 0, .rw, 0⟩]⟩
  | .KRN_EVSEL => ⟨0x8106020, [(16, 0x800000), (4, 0x100000)],
      [⟨"CH", 6, 0, .rwl, 0⟩, ⟨"L", 7, 7, .rwl, 0⟩, ⟨"EN", 8, 8, .rwl, 0⟩]⟩
  | .KRN_IRQ_EN => ⟨0x8106024, [(16, 0x800000), (4, 0x100000)],
      [⟨"GX", 0, 0, .rw, 0⟩, ⟨"OVF", 1, 1, .rw, 0⟩, ⟨"MISS", 2, 2, .rw, 0⟩]⟩
  | .KRN_IN_CFG => ⟨0x8106030, [(16, 0x800000), (4, 0x100000), (2, 4)],
      [⟨"SRC", 2, 0, .rwl, 0⟩, ⟨"GATE", 3, 3, .rwl, 0⟩, ⟨"TSEL", 11, 4, .rwl, 0⟩, ⟨"RSEL", 13, 12, .rwl, 0⟩,
       ⟨"WM", 22, 16, .rw, 0⟩]⟩
  | .KRN_IN_STATUS => ⟨0x8106038, [(16, 0x800000), (4, 0x100000), (2, 4)], [⟨"FILL", 6, 0, .ro, 0⟩, ⟨"OVF", 7, 7, .w1c, 0⟩]⟩
  | .KRN_IN_DROP => ⟨0x8106040, [(16, 0x800000), (4, 0x100000), (2, 4)], [⟨"COUNT", 31, 0, .ro, 0⟩]⟩
  | .KRN_IN_STALL => ⟨0x8106048, [(16, 0x800000), (4, 0x100000), (2, 4)], [⟨"COUNT", 31, 0, .ro, 0⟩]⟩
  | .KRN_DEC_STATUS => ⟨0x8106050, [(16, 0x800000), (4, 0x100000)], [⟨"DEC_REJ", 0, 0, .w1c, 0⟩, ⟨"MISS", 1, 1, .w1c, 0⟩]⟩
  | .KRN_MISS_CNT => ⟨0x8106054, [(16, 0x800000), (4, 0x100000)], [⟨"COUNT", 31, 0, .ro, 0⟩]⟩
  | .KRN_LATE_CNT => ⟨0x8106058, [(16, 0x800000), (4, 0x100000)], [⟨"COUNT", 31, 0, .ro, 0⟩]⟩
  | .KRN_OUTT_CNT => ⟨0x810605C, [(16, 0x800000), (4, 0x100000)], [⟨"COUNT", 31, 0, .ro, 0⟩]⟩
  | .KRN_LPEND => ⟨0x8106060, [(16, 0x800000), (4, 0x100000)], [⟨"PEND", 3, 0, .ro, 0⟩]⟩
  | .KRN_KDL => ⟨0x8106100, [(16, 0x800000), (4, 0x100000), (16, 4)], [⟨"KDL", 9, 0, .rwl, 0x10⟩]⟩
  | .KRN_C => ⟨0x8106400, [(16, 0x800000), (4, 0x100000), (16, 4)], [⟨"C", 31, 0, .rwl, 0⟩]⟩
  | .KRN_A_I_LO => ⟨0x8106440, [(16, 0x800000), (4, 0x100000), (2, 0x10)], [⟨"A", 31, 0, .rwl, 0⟩]⟩
  | .KRN_A_I_HI => ⟨0x8106444, [(16, 0x800000), (4, 0x100000), (2, 0x10)], [⟨"A", 15, 0, .rwl, 0⟩]⟩
  | .KRN_A_Q_LO => ⟨0x8106448, [(16, 0x800000), (4, 0x100000), (2, 0x10)], [⟨"A", 31, 0, .rwl, 0⟩]⟩
  | .KRN_A_Q_HI => ⟨0x810644C, [(16, 0x800000), (4, 0x100000), (2, 0x10)], [⟨"A", 15, 0, .rwl, 0⟩]⟩
  | .KRN_P => ⟨0x8106460, [(16, 0x800000), (4, 0x100000), (4, 4)], [⟨"P", 15, 0, .rwl, 0⟩]⟩
  | .KRN_M => ⟨0x8106470, [(16, 0x800000), (4, 0x100000), (4, 4)], [⟨"M", 15, 0, .rwl, 0⟩]⟩
  | .KRN_L => ⟨0x8106480, [(16, 0x800000), (4, 0x100000), (4, 4)], [⟨"L", 15, 0, .rwl, 0⟩]⟩
  | .KRN_B => ⟨0x8106490, [(16, 0x800000), (4, 0x100000), (4, 4)], [⟨"B", 15, 0, .rwl, 0⟩]⟩
  | .KRN_LC0 => ⟨0x81064A0, [(16, 0x800000), (4, 0x100000)], [⟨"LC", 15, 0, .rwl, 0⟩]⟩
  | .KRN_LS0 => ⟨0x81064A4, [(16, 0x800000), (4, 0x100000)], [⟨"LS", 12, 0, .rwl, 0⟩]⟩
  | .KRN_LE0 => ⟨0x81064A8, [(16, 0x800000), (4, 0x100000)], [⟨"LE", 12, 0, .rwl, 0⟩]⟩
  | .KRN_LC1 => ⟨0x81064AC, [(16, 0x800000), (4, 0x100000)], [⟨"LC", 15, 0, .rwl, 0⟩]⟩
  | .KRN_LS1 => ⟨0x81064B0, [(16, 0x800000), (4, 0x100000)], [⟨"LS", 12, 0, .rwl, 0⟩]⟩
  | .KRN_LE1 => ⟨0x81064B4, [(16, 0x800000), (4, 0x100000)], [⟨"LE", 12, 0, .rwl, 0⟩]⟩
  | .KRN_IPC => ⟨0x81064B8, [(16, 0x800000), (4, 0x100000)], [⟨"IPC", 12, 0, .rwl, 0⟩]⟩
  | .KRN_ISTAT => ⟨0x81064BC, [(16, 0x800000), (4, 0x100000)], [⟨"ISTAT", 4, 0, .rwl, 0⟩]⟩
  | .KRN_KSTAT => ⟨0x81064C0, [(16, 0x800000), (4, 0x100000)], [⟨"KSTAT", 4, 0, .rwl, 0⟩]⟩
  | .KRN_LSH => ⟨0x81064D0, [(16, 0x800000), (4, 0x100000), (4, 4)], [⟨"LSH", 15, 0, .ro, 0⟩]⟩
  | .KRN_BSH => ⟨0x81064E0, [(16, 0x800000), (4, 0x100000), (4, 4)], [⟨"BSH", 15, 0, .ro, 0⟩]⟩
  -- decision fabric (R196, R197)
  | .FAB_STATUS => ⟨0x68000, [], [⟨"DFLT_PEND", 0, 0, .ro, 0⟩, ⟨"OVWR", 1, 1, .w1c, 0⟩, ⟨"LATE_RX", 2, 2, .w1c, 0⟩]⟩
  | .FAB_OVWR_CNT => ⟨0x68004, [], [⟨"COUNT", 31, 0, .ro, 0⟩]⟩
  | .FAB_LATE_CNT => ⟨0x68008, [], [⟨"COUNT", 31, 0, .ro, 0⟩]⟩
  | .FAB_BCAST_CNT => ⟨0x6800C, [], [⟨"COUNT", 31, 0, .ro, 0⟩]⟩
  | .FAB_DFLT => ⟨0x68100, [(80, 4)], [⟨"DFLT", 31, 0, .rw, 0⟩]⟩
  | .FAB_DFLT_ACT => ⟨0x68300, [(80, 4)], [⟨"DFLT", 31, 0, .ro, 0⟩]⟩
  | .FAB_SLOT => ⟨0x68800, [(1280, 4)], [⟨"WORD", 7, 0, .ro, 0⟩, ⟨"SEEN", 8, 8, .ro, 0⟩]⟩
  | .FAB_CL_STATUS => ⟨0x8107000, [(16, 0x800000), (4, 0x100000)], [⟨"LATE_RX", 0, 0, .w1c, 0⟩]⟩
  | .FAB_CL_LATE_CNT => ⟨0x8107004, [(16, 0x800000), (4, 0x100000)], [⟨"COUNT", 31, 0, .ro, 0⟩]⟩
  | .FAB_VIEW_SEL => ⟨0x8107010, [(16, 0x800000), (4, 0x100000)], [⟨"SLOT", 10, 0, .rw, 0⟩]⟩
  | .FAB_VIEW_WORD => ⟨0x8107014, [(16, 0x800000), (4, 0x100000)], [⟨"WORD", 7, 0, .ro, 0⟩, ⟨"SEEN", 8, 8, .ro, 0⟩]⟩
  | .FAB_VIEW_FTG_LO => ⟨0x8107018, [(16, 0x800000), (4, 0x100000)], [⟨"FTG", 31, 0, .ro, 0⟩]⟩
  | .FAB_VIEW_FTG_HI => ⟨0x810701C, [(16, 0x800000), (4, 0x100000)], [⟨"FTG", 31, 0, .ro, 0⟩]⟩
  | .FAB_RG_UP_CNT => ⟨0x800A000, [(16, 0x800000)], [⟨"COUNT", 31, 0, .ro, 0⟩]⟩
  | .FAB_RG_DOWN_CNT => ⟨0x800A004, [(16, 0x800000)], [⟨"COUNT", 31, 0, .ro, 0⟩]⟩
  | .FAB_RG_DISC_CNT => ⟨0x800A008, [(16, 0x800000)], [⟨"COUNT", 31, 0, .ro, 0⟩]⟩
  -- take engines (R224, R225)
  | .TK_CMD => ⟨0x8002000, [(16, 0x800000)], [⟨"ARM", 0, 0, .wo, 0⟩, ⟨"DISARM", 1, 1, .wo, 0⟩, ⟨"FORCE", 2, 2, .wo, 0⟩]⟩
  | .TK_STATUS => ⟨0x8002004, [(16, 0x800000)],
      [⟨"STATE", 1, 0, .ro, 0⟩, ⟨"RING_FULL", 2, 2, .ro, 0⟩, ⟨"OVF", 3, 3, .w1c, 0⟩, ⟨"MSTOP", 4, 4, .w1c, 0⟩,
       ⟨"PRE_SHORT", 5, 5, .w1c, 0⟩, ⟨"LAST_RESULT", 15, 8, .ro, 0⟩, ⟨"STOP_CODE", 23, 16, .ro, 0⟩]⟩
  | .TK_LAG => ⟨0x8002008, [(16, 0x800000)], [⟨"LAG", 15, 0, .ro, 0xA⟩]⟩
  | .TK_VAL_LO => ⟨0x8002010, [(16, 0x800000)], [⟨"VAL", 31, 0, .rwl, 0⟩]⟩
  | .TK_VAL_HI => ⟨0x8002014, [(16, 0x800000)], [⟨"VAL", 31, 0, .rwl, 0⟩]⟩
  | .TK_CARE_LO => ⟨0x8002018, [(16, 0x800000)], [⟨"CARE", 31, 0, .rwl, 0⟩]⟩
  | .TK_CARE_HI => ⟨0x800201C, [(16, 0x800000)], [⟨"CARE", 31, 0, .rwl, 0⟩]⟩
  | .TK_PRE => ⟨0x8002020, [(16, 0x800000)], [⟨"PRE", 19, 0, .rwl, 0⟩]⟩
  | .TK_POST_LO => ⟨0x8002024, [(16, 0x800000)], [⟨"POST", 31, 0, .rwl, 0⟩]⟩
  | .TK_POST_HI => ⟨0x8002028, [(16, 0x800000)], [⟨"POST", 7, 0, .rwl, 0⟩]⟩
  | .TK_WIN_START_LO => ⟨0x8002030, [(16, 0x800000)], [⟨"START", 31, 0, .rwl, 0⟩]⟩
  | .TK_WIN_START_HI => ⟨0x8002034, [(16, 0x800000)], [⟨"START", 31, 0, .rwl, 0⟩]⟩
  | .TK_WIN_END_LO => ⟨0x8002038, [(16, 0x800000)], [⟨"END", 31, 0, .rwl, 0⟩]⟩
  | .TK_WIN_END_HI => ⟨0x800203C, [(16, 0x800000)], [⟨"END", 31, 0, .rwl, 0⟩]⟩
  | .TK_NTAKES => ⟨0x8002040, [(16, 0x800000)], [⟨"N", 31, 0, .rwl, 0⟩]⟩
  | .TK_KWMAX => ⟨0x8002044, [(16, 0x800000)], [⟨"KWMAX", 15, 0, .rwl, 0⟩]⟩
  | .TK_RING_BASE_LO => ⟨0x8002050, [(16, 0x800000)], [⟨"BASE", 31, 0, .rwl, 0⟩]⟩
  | .TK_RING_BASE_HI => ⟨0x8002054, [(16, 0x800000)], [⟨"BASE", 9, 0, .rwl, 0⟩]⟩
  | .TK_RING_SIZE => ⟨0x8002058, [(16, 0x800000)], [⟨"SIZE", 26, 0, .rwl, 0⟩]⟩
  | .TK_TLEN_LO => ⟨0x8002060, [(16, 0x800000)], [⟨"TLEN", 31, 0, .ro, 0⟩]⟩
  | .TK_TLEN_HI => ⟨0x8002064, [(16, 0x800000)], [⟨"TLEN", 31, 0, .ro, 0⟩]⟩
  | .TK_NSLOT => ⟨0x8002068, [(16, 0x800000)], [⟨"NSLOT", 31, 0, .ro, 0⟩]⟩
  | .TK_WR => ⟨0x800206C, [(16, 0x800000)], [⟨"WR", 31, 0, .ro, 0⟩]⟩
  | .TK_TRIG => ⟨0x8002070, [(16, 0x800000)], [⟨"TRIG", 31, 0, .ro, 0⟩]⟩
  | .TK_RD => ⟨0x8002074, [(16, 0x800000)], [⟨"RD", 31, 0, .rw, 0⟩]⟩
  | .TK_MISSED => ⟨0x8002078, [(16, 0x800000)], [⟨"COUNT", 31, 0, .ro, 0⟩]⟩
  | .TK_EV => ⟨0x800207C, [(16, 0x800000)],
      [⟨"TCH", 6, 0, .rw, 0⟩, ⟨"TL", 7, 7, .rw, 0⟩, ⟨"TEN", 8, 8, .rw, 0⟩, ⟨"DCH", 22, 16, .rw, 0⟩, ⟨"DL", 23, 23, .rw, 0⟩,
       ⟨"DEN", 24, 24, .rw, 0⟩]⟩
  | .TK_EVIN => ⟨0x8002080, [(16, 0x800000), (2, 4)],
      [⟨"CH", 6, 0, .rwl, 0⟩, ⟨"L", 7, 7, .rwl, 0⟩, ⟨"EN", 8, 8, .rwl, 0⟩, ⟨"FUNC", 9, 9, .rwl, 0⟩]⟩
  | .TK_RAWCMP_CTRL => ⟨0x8002090, [(16, 0x800000), (4, 8)], [⟨"EN", 0, 0, .rwl, 0⟩, ⟨"POL", 1, 1, .rwl, 0⟩]⟩
  | .TK_RAWCMP_TH => ⟨0x8002094, [(16, 0x800000), (4, 8)], [⟨"TH", 15, 0, .rwl, 0⟩, ⟨"HYS", 31, 16, .rwl, 0⟩]⟩
  | .TK_TERM => ⟨0x8002100, [(16, 0x800000), (64, 4)],
      [⟨"XSRC", 2, 0, .rwl, 0⟩, ⟨"XIDX", 9, 3, .rwl, 0⟩, ⟨"STRETCH", 25, 16, .rwl, 0⟩]⟩
  | .TK_RED_CTRL => ⟨0x8002200, [(16, 0x800000), (16, 0x10)],
      [⟨"EN", 0, 0, .rwl, 0⟩, ⟨"KIND", 3, 1, .rwl, 0⟩, ⟨"K", 8, 4, .rwl, 0⟩, ⟨"SEL", 16, 9, .rwl, 0⟩]⟩
  | .TK_RED_SHARE => ⟨0x8002204, [(16, 0x800000), (16, 0x10)], [⟨"BASE", 5, 0, .rwl, 0⟩, ⟨"SIZE", 14, 8, .rwl, 0⟩]⟩
  | .TK_RED_CNT => ⟨0x8002208, [(16, 0x800000), (16, 0x10)], [⟨"COUNT", 31, 0, .ro, 0⟩]⟩
  | .TK_MASK_CTRL => ⟨0x8002300, [(16, 0x800000), (4, 0x20)],
      [⟨"EN", 0, 0, .rwl, 0⟩, ⟨"STOP", 1, 1, .rwl, 0⟩, ⟨"RED", 5, 2, .rwl, 0⟩]⟩
  | .TK_MASK_MS => ⟨0x8002304, [(16, 0x800000), (4, 0x20)], [⟨"MS", 31, 0, .rwl, 0⟩]⟩
  | .TK_MASK_ME => ⟨0x8002308, [(16, 0x800000), (4, 0x20)], [⟨"ME", 31, 0, .rwl, 0⟩]⟩
  | .TK_MASK_LO => ⟨0x800230C, [(16, 0x800000), (4, 0x20)], [⟨"LO", 31, 0, .rwl, 0⟩]⟩
  | .TK_MASK_HI => ⟨0x8002310, [(16, 0x800000), (4, 0x20)], [⟨"HI", 31, 0, .rwl, 0⟩]⟩
  | .TK_MASK_CNT => ⟨0x8002314, [(16, 0x800000), (4, 0x20)], [⟨"CNT", 31, 0, .ro, 0⟩]⟩
  | .STK_CMD => ⟨0x70000, [], [⟨"ARM", 0, 0, .wo, 0⟩, ⟨"DISARM", 1, 1, .wo, 0⟩]⟩
  | .STK_STATUS => ⟨0x70004, [], [⟨"STATE", 1, 0, .ro, 0⟩, ⟨"RING_FULL", 2, 2, .ro, 0⟩, ⟨"LAST_RESULT", 15, 8, .ro, 0⟩]⟩
  | .STK_HZN => ⟨0x70008, [], [⟨"HZN", 15, 0, .rwl, 0x600⟩]⟩
  | .STK_HOLD => ⟨0x7000C, [], [⟨"HOLD", 19, 0, .rwl, 0⟩]⟩
  | .STK_REGMASK => ⟨0x70010, [], [⟨"MASK", 15, 0, .rwl, 0⟩]⟩
  | .STK_SNAP => ⟨0x70014, [], [⟨"G", 1, 0, .rw, 0⟩]⟩
  | .STK_WIN_START_LO => ⟨0x70020, [], [⟨"START", 31, 0, .rwl, 0⟩]⟩
  | .STK_WIN_START_HI => ⟨0x70024, [], [⟨"START", 31, 0, .rwl, 0⟩]⟩
  | .STK_WIN_END_LO => ⟨0x70028, [], [⟨"END", 31, 0, .rwl, 0⟩]⟩
  | .STK_WIN_END_HI => ⟨0x7002C, [], [⟨"END", 31, 0, .rwl, 0⟩]⟩
  | .STK_NTAKES => ⟨0x70030, [], [⟨"N", 31, 0, .rwl, 0⟩]⟩
  | .STK_RING_BASE_LO => ⟨0x70040, [], [⟨"BASE", 31, 0, .rwl, 0⟩]⟩
  | .STK_RING_BASE_HI => ⟨0x70044, [], [⟨"BASE", 9, 0, .rwl, 0⟩]⟩
  | .STK_RING_SIZE => ⟨0x70048, [], [⟨"SIZE", 26, 0, .rwl, 0⟩]⟩
  | .STK_WR => ⟨0x70050, [], [⟨"WR", 31, 0, .ro, 0⟩]⟩
  | .STK_TRIG => ⟨0x70054, [], [⟨"TRIG", 31, 0, .ro, 0⟩]⟩
  | .STK_RD => ⟨0x70058, [], [⟨"RD", 31, 0, .rw, 0⟩]⟩
  | .STK_MISSED => ⟨0x7005C, [], [⟨"COUNT", 31, 0, .ro, 0⟩]⟩
  | .STK_LATE_CNT => ⟨0x70060, [], [⟨"COUNT", 31, 0, .ro, 0⟩]⟩
  | .STK_EV => ⟨0x70070, [],
      [⟨"TCH", 6, 0, .rw, 0⟩, ⟨"TL", 7, 7, .rw, 0⟩, ⟨"TEN", 8, 8, .rw, 0⟩, ⟨"DCH", 22, 16, .rw, 0⟩, ⟨"DL", 23, 23, .rw, 0⟩,
       ⟨"DEN", 24, 24, .rw, 0⟩]⟩
  | .STK_VAL => ⟨0x70100, [(8, 4)], [⟨"VAL", 31, 0, .rwl, 0⟩]⟩
  | .STK_CARE => ⟨0x70120, [(8, 4)], [⟨"CARE", 31, 0, .rwl, 0⟩]⟩
  | .STK_TERM => ⟨0x71000, [(256, 4)], [⟨"KIND", 2, 0, .rwl, 0⟩, ⟨"INDEX", 12, 3, .rwl, 0⟩, ⟨"WIN", 31, 16, .rwl, 0x10⟩]⟩
  -- calibration (R242, R243)
  | .CAL_FRZ => ⟨0x810C000, [(16, 0x800000), (4, 0x100000)],
      [⟨"RFI", 0, 0, .rw, 0⟩, ⟨"RFO", 2, 1, .rw, 0⟩, ⟨"BBO", 6, 3, .rw, 0⟩, ⟨"TONE", 31, 16, .rw, 0⟩]⟩
  | .CAL_FRZ_REJ => ⟨0x810C004, [(16, 0x800000), (4, 0x100000)], [⟨"COUNT", 31, 0, .ro, 0⟩]⟩
  | .CAL_CL_CTRL => ⟨0x810C008, [(16, 0x800000), (4, 0x100000)], [⟨"NOISE", 0, 0, .rwl, 0⟩]⟩
  | .ADC_STAT_CTRL => ⟨0x810C010, [(16, 0x800000), (4, 0x100000)], [⟨"EN", 0, 0, .rw, 1⟩, ⟨"SB", 12, 8, .rw, 0x14⟩]⟩
  | .ADC_STAT_STATUS => ⟨0x810C014, [(16, 0x800000), (4, 0x100000)],
      [⟨"READY", 0, 0, .w1c, 0⟩, ⟨"LOST", 1, 1, .w1c, 0⟩, ⟨"OVR", 2, 2, .ro, 0⟩, ⟨"DIRTY", 3, 3, .ro, 0⟩,
       ⟨"BLK", 15, 8, .ro, 0⟩]⟩
  | .ADC_S1_LO => ⟨0x810C040, [(16, 0x800000), (4, 0x100000), (4, 0x20)], [⟨"S1", 31, 0, .ro, 0⟩]⟩
  | .ADC_S1_HI => ⟨0x810C044, [(16, 0x800000), (4, 0x100000), (4, 0x20)], [⟨"S1", 31, 0, .ro, 0⟩]⟩
  | .ADC_S2_LO => ⟨0x810C048, [(16, 0x800000), (4, 0x100000), (4, 0x20)], [⟨"S2", 31, 0, .ro, 0⟩]⟩
  | .ADC_S2_HI => ⟨0x810C04C, [(16, 0x800000), (4, 0x100000), (4, 0x20)], [⟨"S2", 31, 0, .ro, 0⟩]⟩
  | .ADC_C1_LO => ⟨0x810C050, [(16, 0x800000), (4, 0x100000), (4, 0x20)], [⟨"C1", 31, 0, .ro, 0⟩]⟩
  | .ADC_C1_HI => ⟨0x810C054, [(16, 0x800000), (4, 0x100000), (4, 0x20)], [⟨"C1", 31, 0, .ro, 0⟩]⟩
  | .ADC_C2_LO => ⟨0x810C0C0, [(16, 0x800000), (4, 0x100000)], [⟨"C2", 31, 0, .ro, 0⟩]⟩
  | .ADC_C2_HI => ⟨0x810C0C4, [(16, 0x800000), (4, 0x100000)], [⟨"C2", 31, 0, .ro, 0⟩]⟩
  | .ADC_OFS_TRIM => ⟨0x810C100, [(16, 0x800000), (4, 0x100000), (4, 4)], [⟨"OFS", 9, 0, .rw, 0⟩]⟩
  | .ADC_GAIN_TRIM => ⟨0x810C110, [(16, 0x800000), (4, 0x100000), (4, 4)], [⟨"GAIN", 9, 0, .rw, 0⟩]⟩
  | .ADC_SKEW_TAP => ⟨0x810C120, [(16, 0x800000), (4, 0x100000), (4, 4)], [⟨"TAP", 7, 0, .rw, 0x80⟩]⟩
  | .MON_CTRL => ⟨0x810C200, [(16, 0x800000), (4, 0x100000)], [⟨"SEL", 2, 0, .rw, 6⟩, ⟨"MB", 12, 8, .rw, 0x10⟩]⟩
  | .MON_STATUS => ⟨0x810C204, [(16, 0x800000), (4, 0x100000)], [⟨"READY", 0, 0, .w1c, 0⟩, ⟨"LOST", 1, 1, .w1c, 0⟩]⟩
  | .MON_VDC_LO => ⟨0x810C210, [(16, 0x800000), (4, 0x100000)], [⟨"VDC", 31, 0, .ro, 0⟩]⟩
  | .MON_VDC_HI => ⟨0x810C214, [(16, 0x800000), (4, 0x100000)], [⟨"VDC", 31, 0, .ro, 0⟩]⟩
  | .MON_VMS_LO => ⟨0x810C218, [(16, 0x800000), (4, 0x100000)], [⟨"VMS", 31, 0, .ro, 0⟩]⟩
  | .MON_VMS_HI => ⟨0x810C21C, [(16, 0x800000), (4, 0x100000)], [⟨"VMS", 31, 0, .ro, 0⟩]⟩
  | .MON_CDC_LO => ⟨0x810C220, [(16, 0x800000), (4, 0x100000)], [⟨"CDC", 31, 0, .ro, 0⟩]⟩
  | .MON_CDC_HI => ⟨0x810C224, [(16, 0x800000), (4, 0x100000)], [⟨"CDC", 31, 0, .ro, 0⟩]⟩
  | .MON_CMS_LO => ⟨0x810C228, [(16, 0x800000), (4, 0x100000)], [⟨"CMS", 31, 0, .ro, 0⟩]⟩
  | .MON_CMS_HI => ⟨0x810C22C, [(16, 0x800000), (4, 0x100000)], [⟨"CMS", 31, 0, .ro, 0⟩]⟩
  | .RFO_OFS_TRIM => ⟨0x810C400, [(16, 0x800000), (4, 0x100000), (2, 0x100)], [⟨"OFS", 11, 0, .rw, 0⟩]⟩
  | .RFO_FS_TRIM => ⟨0x810C404, [(16, 0x800000), (4, 0x100000), (2, 0x100)], [⟨"FS", 11, 0, .rw, 0⟩]⟩
  | .RFO_SEG_TRIM => ⟨0x810C480, [(16, 0x800000), (4, 0x100000), (2, 0x100), (31, 4)], [⟨"SEG", 7, 0, .rw, 0⟩]⟩
  | .BBO_OFS_TRIM => ⟨0x810C600, [(16, 0x800000), (4, 0x100000), (4, 0x10)], [⟨"OFS", 11, 0, .rw, 0⟩]⟩
  | .BBO_FS_TRIM => ⟨0x810C604, [(16, 0x800000), (4, 0x100000), (4, 0x10)], [⟨"FS", 11, 0, .rw, 0⟩]⟩
  | .CAL_HIST_EN => ⟨0x810C700, [(16, 0x800000), (4, 0x100000)], [⟨"EN", 15, 0, .rw, 0⟩]⟩
  | .CAL_HIST_POP => ⟨0x810C704, [(16, 0x800000), (4, 0x100000)], [⟨"TONE", 3, 0, .rc, 0⟩, ⟨"VALID", 8, 8, .rc, 0⟩]⟩
  | .CAL_HIST_YI => ⟨0x810C708, [(16, 0x800000), (4, 0x100000)], [⟨"YI", 31, 0, .ro, 0⟩]⟩
  | .CAL_HIST_YQ => ⟨0x810C70C, [(16, 0x800000), (4, 0x100000)], [⟨"YQ", 31, 0, .ro, 0⟩]⟩
  | .CAL_HIST_DROP => ⟨0x810C710, [(16, 0x800000), (4, 0x100000)], [⟨"COUNT", 31, 0, .ro, 0⟩]⟩
  | .CAL_TILE_FRZ => ⟨0x31000, [], [⟨"FRZ", 7, 0, .rw, 0⟩]⟩
  | .CAL_TIO_FRZ => ⟨0x31010, [(4, 4)], [⟨"FRZ", 31, 0, .rw, 0⟩]⟩
  | .CAL_HUB_FRZ_REJ => ⟨0x31020, [], [⟨"COUNT", 31, 0, .ro, 0⟩]⟩
  | .TIO_TAP => ⟨0x31100, [(128, 4)], [⟨"TAP", 7, 0, .rw, 0x80⟩]⟩
  | .CAL_BIAS_FRZ => ⟨0x9C000, [(2, 0x10000), (4, 4)], [⟨"FRZ", 31, 0, .rw, 0⟩]⟩
  | .CAL_IC_FRZ => ⟨0x9C010, [(2, 0x10000)], [⟨"FRZ", 3, 0, .rw, 0⟩]⟩
  | .CAL_BIAS_FRZ_REJ => ⟨0x9C014, [(2, 0x10000)], [⟨"COUNT", 31, 0, .ro, 0⟩]⟩
  -- bias dies and converters (R260, R261)
  | .BIAS_DIE_STATUS => ⟨0x90000, [(2, 0x10000)],
      [⟨"LINK", 0, 0, .ro, 0⟩, ⟨"SUPPLY_OK", 1, 1, .ro, 0⟩, ⟨"SUPPLY_LOST", 2, 2, .w1c, 0⟩, ⟨"LOST", 3, 3, .w1c, 1⟩,
       ⟨"ISO_FAULT", 4, 4, .w1c, 0⟩, ⟨"EXTREF_OK", 5, 5, .ro, 0⟩]⟩
  | .BIAS_DIE_CMD => ⟨0x90004, [(2, 0x10000)], [⟨"GO", 0, 0, .wo, 0⟩, ⟨"STOP_ALL", 1, 1, .wo, 0⟩]⟩
  | .BIAS_MON_SEL => ⟨0x90008, [(2, 0x10000)], [⟨"OUT", 6, 0, .rw, 0⟩, ⟨"EN", 7, 7, .rw, 0⟩]⟩
  | .BIAS_GO => ⟨0x90040, [(2, 0x10000), (4, 4)], [⟨"STAGE", 31, 0, .wo, 0⟩]⟩
  | .BIAS_STOP => ⟨0x90050, [(2, 0x10000), (4, 4)], [⟨"STOP", 31, 0, .wo, 0⟩]⟩
  | .BIAS_CTRL => ⟨0x91000, [(2, 0x10000), (128, 0x20)], [⟨"CONN", 1, 0, .rw, 0⟩]⟩
  | .BIAS_TGT => ⟨0x91004, [(2, 0x10000), (128, 0x20)], [⟨"TGT", 19, 0, .rw, 0⟩]⟩
  | .BIAS_STEP => ⟨0x91008, [(2, 0x10000), (128, 0x20)], [⟨"STEP", 18, 0, .rw, 0⟩, ⟨"DIV", 28, 24, .rw, 0⟩]⟩
  | .BIAS_LIM_LO => ⟨0x9100C, [(2, 0x10000), (128, 0x20)], [⟨"LO", 19, 0, .rwl, 0x80000⟩]⟩
  | .BIAS_LIM_HI => ⟨0x91010, [(2, 0x10000), (128, 0x20)], [⟨"HI", 19, 0, .rwl, 0x7FFFF⟩]⟩
  | .BIAS_ACT => ⟨0x91014, [(2, 0x10000), (128, 0x20)], [⟨"ACT", 19, 0, .ro, 0⟩]⟩
  | .BIAS_STATUS => ⟨0x91018, [(2, 0x10000), (128, 0x20)],
      [⟨"RAMP", 0, 0, .ro, 0⟩, ⟨"DONE", 1, 1, .w1c, 0⟩, ⟨"STOPPED", 2, 2, .w1c, 0⟩, ⟨"REJ", 3, 3, .w1c, 0⟩,
       ⟨"CONN_ACT", 5, 4, .ro, 0⟩, ⟨"LAST_RESULT", 15, 8, .ro, 0⟩]⟩
  | .BIAS_TRIM => ⟨0x9101C, [(2, 0x10000), (128, 0x20)], [⟨"OFS", 11, 0, .rw, 0⟩, ⟨"GAIN", 27, 16, .rw, 0⟩]⟩
  | .IC_CTRL => ⟨0x90100, [(2, 0x10000), (4, 0x40)],
      [⟨"EN", 0, 0, .rw, 0⟩, ⟨"SCAN", 1, 1, .rw, 0⟩, ⟨"INPUT", 5, 2, .rw, 0⟩, ⟨"ORDER", 7, 6, .rw, 0⟩, ⟨"PMODE", 8, 8, .rw, 0⟩,
       ⟨"MAINS", 9, 9, .rw, 0⟩]⟩
  | .IC_PERIOD => ⟨0x90104, [(2, 0x10000), (4, 0x40)], [⟨"TUS", 19, 0, .rw, 0x4E20⟩, ⟨"NPLC", 30, 24, .rw, 1⟩]⟩
  | .IC_SCAN => ⟨0x90108, [(2, 0x10000), (4, 0x40)], [⟨"MASK", 7, 0, .rw, 0⟩]⟩
  | .IC_STATUS_CH => ⟨0x9010C, [(2, 0x10000), (4, 0x40)],
      [⟨"BUSY", 0, 0, .ro, 0⟩, ⟨"OVR", 1, 1, .w1c, 0⟩, ⟨"FLT", 2, 2, .w1c, 0⟩, ⟨"CUR", 7, 4, .ro, 0⟩,
       ⟨"LAST_RESULT", 15, 8, .ro, 0⟩]⟩
  | .IC_DATA_LO => ⟨0x90110, [(2, 0x10000), (4, 0x40)],
      [⟨"VALUE", 23, 0, .rc, 0⟩, ⟨"INPUT", 27, 24, .rc, 0⟩, ⟨"VALID", 28, 28, .rc, 0⟩, ⟨"OVR", 29, 29, .rc, 0⟩,
       ⟨"FLT", 30, 30, .rc, 0⟩]⟩
  | .IC_DATA_HI => ⟨0x90114, [(2, 0x10000), (4, 0x40)], [⟨"SEQ", 15, 0, .ro, 0⟩]⟩
  | .IC_OFS_CORR => ⟨0x90118, [(2, 0x10000), (4, 0x40)], [⟨"OFS", 19, 0, .rw, 0⟩]⟩
  | .IC_GAIN_CORR => ⟨0x9011C, [(2, 0x10000), (4, 0x40)], [⟨"GAIN", 19, 0, .rw, 0⟩]⟩
  -- event router (R274, R275)
  | .EV_STATUS => ⟨0x20000, [], [⟨"RUN", 0, 0, .ro, 0⟩, ⟨"LAST_RESULT", 15, 8, .ro, 0⟩]⟩
  | .EV_INJECT => ⟨0x20010, [(4, 4)], [⟨"INJ", 31, 0, .wo, 0⟩]⟩
  | .EV_WATCH => ⟨0x20020, [(4, 4)], [⟨"FLAG", 31, 0, .w1c, 0⟩]⟩
  | .EV_LOOP => ⟨0x20030, [(4, 4)], [⟨"FLAG", 31, 0, .w1c, 0⟩]⟩
  | .EV_WLINE => ⟨0x20100, [(16, 4)],
      [⟨"CH", 6, 0, .rw, 0⟩, ⟨"L", 7, 7, .rw, 0⟩, ⟨"REGION", 11, 8, .rw, 0⟩, ⟨"EN", 12, 12, .rw, 0⟩]⟩
  | .EV_COINC => ⟨0x20200, [(128, 8)], [⟨"COUNT", 31, 0, .ro, 0⟩]⟩
  | .EV_LOST => ⟨0x20204, [(128, 8)], [⟨"COUNT", 31, 0, .ro, 0⟩]⟩
  | .PT_CTRL => ⟨0x20800, [(32, 0x20)], [⟨"CH", 6, 0, .rw, 0⟩, ⟨"ICH", 14, 8, .rw, 0⟩, ⟨"IEN", 15, 15, .rw, 0⟩]⟩
  | .PT_PERIOD => ⟨0x20804, [(32, 0x20)], [⟨"PERIOD", 31, 0, .rwl, 1⟩]⟩
  | .PT_PHASE => ⟨0x20808, [(32, 0x20)], [⟨"PHASE", 31, 0, .rwl, 0⟩]⟩
  | .PT_COUNT => ⟨0x2080C, [(32, 0x20)], [⟨"COUNT", 31, 0, .rw, 0⟩]⟩
  | .PT_CMD => ⟨0x20810, [(32, 0x20)], [⟨"START", 0, 0, .wo, 0⟩, ⟨"STOP", 1, 1, .wo, 0⟩]⟩
  | .PT_STATUS => ⟨0x20814, [(32, 0x20)], [⟨"RUN", 0, 0, .ro, 0⟩]⟩
  | .PT_EMITTED => ⟨0x20818, [(32, 0x20)], [⟨"COUNT", 31, 0, .ro, 0⟩]⟩
  | .TIO_CFG => ⟨0x21000, [(128, 4)],
      [⟨"DIR", 0, 0, .rw, 0⟩, ⟨"IEN", 1, 1, .rw, 0⟩, ⟨"ICH", 8, 2, .rw, 0⟩, ⟨"OEN", 9, 9, .rw, 0⟩, ⟨"OCH", 16, 10, .rw, 0⟩,
       ⟨"WIDTH", 24, 17, .rw, 1⟩]⟩
  | .LEV_STATUS => ⟨0x8010000, [(16, 0x800000)], [⟨"LAST_RESULT", 15, 8, .ro, 0⟩]⟩
  | .LEV_INJECT => ⟨0x8010004, [(16, 0x800000)], [⟨"INJ", 31, 0, .wo, 0⟩]⟩
  | .LEV_WATCH => ⟨0x8010008, [(16, 0x800000)], [⟨"FLAG", 31, 0, .w1c, 0⟩]⟩
  | .LEV_LOOP => ⟨0x801000C, [(16, 0x800000)], [⟨"FLAG", 31, 0, .w1c, 0⟩]⟩
  | .LEV_COINC => ⟨0x8010100, [(16, 0x800000), (32, 8)], [⟨"COUNT", 31, 0, .ro, 0⟩]⟩
  | .LEV_LOST => ⟨0x8010104, [(16, 0x800000), (32, 8)], [⟨"COUNT", 31, 0, .ro, 0⟩]⟩
  -- interrupt controller (R293-R295)
  | .IC_STATUS => ⟨0x10000, [], [⟨"LAST_RESULT", 15, 8, .ro, 0⟩]⟩
  | .IC_PEND => ⟨0x10100, [(16, 4)], [⟨"PEND", 31, 0, .ro, 0⟩]⟩
  | .IC_PEND_SET => ⟨0x10140, [(16, 4)], [⟨"SET", 31, 0, .w1s, 0⟩]⟩
  | .IC_PEND_CLR => ⟨0x10180, [(16, 4)], [⟨"CLR", 31, 0, .w1c, 0⟩]⟩
  | .IC_EN => ⟨0x10200, [(16, 4)], [⟨"EN", 31, 0, .ro, 0⟩]⟩
  | .IC_EN_SET => ⟨0x10240, [(16, 4)], [⟨"SET", 31, 0, .w1s, 0⟩]⟩
  | .IC_EN_CLR => ⟨0x10280, [(16, 4)], [⟨"CLR", 31, 0, .w1c, 0⟩]⟩
  | .IC_INSVC => ⟨0x10300, [(16, 4)], [⟨"INSVC", 31, 0, .ro, 0⟩]⟩
  | .IC_LINE => ⟨0x10340, [(16, 4)], [⟨"LINE", 31, 0, .ro, 0⟩]⟩
  | .IC_SRC_CFG => ⟨0x11000, [(512, 4)],
      [⟨"TARGET", 5, 0, .rw, 0⟩, ⟨"FAST", 6, 6, .rw, 0⟩, ⟨"LEVEL", 8, 8, .ro, 0⟩, ⟨"IMPL", 9, 9, .ro, 0⟩,
       ⟨"OWNER", 21, 16, .ro, 0⟩]⟩
  | .IC_TGT_CLAIM => ⟨0x14000, [(36, 0x40)], [⟨"SOURCE", 8, 0, .rc, 0⟩, ⟨"WAS_LEVEL", 9, 9, .rc, 0⟩]⟩
  | .IC_TGT_COMPLETE => ⟨0x14004, [(36, 0x40)], [⟨"SOURCE", 8, 0, .wo, 0⟩]⟩
  | .IC_TGT_FCLAIM => ⟨0x14008, [(36, 0x40)], [⟨"SOURCE", 8, 0, .rc, 0⟩, ⟨"WAS_LEVEL", 9, 9, .rc, 0⟩]⟩
  | .IC_TGT_THRESH => ⟨0x1400C, [(36, 0x40)], [⟨"THRESH", 8, 0, .rw, 0⟩]⟩
  | .IC_TGT_MOD => ⟨0x14010, [(36, 0x40)], [⟨"INTERVAL", 15, 0, .rw, 0⟩]⟩
  | .IC_TGT_IDLE => ⟨0x14014, [(36, 0x40)], [⟨"IDLE", 0, 0, .rw, 0⟩]⟩
  | .IC_TGT_STATUS => ⟨0x14018, [(36, 0x40)],
      [⟨"CLAIMABLE", 0, 0, .ro, 0⟩, ⟨"FCLAIMABLE", 1, 1, .ro, 0⟩, ⟨"ARMED", 2, 2, .ro, 1⟩, ⟨"HELD", 3, 3, .ro, 0⟩,
       ⟨"BADCMP", 4, 4, .w1c, 0⟩, ⟨"PME_SENT", 5, 5, .w1c, 0⟩, ⟨"NINSVC", 17, 8, .ro, 0⟩]⟩
  | .IC_TGT_SENT => ⟨0x1401C, [(36, 0x40)], [⟨"COUNT", 31, 0, .ro, 0⟩]⟩
  -- Grip, dailies rings and memory (R321-R324)
  | .GRIP_STATUS => ⟨0x40000, [], [⟨"OPS", 12, 0, .ro, 0⟩]⟩
  | .GRIP_ABANDON => ⟨0x40004, [], [⟨"OPS", 12, 0, .ro, 0⟩]⟩
  | .GRIP_CH_CTRL => ⟨0x41000, [(80, 0x40)], [⟨"GO", 0, 0, .wo, 0⟩, ⟨"STOP", 1, 1, .wo, 0⟩, ⟨"CLR", 2, 2, .wo, 0⟩]⟩
  | .GRIP_CH_CFG => ⟨0x41004, [(80, 0x40)], [⟨"MAXOPS", 11, 0, .rwl, 0xFF⟩, ⟨"HEAD_SP", 15, 12, .rwl, 0⟩]⟩
  | .GRIP_CH_EVIN => ⟨0x41008, [(80, 0x40)],
      [⟨"SCH", 6, 0, .rwl, 0⟩, ⟨"SL", 7, 7, .rwl, 0⟩, ⟨"SEN", 8, 8, .rwl, 0⟩, ⟨"PCH", 22, 16, .rwl, 0⟩,
       ⟨"PL", 23, 23, .rwl, 0⟩, ⟨"PEN", 24, 24, .rwl, 0⟩]⟩
  | .GRIP_CH_EVOUT => ⟨0x4100C, [(80, 0x40)], [⟨"CH", 6, 0, .rw, 0⟩, ⟨"L", 7, 7, .rw, 0⟩, ⟨"EN", 8, 8, .rw, 0⟩]⟩
  | .GRIP_CH_HEAD_LO => ⟨0x41010, [(80, 0x40)], [⟨"HEAD", 31, 0, .rwl, 0⟩]⟩
  | .GRIP_CH_HEAD_HI => ⟨0x41014, [(80, 0x40)], [⟨"HEAD", 31, 0, .rwl, 0⟩]⟩
  | .GRIP_CH_BUDGET => ⟨0x41018, [(80, 0x40)], [⟨"BUDGET", 24, 0, .rwl, 0x10000⟩]⟩
  | .GRIP_CH_STATUS => ⟨0x4101C, [(80, 0x40)],
      [⟨"STATE", 1, 0, .ro, 0⟩, ⟨"PACEWAIT", 2, 2, .ro, 0⟩, ⟨"ERRH", 3, 3, .ro, 0⟩, ⟨"SPEND", 4, 4, .ro, 0⟩,
       ⟨"ERR", 15, 8, .ro, 0⟩, ⟨"LAST_RESULT", 23, 16, .ro, 0⟩]⟩
  | .GRIP_CH_DESC_LO => ⟨0x41020, [(80, 0x40)], [⟨"DESC", 31, 0, .ro, 0⟩]⟩
  | .GRIP_CH_DESC_HI => ⟨0x41024, [(80, 0x40)], [⟨"DESC", 31, 0, .ro, 0⟩]⟩
  | .GRIP_CH_DONE => ⟨0x41028, [(80, 0x40)], [⟨"COUNT", 31, 0, .ro, 0⟩]⟩
  | .GRIP_CH_PREFIX => ⟨0x4102C, [(80, 0x40)], [⟨"BYTES", 31, 0, .ro, 0⟩]⟩
  | .GRIP_CH_MOVED => ⟨0x41030, [(80, 0x40)], [⟨"BYTES", 31, 0, .ro, 0⟩]⟩
  | .GRIP_CH_OPS => ⟨0x41034, [(80, 0x40)], [⟨"OPS", 12, 0, .ro, 0⟩]⟩
  | .GRIP_CH_UNITS => ⟨0x41038, [(80, 0x40)], [⟨"COUNT", 31, 0, .ro, 0⟩]⟩
  | .GRIP_DLY_BASE_LO => ⟨0x43000, [(16, 0x20)], [⟨"BASE", 31, 0, .rwl, 0⟩]⟩
  | .GRIP_DLY_BASE_HI => ⟨0x43004, [(16, 0x20)], [⟨"BASE", 31, 0, .rwl, 0⟩]⟩
  | .GRIP_DLY_CFG => ⟨0x43008, [(16, 0x20)], [⟨"SPACE", 3, 0, .rwl, 1⟩, ⟨"IRQN", 12, 8, .rwl, 0⟩]⟩
  | .GRIP_DLY_SIZE => ⟨0x4300C, [(16, 0x20)], [⟨"SIZE", 23, 0, .rwl, 0⟩]⟩
  | .GRIP_DLY_WR => ⟨0x43010, [(16, 0x20)], [⟨"WR", 31, 0, .ro, 0⟩]⟩
  | .GRIP_DLY_RD => ⟨0x43014, [(16, 0x20)], [⟨"RD", 31, 0, .rw, 0⟩]⟩
  | .GRIP_DLY_STATUS => ⟨0x43018, [(16, 0x20)], [⟨"FULL", 0, 0, .ro, 0⟩, ⟨"ERR", 1, 1, .w1c, 0⟩, ⟨"CODE", 15, 8, .ro, 0⟩]⟩
  | .MEM_STATUS => ⟨0x50000, [],
      [⟨"READY", 0, 0, .ro, 0⟩, ⟨"POP_MISMATCH", 1, 1, .ro, 0⟩, ⟨"POP_ERR", 2, 2, .ro, 0⟩, ⟨"SPEED", 6, 4, .ro, 0⟩,
       ⟨"LAST_RESULT", 15, 8, .ro, 0⟩]⟩
  | .MEM_CTRL => ⟨0x50004, [], [⟨"OFFLINE", 0, 0, .rw, 0⟩]⟩
  | .MEM_CAP_LO => ⟨0x50008, [], [⟨"CAP", 31, 0, .ro, 0⟩]⟩
  | .MEM_CAP_HI => ⟨0x5000C, [], [⟨"CAP", 31, 0, .ro, 0⟩]⟩
  | .MEM_SCRUB => ⟨0x50010, [], [⟨"EN", 0, 0, .rw, 1⟩, ⟨"HOURS", 15, 8, .rw, 0x18⟩]⟩
  | .MEM_CH_STATUS => ⟨0x50100, [(8, 0x40)],
      [⟨"NDIMM", 1, 0, .ro, 0⟩, ⟨"TRAINED", 2, 2, .ro, 0⟩, ⟨"THREE_DS", 3, 3, .ro, 0⟩, ⟨"GB", 31, 16, .ro, 0⟩]⟩
  | .MEM_CE_CNT => ⟨0x50104, [(8, 0x40)], [⟨"COUNT", 31, 0, .ro, 0⟩]⟩
  | .MEM_UE_CNT => ⟨0x50108, [(8, 0x40)], [⟨"COUNT", 31, 0, .ro, 0⟩]⟩
  | .MEM_ERR_INFO => ⟨0x5010C, [(8, 0x40)], [⟨"VALID", 0, 0, .w1c, 0⟩, ⟨"UE", 1, 1, .ro, 0⟩, ⟨"DEVICE", 11, 8, .ro, 0⟩]⟩
  | .MEM_ERR_ADDR_LO => ⟨0x50110, [(8, 0x40)], [⟨"ADDR", 31, 0, .ro, 0⟩]⟩
  | .MEM_ERR_ADDR_HI => ⟨0x50114, [(8, 0x40)], [⟨"ADDR", 31, 0, .ro, 0⟩]⟩
  | .MT_CTRL => ⟨0x51000, [(8, 0x80)],
      [⟨"MODE", 2, 0, .rwl, 0⟩, ⟨"ZERO", 5, 5, .rwl, 0⟩, ⟨"WB", 10, 6, .rwl, 0⟩, ⟨"DIRS", 19, 12, .rwl, 0⟩,
       ⟨"U", 23, 20, .rwl, 0⟩, ⟨"ADDRX", 24, 24, .rwl, 0⟩, ⟨"STOPF", 25, 25, .rwl, 0⟩]⟩
  | .MT_CMD => ⟨0x51004, [(8, 0x80)], [⟨"START", 0, 0, .wo, 0⟩, ⟨"ABORT", 1, 1, .wo, 0⟩]⟩
  | .MT_STATUS => ⟨0x51008, [(8, 0x80)], [⟨"STATE", 1, 0, .ro, 0⟩, ⟨"RESULT", 2, 2, .ro, 0⟩, ⟨"LAST_RESULT", 15, 8, .ro, 0⟩]⟩
  | .MT_N1 => ⟨0x5100C, [(8, 0x80)], [⟨"N1M1", 23, 0, .rwl, 0⟩]⟩
  | .MT_N2 => ⟨0x51010, [(8, 0x80)], [⟨"N2M1", 2, 0, .rwl, 0⟩]⟩
  | .MT_POLY => ⟨0x51014, [(8, 0x80)], [⟨"POLY", 23, 0, .rwl, 0⟩]⟩
  | .MT_SEED => ⟨0x51018, [(8, 0x80)], [⟨"SEED", 23, 0, .rwl, 1⟩]⟩
  | .MT_BASE_LO => ⟨0x51020, [(8, 0x80)], [⟨"BASE", 31, 0, .rwl, 0⟩]⟩
  | .MT_BASE_HI => ⟨0x51024, [(8, 0x80)], [⟨"BASE", 15, 0, .rwl, 0⟩]⟩
  | .MT_STEP_LO => ⟨0x51028, [(8, 0x80)], [⟨"STEP", 31, 0, .rwl, 0⟩]⟩
  | .MT_STEP_HI => ⟨0x5102C, [(8, 0x80)], [⟨"STEP", 15, 0, .rwl, 0⟩]⟩
  | .MT_STEP2_LO => ⟨0x51030, [(8, 0x80)], [⟨"STEP2", 31, 0, .rwl, 0⟩]⟩
  | .MT_STEP2_HI => ⟨0x51034, [(8, 0x80)], [⟨"STEP2", 15, 0, .rwl, 0⟩]⟩
  | .MT_ELEM => ⟨0x51040, [(8, 0x80), (8, 4)], [⟨"NOPSM1", 1, 0, .rwl, 0⟩, ⟨"OPS", 9, 2, .rwl, 0⟩]⟩
  | .MT_PAT_LO => ⟨0x51060, [(8, 0x80)], [⟨"PAT", 31, 0, .rwl, 0⟩]⟩
  | .MT_PAT_HI => ⟨0x51064, [(8, 0x80)], [⟨"PAT", 31, 0, .rwl, 0⟩]⟩
  | .MT_FAIL_CNT => ⟨0x51068, [(8, 0x80)], [⟨"COUNT", 31, 0, .ro, 0⟩]⟩
  | .MT_FAIL_ADDR_LO => ⟨0x51070, [(8, 0x80)], [⟨"ADDR", 31, 0, .ro, 0⟩]⟩
  | .MT_FAIL_ADDR_HI => ⟨0x51074, [(8, 0x80)], [⟨"ADDR", 31, 0, .ro, 0⟩]⟩
  | .MT_PROG => ⟨0x51078, [(8, 0x80)], [⟨"STEPS", 31, 0, .ro, 0⟩]⟩
  -- links (R343, R344)
  | .LNK_CTRL => ⟨0x60000, [(24, 0x100)],
      [⟨"EN", 0, 0, .rw, 0⟩, ⟨"RT_EN", 1, 1, .rw, 0⟩, ⟨"CLAP_TX", 2, 2, .rw, 0⟩, ⟨"XLAT", 11, 8, .rwl, 0⟩]⟩
  | .LNK_STATUS => ⟨0x60004, [(24, 0x100)],
      [⟨"STATE", 1, 0, .ro, 0⟩, ⟨"LAT_ERR", 2, 2, .ro, 0⟩, ⟨"ID_CONFLICT", 3, 3, .ro, 0⟩, ⟨"SFN_ERR", 4, 4, .w1c, 0⟩,
       ⟨"RT_LOST", 5, 5, .w1c, 0⟩, ⟨"CLAP_FAR", 6, 6, .w1c, 0⟩, ⟨"HOPLIM", 7, 7, .w1c, 0⟩, ⟨"LANE_ERR", 8, 8, .w1c, 0⟩,
       ⟨"LAST_RESULT", 23, 16, .ro, 0⟩]⟩
  | .LNK_PARTNER => ⟨0x60008, [(24, 0x100)], [⟨"MOD", 5, 0, .ro, 0⟩, ⟨"LINK", 12, 8, .ro, 0⟩, ⟨"VALID", 16, 16, .ro, 0⟩]⟩
  | .LNK_PSERIAL => ⟨0x6000C, [(24, 0x100)], [⟨"SERIAL", 31, 0, .ro, 0⟩]⟩
  | .LNK_RT => ⟨0x60010, [(24, 0x100)], [⟨"RT", 23, 0, .ro, 0⟩]⟩
  | .LNK_LAT => ⟨0x60014, [(24, 0x100)], [⟨"LAT", 5, 0, .ro, 0⟩, ⟨"DCC", 13, 8, .ro, 0⟩]⟩
  | .LNK_CRC_CNT => ⟨0x60018, [(24, 0x100)], [⟨"COUNT", 31, 0, .ro, 0⟩]⟩
  | .LNK_RETX_CNT => ⟨0x6001C, [(24, 0x100)], [⟨"COUNT", 31, 0, .ro, 0⟩]⟩
  | .LNK_TXOVWR_CNT => ⟨0x60020, [(24, 0x100)], [⟨"COUNT", 31, 0, .ro, 0⟩]⟩
  | .LNK_EV_MERGE => ⟨0x60024, [(24, 0x100)], [⟨"COUNT", 31, 0, .ro, 0⟩]⟩
  | .LNK_TSDROP => ⟨0x60028, [(24, 0x100)], [⟨"COUNT", 31, 0, .ro, 0⟩]⟩
  | .LNK_IRQ_CAUSE => ⟨0x6002C, [(24, 0x100)],
      [⟨"STATE", 0, 0, .w1c, 0⟩, ⟨"RT", 1, 1, .w1c, 0⟩, ⟨"MSG_RX", 2, 2, .w1c, 0⟩, ⟨"MSG_TX", 3, 3, .w1c, 0⟩,
       ⟨"CRC", 4, 4, .w1c, 0⟩]⟩
  | .LNK_IRQ_EN => ⟨0x60030, [(24, 0x100)], [⟨"EN", 4, 0, .rw, 0⟩]⟩
  | .LNK_TS_ADJ => ⟨0x60034, [(24, 0x100)], [⟨"ADJ", 15, 0, .rw, 0⟩]⟩
  | .LNK_EVTX => ⟨0x60040, [(24, 0x100), (4, 4)],
      [⟨"CH0", 6, 0, .rw, 0⟩, ⟨"EN0", 7, 7, .rw, 0⟩, ⟨"CH1", 14, 8, .rw, 0⟩, ⟨"EN1", 15, 15, .rw, 0⟩, ⟨"CH2", 22, 16, .rw, 0⟩,
       ⟨"EN2", 23, 23, .rw, 0⟩, ⟨"CH3", 30, 24, .rw, 0⟩, ⟨"EN3", 31, 31, .rw, 0⟩]⟩
  | .LNK_EVRX => ⟨0x60050, [(24, 0x100), (4, 4)],
      [⟨"CH0", 6, 0, .rw, 0⟩, ⟨"EN0", 7, 7, .rw, 0⟩, ⟨"CH1", 14, 8, .rw, 0⟩, ⟨"EN1", 15, 15, .rw, 0⟩, ⟨"CH2", 22, 16, .rw, 0⟩,
       ⟨"EN2", 23, 23, .rw, 0⟩, ⟨"CH3", 30, 24, .rw, 0⟩, ⟨"EN3", 31, 31, .rw, 0⟩]⟩
  | .LNK_MSG_CTRL => ⟨0x60060, [(24, 0x100)], [⟨"LEN", 8, 0, .rw, 0⟩, ⟨"SEND", 16, 16, .wo, 0⟩]⟩
  | .LNK_MSG_STATUS => ⟨0x60064, [(24, 0x100)], [⟨"TXBUSY", 0, 0, .ro, 0⟩, ⟨"RXFULL", 1, 1, .w1c, 0⟩, ⟨"RXLEN", 24, 16, .ro, 0⟩]⟩
  | .LNK_TXMAP => ⟨0x6C000, [(24, 0x200), (128, 4)],
      [⟨"SLOT0", 10, 0, .rw, 0⟩, ⟨"EN0", 15, 15, .rw, 0⟩, ⟨"SLOT1", 26, 16, .rw, 0⟩, ⟨"EN1", 31, 31, .rw, 0⟩]⟩
  | .LNK_MODID => ⟨0x62000, [], [⟨"MOD", 5, 0, .rwl, 0⟩]⟩
  | .LNK_UP => ⟨0x62004, [], [⟨"UP", 23, 0, .ro, 0⟩]⟩
  | .LNK_RTMASK => ⟨0x62008, [], [⟨"RT", 23, 0, .ro, 0⟩]⟩
  | .LNK_RXMAP => ⟨0x63000, [(256, 4)],
      [⟨"LINK", 4, 0, .rw, 0⟩, ⟨"ENTRY", 12, 5, .rw, 0⟩, ⟨"HOPS", 14, 13, .ro, 0⟩, ⟨"EN", 15, 15, .rw, 0⟩]⟩
  | .LNK_RXTS => ⟨0x63400, [(64, 4)], [⟨"LINK", 4, 0, .rw, 0⟩, ⟨"CH", 10, 5, .rw, 0⟩, ⟨"EN", 15, 15, .rw, 0⟩]⟩
  | .LNK_TSTX => ⟨0x63500, [(64, 8)], [⟨"KIND", 2, 0, .rw, 0⟩, ⟨"INDEX", 12, 3, .rw, 0⟩]⟩
  | .LNK_TSTX_LINKS => ⟨0x63504, [(64, 8)], [⟨"LINKS", 23, 0, .rw, 0⟩]⟩
  -- host interface (R366)
  | .ID_DEVICE => ⟨0, [], [⟨"DEVICE", 15, 0, .ro, 0x512⟩, ⟨"STEP", 23, 16, .ro, 0xB1⟩]⟩
  | .ID_VARIANT => ⟨4, [], [⟨"REGIONS", 15, 0, .ro, 0xFFFF⟩, ⟨"NTILE", 19, 16, .ro, 8⟩]⟩
  | .ID_SERIAL_LO => ⟨8, [], [⟨"SERIAL", 31, 0, .ro, 0⟩]⟩
  | .ID_SERIAL_HI => ⟨0xC, [], [⟨"SERIAL", 31, 0, .ro, 0⟩]⟩
  | .ID_FW => ⟨0x10, [], [⟨"PATCH", 7, 0, .ro, 0⟩, ⟨"MINOR", 15, 8, .ro, 0⟩, ⟨"MAJOR", 23, 16, .ro, 0⟩]⟩
  | .FEAT_OFFER => ⟨0x20, [(4, 4)], [⟨"OFFER", 31, 0, .ro, 0⟩]⟩
  | .FEAT_ACCEPT => ⟨0x30, [(4, 4)], [⟨"ACCEPT", 31, 0, .rwl, 0⟩]⟩
  | .FEAT_CTRL => ⟨0x40, [], [⟨"GO", 0, 0, .w1s, 0⟩, ⟨"ACTIVE", 1, 1, .ro, 0⟩]⟩
  | .FEAT_STATUS => ⟨0x44, [], [⟨"LAST_RESULT", 7, 0, .ro, 0⟩]⟩
  | .GLB_STATUS => ⟨0x80, [],
      [⟨"DOZE_ACCESS", 0, 0, .w1c, 0⟩, ⟨"NOGO", 1, 1, .w1c, 0⟩, ⟨"BADACC", 2, 2, .w1c, 0⟩, ⟨"BAR2_REJ", 3, 3, .w1c, 0⟩,
       ⟨"LINK_DEGRADED", 4, 4, .ro, 0⟩, ⟨"EPOCH", 5, 5, .ro, 0⟩, ⟨"MEM_READY", 6, 6, .ro, 0⟩]⟩
  | .CUT_CMD => ⟨0x100, [], [⟨"SCOPE", 1, 0, .wo, 0⟩]⟩
  | .CUT_RMASK => ⟨0x104, [], [⟨"MASK", 15, 0, .rw, 0⟩]⟩
  | .CUT_CMASK_LO => ⟨0x108, [], [⟨"MASK", 31, 0, .rw, 0⟩]⟩
  | .CUT_CMASK_HI => ⟨0x10C, [], [⟨"MASK", 31, 0, .rw, 0⟩]⟩
  | .CUT_STATUS => ⟨0x110, [],
      [⟨"BUSY", 0, 0, .ro, 0⟩, ⟨"DONE", 1, 1, .w1c, 0⟩, ⟨"SCOPE", 3, 2, .ro, 0⟩, ⟨"STATUS", 15, 8, .ro, 0⟩,
       ⟨"COUNT", 31, 16, .ro, 0⟩]⟩
  | .CUT_TIME => ⟨0x114, [], [⟨"NS", 31, 0, .ro, 0⟩]⟩
  | .CUT_RESULT => ⟨0x118, [], [⟨"LAST_RESULT", 7, 0, .ro, 0⟩]⟩
  | .HIF_BAR2_BASE_LO => ⟨0x200, [], [⟨"BASE", 31, 0, .rw, 0⟩]⟩
  | .HIF_BAR2_BASE_HI => ⟨0x204, [], [⟨"BASE", 9, 0, .rw, 0⟩]⟩
  | .HIF_STATUS => ⟨0x208, [], [⟨"LAST_RESULT", 7, 0, .ro, 0⟩]⟩
  | .HIF_LTR_BUSY => ⟨0x210, [], [⟨"VALUE", 9, 0, .rw, 2⟩, ⟨"SCALE", 12, 10, .rw, 2⟩]⟩
  | .HIF_LTR_IDLE => ⟨0x214, [], [⟨"VALUE", 9, 0, .rw, 1⟩, ⟨"SCALE", 12, 10, .rw, 4⟩]⟩
  | .HIF_LINK => ⟨0x220, [],
      [⟨"SPEED", 3, 0, .ro, 0⟩, ⟨"WIDTH", 9, 4, .ro, 0⟩, ⟨"DSTATE", 11, 10, .ro, 0⟩, ⟨"L1", 12, 12, .ro, 0⟩]⟩
  -- mailbox (R391)
  | .MB_CTRL => ⟨0xB0F00, [(4, 0x1000)], [⟨"SUBMIT", 0, 0, .wo, 0⟩, ⟨"RELEASE", 1, 1, .wo, 0⟩]⟩
  | .MB_STATUS => ⟨0xB0F04, [(4, 0x1000)], [⟨"PEND", 0, 0, .ro, 0⟩, ⟨"READY", 1, 1, .ro, 0⟩, ⟨"LAST_RESULT", 15, 8, .ro, 0⟩]⟩
  | .OD_QUEUE => ⟨0xB4000, [], [⟨"DEPTH", 8, 0, .ro, 0⟩, ⟨"TSVC", 31, 16, .ro, 0⟩]⟩
  -- network time (R410)
  | .WT_CTRL => ⟨0x30100, [], [⟨"SRC", 1, 0, .rw, 0⟩, ⟨"AUTO", 2, 2, .rw, 0⟩, ⟨"HOLD_S", 15, 8, .rw, 4⟩]⟩
  | .WT_CMD => ⟨0x30104, [], [⟨"STEP", 0, 0, .wo, 0⟩, ⟨"NEW_EPOCH", 1, 1, .wo, 0⟩]⟩
  | .WT_STATUS => ⟨0x30108, [],
      [⟨"SRC_ACT", 1, 0, .ro, 0⟩, ⟨"HOLDOVER", 2, 2, .ro, 0⟩, ⟨"STEP_PEND", 3, 3, .ro, 1⟩, ⟨"FAR", 4, 4, .w1c, 0⟩,
       ⟨"LAST_RESULT", 15, 8, .ro, 0⟩, ⟨"EPOCHS", 31, 16, .ro, 0⟩]⟩
  | .WT_NOW => ⟨0x30110, [(3, 4)], [⟨"W", 31, 0, .ro, 0⟩]⟩
  | .WT_NOW_FTG_LO => ⟨0x30120, [], [⟨"FTG", 31, 0, .ro, 0⟩]⟩
  | .WT_NOW_FTG_HI => ⟨0x30124, [], [⟨"FTG", 31, 0, .ro, 0⟩]⟩
  | .WT_INC_LO => ⟨0x30130, [], [⟨"INC", 31, 0, .rw, 0⟩]⟩
  | .WT_INC_HI => ⟨0x30134, [], [⟨"INC", 31, 0, .rw, 1⟩]⟩
  | .WT_STEP => ⟨0x30140, [(3, 4)], [⟨"STEP", 31, 0, .rw, 0⟩]⟩
  | .WT_EPOCH_FTG_LO => ⟨0x30150, [], [⟨"FTG", 31, 0, .ro, 0⟩]⟩
  | .WT_EPOCH_FTG_HI => ⟨0x30154, [], [⟨"FTG", 31, 0, .ro, 0⟩]⟩
  | .WT_EPOCH_WALL => ⟨0x30160, [(3, 4)], [⟨"W", 31, 0, .ro, 0⟩]⟩
  | .PTP_CFG => ⟨0x30200, [(2, 0x100)],
      [⟨"DOMNUM", 7, 0, .rw, 0⟩, ⟨"NET_A", 8, 8, .rw, 1⟩, ⟨"NET_B", 9, 9, .rw, 1⟩, ⟨"L2", 10, 10, .rw, 1⟩,
       ⟨"UDP", 11, 11, .rw, 1⟩, ⟨"EN", 12, 12, .rw, 0⟩, ⟨"ANN_TO", 19, 16, .rw, 3⟩]⟩
  | .PTP_STATUS => ⟨0x30204, [(2, 0x100)],
      [⟨"STATE", 2, 0, .ro, 0⟩, ⟨"VALID", 3, 3, .ro, 0⟩, ⟨"PORT_ACT", 4, 4, .ro, 0⟩, ⟨"MASTER_CHG", 5, 5, .w1c, 0⟩,
       ⟨"LAST_RESULT", 15, 8, .ro, 0⟩]⟩
  | .PTP_MASTER_LO => ⟨0x30208, [(2, 0x100)], [⟨"ID", 31, 0, .ro, 0⟩]⟩
  | .PTP_MASTER_HI => ⟨0x3020C, [(2, 0x100)], [⟨"ID", 31, 0, .ro, 0⟩]⟩
  | .PTP_MPORT => ⟨0x30210, [(2, 0x100)], [⟨"PORT", 15, 0, .ro, 0⟩]⟩
  | .PTP_OFS_LO => ⟨0x30218, [(2, 0x100)], [⟨"OFS", 31, 0, .ro, 0⟩]⟩
  | .PTP_OFS_HI => ⟨0x3021C, [(2, 0x100)], [⟨"OFS", 31, 0, .ro, 0⟩]⟩
  | .PTP_MPD => ⟨0x30220, [(2, 0x100)], [⟨"MPD", 31, 0, .ro, 0⟩]⟩
  | .PTP_RATE => ⟨0x30224, [(2, 0x100)], [⟨"RATE", 31, 0, .ro, 0⟩]⟩
  | .PTP_SYNC_CNT => ⟨0x30228, [(2, 0x100)], [⟨"COUNT", 31, 0, .ro, 0⟩]⟩
  | .PTP_ERR_CNT => ⟨0x3022C, [(2, 0x100)], [⟨"COUNT", 31, 0, .ro, 0⟩]⟩
  | .PTP_T => ⟨0x30240, [(2, 0x100), (8, 4)], [⟨"TS", 31, 0, .ro, 0⟩]⟩
  | .PPS_CTRL => ⟨0x30800, [], [⟨"OUT_EN", 0, 0, .rw, 0⟩, ⟨"IN_EN", 1, 1, .rw, 0⟩, ⟨"WIDTH", 17, 8, .rw, 0x64⟩]⟩
  | .PPS_STATUS => ⟨0x30804, [], [⟨"VALID", 0, 0, .ro, 0⟩, ⟨"OVR", 1, 1, .w1c, 0⟩, ⟨"LAST_RESULT", 15, 8, .ro, 0⟩]⟩
  | .PPS_IN_TS_LO => ⟨0x30810, [], [⟨"TS", 31, 0, .rc, 0⟩]⟩
  | .PPS_IN_TS_HI => ⟨0x30814, [], [⟨"TS", 31, 0, .ro, 0⟩]⟩
  | .PPS_IN_FTG_LO => ⟨0x30818, [], [⟨"FTG", 31, 0, .ro, 0⟩]⟩
  | .PPS_IN_FTG_HI => ⟨0x3081C, [], [⟨"FTG", 31, 0, .ro, 0⟩]⟩
  -- power and health (R426)
  | .PWR_STATUS => ⟨0x80000, [],
      [⟨"LOGIC_OK", 0, 0, .ro, 0⟩, ⟨"THROTTLE", 1, 1, .ro, 0⟩, ⟨"THERM_WARN", 2, 2, .w1c, 0⟩, ⟨"THERM_CRIT", 3, 3, .w1c, 0⟩,
       ⟨"WD_HOLD", 4, 4, .ro, 0⟩, ⟨"LAST_RESULT", 15, 8, .ro, 0⟩]⟩
  | .PWR_SUP_FAULT => ⟨0x80004, [],
      [⟨"AON", 0, 0, .w1c, 0⟩, ⟨"CORE_H", 1, 1, .w1c, 0⟩, ⟨"CORE_T", 9, 2, .w1c, 0⟩, ⟨"SRAM", 10, 10, .w1c, 0⟩,
       ⟨"IO", 11, 11, .w1c, 0⟩, ⟨"DDQ", 12, 12, .w1c, 0⟩, ⟨"A10", 13, 13, .w1c, 0⟩, ⟨"A18", 14, 14, .w1c, 0⟩,
       ⟨"A33", 15, 15, .w1c, 0⟩]⟩
  | .PWR_ALERT_EN => ⟨0x80008, [], [⟨"WARN", 0, 0, .rw, 1⟩, ⟨"CRIT", 1, 1, .rw, 1⟩, ⟨"SUP", 2, 2, .rw, 1⟩, ⟨"WD", 3, 3, .rw, 1⟩]⟩
  | .PWR_RRESET => ⟨0x80010, [], [⟨"RESET", 15, 0, .wo, 0⟩]⟩
  | .PWR_CRESET_LO => ⟨0x80014, [], [⟨"RESET", 31, 0, .wo, 0⟩]⟩
  | .PWR_CRESET_HI => ⟨0x80018, [], [⟨"RESET", 31, 0, .wo, 0⟩]⟩
  | .PWR_RSTAT => ⟨0x8001C, [], [⟨"REGION", 15, 0, .ro, 0⟩]⟩
  | .PWR_WAKE => ⟨0x80020, [], [⟨"WAKE", 15, 0, .wo, 0⟩]⟩
  | .PWR_CSTAT_LO => ⟨0x80028, [], [⟨"CLUSTER", 31, 0, .ro, 0⟩]⟩
  | .PWR_CSTAT_HI => ⟨0x8002C, [], [⟨"CLUSTER", 31, 0, .ro, 0⟩]⟩
  | .PWR_TOL => ⟨0x80100, [(16, 4)], [⟨"TOL", 31, 0, .rw, 0⟩]⟩
  | .PWR_STATE => ⟨0x80140, [(16, 4)],
      [⟨"STATE", 2, 0, .ro, 0⟩, ⟨"ALLOWED", 5, 3, .ro, 0⟩, ⟨"BUSY", 6, 6, .ro, 0⟩, ⟨"IDLE", 7, 7, .ro, 0⟩,
       ⟨"LATE_WAKE", 8, 8, .w1c, 0⟩, ⟨"ENTRIES", 31, 16, .ro, 0⟩]⟩
  | .THERM_TEMP => ⟨0x80200, [(11, 4)], [⟨"TEMP", 15, 0, .ro, 0⟩, ⟨"VALID", 16, 16, .ro, 0⟩]⟩
  | .THERM_WARN => ⟨0x80240, [], [⟨"WARN", 7, 0, .rw, 0x64⟩]⟩
  | .GAF_WD_CTRL => ⟨0x80300, [(4, 4)], [⟨"TIMEOUT", 15, 0, .rw, 0x64⟩, ⟨"EN", 16, 16, .rw, 0⟩]⟩
  | .GAF_WD_KICK => ⟨0x80310, [(4, 4)], [⟨"KICK", 0, 0, .wo, 0⟩]⟩
  | .GAF_WD_STATUS => ⟨0x80320, [], [⟨"COUNT", 31, 0, .ro, 0⟩]⟩
  | .GAF_CMD => ⟨0x80330, [], [⟨"RESTART", 0, 0, .wo, 0⟩]⟩
  | .WEAR_EQH => ⟨0x80400, [(11, 4)], [⟨"EQH", 31, 0, .ro, 0⟩]⟩
  | .WEAR_HOURS => ⟨0x80440, [], [⟨"HOURS", 31, 0, .ro, 0⟩]⟩
  | .WEAR_CYCLES => ⟨0x80444, [], [⟨"COUNT", 31, 0, .ro, 0⟩]⟩
  | .WEAR_EVENTS => ⟨0x80448, [],
      [⟨"WARN", 7, 0, .ro, 0⟩, ⟨"CRIT", 15, 8, .ro, 0⟩, ⟨"SHDN", 23, 16, .ro, 0⟩, ⟨"SUPFLT", 31, 24, .ro, 0⟩]⟩

/-- The registers of the crossing locks (R26). -/
def regs01 : List Reg :=
  [.XLOCK_STATUS, .XLOCK_FAULT0, .XLOCK_FAULT_FTG_LO, .XLOCK_FAULT_FTG_HI, .XLOCK_REGION, .XLOCK_DROPS]

/-- The registers of the clocks and clapper (R61). -/
def regs02 : List Reg :=
  [.CLK_CTRL, .CLK_STATUS, .CLAP_CTRL, .CLAP_CMD, .CLAP_STATUS, .FTG_LO, .FTG_HI, .CLAP_SLIP_INFO, .CLAP_SLIP_FTG_LO,
   .CLAP_SLIP_FTG_HI, .CLAP_SLIPS, .CLAP_EPOCH_WALL, .CLAP_TAP_REF, .CLAP_TAP_IN, .CLAP_TAP_OUT, .CLAP_TILE_TAP,
   .CLAP_TILE_SKEW, .CLAP_LOOP_RT, .CLAP_LOOP_INT, .CLAP_LOOP_SPREAD]

/-- The registers of the voices, baseband outputs and reels (R94, R95). -/
def regs03 : List Reg :=
  [.RFO_CTRL, .RFO_STATUS, .RFO_CLIPS, .RFO_MKR, .VOICE_CTRL, .VOICE_STATUS, .VOICE_COMMIT, .VOICE_FTW_LO,
   .VOICE_FTW_HI, .VOICE_POFF, .VOICE_AMP, .VOICE_SEGBASE, .VOICE_ACT_FTW_LO, .VOICE_ACT_FTW_HI, .VOICE_ACT_POFF,
   .VOICE_ACT_AMPSEG, .BBO_CTRL, .BBO_STATUS, .BBO_COMMIT, .BBO_GAIN, .BBO_OFFSET, .BBO_ACT, .BBO_MKR, .CL_COMMIT,
   .REEL_STATUS, .SEG_STATUS, .STRM_CFG, .STRM_STATUS, .STRM_DROP]

/-- The registers of the Script engines and sweep generators (R116). -/
def regs04 : List Reg :=
  [.SCR_START, .SCR_STOP, .SCR_CL_STATUS, .UNIT_OWNER0, .UNIT_OWNER1, .UNIT_OWNER2, .TONE_OWNER0, .TONE_OWNER1,
   .SCR_CFG, .SCR_PC_INIT, .SCR_T0_LO, .SCR_T0_HI, .SCR_STATUS, .SCR_PC, .SCR_T_LO, .SCR_T_HI, .SCR_FLAGS,
   .SCR_EVSEL, .SCR_LATE_CNT, .SCR_SUBST_CNT, .SCR_S, .SWG_CTRL, .SWG_CMD, .SWG_STATUS, .SWG_N1, .SWG_N2, .SWG_POLY,
   .SWG_SEED, .SWG_BASE_LO, .SWG_BASE_HI, .SWG_STEP_LO, .SWG_STEP_HI, .SWG_STEP2_LO, .SWG_STEP2_HI, .SWG_POS_I,
   .SWG_POS_J]

/-- The registers of the read-out receivers and dailies (R140, R141). -/
def regs05 : List Reg :=
  [.RFI_CTRL, .RFI_STATUS, .RFI_OVR_CNT, .TONE_COMMIT, .TONE_HO, .TONE_BUSY, .TONE_CFG, .TONE_WOFF, .TONE_WLEN,
   .TONE_STATUS, .TONE_FTW_LO, .TONE_FTW_HI, .TONE_POFF, .TONE_WBASE, .TONE_ROT, .TONE_TH0, .TONE_TH1, .TONE_TH2,
   .TONE_ACT_FTW_LO, .TONE_ACT_FTW_HI, .TONE_ACT_POFF, .TONE_ACT_WBASE, .TONE_ACT_ROT, .TONE_ACT_TH0, .TONE_ACT_TH1,
   .TONE_ACT_TH2, .TONE_RES_I, .TONE_RES_Q, .TONE_RES_U, .TONE_RES_FTG_LO, .TONE_RES_FTG_HI, .TONE_CMP_CFG,
   .TONE_CMP_TH, .TONE_CMP_HYS, .TONE_CMP_CNT, .TRK_CTRL, .TRK_STATUS, .TRK_FTW_LO, .TRK_FTW_HI, .TRK_POFF, .TRK_ROT,
   .TRK_CMP_CFG, .TRK_CMP_TH, .TRK_CMP_HYS, .TRK_CMP_CNT, .TRK_MEAN_I, .TRK_MEAN_Q, .DLY_CTRL, .DLY_STATUS,
   .DLY_DROP, .DLY_RSEQ]

/-- The registers of the kernel engines (R166). -/
def regs06 : List Reg :=
  [.KRN_CTRL, .KRN_STATUS, .KRN_PC, .KRN_PC_INIT, .KRN_VEC, .KRN_ATTN_CAUSE, .KRN_ATTN_SET, .KRN_ATTN_EN, .KRN_EVSEL,
   .KRN_IRQ_EN, .KRN_IN_CFG, .KRN_IN_STATUS, .KRN_IN_DROP, .KRN_IN_STALL, .KRN_DEC_STATUS, .KRN_MISS_CNT,
   .KRN_LATE_CNT, .KRN_OUTT_CNT, .KRN_LPEND, .KRN_KDL, .KRN_C, .KRN_A_I_LO, .KRN_A_I_HI, .KRN_A_Q_LO, .KRN_A_Q_HI,
   .KRN_P, .KRN_M, .KRN_L, .KRN_B, .KRN_LC0, .KRN_LS0, .KRN_LE0, .KRN_LC1, .KRN_LS1, .KRN_LE1, .KRN_IPC, .KRN_ISTAT,
   .KRN_KSTAT, .KRN_LSH, .KRN_BSH]

/-- The registers of the decision fabric (R196, R197). -/
def regs08 : List Reg :=
  [.FAB_STATUS, .FAB_OVWR_CNT, .FAB_LATE_CNT, .FAB_BCAST_CNT, .FAB_DFLT, .FAB_DFLT_ACT, .FAB_SLOT, .FAB_CL_STATUS,
   .FAB_CL_LATE_CNT, .FAB_VIEW_SEL, .FAB_VIEW_WORD, .FAB_VIEW_FTG_LO, .FAB_VIEW_FTG_HI, .FAB_RG_UP_CNT,
   .FAB_RG_DOWN_CNT, .FAB_RG_DISC_CNT]

/-- The registers of the take engines (R224, R225). -/
def regs09 : List Reg :=
  [.TK_CMD, .TK_STATUS, .TK_LAG, .TK_VAL_LO, .TK_VAL_HI, .TK_CARE_LO, .TK_CARE_HI, .TK_PRE, .TK_POST_LO, .TK_POST_HI,
   .TK_WIN_START_LO, .TK_WIN_START_HI, .TK_WIN_END_LO, .TK_WIN_END_HI, .TK_NTAKES, .TK_KWMAX, .TK_RING_BASE_LO,
   .TK_RING_BASE_HI, .TK_RING_SIZE, .TK_TLEN_LO, .TK_TLEN_HI, .TK_NSLOT, .TK_WR, .TK_TRIG, .TK_RD, .TK_MISSED,
   .TK_EV, .TK_EVIN, .TK_RAWCMP_CTRL, .TK_RAWCMP_TH, .TK_TERM, .TK_RED_CTRL, .TK_RED_SHARE, .TK_RED_CNT,
   .TK_MASK_CTRL, .TK_MASK_MS, .TK_MASK_ME, .TK_MASK_LO, .TK_MASK_HI, .TK_MASK_CNT, .STK_CMD, .STK_STATUS, .STK_HZN,
   .STK_HOLD, .STK_REGMASK, .STK_SNAP, .STK_WIN_START_LO, .STK_WIN_START_HI, .STK_WIN_END_LO, .STK_WIN_END_HI,
   .STK_NTAKES, .STK_RING_BASE_LO, .STK_RING_BASE_HI, .STK_RING_SIZE, .STK_WR, .STK_TRIG, .STK_RD, .STK_MISSED,
   .STK_LATE_CNT, .STK_EV, .STK_VAL, .STK_CARE, .STK_TERM]

/-- The registers of the calibration (R242, R243). -/
def regs10 : List Reg :=
  [.CAL_FRZ, .CAL_FRZ_REJ, .CAL_CL_CTRL, .ADC_STAT_CTRL, .ADC_STAT_STATUS, .ADC_S1_LO, .ADC_S1_HI, .ADC_S2_LO,
   .ADC_S2_HI, .ADC_C1_LO, .ADC_C1_HI, .ADC_C2_LO, .ADC_C2_HI, .ADC_OFS_TRIM, .ADC_GAIN_TRIM, .ADC_SKEW_TAP,
   .MON_CTRL, .MON_STATUS, .MON_VDC_LO, .MON_VDC_HI, .MON_VMS_LO, .MON_VMS_HI, .MON_CDC_LO, .MON_CDC_HI, .MON_CMS_LO,
   .MON_CMS_HI, .RFO_OFS_TRIM, .RFO_FS_TRIM, .RFO_SEG_TRIM, .BBO_OFS_TRIM, .BBO_FS_TRIM, .CAL_HIST_EN, .CAL_HIST_POP,
   .CAL_HIST_YI, .CAL_HIST_YQ, .CAL_HIST_DROP, .CAL_TILE_FRZ, .CAL_TIO_FRZ, .CAL_HUB_FRZ_REJ, .TIO_TAP,
   .CAL_BIAS_FRZ, .CAL_IC_FRZ, .CAL_BIAS_FRZ_REJ]

/-- The registers of the bias dies and converters (R260, R261). -/
def regs11 : List Reg :=
  [.BIAS_DIE_STATUS, .BIAS_DIE_CMD, .BIAS_MON_SEL, .BIAS_GO, .BIAS_STOP, .BIAS_CTRL, .BIAS_TGT, .BIAS_STEP,
   .BIAS_LIM_LO, .BIAS_LIM_HI, .BIAS_ACT, .BIAS_STATUS, .BIAS_TRIM, .IC_CTRL, .IC_PERIOD, .IC_SCAN, .IC_STATUS_CH,
   .IC_DATA_LO, .IC_DATA_HI, .IC_OFS_CORR, .IC_GAIN_CORR]

/-- The registers of the event router (R274, R275). -/
def regs12 : List Reg :=
  [.EV_STATUS, .EV_INJECT, .EV_WATCH, .EV_LOOP, .EV_WLINE, .EV_COINC, .EV_LOST, .PT_CTRL, .PT_PERIOD, .PT_PHASE,
   .PT_COUNT, .PT_CMD, .PT_STATUS, .PT_EMITTED, .TIO_CFG, .LEV_STATUS, .LEV_INJECT, .LEV_WATCH, .LEV_LOOP,
   .LEV_COINC, .LEV_LOST]

/-- The registers of the interrupt controller (R293-R295). -/
def regs13 : List Reg :=
  [.IC_STATUS, .IC_PEND, .IC_PEND_SET, .IC_PEND_CLR, .IC_EN, .IC_EN_SET, .IC_EN_CLR, .IC_INSVC, .IC_LINE,
   .IC_SRC_CFG, .IC_TGT_CLAIM, .IC_TGT_COMPLETE, .IC_TGT_FCLAIM, .IC_TGT_THRESH, .IC_TGT_MOD, .IC_TGT_IDLE,
   .IC_TGT_STATUS, .IC_TGT_SENT]

/-- The registers of the Grip, dailies rings and memory (R321-R324). -/
def regs14 : List Reg :=
  [.GRIP_STATUS, .GRIP_ABANDON, .GRIP_CH_CTRL, .GRIP_CH_CFG, .GRIP_CH_EVIN, .GRIP_CH_EVOUT, .GRIP_CH_HEAD_LO,
   .GRIP_CH_HEAD_HI, .GRIP_CH_BUDGET, .GRIP_CH_STATUS, .GRIP_CH_DESC_LO, .GRIP_CH_DESC_HI, .GRIP_CH_DONE,
   .GRIP_CH_PREFIX, .GRIP_CH_MOVED, .GRIP_CH_OPS, .GRIP_CH_UNITS, .GRIP_DLY_BASE_LO, .GRIP_DLY_BASE_HI,
   .GRIP_DLY_CFG, .GRIP_DLY_SIZE, .GRIP_DLY_WR, .GRIP_DLY_RD, .GRIP_DLY_STATUS, .MEM_STATUS, .MEM_CTRL, .MEM_CAP_LO,
   .MEM_CAP_HI, .MEM_SCRUB, .MEM_CH_STATUS, .MEM_CE_CNT, .MEM_UE_CNT, .MEM_ERR_INFO, .MEM_ERR_ADDR_LO,
   .MEM_ERR_ADDR_HI, .MT_CTRL, .MT_CMD, .MT_STATUS, .MT_N1, .MT_N2, .MT_POLY, .MT_SEED, .MT_BASE_LO, .MT_BASE_HI,
   .MT_STEP_LO, .MT_STEP_HI, .MT_STEP2_LO, .MT_STEP2_HI, .MT_ELEM, .MT_PAT_LO, .MT_PAT_HI, .MT_FAIL_CNT,
   .MT_FAIL_ADDR_LO, .MT_FAIL_ADDR_HI, .MT_PROG]

/-- The registers of the links (R343, R344). -/
def regs15 : List Reg :=
  [.LNK_CTRL, .LNK_STATUS, .LNK_PARTNER, .LNK_PSERIAL, .LNK_RT, .LNK_LAT, .LNK_CRC_CNT, .LNK_RETX_CNT,
   .LNK_TXOVWR_CNT, .LNK_EV_MERGE, .LNK_TSDROP, .LNK_IRQ_CAUSE, .LNK_IRQ_EN, .LNK_TS_ADJ, .LNK_EVTX, .LNK_EVRX,
   .LNK_MSG_CTRL, .LNK_MSG_STATUS, .LNK_TXMAP, .LNK_MODID, .LNK_UP, .LNK_RTMASK, .LNK_RXMAP, .LNK_RXTS, .LNK_TSTX,
   .LNK_TSTX_LINKS]

/-- The registers of the host interface (R366). -/
def regs16 : List Reg :=
  [.ID_DEVICE, .ID_VARIANT, .ID_SERIAL_LO, .ID_SERIAL_HI, .ID_FW, .FEAT_OFFER, .FEAT_ACCEPT, .FEAT_CTRL,
   .FEAT_STATUS, .GLB_STATUS, .CUT_CMD, .CUT_RMASK, .CUT_CMASK_LO, .CUT_CMASK_HI, .CUT_STATUS, .CUT_TIME,
   .CUT_RESULT, .HIF_BAR2_BASE_LO, .HIF_BAR2_BASE_HI, .HIF_STATUS, .HIF_LTR_BUSY, .HIF_LTR_IDLE, .HIF_LINK]

/-- The registers of the mailbox (R391). -/
def regs17 : List Reg :=
  [.MB_CTRL, .MB_STATUS, .OD_QUEUE]

/-- The registers of the network time (R410). -/
def regs18 : List Reg :=
  [.WT_CTRL, .WT_CMD, .WT_STATUS, .WT_NOW, .WT_NOW_FTG_LO, .WT_NOW_FTG_HI, .WT_INC_LO, .WT_INC_HI, .WT_STEP,
   .WT_EPOCH_FTG_LO, .WT_EPOCH_FTG_HI, .WT_EPOCH_WALL, .PTP_CFG, .PTP_STATUS, .PTP_MASTER_LO, .PTP_MASTER_HI,
   .PTP_MPORT, .PTP_OFS_LO, .PTP_OFS_HI, .PTP_MPD, .PTP_RATE, .PTP_SYNC_CNT, .PTP_ERR_CNT, .PTP_T, .PPS_CTRL,
   .PPS_STATUS, .PPS_IN_TS_LO, .PPS_IN_TS_HI, .PPS_IN_FTG_LO, .PPS_IN_FTG_HI]

/-- The registers of the power and health (R426). -/
def regs19 : List Reg :=
  [.PWR_STATUS, .PWR_SUP_FAULT, .PWR_ALERT_EN, .PWR_RRESET, .PWR_CRESET_LO, .PWR_CRESET_HI, .PWR_RSTAT, .PWR_WAKE,
   .PWR_CSTAT_LO, .PWR_CSTAT_HI, .PWR_TOL, .PWR_STATE, .THERM_TEMP, .THERM_WARN, .GAF_WD_CTRL, .GAF_WD_KICK,
   .GAF_WD_STATUS, .GAF_CMD, .WEAR_EQH, .WEAR_HOURS, .WEAR_CYCLES, .WEAR_EVENTS]

/-- Every register of the map, in the order of the spec's chapters. -/
def allRegs : List Reg :=
  regs01 ++
  regs02 ++
  regs03 ++
  regs04 ++
  regs05 ++
  regs06 ++
  regs08 ++
  regs09 ++
  regs10 ++
  regs11 ++
  regs12 ++
  regs13 ++
  regs14 ++
  regs15 ++
  regs16 ++
  regs17 ++
  regs18 ++
  regs19

end Sys2Proof.Machine
end

