-- ==== Sys2Proof/Machine/State.lean ====
section
/-!
DEFINITION. The state of the block as plain data: every register, memory, queue, counter, latch and mode the spec gives it,
and the queue of waiting commands. INVENTORY.md lists each piece with its rule and its value at reset.
-/

namespace Sys2Proof.Machine

/-- The three variants of the family (R1). -/
inductive Variant where
  | rq512 | rq256 | rq128
  deriving DecidableEq, Repr

/-- A map from numbers to `α` that lists only what was written, in rising order of the keys; the reader supplies what an
unlisted key holds. -/
abbrev Table (α : Type) := List (Nat × α)

/-- A latency-locked crossing (R23-R25): locked, faulted, and the cc at which its read pointer is to be released. -/
structure CrossingState where
  locked : Bool := false
  faulted : Bool := false
  releaseAt : Option Nat := none
  deriving DecidableEq, Repr

/-- `CLAP_STATUS.STATE` (R61). -/
inductive ClapState where
  | idle | armed | running
  deriving DecidableEq, Repr

/-- The clapper beside its registers (R42-R60). -/
structure ClapperState where
  state : ClapState := .idle
  /-- The cc of footage 0 of the running epoch. -/
  epoch : Option Nat := none
  /-- The sample index of the running epoch's edge, s0 (R47). -/
  s0 : Nat := 0
  /-- The cc A of the last ARM (R42). -/
  armAt : Nat := 0
  /-- The cc and sample index at which the new epoch's starting edge was registered (R43). -/
  regAt : Option (Nat × Nat) := none
  /-- The epoch pulse to emit at cc E = A + 16, and the cc E of the last one emitted (R45). -/
  pulseAt : Option Nat := none
  pulseBase : Option Nat := none
  /-- An emitted pulse whose return is to be ignored after DISARM (R42). -/
  ignoreEdge : Bool := false
  /-- The first edge of the check window that is open, and the number of edges in it (R47). -/
  winEdge : Option (Nat × Nat) := none
  winEdges : Nat := 0
  /-- The last check that was judged, k. -/
  lastCheck : Nat := 0
  /-- The end of the loop measurement in progress (R60). -/
  loopEnd : Option Nat := none
  /-- The cc of the next slew step of `CLAP_TAP_REF` (key 8) and of each tile tap (R56). -/
  slewAt : Table Nat := []
  /-- The cc at which the written `CLAP_TAP_IN` takes effect (R56). -/
  tapInAt : Option Nat := none
  /-- The regions muted by an unlocked tile PLL (R40). -/
  pllMuted : BitVec 16 := 0
  /-- The regions that wait to reload their footage counter at a passing check (R50). -/
  reloadWait : BitVec 16 := 0
  deriving DecidableEq, Repr

/-- A segment-table entry as a unit reads it (R68). -/
structure SegEntry where
  base : Nat := 0
  len : Nat := 0
  fmt : Nat := 0
  stream : Bool := false
  sid : Nat := 0
  loop : Nat := 0
  next : Nat := 0
  nextEn : Bool := false
  deriving DecidableEq, Repr

/-- Which of R108's items fixed a successor. -/
inductive SuccessorFrom where
  | branch | request | next
  deriving DecidableEq, Repr

/-- A successor that a unit has fixed for its splice: the entry's index, its copy (R70) and where it came from (R108). -/
structure Successor where
  index : Nat
  entry : SegEntry
  src : SuccessorFrom
  deriving DecidableEq, Repr

/-- A segment that a unit plays: the entry's index and copy, the device cc of its start, of its end and of the decision point
of its splice, the words consumed from the stream before it, whether it outputs zeros (R74, R77), whether it names a stream it
consumes, and the successor once fixed. -/
structure Playing where
  index : Nat
  entry : SegEntry
  start : Nat
  stop : Nat
  decideAt : Nat
  zero : Bool := false
  underran : Bool := false
  consumes : Bool := false
  decided : Bool := false
  succ : Option Successor := none
  from? : Option SuccessorFrom := none
  deriving DecidableEq, Repr

/-- What a time-queue entry of a unit does at its maturity (R102). -/
inductive UnitAction where
  | play (seg : Nat)
  | request (seg : Nat)
  | setFtw (v : BitVec 48)
  | setPoff (v : BitVec 32)
  | addPoff (v : BitVec 32)
  | setAmp (v : BitVec 16)
  | setSegbase (v : BitVec 12)
  | setGain (v : BitVec 16)
  | setOffset (v : BitVec 16)
  | commit
  deriving DecidableEq, Repr

/-- A unit: the segment it plays, its time queue with the footage maturity of each entry (R101), the splice request pending on
it with the footage at which it matured (R109), the branch target held for its splice (R108), and whether its last segment
ended in an underrun (R77). -/
structure UnitState where
  playing : Option Playing := none
  queue : List (Nat × UnitAction) := []
  request : Option (Nat × Nat) := none
  branch : Option Nat := none
  starved : Bool := false
  deriving DecidableEq, Repr

/-- A shadowed set (R87-R90) beside its registers: the cc at the end of which it became pending, the cc of the last commit and
of the last Script commit that named it, the cc of its last hand-over, and the SEGBASE in force before that. -/
structure SetState where
  pendAt : Option Nat := none
  commitAt : Option Nat := none
  scriptCommitAt : Option Nat := none
  handedAt : Option Nat := none
  prevSegbase : Nat := 0
  deriving DecidableEq, Repr

/-- A stream of a region (R76): the words appended and the words whose slot has passed since it was emptied, the unit that
consumes it, and the port writes that wait for room. -/
structure StreamState where
  written : Nat := 0
  read : Nat := 0
  consumer : Option Nat := none
  held : List (List Word) := []
  deriving DecidableEq, Repr

/-- A requester's staging buffer for segment-table entries (R69). -/
structure Staging where
  region : Nat := 0
  entry : Nat := 0
  w0 : Option Word := none
  w1 : Option Word := none
  w2 : Option Word := none
  deriving DecidableEq, Repr

/-- Units (key 20g + unit), shadowed sets (36g + set), streams (8n + s) and staging buffers (by requester). -/
structure PlayState where
  unit : Table UnitState := []
  set : Table SetState := []
  stream : Table StreamState := []
  staging : Table Staging := []
  deriving DecidableEq, Repr

/-- What an auxiliary-queue entry does at its maturity (R101, R102). -/
inductive AuxAction where
  | acq (tones : BitVec 16)
  | mark (chan : Nat) (lineage : Nat)
  deriving DecidableEq, Repr

/-- A BRD or BRE that waits for its decision point (R110): the instruction word, the program time T and the footage D. -/
structure BranchWait where
  word : BitVec 64
  t : Nat
  d : Nat
  deriving DecidableEq, Repr

/-- A Script engine beside its registers (R97): the stacks, the first cc in which it may issue, the branch it waits at, the
PLAY of a taken branch that waits for a queue entry, with the program time it is to be placed at, and the latch watched for a
late event with the last cc of the watch (R112). -/
structure EngineState where
  loops : List (Nat × Nat) := []
  calls : List Nat := []
  nextCc : Nat := 0
  wait : Option BranchWait := none
  queued : Option (Nat × Nat × Nat) := none
  watch : Option (Nat × Nat) := none
  aux : List (Nat × AuxAction) := []
  deriving DecidableEq, Repr

/-- The position of a sweep generator (R113): the step index and the LFSR state. -/
structure SweepState where
  step : Nat := 0
  lfsr : Nat := 1
  deriving DecidableEq, Repr

/-- Script engines (key 8g + e), sweep generators (4g + k), the low halves of program words held per requester and cluster
(64 · requester + g), and, for words written in a cc, what a fetch in that cc still receives (R98). -/
structure ScriptState where
  eng : Table EngineState := []
  swg : Table SweepState := []
  lowHalf : Table (Nat × Word) := []
  oldWord : Table (Nat × BitVec 64) := []
  deriving DecidableEq, Repr

/-- A window that a tone has accepted (R125, R126): its first decimated sample, its length, the fields read at the ACQ, and the
items of the tone set that a hand-over fixes for it (R124). -/
structure ToneWindow where
  m0 : Nat
  n : Nat
  box : Bool
  ishift : Nat
  wbase : Nat
  rot : Nat
  th0 : Nat
  th1 : Nat
  th2 : Nat
  deriving DecidableEq, Repr

/-- A comparator (R136): act, qp, the baseline accumulators, and for a tracker the sums over its open block (R138): samples
counted, sums of I and Q, the largest q, entries, and whether a sample of it overranged. -/
structure CmpState where
  act : Bool := false
  qp : Int := 0
  bxI : Int := 0
  bxQ : Int := 0
  blockN : Nat := 0
  sumI : Int := 0
  sumQ : Int := 0
  qmax : Option Int := none
  nent : Nat := 0
  ovr : Bool := false
  deriving DecidableEq, Repr

/-- A dailies writer (R138): the records of the open block with the cc the first was formed in, and the complete blocks that
wait for the Grip channel. -/
structure DailiesState where
  half : Option (List Byte × Nat) := none
  blocks : List (List Byte) := []
  deriving DecidableEq, Repr

/-- Read-out receivers: the windows of tone t of input g (key 16g + t), the tones that were offered an ACQ in a cc (same key),
comparators of tones (key 272g + t), trackers (272g + 16 + k) and raw channels (17408 + 4n + c), the dailies writers, and the weight words that were replaced, with the cc of the write (key
65536g + a). -/
structure ReadoutState where
  window : Table (List ToneWindow) := []
  offered : Table Nat := []
  cmp : Table CmpState := []
  dly : Table DailiesState := []
  /-- The histogram FIFO of each cluster: tone, YI and YQ, oldest first (R235). -/
  hist : Table (List (Nat × Word × Word)) := []
  weightLog : List (Nat × Nat × Word) := []
  deriving DecidableEq, Repr

/-- A write of a kernel instruction that has yet to land (R150): a C register, both parts of an accumulator, a flag, a register
by its code of R177, what RTI restores, or a pointer with the circular hand-over it makes (R160). -/
inductive KrnWrite where
  | c (j : Nat) (v : Word)
  | acc (a : Nat) (i q : BitVec 48)
  | flagN (b : Bool)
  | flagZ (b : Bool)
  | setGx
  | clearGx
  | ie (b : Bool)
  | rti (istat : Nat)
  | x (code : Nat) (v : Word)
  | step (i p : Nat) (handOver : Option (Nat × Nat))
  deriving DecidableEq, Repr

/-- A write in flight: the bundles that still issue before the one at whose end it lands, and whether the M slot made it. -/
structure InFlight where
  left : Nat
  mslot : Bool
  w : KrnWrite
  deriving DecidableEq, Repr

/-- A kernel engine beside its registers: writes in flight in the order of issue, the first cc in which it may issue, and the
cc in which an attention cause was last latched (R162). -/
structure KrnEngine where
  flight : List InFlight := []
  nextCc : Nat := 0
  latchedAt : Nat := 0
  deriving DecidableEq, Repr

/-- A window of a tone with DSRC = 1: the footage at which it becomes pending, and whether its deadline was reported (R156). -/
structure KrnWindow where
  at_ : Nat
  missed : Bool := false
  deriving DecidableEq, Repr

/-- Kernel engines (key g), their input streams with the cc each word entered in (key 2g + i), windows for DEC (16g + t), the
words put into OUTT with their footage while a take may use them (key g), the low halves of bundles held (R148), the bundles
(8192g + a) and data words (65536g + p) replaced in a cc, and the data words the engine wrote in a cc (R149). -/
structure KernelState where
  eng : Table KrnEngine := []
  inp : Table (List (Nat × Word)) := []
  pend : Table (List KrnWindow) := []
  outt : Table (List (Nat × Word)) := []
  lowHalf : Table (Nat × Word) := []
  oldBundle : Table (Nat × BitVec 64) := []
  oldData : Table (Nat × Word) := []
  wrote : Table Nat := []
  deriving DecidableEq, Repr

/-- A word that has entered the fabric at its source and is on its local paths (R186, R187): the slot, the 8-bit word, the
device cc x, how far the locked crossings of its source let it go (0 its cluster, 1 its region, 2 the hub), and whether it
passed a faulted crossing on the way (R192). -/
structure FabricWord where
  slot : Nat
  word : BitVec 8
  x : Nat
  reach : Nat
  loose : Bool := false
  deriving DecidableEq, Repr

/-- A word that the hub holds for its phase (R188, R189): the word, the cc h it was read in and the cc c it is sent in. -/
structure HubWord where
  slot : Nat
  word : BitVec 8
  h : Nat
  c : Nat
  deriving DecidableEq, Repr

/-- A word that the hub has sent: the sending cc, the clusters whose downlinks were locked, and those whose downlinks were
faulted (R186, R192). -/
structure SentWord where
  slot : Nat
  word : BitVec 8
  c : Nat
  legs : BitVec 64
  loose : BitVec 64 := 0
  deriving DecidableEq, Repr

/-- An entry of a slot view (R191): the last word delivered and the device cc and footage of its delivery. -/
structure ViewEntry where
  word : BitVec 8
  cc : Nat
  ftg : Nat
  deriving DecidableEq, Repr

/-- The decision fabric: words on local paths, words from link receivers with the cc the hub reads them in, words the hub
holds, words it has sent, the slot views (key 1280g + slot), the words emitted per slot (SEQ), the cc in which each cluster's
view was last cleared, default writes that wait for a check with the cc they landed in, and the defaults that were in force
until the cc of the last change. -/
structure FabricState where
  words : List FabricWord := []
  linkRx : List HubWord := []
  waiting : List HubWord := []
  sent : List SentWord := []
  view : Table ViewEntry := []
  seq : Table Nat := []
  clearedAt : Table Nat := []
  dflt : List (Nat × Word × Nat) := []
  dfltOld : Table (Nat × Word) := []
  deriving DecidableEq, Repr

/-- A take (R216-R223): its number, trigger cc F_T and position p, TOFF, the system take that triggered it, the terms at p, DEAD,
the FLAGS so far, violations, F_stop once it ended early, its STATUS, and whether its span is over. -/
structure Take where
  q : Nat
  ft : Nat
  p : Nat
  toff : Nat
  sysTake : Option Nat
  terms : Nat
  dead : Nat
  flags : Nat
  viol : Nat := 0
  fstop : Option Nat := none
  status : Nat := 0
  closed : Bool := false
  deriving DecidableEq, Repr

/-- An interval of a trigger source (R202): the source's key, the position a it was asserted at, and c once it is known. -/
structure TermInterval where
  src : Nat
  a : Nat
  c : Option Nat
  deriving DecidableEq, Repr

/-- A system trigger as a region sees it (R209): its position, u, the system take number and whether LINK was set. -/
structure SysMark where
  p : Nat
  u : Nat
  q : Nat
  link : Bool
  deriving DecidableEq, Repr

/-- A region take engine beside its registers: the cc it is armed from, whether a DISARM waits for the take in progress, the cc
of forces not yet evaluated, takes without a slate, F_T and end of the last take, the cc since which the ring is full, the full
cc outside the last span, the missed triggers and the late timestamps since the last slate, CFGGEN, term intervals, system
triggers seen, and the cc up to which `TK_RED_CNT` is settled. -/
structure TakeEngine where
  armAt : Nat := 0
  disarming : Bool := false
  forces : List Nat := []
  takes : List Take := []
  lastFt : Option Nat := none
  lastEnd : Nat := 0
  fullFrom : Option Nat := none
  deadFull : Nat := 0
  missed : Nat := 0
  cfggen : Nat := 0
  terms : List TermInterval := []
  marks : List SysMark := []
  redFrom : Nat := 0
  deriving DecidableEq, Repr

/-- A timestamp of a system term: the term, its value, the footage it arrives at, and whether it came over a link (R206). -/
structure SysStamp where
  t : Nat
  ts : Nat
  at_ : Nat
  link : Bool
  deriving DecidableEq, Repr

/-- A system take without a slate (R209). -/
structure SysTake where
  q : Nat
  x : Nat
  terms : Nat
  dead : Nat
  flags : Nat
  mask : Nat
  rmask : Nat := 0
  assertAt : Nat
  asserted : Bool := false
  deriving DecidableEq, Repr

/-- The system take engine beside its registers: the cc it is armed from, the end of the hold-off, timestamps under way, those
that joined their terms, the last trigger, ring-full accounting, missed triggers since the last slate, CFGGEN, and takes. -/
structure SysEngine where
  armAt : Nat := 0
  holdEnd : Nat := 0
  arriving : List SysStamp := []
  joined : List SysStamp := []
  lastX : Option Nat := none
  fullFrom : Option Nat := none
  deadFull : Nat := 0
  missed : Nat := 0
  cfggen : Nat := 0
  takes : List SysTake := []
  deriving DecidableEq, Repr

/-- Take engines of the regions and the system, the engines whose next slate carries DISCONT or LATE (bit 16 the system), and
the footage at which a condition of R223's flags held in a region (key 8n + flag). -/
structure TakeState where
  eng : Table TakeEngine := []
  sys : SysEngine := {}
  discont : BitVec 17 := 0
  lateNext : BitVec 17 := 0
  flagged : Table (List Nat) := []
  deriving DecidableEq, Repr

/-- A calibration unit beside its registers (R237, R238): the state its statistics give it (FROZEN and RUN are read on top of it),
LAST, the updates, the residuals as IEEE 754 singles, the updates in a row that met and that missed the limits, and the last
two cc in which a trim of it was written. -/
structure CalUnit where
  state : Nat := 0
  last : Nat := 0
  updates : Nat := 0
  residA : Nat := 0
  residB : Nat := 0
  residC : Nat := 0
  met : Nat := 0
  missed : Nat := 0
  trimAt : Option Nat := none
  trimBefore : Option Nat := none
  deriving DecidableEq, Repr

/-- A foreground run (R231): the unit, the KIND, and the updates or fits made in it. -/
structure CalRun where
  u : Nat
  kind : Nat
  steps : Nat := 0
  deriving DecidableEq, Repr

/-- A discriminator unit (R235, `CAL_DISC_FIT`): results taken from the histogram since its last fit and in all, the fit (ROT,
TH0-TH2, and μ0-μ2 as I, Q pairs), and the tone set that waits to be written again after a hand-over. -/
structure DiscUnit where
  fresh : Nat := 0
  total : Nat := 0
  rot : Nat := 0
  th : List Int := [0, 0, 0]
  mu : List (Int × Int) := [(0, 0), (0, 0), (0, 0)]
  retry : Option (Nat × List Int) := none
  deriving DecidableEq, Repr

/-- Calibration: units by U, the run in progress, `CAL_RUN_STATUS` (U and status of the last run), discriminators by tone, the cc
since which the statistics of a receiver and the monitor of a cluster gather, and freeze registers written in a cc with what
they were before it (R239). -/
structure CalState where
  unit : Table CalUnit := []
  run : Option CalRun := none
  lastU : Nat := 0
  lastStatus : Nat := 0
  disc : Table DiscUnit := []
  statFrom : Table Nat := []
  monFrom : Table Nat := []
  frzOld : Table (Nat × Word) := []
  deriving DecidableEq, Repr

/-- A ramp (R250): target, STEP and DIV as read at the GO, and the cc of its last tick. -/
structure Ramp where
  tgt : Int
  step : Nat
  div : Nat
  tick : Nat
  deriving DecidableEq, Repr

/-- An integrating converter beside its registers (R257): the cc of the event its settling began at or of its last result, and
whether it is still settling. -/
structure Converter where
  since : Nat := 0
  settling : Bool := true
  deriving DecidableEq, Repr

/-- The bias side: the staged outputs of each die as a mask, ramps by output 0-255, switch changes under way, converters 0-7, the
dies whose supplies are up, those in supply fault and with a link that went down (R246), the last codes of inputs 9 and 10 of each die (R254), and
the dies whose saved objects are still to be loaded (R246). -/
structure BiasState where
  stage : Table Nat := []
  ramp : Table Ramp := []
  conn : Table Nat := []
  ic : Table Converter := []
  supplyUp : BitVec 2 := 0
  supplyFault : BitVec 2 := 0
  linkFault : BitVec 2 := 0
  extref : Table Int := []
  loadDue : BitVec 2 := 3
  deriving DecidableEq, Repr

/-- An event on its way to, or past, the combining point of its channel (R265): the channel (0-127 for EV, 128 + 32n + c for
LEV c of region n), the cc at which it is at the combining point, and its lineage. A `loose` event has passed a faulted
crossing, so its latency may differ (R25, R267). -/
structure EventWord where
  chan : Nat
  cc : Nat
  lineage : Nat
  loose : Bool := false
  deriving DecidableEq, Repr

/-- The pending bit of a task input (R268): its lineage, and, for an input consumed in the cc after delivery, the cc at the
end of which it clears. -/
structure TaskBit where
  lineage : Nat := 0
  clearAt : Option Nat := none
  deriving DecidableEq, Repr

/-- The event router: events emitted and not yet combined, events combined and still being delivered, the pending bits of
the task inputs, the running pacing timers with the first cc in which they may emit, the end of each TIO output pulse, and the cc of the last
delivery to each input. -/
structure RouterState where
  emitted : List EventWord := []
  carried : List EventWord := []
  task : Table TaskBit := []
  ptRun : Table Nat := []
  tioEnd : Table Nat := []
  delivered : Table Nat := []
  deriving DecidableEq, Repr

/-- A Cut in progress (R361, R362): its time 0, whether it covers the module, and the clusters it covers. -/
structure CutState where
  start : Nat := 0
  whole : Bool := false
  clusters : BitVec 64 := 0
  regions : BitVec 16 := 0
  deriving DecidableEq, Repr

/-- The state of one interrupt source (R277). `line` is the condition of a level source and the latch of an edge source; `before` is the cc of the last change of the route with the target and class that are in force during it (R285). -/
structure IrqSource where
  line : Bool := false
  pend : Bool := false
  en : Bool := false
  insvc : Bool := false
  owner : Nat := 0
  target : Nat := 0
  fast : Bool := false
  before : Option (Nat × Nat × Bool) := none
  deriving DecidableEq, Repr

/-- What a host target holds beside its registers: ARMED (R288) and the cc at which its moderation timer expires (R289). -/
structure IrqTarget where
  armed : Bool := true
  timerEnd : Nat := 0
  deriving DecidableEq, Repr

/-- The MSI-X structures in BAR4 and the capability's bits (R353). Word 4v + k of the table is word k of vector v. -/
structure Msix where
  enable : Bool := false
  funcMask : Bool := false
  table : Table Word := []
  pba : BitVec 32 := 0
  /-- PME was signalled since the entry to D3hot (R291). -/
  pmeSignalled : Bool := false
  pmeEn : Bool := false
  pmeStatus : Bool := false
  deriving DecidableEq, Repr

/-- What a Gaffer core holds for its interrupt inputs (R287): its PC, the PC saved on a trap, its fast vector register, the
bank in force and the two banks of x1-x31. -/
structure GafferCore where
  pc : BitVec 64 := 0
  savedPc : BitVec 64 := 0
  fastVector : BitVec 64 := 0
  fastBank : Bool := false
  x : Table (BitVec 64) := []
  xFast : Table (BitVec 64) := []
  deriving DecidableEq, Repr

/-- The interrupt controller: sources 0-511, targets 0-35, MSI-X and the interrupt side of the Gaffer cores. -/
structure IrqState where
  src : Table IrqSource := []
  tgt : Table IrqTarget := []
  msix : Msix := {}
  core : Table GafferCore := []
  deriving DecidableEq, Repr

/-- A descriptor as fetched (R301): where it lies, its fields, whether it has begun (R304), how many of its bytes were issued, and
its completed operations as (offset, length). -/
structure GripDesc where
  id : Nat
  space : Nat
  addr : Nat
  src : Nat
  dst : Nat
  len : Nat
  ssp : Nat
  dsp : Nat
  bar : Bool
  pace : Bool
  irq : Bool
  evt : Bool
  last : Bool
  begun : Bool := false
  issued : Nat := 0
  done : List (Nat × Nat) := []
  deriving DecidableEq, Repr

/-- An operation in flight (R296): its descriptor, offset, length, and the cc it was issued in. -/
structure GripOp where
  id : Nat
  off : Nat
  len : Nat
  at_ : Nat
  deriving DecidableEq, Repr

/-- A Grip channel beside its registers: descriptors fetched and not completed, oldest first, the next one to fetch, how many were
fetched since the start or the last ring pass (R302, R307), the lineage of the event that started it (R264), operations in
flight, abandoned reads (R312), and the descriptor a stop reports (R309). -/
structure GripChannel where
  descs : List GripDesc := []
  nextAt : Option (Nat × Nat) := none
  count : Nat := 0
  lineage : Option Nat := none
  nextId : Nat := 0
  flight : List GripOp := []
  abandoned : Nat := 0
  stopped : Option GripDesc := none
  deriving DecidableEq, Repr

/-- The Grip: channels, and the hub channel served last (R297). -/
structure GripState where
  ch : Table GripChannel := []
  lastHub : Nat := 63
  deriving DecidableEq, Repr

/-- What the function's configuration space and link hold beside their registers (R346-R348, R365): PERST# asserted, the payload
and read request sizes in force, the Completion Timeout Value, LTR Mechanism Enable, the LTR value sent last with its cc (R356),
the size of BAR2, and the cc of the GO that was accepted (R358). -/
structure HostState where
  perst : Bool := false
  mps : Nat := 128
  mrrs : Nat := 512
  cto : Nat := 0
  ltrEn : Bool := false
  ltrSent : Option (Nat × Nat) := none
  bar2Log : Nat := 30
  goAt : Option Nat := none
  deriving DecidableEq, Repr

/-- A timestamp on its way through a link (R339): the cc it reaches the hub in, its channel and its value. -/
structure LinkStamp where
  h : Nat
  ch : Nat
  ts : Nat
  deriving DecidableEq, Repr

/-- A numbered superframe's bulk bytes (R341): BSEQ, start and end of a message, whether it is a management message. -/
structure BulkFrame where
  seq : Nat
  som : Bool
  eom : Bool
  mgmt : Bool
  bytes : List Byte
  deriving DecidableEq, Repr

/-- A link beside its registers (R326-R341): lanes locked; the cc of the next HELLO to send, of the last one received and of the
next PING; a PING without a PONG; a delay measured since the entry to TRAIN; superframes in a row that met R334; the cc of recent
errored superframes; the cc of the last superframe sent; the epoch edge announced last; timestamps that approach the hub and
those queued; bulk messages to send (management, each with what is left of it and whether it has begun; the host message and
what is left of it), the unacknowledged superframes, the one to send again next, the next BSEQ, the cc BACK last advanced in,
the next BSEQ expected, the bytes received of a host message, and the hop counts of the partner's last MAP. -/
structure LinkState where
  locked : Bool := false
  helloAt : Nat := 0
  helloRx : Nat := 0
  pingAt : Nat := 0
  pingOut : Bool := false
  measured : Bool := false
  good : Nat := 0
  errs : List Nat := []
  lastSend : Option Nat := none
  sentEpoch : Option Nat := none
  coming : List LinkStamp := []
  stamps : List LinkStamp := []
  mgmt : List (Bool × List Byte) := []
  msg : Option (List Byte) := none
  msgLeft : Option (List Byte) := none
  unacked : List BulkFrame := []
  resend : Option Nat := none
  nextSeq : Nat := 0
  ackAt : Nat := 0
  rxNext : Nat := 0
  rxLen : Nat := 0
  hops : List Nat := []
  deriving DecidableEq, Repr

/-- The links, and the words the hub has read in the last cc, as (slot, word, h), for the transmit maps (R335). -/
structure LinksState where
  link : Table LinkState := []
  reads : List (Nat × BitVec 8 × Nat) := []
  deriving DecidableEq, Repr

/-- A subscription (R385): the object, SEQ, period in ms, MODE, notifications so far, the value sent last and the cc of the next. -/
structure Subscription where
  index : Nat
  sub : Nat
  seq : Nat
  period : Nat
  mode : Nat
  count : Nat := 0
  last : Option (Nat × List Byte) := none
  nextAt : Nat
  deriving DecidableEq, Repr

/-- A session (R387-R389): network slots 1-32, mailbox k as 0x81 + k. `kept` holds the last answered SEQs with their responses. -/
structure Session where
  isOpen : Bool := false
  gen : Nat := 0
  netB : Bool := false
  addr : Nat := 0
  port : Nat := 0
  leaseEnd : Nat := 0
  kept : List (Nat × List Byte) := []
  subs : List Subscription := []
  deriving DecidableEq, Repr

/-- A request in the queue (R378): its session's slot (0 for a network HELLO), where it came from, and its frame. -/
structure Request where
  slot : Nat
  mailbox : Option Nat := none
  netB : Bool := false
  addr : Nat := 0
  port : Nat := 0
  frame : List Byte
  deriving DecidableEq, Repr

/-- A saved image (R376, R377): the registers and served values from which the saved objects' values are read (none for an image
that holds no values), the number of objects and the count of writes. -/
structure SavedImage where
  values : Option (Table Word × Table Nat)
  objects : Nat
  writes : Nat
  deriving DecidableEq, Repr

/-- The flash (R377): the two image areas, and the image being written with the area it goes to (false the first). -/
structure FlashState where
  areaA : Option SavedImage := none
  areaB : Option SavedImage := none
  saving : Option (Bool × SavedImage) := none
  deriving DecidableEq, Repr

/-- An entry of the error history (R393), with the cc from which its wall time is read. -/
structure ErrEntry where
  cc : Nat
  ftg : Nat
  status : Nat
  source : Nat
  deriving DecidableEq, Repr

/-- The object service: sessions by slot, the request queue, responses that wait for a RELEASE by mailbox, and the error history,
newest first. -/
structure OdState where
  sess : Table Session := []
  queue : List Request := []
  waiting : Table (List Byte) := []
  errs : List ErrEntry := []
  deriving DecidableEq, Repr

/-- A stretch of wall time (R394): from cc `cc`, in which W is `w`, on, W advances by `inc` in every cc. -/
structure WallSeg where
  cc : Nat := 0
  w : Nat := 0
  inc : Nat := 2 ^ 32
  deriving DecidableEq, Repr

/-- A clock that announces itself (R401): the data set of its Announce as the best master clock algorithm compares it, its
identity, portNumber and our port, the interval it announces at in cc, and the cc of the last two Announce messages. -/
structure ForeignClock where
  rank : List Nat
  clock : BitVec 64
  portNumber : BitVec 16
  netB : Bool
  interval : Nat
  last : Nat
  previous : Option Nat := none
  deriving DecidableEq, Repr

/-- A complete exchange (R403), times in units of 2^-16 ns. -/
structure Exchange where
  t1 : Int
  t2 : Int
  t3 : Int
  t4 : Int
  corrSync : Int
  corrDresp : Int
  deriving DecidableEq, Repr

/-- A domain beside its registers (R401-R405): the clocks heard, the master, the Sync that waits for its Follow_Up, the Sync
side of the exchange, the Delay_Req in flight, the first cc for the next one, the exchange that is complete, the exchanges
completed with the master, the integrator, the rate estimate, the exchanges in a row inside and outside the lock threshold, and
the cc since which the domain is not LOCKED. -/
structure PtpDomain where
  foreign : List ForeignClock := []
  master : Option ForeignClock := none
  sync : Option (Nat × Int × Int) := none
  forward : Option (Int × Int × Int) := none
  nextSeq : Nat := 0
  request : Option (Nat × Int) := none
  requestAt : Nat := 0
  exchange : Option Exchange := none
  exchanges : Nat := 0
  iAcc : Int := 0
  incRate : Int := 2 ^ 32
  inLock : Nat := 0
  outLock : Nat := 0
  unlockedSince : Nat := 0
  deriving DecidableEq, Repr

/-- Network time: the stretches of wall time (newest first), the cc whose W a step set, whether a step was ever made, a domain
switch that waits for its exchange, the domains, and the cc at which the PPS_OUT pulse in progress ends. -/
structure TimeState where
  segs : List WallSeg := [{}]
  steppedAt : Option Nat := none
  everStep : Bool := false
  switchTo : Option Nat := none
  ptp : Table PtpDomain := []
  ppsEnd : Option Nat := none
  deriving DecidableEq, Repr

/-- A region's power state (R415-R419): the state P0-P4 in force, the transition in progress with its target and the cc at
which it completes, the cc since which the region has been idle and, for P2 and deeper, idle with no level at its baseband outputs (R416), and an
exit asked for. -/
structure RegionPower where
  state : Nat := 0
  going : Option (Nat × Nat) := none
  idleSince : Nat := 0
  deepSince : Nat := 0
  wake : Bool := false
  /-- Entry to P4 waits until this cc for the Gaffer's confirmation (R419). -/
  imageBy : Option Nat := none
  deriving DecidableEq, Repr

/-- The wear log (R425): equivalent hours of each die in units of 2^-32 ms, ms in each 5 °C band (key 26 die + band), ms powered,
and the counts of power-ups, warning, critical and shutdown events, supply faults and watchdog expiries. -/
structure WearLog where
  eq : Table Nat := []
  hist : Table Nat := []
  ms : Nat := 0
  cycles : Nat := 0
  warn : Nat := 0
  crit : Nat := 0
  shdn : Nat := 0
  supflt : Nat := 0
  wd : Nat := 0
  deriving DecidableEq, Repr

/-- Power and health beside their registers (R412-R425): the rails outside their windows and those a hold waits for, as the bits
of `PWR_SUP_FAULT`; the logic side held by a supply fault or by thermal shutdown; the dies at their warning, critical and shutdown
limits; the wear log, its flash image and the cc of that; the cc each watchdog was restarted in and those of the expiries of
cores 0 and 1; the cc of the last sensor reading; the cc each reset in progress (region n at n, cluster g at 16 + g) began in. -/
structure HealthState where
  railBad : BitVec 16 := 0
  railHold : BitVec 16 := 0
  shutdown : Bool := false
  warnDies : BitVec 11 := 0
  critDies : BitVec 11 := 0
  shutDies : BitVec 11 := 0
  wear : WearLog := {}
  wearImage : WearLog := {}
  wearAt : Nat := 0
  wdKick : Table Nat := []
  expiries : List Nat := []
  sampledAt : Option Nat := none
  resets : Table Nat := []
  deriving DecidableEq, Repr

/-- The register that the JTAG instruction in force selects (R449). -/
inductive JtagRegister where
  | bypass | idcode | boundary
  deriving DecidableEq, Repr

/-- What the block presents to the outside, in the order in which it happens. -/
inductive Out where
  /-- The answer to a read access. -/
  | readData (who : Requester) (v : BitVec 64)
  /-- An access that the function answers with Unsupported Request (R354). -/
  | unsupported (who : Requester)
  /-- MSI-X vector v (R288), with the message address and data of its table entry. -/
  | msix (v : Nat) (addrLo addrHi data : Word)
  | pme
  /-- A pulse on CLAP_OUT with its rising edge at a sample index of a cc (R41, R45). -/
  | clapOut (cc : Nat) (sample : Nat)
  /-- The 4,096 pulses of a loop measurement begin on CLAP_LOOP_OUT (R60). -/
  | loopPulses (cc : Nat)
  /-- An output pulse on TIO[l] from a cc, of a width in cc (R272). -/
  | tioPulse (l : Nat) (cc : Nat) (width : Nat)
  /-- A marker drives TIO line l from a cc on (R92). -/
  | tioMarker (l : Nat) (cc : Nat)
  /-- The answer to a write of an object that starts something (R231). -/
  | objectAnswer (code : Nat)
  /-- An LTR message with its 13-bit value and scale (R356). -/
  | ltr (v : Nat)
  /-- Data returned from BAR2 (R352): the bytes, and whether the completion is poisoned. -/
  | bar2Data (bytes : List Byte) (poisoned : Bool)
  /-- A superframe leaves on link l, in the cc it begins in (R328). -/
  | superframe (l : Nat) (cc : Nat) (bytes : List Byte)
  /-- Link l sends the management message HELLO, BYE or PING (R331, R332). -/
  | linkHello (l : Nat) (mod : Nat) (serial : BitVec 64) (running : Bool)
  | linkBye (l : Nat)
  | linkPing (l : Nat)
  /-- A Burtis frame leaves on NET_A or NET_B to an address and port (R381). -/
  | burtis (netB : Bool) (addr port : Nat) (frame : List Byte)
  /-- PPS_OUT rises (R408). -/
  | ppsRise (cc : Nat)
  | ppsFall (cc : Nat)
  /-- A Delay_Req of domain d leaves on NET_A or NET_B (R401). -/
  | delayReq (d : Nat) (netB : Bool) (seq : Nat)
  /-- The bytes a PMBus (false) or SMBus sideband command returns, and a command that is not acknowledged (R448). -/
  | pmbus (smb : Bool) (bytes : List Byte)
  | pmbusNack (smb : Bool)
  /-- What the selected JTAG register captured (R449). -/
  | jtagCapture (bits : List Bool)
  deriving DecidableEq, Repr

/-- The whole state. A field of the block that software reads in a register and that is no view of one of the typed fields
has its home in `regs`, keyed by `regKey` (Machine/Ops.lean); an unlisted register holds its reset value. -/
structure State where
  /-- The variant of the module (R1); nothing writes it. -/
  variant : Variant := .rq512
  /-- The device cc. -/
  now : Nat := 0
  regs : Table Word := []
  /-- The read snapshots of R10 and R395: the high words a requester's 32-bit reads have captured, by requester and register. -/
  snap : Table Word := []
  /-- Every memory the spec gives the block, at the flat addresses of Machine/Ops.lean. -/
  mem : List Host.Cell := []
  xl : Table CrossingState := []
  clap : ClapperState := {}
  play : PlayState := {}
  scr : ScriptState := {}
  rd : ReadoutState := {}
  krn : KernelState := {}
  fab : FabricState := {}
  take : TakeState := {}
  cal : CalState := {}
  bias : BiasState := {}
  router : RouterState := {}
  cut : Option CutState := none
  irq : IrqState := {}
  grip : GripState := {}
  host : HostState := {}
  lnk : LinksState := {}
  /-- The values of the objects that the Gaffer serves, by index · 256 + subindex (R371); an unlisted one holds its default. -/
  served : Table Nat := []
  od : OdState := {}
  flash : FlashState := {}
  time : TimeState := {}
  power : Table RegionPower := []
  health : HealthState := {}
  jtag : JtagRegister := .bypass
  /-- The counter that the free values are taken at: the model's own field, not the spec's. -/
  freeCtr : Nat := 0
  /-- What the block has presented to the outside, oldest first. -/
  out : List Out := []
  /-- The commands that wait, first in, first out. -/
  pending : List Instr := []
  deriving DecidableEq, Repr

/-- Why a command can stop. -/
inductive Fault where
  /-- Raised by no command of this model: every command the spec gives has an effect. Kept because a step has three outcomes;
  safe, since nothing reaches it. -/
  | none
  deriving DecidableEq, Repr

/-- Why a command is refused by the model. -/
inductive Refusal where
  /-- Raised by an arm of `exec` that has no meaning yet, with the row's mnemonic: safe, nothing can be proved of it. -/
  | notModelled (mnemonic : String)
  deriving DecidableEq, Repr

/-- The block in its power-up state with nothing commanded: every register at the value its
table gives, every memory unwritten, every engine stopped, the queue empty (R365, R420, INVENTORY.md). -/
def State.reset : State := {}

end Sys2Proof.Machine
end

