-- ==== Sys2Proof/Machine/Ops.lean ====
section
/-!
DEFINITION. The operations every family is written over: bit fields, tables, the register file, memory, the variant's
counts, the accepted features, footage and wall time, free values and the outputs to the outside.
-/

namespace Sys2Proof.Machine

/-- The two outcomes a meaning can have in this model, and the refusal. -/
abbrev Result := Host.Outcome State Fault Refusal

/-! ### Bit fields -/

/-- Bits [hi:lo] of a word. -/
def bits (w : Word) (hi lo : Nat) : Nat := (w.toNat >>> lo) % 2 ^ (hi + 1 - lo)

/-- The mask of bits [hi:lo]. -/
def fieldMask (hi lo : Nat) : Nat := (2 ^ (hi + 1 - lo) - 1) <<< lo

/-- `w` with bits [hi:lo] set to the low bits of `v`. -/
def putBits (w : Word) (hi lo v : Nat) : Word :=
  (w &&& ~~~BitVec.ofNat 32 (fieldMask hi lo)) ||| BitVec.ofNat 32 ((v % 2 ^ (hi + 1 - lo)) <<< lo)

/-- Bit `i` of a number. -/
def bitOf (v i : Nat) : Bool := (v >>> i) % 2 == 1

/-- The numbers below `n` whose bit is set in `v`, rising. -/
def setBitsOf (n v : Nat) : List Nat := (List.range n).filter (bitOf v)

/-- The word with exactly the bits of the list set. -/
def bitMask (l : List Nat) : Nat := l.foldl (fun a i => a ||| 1 <<< i) 0

/-- The signed value of the low `n` bits of `v`. -/
def signed (n v : Nat) : Int :=
  if v % 2 ^ n < 2 ^ (n - 1) then (v % 2 ^ n : Nat) else (v % 2 ^ n : Nat) - (2 ^ n : Nat)

/-- The low `n` bits of an integer, two's complement. -/
def wrapTo (n : Nat) (x : Int) : Nat := (x % (2 ^ n : Nat)).toNat

/-- `x` limited to a signed `n`-bit range. -/
def saturate (n : Nat) (x : Int) : Int := max (-(2 ^ (n - 1) : Nat)) (min ((2 ^ (n - 1) : Nat) - 1) x)

/-- 1 or 0. -/
def b2n (b : Bool) : Nat := if b then 1 else 0

/-! ### Tables -/

/-- What a table lists for a key. -/
def tfind {α : Type} : Table α → Nat → Option α
  | [], _ => none
  | (k', v) :: t, k => if k' = k then some v else tfind t k

/-- What a key holds, `d` where the table lists nothing. -/
def tget {α : Type} (d : α) (t : Table α) (k : Nat) : α := (tfind t k).getD d

/-- The table with `k` listed as `v`, the keys still rising. -/
def tset {α : Type} : Table α → Nat → α → Table α
  | [], k, v => [(k, v)]
  | (k', v') :: t, k, v =>
    if k' = k then (k, v) :: t
    else if k < k' then (k, v) :: (k', v') :: t
    else (k', v') :: tset t k v

/-- The table without `k`. -/
def tdel {α : Type} (t : Table α) (k : Nat) : Table α := t.filter (fun p => p.1 != k)

/-! ### The variant (R1, R3, R4) -/

/-- Populated regions: 16, 8 or 4. -/
def Variant.regions : Variant → Nat
  | .rq512 => 16 | .rq256 => 8 | .rq128 => 4

/-- Populated tiles: 8, 4 or 2. -/
def Variant.tiles (v : Variant) : Nat := v.regions / 2

/-- Region `n` is populated (R1, R2). -/
def State.hasRegion (s : State) (n : Nat) : Bool := decide (n < s.variant.regions)

/-- Cluster `g` is populated (R14). -/
def State.hasCluster (s : State) (g : Nat) : Bool := s.hasRegion (g / 4)

/-! ### Registers -/

/-- The key of register `r`, instance `i`. The instance is the mixed-radix number of the register's repetition indices, the
outermost first: a cluster register's instance starts with the cluster g, a region register's with the region n. -/
def regKey (r : Reg) (i : Nat) : Nat := i * 1024 + r.ctorIdx

/-- The reset value of a register's tabled fields. -/
def fieldsReset (fs : List RegField) : Word :=
  BitVec.ofNat 32 (fs.foldl (fun a f => a ||| (f.reset % 2 ^ (f.hi + 1 - f.lo)) <<< f.lo) 0)

/-- The reset value of register `r`, instance `i`: the tables' Reset column, with the values that depend on the variant
(R26, R366), on the factory or the firmware (R60, R366) or on the instance (R410, R426). -/
def resetWord (v : Variant) (r : Reg) (i : Nat) : Word :=
  match r with
  | .XLOCK_STATUS => BitVec.ofNat 32 ((v.regions * 10) <<< 16)
  | .ID_DEVICE =>
    match v with
    | .rq512 => 0x00B1_0512 | .rq256 => 0x00B1_0256 | .rq128 => 0x00B1_0128
  | .ID_VARIANT => BitVec.ofNat 32 (v.tiles <<< 16 ||| (2 ^ v.regions - 1))
  | .ID_SERIAL_LO => Config.serial.extractLsb' 0 32
  | .ID_SERIAL_HI => Config.serial.extractLsb' 32 32
  | .ID_FW => Config.firmware.zeroExtend 32
  | .CLAP_LOOP_INT => Config.clapLoopInt
  | .FEAT_OFFER => if i = 0 then 0x0000_3FFF else 0
  | .PTP_CFG => BitVec.ofNat 32 (0x30F00 ||| i)
  | .GAF_WD_CTRL => if i < 2 then 0x0001_0064 else 0x0000_0064
  | .IC_TGT_STATUS => if i < 4 then 0 else 4
  | r => fieldsReset (regInfo r).fields

/-- The stored value of a register. -/
def State.reg (s : State) (r : Reg) (i : Nat := 0) : Word :=
  (tfind s.regs (regKey r i)).getD (resetWord s.variant r i)

/-- Store a register. -/
def State.setReg (s : State) (r : Reg) (i : Nat) (w : Word) : State :=
  { s with regs := tset s.regs (regKey r i) w }

/-- Bits [hi:lo] of a stored register. -/
def State.fld (s : State) (r : Reg) (i hi lo : Nat) : Nat := bits (s.reg r i) hi lo

/-- Bit `b` of a stored register. -/
def State.bit (s : State) (r : Reg) (i b : Nat) : Bool := bits (s.reg r i) b b == 1

/-- Store bits [hi:lo] of a register. -/
def State.setFld (s : State) (r : Reg) (i hi lo v : Nat) : State := s.setReg r i (putBits (s.reg r i) hi lo v)

/-- Store bit `b` of a register. -/
def State.setBit (s : State) (r : Reg) (i b : Nat) (v : Bool) : State := s.setFld r i b b (b2n v)

/-- A register of one 32-bit field as a number. -/
def State.regNat (s : State) (r : Reg) (i : Nat := 0) : Nat := (s.reg r i).toNat

/-- A 64-bit pair (R10), the low word first. -/
def State.pair (s : State) (lo hi : Reg) (i : Nat := 0) : Nat := s.regNat lo i + s.regNat hi i * 2 ^ 32

/-- Store a 64-bit pair. -/
def State.setPair (s : State) (lo hi : Reg) (i v : Nat) : State :=
  (s.setReg lo i (BitVec.ofNat 32 v)).setReg hi i (BitVec.ofNat 32 (v / 2 ^ 32))

/-- Add `k` to a counter that fills its register and saturates at 0xFFFF_FFFF. -/
def State.count (s : State) (r : Reg) (i : Nat := 0) (k : Nat := 1) : State :=
  s.setReg r i (BitVec.ofNat 32 (min 0xFFFF_FFFF (s.regNat r i + k)))

/-- Add `k` to a counter that fills its register and wraps. -/
def State.countWrap (s : State) (r : Reg) (i : Nat := 0) (k : Nat := 1) : State :=
  s.setReg r i (BitVec.ofNat 32 (s.regNat r i + k))

/-- Return register `r`, instance `i`, to its reset value. -/
def State.resetReg (s : State) (r : Reg) (i : Nat := 0) : State := { s with regs := tdel s.regs (regKey r i) }

/-- Return every instance of the registers `rs` with an instance that satisfies `p` to its reset value. -/
def State.resetRegs (s : State) (rs : List Reg) (p : Nat → Bool) : State :=
  let ks := rs.map Reg.ctorIdx
  { s with regs := s.regs.filter (fun e => !(ks.contains (e.1 % 1024) && p (e.1 / 1024))) }

/-! ### Memory: one sparse byte memory. Space 0 is attached DDR5, 1 the hub buffer SRAM, 2 the region-local memories
(region n's at n * 2^26), 3 the memories that BAR0 maps, 4 host memory as the device sees it. -/

/-- The flat address of byte `a` of a space. -/
def flat (space a : Nat) : Nat := space * 2 ^ 72 + a

/-- What a byte reads as when no write has reached it: 0 (notes/assumptions/4.md, DESIGN CHOICE). -/
def memDefault : Byte := 0

/-- The byte at a flat address. -/
def memGet : List Host.Cell → Nat → Byte
  | [], _ => memDefault
  | (a', v) :: m, a => if a' = a then v else memGet m a

/-- Memory with the byte at `a` written; a byte equal to what an unlisted address reads as is not listed. -/
def memSet : List Host.Cell → Nat → Byte → List Host.Cell
  | [], a, v => if v = memDefault then [] else [(a, v)]
  | (a', v') :: m, a, v =>
    if a' = a then (if v = memDefault then m else (a, v) :: m)
    else if a < a' then (if v = memDefault then (a', v') :: m else (a, v) :: (a', v') :: m)
    else (a', v') :: memSet m a v

/-- The canonical form of memory: addresses strictly rising, no entry equal to the default. -/
def Memory.wf : List Host.Cell → Bool
  | [] => true
  | [(_, v)] => v != memDefault
  | (a, v) :: (a', v') :: m => v != memDefault && decide (a < a') && Memory.wf ((a', v') :: m)

/-- The byte at address `a` of a space. -/
def State.byte (s : State) (space a : Nat) : Byte := memGet s.mem (flat space a)

/-- `n` bytes from address `a`, lowest first. -/
def State.bytes (s : State) (space a n : Nat) : List Byte := (List.range n).map (fun k => s.byte space (a + k))

/-- A little-endian number of `n` bytes (R9). -/
def State.le (s : State) (space a n : Nat) : Nat := (s.bytes space a n).foldr (fun b x => b.toNat + 256 * x) 0

/-- Write bytes from a flat address. -/
def memWriteAt : List Host.Cell → Nat → List Byte → List Host.Cell
  | m, _, [] => m
  | m, a, b :: bs => memWriteAt (memSet m a b) (a + 1) bs

/-- Write bytes from address `a` of a space. -/
def State.writeBytes (s : State) (space a : Nat) (bs : List Byte) : State :=
  { s with mem := memWriteAt s.mem (flat space a) bs }

/-- The `n` little-endian bytes of a number. -/
def leBytes : Nat → Nat → List Byte
  | 0, _ => []
  | n + 1, v => BitVec.ofNat 8 v :: leBytes n (v / 256)

/-- Write the little-endian `n` bytes of `v` (R9). -/
def State.writeLe (s : State) (space a n v : Nat) : State := s.writeBytes space a (leBytes n v)

/-- Forget every byte of flat addresses `[lo, hi)`: they read as unwritten again. -/
def State.eraseMem (s : State) (lo hi : Nat) : State :=
  { s with mem := s.mem.filter (fun c => !(decide (lo ≤ c.1) && decide (c.1 < hi))) }

/-! ### Free values and outputs -/

/-- The next free value, of `n` bits (notes/assumptions/7.md), and the state with the counter past it. -/
def State.free (s : State) (n : Nat) : Nat × State :=
  ((Config.free s.freeCtr).toNat % 2 ^ n, { s with freeCtr := s.freeCtr + 1 })

/-- Present `o` to the outside. -/
def State.emit (s : State) (o : Out) : State := { s with out := s.out ++ [o] }

/-! ### Features (R358, R359) -/

/-- A GO has been accepted. -/
def State.goAccepted (s : State) : Bool := s.bit .FEAT_CTRL 0 1

/-- `FEAT_CTRL.ACTIVE`: the accepted set is in force, from the cc after the GO on (R358). -/
def State.active (s : State) : Bool := s.goAccepted && s.host.goAt.all (fun t => decide (t < s.now))

/-- Feature bit `b` is in force: accepted, and ACTIVE = 1. -/
def State.feat (s : State) (b : Nat) : Bool := s.active && bitOf (s.regNat .FEAT_ACCEPT 0) b

/-! ### Time -/

/-- An epoch is running: footage counts (R44). -/
def State.epochRun (s : State) : Bool := s.clap.epoch.isSome

/-- Footage of the hub's cc (R51): 0 before the first epoch. -/
def State.ftg (s : State) : Nat :=
  match s.clap.epoch with
  | some e => s.now - e
  | none => 0

/-! ### Status codes (R35) -/

namespace Code
def ok : Nat := 0x00
def align : Nat := 0x01
def loop : Nat := 0x02
def budget : Nat := 0x03
def timeout : Nat := 0x04
def poison : Nat := 0x05
def armTooLong : Nat := 0x10
def overflow : Nat := 0x11
def maskStop : Nat := 0x12
def underrun : Nat := 0x20
def late : Nat := 0x21
def clip : Nat := 0x22
def busy : Nat := 0x30
def access : Nat := 0x31
def type : Nat := 0x32
def range : Nat := 0x33
def locked : Nat := 0x34
def unknownObject : Nat := 0x35
def cut : Nat := 0x40
def clapperSlip : Nat := 0x41
end Code

/-- Apply `f` for each element of a list, in order. -/
def State.forEach {α : Type} (l : List α) (f : α → State → State) (s : State) : State :=
  l.foldl (fun s x => f x s) s

end Sys2Proof.Machine
end

