-- ==== Sys2Proof/Machine/Idle.lean ====
section
/-!
DEFINITION. When a region is idle (R416), and the time it has been: what every event settles before it acts. With it the small
functions that say which region or cluster an address, a descriptor or a calibration unit belongs to.
-/

namespace Sys2Proof.Machine

/-! ### Where things lie -/

/-- The region whose window holds BAR0 address `a` (R28). -/
def windowRegion (a : Nat) : Option Nat := if a < 0x0800_0000 then none else some ((a - 0x0800_0000) / 0x0080_0000)

/-- The offset of `a` in its region window. -/
def windowOffset (a : Nat) : Nat := (a - 0x0800_0000) % 0x0080_0000

/-- The region an address of a space lies in. -/
def spaceRegion (sp a : Nat) : Option Nat :=
  if sp = 3 then some (a / 2 ^ 26) else if sp = 4 then windowRegion a else none

/-- A descriptor touches a region, or a cluster of it. -/
def GripDesc.touchesRegion (d : GripDesc) (n : Nat) : Bool := spaceRegion d.ssp d.src == some n || spaceRegion d.dsp d.dst == some n

/-- The classes of units. -/
inductive CalClass where
  | interleave | rfDac | bbDac | discriminator | tile | tio | bias | converter
  deriving DecidableEq, Repr

/-- The class of unit U and its number in the class. -/
def calClass (u : Nat) : Option (CalClass × Nat) :=
  if u < 0x40 then some (.interleave, u)
  else if u < 0xC0 then some (.rfDac, u - 0x40)
  else if u < 0x1C0 then some (.bbDac, u - 0xC0)
  else if 0x200 ≤ u ∧ u < 0x600 then some (.discriminator, u - 0x200)
  else if 0x600 ≤ u ∧ u < 0x608 then some (.tile, u - 0x600)
  else if 0x680 ≤ u ∧ u < 0x700 then some (.tio, u - 0x680)
  else if 0x700 ≤ u ∧ u < 0x800 then some (.bias, u - 0x700)
  else if 0x800 ≤ u ∧ u < 0x808 then some (.converter, u - 0x800)
  else none

/-- The cluster of a unit, if it belongs to one. -/
def calCluster (u : Nat) : Option Nat :=
  match calClass u with
  | some (.interleave, g) => some g
  | some (.rfDac, o) => some (o / 2)
  | some (.bbDac, b) => some (b / 4)
  | some (.discriminator, t) => some (t / 16)
  | _ => none

/-- The last decimated sample of a window. -/
def ToneWindow.m1 (w : ToneWindow) : Nat := w.m0 + w.n - 1

/-! ### Idle regions (R103, R127, R144, R416) -/

/-- The stored register `e` keeps region `n` from being idle: a Script or kernel engine that runs, a tracker or a comparator that
is enabled, a take engine ARMED or in CAPTURE, a reset in progress. -/
def busyReg (n : Nat) (e : Nat × Word) : Bool :=
  let i := e.1 / 1024
  let k := e.1 % 1024
  if k = Reg.ctorIdx .SCR_STATUS then i / 32 == n && bits e.2 0 0 == 1
  else if k = Reg.ctorIdx .KRN_STATUS then i / 4 == n && bits e.2 0 0 == 1
  else if k = Reg.ctorIdx .TRK_CTRL ∨ k = Reg.ctorIdx .TRK_CMP_CFG then i / 1024 == n && bits e.2 0 0 == 1
  else if k = Reg.ctorIdx .TONE_CMP_CFG then i / 64 == n && bits e.2 0 0 == 1
  else if k = Reg.ctorIdx .TK_RAWCMP_CTRL then i / 4 == n && bits e.2 0 0 == 1
  else if k = Reg.ctorIdx .TK_STATUS then i == n && (bits e.2 1 0 == 1 || bits e.2 1 0 == 2)
  else if k = Reg.ctorIdx .PWR_RSTAT then bitOf e.2.toNat n
  else if k = Reg.ctorIdx .PWR_CSTAT_LO then n < 8 && bits e.2 (4 * n + 3) (4 * n) != 0
  else if k = Reg.ctorIdx .PWR_CSTAT_HI then 8 ≤ n && bits e.2 (4 * n - 29) (4 * n - 32) != 0
  else false

/-- Region `n` is not idle (R416). -/
def State.regionBusy (s : State) (n : Nat) : Bool :=
  s.regs.any (busyReg n) ||
    s.play.unit.any (fun (e : Nat × UnitState) => e.1 / 80 == n && !e.2.queue.isEmpty) ||
    s.scr.eng.any (fun (e : Nat × EngineState) => e.1 / 32 == n && !e.2.aux.isEmpty) ||
    s.rd.window.any (fun (e : Nat × List ToneWindow) => e.1 / 64 == n && e.2.any (fun w => decide (s.ftg ≤ 2 * w.m1))) ||
    s.grip.ch.any (fun (e : Nat × GripChannel) => e.2.descs.any (fun d => d.touchesRegion n)) ||
    (match s.cal.run with
     | some r => calCluster r.u |>.any (fun g => g / 4 == n)
     | none => false)

/-- An unmuted baseband output of region `n` has an active OFFSET other than 0, which P2 would remove (R416). -/
def State.regionHoldsLevel (s : State) (n : Nat) : Bool :=
  (List.range 16).any (fun b => !s.bit .BBO_CTRL (16 * n + b) 0 && s.fld .BBO_ACT (16 * n + b) 31 16 != 0)

/-- The power state of region `n`. -/
def State.regionPower (s : State) (n : Nat) : RegionPower := tget {} s.power n

/-- Store the power state of region `n`. -/
def State.setPower (s : State) (n : Nat) (p : RegionPower) : State := { s with power := tset s.power n p }

/-- Regions that are not idle now have not been idle up to cc `t`. Without LTR_WAKE every region stays in P0 (R417). -/
def State.settleIdle (s : State) (t : Nat) : State :=
  if s.feat 9 then
    State.forEach (List.range s.variant.regions) (fun n s =>
      let p := s.regionPower n
      if s.regionBusy n then s.setPower n { p with idleSince := t, deepSince := t }
      else if s.regionHoldsLevel n then s.setPower n { p with deepSince := t }
      else s) s
  else s

end Sys2Proof.Machine
end

