-- ==== Sys2Proof/Machine/Interrupts.lean ====
section
/-!
DEFINITION. The interrupt controller's shared operations (R277-R292): sources becoming pending, claiming, completing, and the
messages of the host targets. Every block raises its sources through `raise` and `setLine`.
-/

namespace Sys2Proof.Machine

/-- Level sources (R278). -/
def levelSource (k : Nat) : Bool :=
  (decide (1 ≤ k) && decide (k ≤ 4)) || (decide (8 ≤ k) && decide (k ≤ 15)) || k == 154 || k == 155 ||
    (decide (496 ≤ k) && decide (k ≤ 500))

/-- The source exists: assigned by R33 and R34, and its region is populated (R3, R4). -/
def State.srcImpl (s : State) (k : Nat) : Bool :=
  if k = 0 ∨ k = 7 ∨ (24 ≤ k ∧ k ≤ 31) ∨ k = 159 ∨ (448 ≤ k ∧ k ≤ 463) ∨ 508 ≤ k then false
  else if 96 ≤ k ∧ k ≤ 111 then s.hasRegion (k - 96)
  else if 176 ≤ k ∧ k ≤ 431 then (k - 176) % 16 != 15 && s.hasRegion ((k - 176) / 16)
  else true

/-- The block of the source is live (R358, R359). -/
def State.srcLive (s : State) (k : Nat) : Bool :=
  if !s.active then (decide (1 ≤ k) && decide (k ≤ 6)) || k == 501
  else if 8 ≤ k ∧ k ≤ 23 then s.feat 12
  else if 128 ≤ k ∧ k ≤ 151 then s.feat 4
  else if k = 157 then s.feat 5
  else if 432 ≤ k ∧ k ≤ 434 then s.feat 3
  else if 440 ≤ k ∧ k ≤ 447 then s.feat 10
  else if 176 ≤ k ∧ k ≤ 431 ∧ 9 ≤ (k - 176) % 16 ∧ (k - 176) % 16 ≤ 12 then s.feat 2
  else true

/-- The state of source `k`. -/
def State.source (s : State) (k : Nat) : IrqSource := tget {} s.irq.src k

/-- Store the state of source `k`. -/
def State.setSource (s : State) (k : Nat) (x : IrqSource) : State :=
  { s with irq := { s.irq with src := tset s.irq.src k x } }

/-- One controller cycle for a source: PEND follows the line of a level source that is not in service (R279); the latch of
an edge source that is neither pending nor in service becomes PEND (R280). -/
def settle (k : Nat) (x : IrqSource) : IrqSource :=
  if x.insvc then x
  else if levelSource k then { x with pend := x.line }
  else if x.line && !x.pend then { x with pend := true, line := false }
  else x

/-- The fault sources of R33. -/
def faultSource (k : Nat) : Bool := decide (496 ≤ k) && decide (k ≤ 507)

/-- An entry of the error history, the newest first (R393). -/
def State.logError (s : State) (status source : Nat) : State :=
  let n := tget 0 s.served (256 * 0x1F01 + 1)
  { s with od := { s.od with errs := ({ cc := s.now, ftg := s.ftg, status, source } : ErrEntry) :: s.od.errs.take 31 }
           served := tset s.served (256 * 0x1F01 + 1) ((n + 1) % 2 ^ 32) }

/-- The status a fault source is recorded with; where the spec states none, a free value (notes/assumptions/65.md). -/
def State.logFault (s : State) (k : Nat) : State :=
  if !faultSource k then s
  else match k with
    | 501 => s.logError Code.cut k
    | 502 => s.logError Code.timeout k
    | 503 => s.logError Code.clapperSlip k
    | 505 => s.logError Code.poison k
    | _ => let f := s.free 8; f.2.logError f.1 k

/-- An occurrence of an edge source (R280). -/
def State.raise (s : State) (k : Nat) : State :=
  if s.srcImpl k && s.srcLive k && !levelSource k then
    (s.setSource k (settle k { s.source k with line := true })).logFault k
  else s

/-- The condition of a level source (R279). -/
def State.setLine (s : State) (k : Nat) (on : Bool) : State :=
  if levelSource k && s.srcImpl k && (!on || s.srcLive k) then
    let rises := on && !(s.source k).line
    let s := s.setSource k (settle k { s.source k with line := on })
    if rises then s.logFault k else s
  else s

/-- The first source of region `n` (R33). -/
def regionSource (n off : Nat) : Nat := 176 + 16 * n + off

/-- Advance by `dt` cc. A level source whose PEND was set by software falls back to its line (R279). -/
def State.pass (s : State) (dt : Nat) : State :=
  if dt = 0 then s
  else
    let s := s.settleIdle (s.now + dt)
    { s with
      now := s.now + dt
      irq := { s.irq with src := s.irq.src.map (fun p => if levelSource p.1 then (p.1, settle p.1 p.2) else p) } }

/-- The target and the class in force: a change takes effect in the cc after the write (R285). -/
def routeAt (now : Nat) (x : IrqSource) : Nat × Bool :=
  match x.before with
  | some (c, r) => if c = now then r else (x.target, x.fast)
  | none => (x.target, x.fast)

/-- The source can be claimed by target `t` in the given class (R277, R286). -/
def State.claimable (s : State) (t : Nat) (fast : Bool) (k : Nat) (x : IrqSource) : Bool :=
  x.pend && x.en && !x.insvc && (routeAt s.now x).1 == t && decide (s.fld .IC_TGT_THRESH t 8 0 < k) &&
    (((routeAt s.now x).2 && decide (t < 4)) == fast)

/-- The claimable source with the highest number (R282), 0 when there is none. -/
def State.bestClaim (s : State) (t : Nat) (fast : Bool) : Nat :=
  s.irq.src.foldl (fun b p => if s.claimable t fast p.1 p.2 then max b p.1 else b) 0

/-- Target `t`'s ARMED and moderation timer. -/
def State.target (s : State) (t : Nat) : IrqTarget := tget {} s.irq.tgt t

/-- Store target `t`. -/
def State.setTarget (s : State) (t : Nat) (x : IrqTarget) : State :=
  { s with irq := { s.irq with tgt := tset s.irq.tgt t x } }

/-- A claim by target `t` (R282): the source taken, and the state with it in service. -/
def State.claim (s : State) (t : Nat) (fast : Bool) : Nat × State :=
  let k := s.bestClaim t fast
  if k = 0 then (0, s)
  else (k + (if levelSource k then 512 else 0),
    s.setSource k { s.source k with pend := false, insvc := true, owner := t })

/-- A completion of source `k` on target `t` (R283). -/
def State.complete (s : State) (t k : Nat) : State :=
  let x := s.source k
  if k ≠ 0 ∧ x.insvc = true ∧ x.owner = t then
    s.setSource k (settle k { x with insvc := false, owner := 0 })
  else s.setBit .IC_TGT_STATUS t 4 true

/-- Every claim read and every completion of a host target sets ARMED (R288). -/
def State.rearm (s : State) (t : Nat) : State :=
  if t < 4 then s else s.setTarget t { s.target t with armed := true }

/-- The moderation timer of target `t` runs (R289). -/
def State.timerRuns (s : State) (t : Nat) : Bool := decide (s.now < (s.target t).timerEnd)

/-- The target has a claimable source and is ARMED. -/
def State.wantsMessage (s : State) (t : Nat) : Bool :=
  decide (4 ≤ t) && (s.target t).armed && s.bestClaim t false != 0

/-- A message is due on host target `t` (R288, R290). -/
def State.messageDue (s : State) (t : Nat) : Bool :=
  s.wantsMessage t && (!s.timerRuns t || s.bit .IC_TGT_IDLE t 0)

/-- A due message is held by the timer: `IC_TGT_STATUS.HELD` (R289). -/
def State.messageHeld (s : State) (t : Nat) : Bool :=
  s.wantsMessage t && s.timerRuns t && !s.bit .IC_TGT_IDLE t 0

/-- The function is in D3hot (R354). -/
def State.inD3hot (s : State) : Bool := s.fld .HIF_LINK 0 11 10 == 3

/-- Word `w` of the MSI-X table: an entry is masked until it is written (R353). -/
def State.msixWord (s : State) (w : Nat) : Word := tget (if w % 4 = 3 then 1 else 0) s.irq.msix.table w

/-- Vector `v` is masked, by its entry or by the function mask. -/
def State.vectorMasked (s : State) (v : Nat) : Bool := s.irq.msix.funcMask || bits (s.msixWord (4 * v + 3)) 0 0 == 1

/-- Store the MSI-X structures. -/
def State.setMsix (s : State) (m : Msix) : State := { s with irq := { s.irq with msix := m } }

/-- Vector `v`'s message leaves: its timer starts, IDLE clears and SENT counts (R288-R290). A link in L1 leaves L1 (R291). -/
def State.transmit (s : State) (v : Nat) : State :=
  let t := v + 4
  let i := s.fld .IC_TGT_MOD t 15 0
  let s := s.emit (.msix v (s.msixWord (4 * v)) (s.msixWord (4 * v + 1)) (s.msixWord (4 * v + 2)))
  let s := s.setTarget t { armed := false, timerEnd := if i = 0 then (s.target t).timerEnd else s.now + 1000 * i }
  ((s.setBit .IC_TGT_IDLE t 0 false).countWrap .IC_TGT_SENT t).setBit .HIF_LINK 0 12 false

/-- Set vector `v`'s pending bit and clear ARMED (R288, R353). -/
def State.holdPending (s : State) (v : Nat) : State :=
  let s := s.setMsix { s.irq.msix with pba := s.irq.msix.pba ||| BitVec.ofNat 32 (1 <<< v) }
  s.setTarget (v + 4) { s.target (v + 4) with armed := false }

/-- PME instead of a message in D3hot, once per entry to D3hot (R291, R357). -/
def State.signalPme (s : State) (t : Nat) : State :=
  if s.irq.msix.pmeSignalled then s.setBit .IC_TGT_STATUS t 5 true
  else
    let s := s.setMsix { s.irq.msix with pmeSignalled := true, pmeStatus := true }
    let s := s.setBit .IC_TGT_STATUS t 5 true
    if s.irq.msix.pmeEn then s.emit .pme else s

/-- The due message of vector `v` (R288, R291, R353). -/
def State.sendMessage (s : State) (v : Nat) : State :=
  if s.inD3hot then s.signalPme (v + 4)
  else if !s.irq.msix.enable || s.vectorMasked v then s.holdPending v
  else s.transmit v

/-- Send vector `v`'s pending message if nothing masks it any more (R288, R353). -/
def State.releasePending (s : State) (v : Nat) : State :=
  if s.irq.msix.enable && !s.vectorMasked v && bitOf s.irq.msix.pba.toNat v then
    (s.setMsix { s.irq.msix with pba := s.irq.msix.pba &&& ~~~BitVec.ofNat 32 (1 <<< v) }).transmit v
  else s

/-- Gaffer core `k`. -/
def State.core (s : State) (k : Nat) : GafferCore := tget {} s.irq.core k

/-- Store Gaffer core `k`. -/
def State.setCore (s : State) (k : Nat) (x : GafferCore) : State :=
  { s with irq := { s.irq with core := tset s.irq.core k x } }

/-- The logic side is held as under PERST#: by PERST#, by a supply fault other than a tile's (R414) or by thermal shutdown
(R422). -/
def State.held (s : State) : Bool := s.host.perst || s.health.shutdown || (s.health.railHold &&& 0xFC03) != 0

/-- Cores 2 and 3 are held in reset without USER_CORES (R359); cores 0 and 1 while WD_HOLD is set (R424). -/
def State.coreRuns (s : State) (k : Nat) : Bool :=
  !s.held && (if k < 2 then !s.bit .PWR_STATUS 0 4 else s.feat 11)

/-- Source `k` leaves service and is re-sampled (R292, R283). -/
def leaveService (k : Nat) (x : IrqSource) : IrqSource := settle k { x with insvc := false, owner := 0 }

/-- Reset of Gaffer core `k`, as the controller sees it (R292). -/
def State.irqCoreReset (s : State) (k : Nat) : State :=
  { s with irq := { s.irq with
      src := s.irq.src.map (fun p => if p.2.insvc && p.2.owner == k then (p.1, leaveService p.1 p.2) else p)
      core := tdel s.irq.core k } }

/-- FLR, as the controller sees it (R292, R353): the host side returns to its power-up state. A level source keeps the
condition its block holds. -/
def State.irqFlr (s : State) : State :=
  let f (p : Nat × IrqSource) : Nat × IrqSource :=
    if 4 ≤ p.2.target then
      (p.1, settle p.1 { line := levelSource p.1 && p.2.line })
    else if p.2.insvc && decide (4 ≤ p.2.owner) then (p.1, leaveService p.1 p.2)
    else p
  let s := { s with irq := { s.irq with
      src := s.irq.src.map f
      tgt := []
      msix := { pmeEn := s.irq.msix.pmeEn } } }
  s.resetRegs [.IC_TGT_THRESH, .IC_TGT_MOD, .IC_TGT_IDLE, .IC_TGT_STATUS, .IC_TGT_SENT] (fun t => decide (4 ≤ t))

end Sys2Proof.Machine
end

