-- ==== Sys2Proof/Machine/Access.lean ====
section
/-!
DEFINITION. What stands between a requester and a register: the function's power state (R354), the population of the region
(R3), the accepted features (R358, R359) and the region's power state (R31). Every command that software sends goes through
`access`.
-/

namespace Sys2Proof.Machine

/-- The slot views of the clusters that satisfy `p` are cleared. -/
def State.clearViews (s : State) (p : Nat → Bool) : State :=
  { s with fab := { s.fab with
      view := s.fab.view.filter (fun (e : Nat × ViewEntry) => !p (e.1 / 1280))
      clearedAt := ((List.range 64).filter p).foldl (fun t g => tset t g s.now) s.fab.clearedAt } }

/-- `PWR_STATE.ENTRIES` counts a completed transition of region `n`, and the region's source is raised (R419). -/
def State.countTransition (s : State) (n : Nat) : State :=
  (s.setFld .PWR_STATE n 31 16 (s.fld .PWR_STATE n 31 16 + 1)).raise (regionSource n 14)

/-- Region `n` arrives in P0: it is idle from now on at the earliest, and the views of its clusters are cleared (R191, R419). -/
def State.arriveRun (s : State) (n : Nat) : State :=
  ((s.setPower n { idleSince := s.now, deepSince := s.now }).clearViews (fun g => g / 4 == n)).countTransition n

/-- An access to a region in P1 or P2 completes once the region is back in P0 (R31, R418). -/
def State.wakeShallow (s : State) (n : Nat) : State :=
  if (s.regionPower n).state = 1 ∨ (s.regionPower n).state = 2 then s.arriveRun n else s

/-- The feature bits beside BASE that govern BAR0 address `a` (R359). -/
def featuresAt (a : Nat) : List Nat :=
  if a < 0x0800_0000 then
    if 0x200 ≤ a ∧ a < 0x208 then [8]
    else if 0x14000 ≤ a ∧ a < 0x14900 ∧ (a % 0x40 = 0x10 ∨ a % 0x40 = 0x14) then [6]
    else if 0x30300 ≤ a ∧ a < 0x30400 then [5]
    else if 0x51000 ≤ a ∧ a < 0x51400 then [10]
    else if 0x60000 ≤ a ∧ a < 0x61800 ∧ (a % 0x100 = 0x60 ∨ a % 0x100 = 0x64) then [4, 13]
    else if 0x64000 ≤ a ∧ a < 0x67000 then [4, 13]
    else if 0x60000 ≤ a ∧ a < 0x68000 ∨ 0x6C000 ≤ a ∧ a < 0x70000 then [4]
    else if 0x70000 ≤ a ∧ a < 0x80000 then [3]
    else if 0x90000 ≤ a ∧ a < 0xB0000 then [12]
    else []
  else
    let o := windowOffset a
    if o < 0x100000 ∨ 0x500000 ≤ o then []
    else
      let c := o % 0x100000
      if 0x6000 ≤ c ∧ c < 0x7000 ∨ 0x10000 ≤ c ∧ c < 0x20000 ∨ 0x80000 ≤ c ∧ c < 0xC0000 then [2]
      else if 0x8000 ≤ c ∧ c < 0xC000 then [1]
      else []

/-- The blocks that are live before ACTIVE = 1: identity, features, global status, Cut, and the mailbox (R358). -/
def liveBeforeGo (a : Nat) : Bool := decide (a < 0x200) || (decide (0xB0000 ≤ a) && decide (a < 0xC0000))

/-- What becomes of an access to BAR0 address `a`. -/
inductive Gate where
  | open | unsupported | absent | notLive | asleep
  deriving DecidableEq, Repr

/-- The gate of an access (R3, R30, R31, R354, R358, R359). -/
def State.gate (s : State) (who : Requester) (a : Nat) : Gate :=
  if who = .host ∧ s.inD3hot = true then .unsupported
  else
    match windowRegion a with
    | some n =>
      if !s.hasRegion n then .absent
      else if !s.active || !(featuresAt a).all s.feat then .notLive
      else if 3 ≤ (s.regionPower n).state ∧ 0x10000 ≤ windowOffset a then .asleep
      else .open
    | none =>
      if 0xC0000 ≤ a then .open
      else if liveBeforeGo a then .open
      else if !s.active || !(featuresAt a).all s.feat then .notLive
      else .open

/-- The requester can make an access at all: not while the logic side is held, nor a Gaffer core held in reset (R359, R424). -/
def State.canAccess (s : State) : Requester → Bool
  | .host => !s.held
  | .gaffer k => s.coreRuns k

/-- The PCIe link leaves L1 (R355). -/
def State.leaveL1 (s : State) : State := if s.bit .HIF_LINK 0 12 then s.setBit .HIF_LINK 0 12 false else s

/-- An access of the host is traffic on the link. -/
def State.onLink (s : State) (who : Requester) : State := if who = .host then s.leaveL1 else s

/-- The effects of an access that passes: the region returns from P1 or P2 (R31), the link leaves L1. -/
def State.throughOpen (s : State) (who : Requester) (a : Nat) : State :=
  match windowRegion a with
  | some n => (s.onLink who).wakeShallow n
  | none => s.onLink who

/-- The effects of the gate itself: NOGO, DOZE_ACCESS, Unsupported Request, and those of an access that passes. -/
def State.throughGate (s : State) (who : Requester) (a : Nat) : Gate → State
  | .open => s.throughOpen who a
  | .unsupported => s.emit (.unsupported who)
  | .absent => s
  | .notLive => s.setBit .GLB_STATUS 0 1 true
  | .asleep => s.setBit .GLB_STATUS 0 0 true

/-- A write by `who` to BAR0 address `a` whose effect is `op`. -/
def State.access (s : State) (who : Requester) (a : Nat) (op : State → State) : State :=
  if !s.canAccess who then s
  else
    match s.gate who a with
    | .open => op (s.throughOpen who a)
    | g => s.throughGate who a g

/-- A read by `who` of BAR0 address `a` that `op` answers; an access that does not pass reads 0. -/
def State.accessRead (s : State) (who : Requester) (a : Nat) (op : State → BitVec 64 × State) : State :=
  if !s.canAccess who then s
  else
    match s.gate who a with
    | .open => let r := op (s.throughOpen who a); r.2.emit (.readData who r.1)
    | .unsupported => s.throughGate who a .unsupported
    | g => (s.throughGate who a g).emit (.readData who 0)

/-- The byte offset of instance `i` of a register with repetition `dims`. -/
def instOffset : List (Nat × Nat) → Nat → Nat
  | [], _ => 0
  | (_, st) :: ds, i =>
    let m := (ds.map Prod.fst).foldl (· * ·) 1
    st * (i / m) + instOffset ds (i % m)

/-- The BAR0 address of register `r`, instance `i`. -/
def regAddr (r : Reg) (i : Nat) : Nat := (regInfo r).base + instOffset (regInfo r).dims i

/-- The number of a requester's buffer: the host 0, Gaffer core k at k + 1. -/
def requesterIdx : Requester → Nat
  | .host => 0
  | .gaffer k => k.val + 1

/-- The key of requester `who`'s snapshot for a high word (R10, R395). -/
def snapKey (who : Requester) (r : Reg) (i : Nat) : Nat := requesterIdx who * 2 ^ 64 + regKey r i

/-- Capture a word that the requester's next 32-bit read of register `r` returns (R10). -/
def State.capture (s : State) (who : Requester) (r : Reg) (i : Nat) (w : Word) : State :=
  { s with snap := tset s.snap (snapKey who r i) w }

/-- A write by `who` to register `r`, instance `i`, whose effect is `op`. -/
def State.regAccess (s : State) (who : Requester) (r : Reg) (i : Nat) (op : State → State) : State :=
  s.access who (regAddr r i) op

/-- The same for a read. -/
def State.regAccessRead (s : State) (who : Requester) (r : Reg) (i : Nat) (op : State → BitVec 64 × State) : State :=
  s.accessRead who (regAddr r i) op

/-! ### Freeze bits (R239) -/

/-- The freeze bit of calibration unit `u` (R242, R243). -/
def frzHome (u : Nat) : Option (Reg × Nat × Nat) :=
  if u < 0x40 then some (.CAL_FRZ, u, 0)
  else if u < 0xC0 then some (.CAL_FRZ, (u - 0x40) / 2, 1 + u % 2)
  else if u < 0x1C0 then some (.CAL_FRZ, (u - 0xC0) / 4, 3 + u % 4)
  else if 0x200 ≤ u ∧ u < 0x600 then some (.CAL_FRZ, (u - 0x200) / 16, 16 + u % 16)
  else if 0x600 ≤ u ∧ u < 0x608 then some (.CAL_TILE_FRZ, 0, u % 8)
  else if 0x680 ≤ u ∧ u < 0x700 then some (.CAL_TIO_FRZ, (u - 0x680) / 32, u % 32)
  else if 0x700 ≤ u ∧ u < 0x800 then some (.CAL_BIAS_FRZ, (u - 0x700) / 32, u % 32)
  else if 0x800 ≤ u ∧ u < 0x808 then some (.CAL_IC_FRZ, (u - 0x800) / 4, u % 4)
  else none

/-- The FRZ_REJ counter of unit `u`'s block. -/
def rejHome (u : Nat) : Reg × Nat :=
  match frzHome u with
  | some (.CAL_FRZ, g, _) => (.CAL_FRZ_REJ, g)
  | some (.CAL_BIAS_FRZ, i, _) => (.CAL_BIAS_FRZ_REJ, i / 4)
  | some (.CAL_IC_FRZ, i, _) => (.CAL_BIAS_FRZ_REJ, i)
  | _ => (.CAL_HUB_FRZ_REJ, 0)

/-- A freeze register as it acts in this cc: a write takes effect from the cc after it. -/
def State.frzWord (s : State) (r : Reg) (i : Nat) : Word :=
  match tfind s.cal.frzOld (regKey r i) with
  | some (cc, old) => if cc = s.now then old else s.reg r i
  | none => s.reg r i

/-- Unit `u` is frozen in this cc. -/
def State.frozen (s : State) (u : Nat) : Bool :=
  match frzHome u with
  | some (r, i, b) => bitOf (s.frzWord r i).toNat b
  | none => false

/-- Unit `u`. -/
def State.calUnit (s : State) (u : Nat) : CalUnit := tget {} s.cal.unit u

/-- Store unit `u`. -/
def State.setCalUnit (s : State) (u : Nat) (x : CalUnit) : State := { s with cal := { s.cal with unit := tset s.cal.unit u x } }

/-- A trim of unit `u` is written in this cc (R232). -/
def State.trimWritten (s : State) (u : Nat) : State :=
  let x := s.calUnit u
  if x.trimAt = some s.now then s else s.setCalUnit u { x with trimAt := some s.now, trimBefore := x.trimAt }

/-- A write by `who` to a trim, tap or tone-set register of unit `u` whose effect is `op`: cores 0 and 1 are discarded while the
unit is frozen (R239). -/
def State.trimGate (s : State) (who : Requester) (u : Nat) (op : State → State) : State :=
  let servo := match who with
    | .gaffer k => decide (k.val ≤ 1)
    | .host => false
  if servo && s.frozen u then s.count (rejHome u).1 (rejHome u).2 else (op s).trimWritten u

end Sys2Proof.Machine
end

