-- ==== Sys2Proof/Machine/InterruptRows.lean ====
section
/-!
DEFINITION. The interrupt controller's commands (R279-R291, R293-R295, R353).
-/

namespace Sys2Proof.Machine

/-- The condition of a level source, where a register of the block holds it: the mailbox response (R392) and the
converters' results (R258). `none` where the outside holds it. -/
def State.levelCondition (s : State) (k : Nat) : Option Bool :=
  if 1 ≤ k ∧ k ≤ 4 then some (s.bit .MB_STATUS (k - 1) 1)
  else if 8 ≤ k ∧ k ≤ 15 then some (s.bit .IC_DATA_LO (k - 8) 28)
  else none

/-- IRQ_EDGE (R280): an edge of a source sets its latch. Sources 464-495 are set only through IC_PEND_SET (R278). -/
def irqEdgeOp (src : Nat) (s : State) : State := if 464 ≤ src ∧ src ≤ 495 then s else s.raise src

def execIrqEdge (dt src : Nat) (s : State) : Result := .next (irqEdgeOp src (s.pass dt))

/-- IRQ_LEVEL_CHANGE (R279). A source whose condition the block holds follows that condition. -/
def irqLevelOp (src : Nat) (level : Bool) (s : State) : State :=
  match s.levelCondition src with
  | some c => if c = level then s.setLine src level else s
  | none => s.setLine src level

def execIrqLevelChange (dt src : Nat) (level : Bool) (s : State) : Result := .next (irqLevelOp src level (s.pass dt))

/-- A read of `IC_TGT_CLAIM` (R282, R288). -/
def claimOp (t : Nat) (s : State) : BitVec 64 × State :=
  let c := s.claim t false
  (BitVec.ofNat 64 c.1, c.2.rearm t)

def execIrqClaim (who : Requester) (t : Nat) (s : State) : Result :=
  .next (s.regAccessRead who .IC_TGT_CLAIM t (claimOp t))

/-- A read of `IC_TGT_FCLAIM`: the fast class, on targets 0-3; 0 on targets 4-35 (R286, R295). -/
def fclaimOp (t : Nat) (s : State) : BitVec 64 × State :=
  if t < 4 then let c := s.claim t true; (BitVec.ofNat 64 c.1, c.2) else (0, s)

def execIrqFclaim (who : Requester) (t : Nat) (s : State) : Result :=
  .next (s.regAccessRead who .IC_TGT_FCLAIM t (fclaimOp t))

/-- A write of `IC_TGT_COMPLETE` (R283, R288). -/
def completeOp (t : Nat) (v : Word) (s : State) : State := (s.complete t (bits v 8 0)).rearm t

def execIrqComplete (who : Requester) (t : Nat) (v : Word) (s : State) : Result :=
  .next (s.regAccess who .IC_TGT_COMPLETE t (completeOp t v))

/-- Apply `f` to each source of bitmap word `j` that exists and whose bit is set (R293). -/
def State.forSources (s : State) (j : Nat) (w : Word) (f : Nat → State → State) : State :=
  State.forEach ((setBitsOf 32 w.toNat).map (32 * j + ·)) (fun k s => if s.srcImpl k then f k s else s) s

/-- IC_PEND_SET for one source (R279, R280). -/
def pendSetOne (k : Nat) (s : State) : State :=
  if !s.srcLive k then s
  else if levelSource k then
    if (s.source k).insvc then s else s.setSource k { s.source k with pend := true }
  else s.raise k

def icPendSetOp (j : Nat) (w : Word) (s : State) : State := s.forSources j w pendSetOne

def execIcPendSet (who : Requester) (j : Nat) (w : Word) (s : State) : Result :=
  .next (s.regAccess who .IC_PEND_SET j (icPendSetOp j w))

/-- IC_PEND_CLR for one source (R285): a latched occurrence, or a level that holds, pends again. -/
def pendClrOne (k : Nat) (s : State) : State := s.setSource k (settle k { s.source k with pend := false })

def icPendClrOp (j : Nat) (w : Word) (s : State) : State := s.forSources j w pendClrOne

def execIcPendClr (who : Requester) (j : Nat) (w : Word) (s : State) : Result :=
  .next (s.regAccess who .IC_PEND_CLR j (icPendClrOp j w))

def icEnSetOp (j : Nat) (w : Word) (s : State) : State :=
  s.forSources j w (fun k s => s.setSource k { s.source k with en := true })

def execIcEnSet (who : Requester) (j : Nat) (w : Word) (s : State) : Result :=
  .next (s.regAccess who .IC_EN_SET j (icEnSetOp j w))

def icEnClrOp (j : Nat) (w : Word) (s : State) : State :=
  s.forSources j w (fun k s => s.setSource k { s.source k with en := false })

def execIcEnClr (who : Requester) (j : Nat) (w : Word) (s : State) : Result :=
  .next (s.regAccess who .IC_EN_CLR j (icEnClrOp j w))

/-- A write of `IC_SRC_CFG[k]` (R285, R294). -/
def icSrcCfgOp (k : Nat) (v : Word) (s : State) : State :=
  if !s.srcImpl k then s
  else if 36 ≤ bits v 5 0 then s.setFld .IC_STATUS 0 15 8 Code.range
  else
    let x := s.source k
    (s.setSource k { x with target := bits v 5 0, fast := bits v 6 6 == 1, before := some (s.now, routeAt s.now x) }).setFld
      .IC_STATUS 0 15 8 Code.ok

def execIcSrcCfgWrite (who : Requester) (k : Nat) (v : Word) (s : State) : Result :=
  .next (s.regAccess who .IC_SRC_CFG k (icSrcCfgOp k v))

/-- A fast-class interrupt is taken by a Gaffer core (R287): the PC is saved, the fast bank is put in force and the core goes
on at its fast vector. It is taken only when no fast handler runs; `returned` says that the core has executed the
trap-return of its last fast handler since. -/
def fastEntryOp (k : Nat) (returned : Bool) (s : State) : State :=
  let c := s.core k
  let c := if returned && c.fastBank then { c with fastBank := false, pc := c.savedPc } else c
  let s := s.setCore k c
  if s.coreRuns k && !c.fastBank && s.bestClaim k true != 0 then
    s.setCore k { c with savedPc := c.pc, pc := c.fastVector, fastBank := true }
  else s

def execFastInterruptEntry (dt k : Nat) (returned : Bool) (s : State) : Result :=
  .next (fastEntryOp k returned (s.pass dt))

/-- A due message of vector `v` is sent (R288). -/
def msixSendOp (v : Nat) (s : State) : State := if s.messageDue (v + 4) then s.sendMessage v else s

def execMsixMessageSend (dt v : Nat) (s : State) : Result := .next (msixSendOp v (s.pass dt))

/-- The moderation timer of vector `v` expires; a message it held is sent at once (R289). -/
def moderationOp (v : Nat) (s : State) : State :=
  let x := s.target (v + 4)
  if x.timerEnd != 0 && decide (x.timerEnd ≤ s.now) then
    let s := s.setTarget (v + 4) { x with timerEnd := 0 }
    if s.messageDue (v + 4) then s.sendMessage v else s
  else s

def execModerationExpire (dt v : Nat) (s : State) : Result := .next (moderationOp v (s.pass dt))

/-- A write of `IC_TGT_IDLE` (R290); on targets 0-3 it is discarded (R295). -/
def icTgtIdleOp (t : Nat) (v : Word) (s : State) : State := if t < 4 then s else s.setBit .IC_TGT_IDLE t 0 (bits v 0 0 == 1)

def execIcTgtIdleWrite (who : Requester) (t : Nat) (v : Word) (s : State) : Result :=
  .next (s.regAccess who .IC_TGT_IDLE t (icTgtIdleOp t v))

/-- The host clears the mask bit of vector `v`'s table entry (R288, R353). In D3hot the function decodes no BAR (R354). -/
def msixUnmaskOp (v : Nat) (s : State) : State :=
  if s.inD3hot then s.emit (.unsupported .host)
  else
    let w := s.msixWord (4 * v + 3)
    (s.setMsix { s.irq.msix with table := tset s.irq.msix.table (4 * v + 3) (putBits w 0 0 0) }).releasePending v

def execMsixUnmask (v : Nat) (s : State) : Result := .next (msixUnmaskOp v s)

/-- The host writes MSI-X Enable and the function mask (R353): what is unmasked now sends its pending messages. -/
def msixEnableOp (enable funcMask : Bool) (s : State) : State :=
  let s := s.setMsix { s.irq.msix with enable := enable, funcMask := funcMask }
  State.forEach (List.range 32) (fun v s => s.releasePending v) s

def execMsixEnable (enable funcMask : Bool) (s : State) : Result := .next (msixEnableOp enable funcMask s)

end Sys2Proof.Machine
end

