-- ==== Sys2Proof/Machine/Router.lean ====
section
/-!
DEFINITION. The latency-locked crossings as every family sees them, and the event router: emission, combining, task inputs
and pacing timers (R22, R263-R271).
-/

namespace Sys2Proof.Machine

/-! ### Crossings -/

/-- The key of a crossing: cluster-region crossings first. -/
def crossingKey : Crossing → Nat
  | .clusterRegion g away => 2 * g.val + b2n away
  | .regionHub n away => 128 + 2 * n.val + b2n away

/-- The crossing between cluster `g` and its region. -/
def clusterKey (g : Nat) (away : Bool) : Nat := 2 * g + b2n away

/-- The crossing between region `n` and the hub. -/
def regionKey (n : Nat) (away : Bool) : Nat := 128 + 2 * n + b2n away

/-- The region a crossing belongs to. -/
def keyRegion (k : Nat) : Nat := if k < 128 then k / 8 else (k - 128) / 2

/-- The latency L of a crossing (R22). -/
def crossingLatency (k : Nat) : Nat := if k < 128 then 2 else 5

/-- The state of crossing `k`. -/
def State.crossing (s : State) (k : Nat) : CrossingState := tget {} s.xl k

/-- Store the state of crossing `k`. -/
def State.setCrossing (s : State) (k : Nat) (x : CrossingState) : State := { s with xl := tset s.xl k x }

/-- The crossings of the populated regions (R22, R4). -/
def State.crossings (s : State) : List Nat := (List.range 160).filter (fun k => s.hasRegion (keyRegion k))

/-- Every crossing of the path is locked. -/
def State.pathLocked (s : State) (ks : List Nat) : Bool := ks.all (fun k => (s.crossing k).locked)

/-- Some crossing of the path is faulted (R25). -/
def State.pathFaulted (s : State) (ks : List Nat) : Bool := ks.any (fun k => (s.crossing k).faulted)

/-! ### Where things are -/

/-- The timing island a producer or consumer lies in (R20). -/
inductive Island where
  | cluster (g : Nat)
  | region (n : Nat)
  | hub
  deriving DecidableEq, Repr

/-- The region of an island. -/
def Island.region? : Island → Option Nat
  | .cluster g => some (g / 4)
  | .region n => some n
  | .hub => none

/-- The crossings from an island up to its region, or, for a global channel, up to the hub. -/
def Island.pathUp (global : Bool) : Island → List Nat
  | .cluster g => clusterKey g false :: if global then [regionKey (g / 4) false] else []
  | .region n => if global then [regionKey n false] else []
  | .hub => []

/-- The crossings from the region, or from the hub, down to an island. -/
def Island.pathDown (global : Bool) : Island → List Nat
  | .cluster g => (if global then [regionKey (g / 4) true] else []) ++ [clusterKey g true]
  | .region n => if global then [regionKey n true] else []
  | .hub => []

/-- Region `n` is in P0: it emits events and takes them (R273). -/
def State.regionAwake (s : State) (n : Nat) : Bool := s.hasRegion n && (s.regionPower n).state == 0

/-- The island's region, if it has one, is in P0. -/
def State.islandAwake (s : State) (i : Island) : Bool :=
  match i.region? with
  | some n => s.regionAwake n
  | none => true

/-- A reset of the island's region or cluster has not completed (R420), or a Cut in progress covers it (R362). -/
def State.islandHeld (s : State) (i : Island) : Bool :=
  let cutHits (n : Nat) (g : Option Nat) : Bool :=
    match s.cut with
    | none => false
    | some c => c.whole || bitOf c.regions.toNat n ||
      (match g with | some g => bitOf c.clusters.toNat g | none => false)
  match i with
  | .hub => match s.cut with | some c => c.whole | none => false
  | .region n => bitOf (s.regNat .PWR_RSTAT) n || cutHits n none
  | .cluster g => bitOf (s.regNat .PWR_RSTAT) (g / 4) || bitOf (s.pair .PWR_CSTAT_LO .PWR_CSTAT_HI) g || cutHits (g / 4) (some g)

/-! ### Channels -/

/-- The number of a channel. -/
def chanKey : Channel → Nat
  | .ev c => c.val
  | .lev n c => 128 + 32 * n.val + c.val

/-- The channel that CH and L select in region `n` (R266). -/
def chanOf (n ch : Nat) (local? : Bool) : Nat := if local? then 128 + 32 * n + ch else ch

/-- The channel is global. -/
def chanGlobal (c : Nat) : Bool := decide (c < 128)

/-- Set the loop-limit flag of a channel (R269). -/
def State.flagLoop (s : State) (c : Nat) : State :=
  if c < 128 then s.setBit .EV_LOOP (c / 32) (c % 32) true else s.setBit .LEV_LOOP ((c - 128) / 32) (c % 32) true

/-- Emit an event in cc `cc` from an island (R264-R269). Nothing is carried before the first epoch or from a region that is
not in P0 (R273); a lineage of 8 sets the loop flag instead (R269); an unlocked crossing discards the word (R24). -/
def State.emitEvent (s : State) (i : Island) (c cc lineage : Nat) : State :=
  if !s.epochRun || !s.islandAwake i then s
  else if 8 ≤ lineage then s.flagLoop c
  else
    let path := i.pathUp (chanGlobal c)
    if !s.pathLocked path then s
    else
      let lat := match i with
        | .cluster _ => if c < 128 then 8 else 2
        | .region _ => if c < 128 then 6 else 0
        | .hub => 0
      let w : EventWord := { chan := c, cc := cc + lat, lineage, loose := s.pathFaulted path }
      { s with router := { s.router with emitted := s.router.emitted ++ [w] } }

/-- The event is at a place in the present cc: exactly, or within the reach of a crossing's occupancy when it is loose. -/
def EventWord.at (w : EventWord) (cc now : Nat) : Bool :=
  cc == now || (w.loose && decide (now ≤ cc + 16) && decide (cc ≤ now + 16))

/-- Watch line `l` watches channel `c` (R271). -/
def State.watches (s : State) (l c : Nat) : Bool :=
  s.bit .EV_WLINE l 12 && chanOf (s.fld .EV_WLINE l 11 8) (s.fld .EV_WLINE l 6 0) (s.bit .EV_WLINE l 7) == c

/-- EVENT_COMBINE (R265, R271): the events at the combining point of channel `c` in this cc become one, with the largest
lineage; two or more count as a coincidence; the watch flag is set and the watch lines of the channel raise their sources. -/
def combineOp (c : Nat) (s : State) : State :=
  let here := s.router.emitted.filter (fun (w : EventWord) => w.chan == c && w.at w.cc s.now)
  if here.isEmpty || !s.epochRun then s
  else
    let lin := here.foldl (fun m (w : EventWord) => max m w.lineage) 0
    let one : EventWord := { chan := c, cc := s.now, lineage := lin }
    let s := { s with router := { s.router with
      emitted := s.router.emitted.filter (fun (w : EventWord) => !(w.chan == c && w.at w.cc s.now))
      carried := (s.router.carried.filter (fun (w : EventWord) => decide (s.now ≤ w.cc + 32))) ++ [one] } }
    let s := if 2 ≤ here.length then (if c < 128 then s.count .EV_COINC c else s.count .LEV_COINC (c - 128)) else s
    let s := if c < 128 then s.setBit .EV_WATCH (c / 32) (c % 32) true
             else s.setBit .LEV_WATCH ((c - 128) / 32) (c % 32) true
    State.forEach (List.range 16) (fun l s => if s.watches l c then s.raise (160 + l) else s) s

def execEventCombine (dt : Nat) (ch : Channel) (s : State) : Result := .next (combineOp (chanKey ch) (s.pass dt))

/-! ### Task inputs (R268) -/

/-- The key of a task input's pending bit. -/
def inputKey : EventInput → Nat
  | .script g e k => (g.val * 8 + e.val) * 4 + k.val
  | .kernel g => 2048 + g.val
  | .take n k => 2112 + 2 * n.val + k.val
  | .pacingTimer p => 2144 + p.val
  | .gripStart ch => 2176 + ch.val
  | .gripPace ch => 2256 + ch.val
  | .tio l => 2336 + l.val

/-- The key of latch ELk of engine `e` of cluster `g`. -/
def scriptInput (g e k : Nat) : Nat := (g * 8 + e) * 4 + k

/-- The key of a cluster's kernel input. -/
def kernelInput (g : Nat) : Nat := 2048 + g

/-- The keys of a Grip channel's inputs. -/
def gripStartInput (ch : Nat) : Nat := 2176 + ch
def gripPaceInput (ch : Nat) : Nat := 2256 + ch

/-- The island of a task input; the Grip's and the TIO lines' lie in the hub timing island (R267). -/
def inputIsland : EventInput → Island
  | .script g _ _ => .cluster g
  | .kernel g => .cluster g
  | .take n _ => .region n
  | _ => .hub

/-- The channel a 7-bit CH at `lo`, an L at `lo + 7` and an EN at bit `en` of a register select in region `n`. -/
def State.selected (s : State) (r : Reg) (i lo en n : Nat) : Option Nat :=
  if s.bit r i en then some (chanOf n (s.fld r i (lo + 6) lo) (s.bit r i (lo + 7))) else none

/-- The channel a task input selects, if it is connected. -/
def State.inputChan (s : State) : EventInput → Option Nat
  | .script g e k => s.selected .SCR_EVSEL ((g.val * 8 + e.val) * 4 + k.val) 0 8 (g.val / 4)
  | .kernel g => s.selected .KRN_EVSEL g.val 0 8 (g.val / 4)
  | .take n k => s.selected .TK_EVIN (2 * n.val + k.val) 0 8 n.val
  | .pacingTimer p => if s.bit .PT_CTRL p.val 15 then some (s.fld .PT_CTRL p.val 14 8) else none
  | .gripStart ch => s.selected .GRIP_CH_EVIN ch.val 0 8 (ch.val - 64)
  | .gripPace ch => s.selected .GRIP_CH_EVIN ch.val 16 24 (ch.val - 64)
  | .tio l => if s.bit .TIO_CFG l.val 0 && s.bit .TIO_CFG l.val 9 then some (s.fld .TIO_CFG l.val 16 10) else none

/-- The pending bit of task input `k`, if it is set in the present cc. -/
def State.taskBit (s : State) (k : Nat) : Option TaskBit :=
  match tfind s.router.task k with
  | some b => match b.clearAt with
    | some c => if s.now ≤ c then some b else none
    | none => some b
  | none => none

/-- Set the pending bit of task input `k`. -/
def State.setTask (s : State) (k : Nat) (b : TaskBit) : State :=
  { s with router := { s.router with task := tset s.router.task k b } }

/-- Clear the pending bit of task input `k`. -/
def State.clearTask (s : State) (k : Nat) : State :=
  { s with router := { s.router with task := tdel s.router.task k } }

/-- Count an event lost at a task input (R268). -/
def State.countLost (s : State) (c : Nat) : State :=
  if c < 128 then s.count .EV_LOST c else s.count .LEV_LOST (c - 128)

/-- The latency from the combining point of channel `c` to an island (R267). -/
def deliveryLatency (c : Nat) : Island → Nat
  | .cluster _ => if c < 128 then 10 else 4
  | .region _ => if c < 128 then 8 else 2
  | .hub => 2

/-- The event of channel `c` that reaches island `i` in this cc, if one does (R267). -/
def State.arriving (s : State) (i : Island) (c : Nat) : Option EventWord :=
  let path := i.pathDown (chanGlobal c)
  if !s.epochRun || !s.pathLocked path then none
  else s.router.carried.find? (fun (w : EventWord) =>
    w.chan == c && { w with loose := w.loose || s.pathFaulted path }.at (w.cc + deliveryLatency c i) s.now)

/-! ### Pacing timers (R270) and injection (R271) -/

/-- `EV_STATUS.LAST_RESULT`. -/
def State.evResult (s : State) (code : Nat) : State := s.setFld .EV_STATUS 0 15 8 code

/-- Pacing timer `p` starts; it may emit from cc `first` on. A START while it runs has no effect. -/
def State.ptBegin (s : State) (p first : Nat) : State :=
  if (tfind s.router.ptRun p).isSome then s
  else
    let s := { s with router := { s.router with ptRun := tset s.router.ptRun p first } }
    s.setReg .PT_EMITTED p 0

/-- Pacing timer `p` stops. -/
def State.ptHalt (s : State) (p : Nat) : State := { s with router := { s.router with ptRun := tdel s.router.ptRun p } }

def ptStartOp (p : Nat) (s : State) : State :=
  if !s.epochRun then s.evResult Code.busy else (s.ptBegin p (s.now + 1)).evResult Code.ok

def execPtStart (who : Requester) (p : Nat) (s : State) : Result := .next (s.regAccess who .PT_CMD p (ptStartOp p))

def ptStopOp (p : Nat) (s : State) : State := (s.ptHalt p).evResult Code.ok

def execPtStop (who : Requester) (p : Nat) (s : State) : Result := .next (s.regAccess who .PT_CMD p (ptStopOp p))

/-- A write of `PT_CMD` (R270): both bits in one write are refused with RANGE. -/
def ptCmdOp (p : Nat) (v : Word) (s : State) : State :=
  if bits v 1 0 = 3 then s.evResult Code.range
  else if bits v 0 0 = 1 then ptStartOp p s
  else if bits v 1 1 = 1 then ptStopOp p s
  else s.evResult Code.ok

/-- PACING_TIMER_EMIT: a running timer emits in every cc F with F mod PERIOD = PHASE, and stops after COUNT events. -/
def ptEmitOp (p : Nat) (s : State) : State :=
  match tfind s.router.ptRun p with
  | none => s
  | some first =>
    if s.epochRun && decide (first ≤ s.now) && s.ftg % s.regNat .PT_PERIOD p == s.regNat .PT_PHASE p then
      let s := (s.emitEvent .hub (s.fld .PT_CTRL p 6 0) s.now 0).countWrap .PT_EMITTED p
      let c := s.regNat .PT_COUNT p
      if c != 0 && decide (c ≤ s.regNat .PT_EMITTED p) then s.ptHalt p else s
    else s

def execPacingTimerEmit (dt p : Nat) (s : State) : Result := .next (ptEmitOp p (s.pass dt))

/-- EV_INJECT (R271): one event on each named global channel; before the first epoch discarded and reported BUSY. -/
def evInjectOp (j : Nat) (w : Word) (s : State) : State :=
  if !s.epochRun then s.evResult Code.busy
  else (State.forEach (setBitsOf 32 w.toNat) (fun b s => s.emitEvent .hub (32 * j + b) s.now 0) s).evResult Code.ok

def execEvInject (who : Requester) (j : Nat) (w : Word) (s : State) : Result :=
  .next (s.regAccess who .EV_INJECT j (evInjectOp j w))

/-- LEV_INJECT (R271). -/
def levInjectOp (n : Nat) (w : Word) (s : State) : State :=
  if !s.epochRun then s.setFld .LEV_STATUS n 15 8 Code.busy
  else (State.forEach (setBitsOf 32 w.toNat) (fun b s => s.emitEvent (.region n) (128 + 32 * n + b) s.now 0) s).setFld
    .LEV_STATUS n 15 8 Code.ok

def execLevInject (who : Requester) (n : Nat) (w : Word) (s : State) : Result :=
  .next (s.regAccess who .LEV_INJECT n (levInjectOp n w))

/-- TIO_PULSE_END (R272): the pulse of line `l` ends WIDTH cc after it began. -/
def tioEndOp (l : Nat) (s : State) : State :=
  match tfind s.router.tioEnd l with
  | some e => if e ≤ s.now then { s with router := { s.router with tioEnd := tdel s.router.tioEnd l } } else s
  | none => s

def execTioPulseEnd (dt l : Nat) (s : State) : Result := .next (tioEndOp l (s.pass dt))

/-- What a new epoch, or a reset of the scope, does to the router's words in flight and task inputs (R273). -/
def State.clearTasks (s : State) (p : Nat → Bool) : State :=
  { s with router := { s.router with task := s.router.task.filter (fun e => !p e.1) } }

end Sys2Proof.Machine
end

