-- ==== Sys2Proof/Machine/Clapper.lean ====
section
/-!
DEFINITION. The clocks, the clapper and the latency-locked crossings (R23-R61): PLLs and reference, arming, edges, pulses,
slips, taps and the loop measurement. The start of an epoch and the clapper check, which act on every family, are in
Machine/Epoch.lean.
-/

namespace Sys2Proof.Machine

/-- `CLAP_STATUS.LAST_RESULT`. -/
def State.clapResult (s : State) (code : Nat) : State := s.setFld .CLAP_STATUS 0 23 16 code

/-- `CLAP_CTRL.ROLE`. -/
def State.role (s : State) : Nat := s.fld .CLAP_CTRL 0 1 0

/-! ### Slips (R48, R49) and crossing faults (R25) -/

/-- Declare a clapper slip (R49). The latch is free while SLIP is 0. -/
def State.slip (s : State) (kind index delta : Nat) : State :=
  let free := !s.bit .CLAP_STATUS 0 2
  let s := (s.setBit .CLAP_STATUS 0 2 true).setFld .CLAP_STATUS 0 31 24 Code.clapperSlip
  let s := if free then
      ((s.setReg .CLAP_SLIP_INFO 0 (BitVec.ofNat 32 (kind ||| 8 ||| index <<< 4 ||| delta <<< 16))).setPair
        .CLAP_SLIP_FTG_LO .CLAP_SLIP_FTG_HI 0 s.ftg)
    else s
  (s.count .CLAP_SLIPS).raise 437

/-- The number of `XLOCK_FAULT0.KIND`. -/
def kindCode : CrossingKind → Nat
  | .emptyRead => 0 | .fullWrite => 1 | .occupancy => 2

/-- LEVEL, INDEX and DIR of `XLOCK_FAULT0` for crossing `k`, as its bits [7:0]. -/
def faultBits (k : Nat) : Nat :=
  if k < 128 then k / 2 ||| (k % 2) <<< 7 else (k - 128) / 2 ||| 1 <<< 6 ||| (k % 2) <<< 7

/-- The order in which crossings that fault in one cc are latched (R25): LEVEL, then INDEX, then DIR, which is the order of
the keys. A crossing that is locked and not faulted faults. -/
def State.newFaults (s : State) (found : List (Nat × CrossingKind)) : List (Nat × CrossingKind) :=
  found.filter (fun p => (s.crossing p.1).locked && !(s.crossing p.1).faulted && s.hasRegion (keyRegion p.1))

/-- The finding with the lowest key. -/
def lowestFinding : List (Nat × CrossingKind) → Option (Nat × CrossingKind)
  | [] => none
  | p :: ps => match lowestFinding ps with
    | some q => if p.1 ≤ q.1 then some p else some q
    | none => some p

/-- What crossings find in this cc (R25, R24): the first fault is latched, FAULT and source 503 are raised, the clapper
status becomes CLAPPER_SLIP; a full write of a faulted crossing is discarded and counted; unlocked crossings count nothing. -/
def State.crossingFindings (s : State) (found : List (Nat × CrossingKind)) : State :=
  let new := s.newFaults found
  let s := match lowestFinding new with
    | none => s
    | some p =>
      let s := if s.bit .XLOCK_STATUS 0 1 then s else
        (s.setReg .XLOCK_FAULT0 0 (BitVec.ofNat 32 (faultBits p.1 ||| kindCode p.2 <<< 8 ||| 1 <<< 10))).setPair
          .XLOCK_FAULT_FTG_LO .XLOCK_FAULT_FTG_HI 0 s.ftg
      ((s.setBit .XLOCK_STATUS 0 1 true).setFld .CLAP_STATUS 0 31 24 Code.clapperSlip).raise 503
  let s := State.forEach new (fun p s => s.setCrossing p.1 { s.crossing p.1 with faulted := true }) s
  let drops := (found.filter (fun p => decide (p.2 = .fullWrite) && (s.crossing p.1).faulted)).length
  if drops = 0 then s else s.count .XLOCK_DROPS 0 drops

def fabricFaultOp (found : List CrossingFinding) (s : State) : State :=
  s.crossingFindings (found.map (fun f => (crossingKey f.x, f.kind)))

def execFabricTimingFault (dt : Nat) (found : List CrossingFinding) (s : State) : Result :=
  .next (fabricFaultOp found (s.pass dt))

/-- CROSSING_LOCK (R23, R24): L cc after the epoch or the passing check the read pointer is released. A fault of the crossing
clears when it locks again (R25). -/
def crossingLockOp (k : Nat) (s : State) : State :=
  match (s.crossing k).releaseAt with
  | some t => if t ≤ s.now then s.setCrossing k { locked := true } else s
  | none => s

def execCrossingLock (dt : Nat) (x : Crossing) (s : State) : Result := .next (crossingLockOp (crossingKey x) (s.pass dt))

/-- Crossing `k` is to be released L cc after cc `t` (R23). -/
def State.releaseAfter (s : State) (t k : Nat) : State :=
  s.setCrossing k { (s.crossing k) with releaseAt := some (t + crossingLatency k) }

/-- The crossings of region `n` and of its clusters run unlocked (R24): after a reset, or in P3 and P4. -/
def State.unlockRegion (s : State) (n : Nat) : State :=
  State.forEach (s.crossings.filter (fun k => keyRegion k == n)) (fun k s => s.setCrossing k {}) s

/-- XLOCK_FAULT_CLEAR (R26): the latch is free again; faulted crossings stay faulted. -/
def xlockClearOp (s : State) : State := s.setBit .XLOCK_STATUS 0 1 false

def execXlockFaultClear (who : Requester) (s : State) : Result := .next (s.regAccess who .XLOCK_STATUS 0 xlockClearOp)

/-! ### Reference and PLLs (R37-R40) -/

/-- No PLL is locked: every PLL relocks. -/
def State.relockAll (s : State) : State := (s.setBit .CLK_STATUS 0 0 false).setFld .CLK_STATUS 0 15 8 0

/-- A write of `CLK_CTRL` (R37, R61): REF_SEL only while IDLE, and it starts a relock; the other fields act. -/
def clkCtrlOp (v : Word) (s : State) : State :=
  let sel := bits v 0 0
  let s := (s.setBit .CLK_CTRL 0 1 (bits v 1 1 == 1)).setBit .CLK_CTRL 0 2 (bits v 2 2 == 1)
  if s.clap.state = .idle then ((s.setFld .CLK_CTRL 0 0 0 sel).relockAll).clapResult Code.ok
  else if s.fld .CLK_CTRL 0 0 0 = sel then s.clapResult Code.ok
  else s.clapResult Code.locked

def execClkRefSelWrite (who : Requester) (v : Word) (s : State) : Result := .next (s.regAccess who .CLK_CTRL 0 (clkCtrlOp v))

/-- PLL_LOCK (R37, R39): with a valid reference the PLL locks; a reference outside ±100 ppm sets REF_BAD and locks none. -/
def pllLockOp (pll : Pll) (inRange : Bool) (s : State) : State :=
  let s := (s.setBit .CLK_STATUS 0 1 true).setBit .CLK_STATUS 0 2 (!inRange)
  if !inRange then s.relockAll
  else match pll with
    | .hub => s.setBit .CLK_STATUS 0 0 true
    | .tile t => if t.val < s.variant.tiles then s.setBit .CLK_STATUS 0 (8 + t.val) true else s

def execPllLock (dt : Nat) (pll : Pll) (inRange : Bool) (s : State) : Result := .next (pllLockOp pll inRange (s.pass dt))

/-- REFERENCE_LOST (R40): REF_LOST is set, the PLLs hold their frequency and footage keeps counting; a REFERENCE slip. -/
def referenceLostOp (s : State) : State :=
  ((s.setBit .CLK_STATUS 0 3 true).setBit .CLK_STATUS 0 1 false).relockAll.slip 4 0 0

def execReferenceLost (dt : Nat) (s : State) : Result := .next (referenceLostOp (s.pass dt))

/-- TILE_PLL_UNLOCK (R40): a PLL slip with index t; the outputs of regions 2t and 2t + 1 are muted until each region is
reset after the relock. It takes a PLL that is locked while its reference is present. -/
def tileUnlockOp (t : Nat) (s : State) : State :=
  if s.bit .CLK_STATUS 0 (8 + t) && s.bit .CLK_STATUS 0 1 && decide (t < s.variant.tiles) then
    let s := (s.setBit .CLK_STATUS 0 (8 + t) false).setBit .CLK_STATUS 0 (16 + t) true
    let s := { s with clap := { s.clap with pllMuted := s.clap.pllMuted ||| BitVec.ofNat 16 (3 <<< (2 * t)) } }
    s.slip 5 t 0
  else s

def execTilePllUnlock (dt t : Nat) (s : State) : Result := .next (tileUnlockOp t (s.pass dt))

/-! ### Arming (R42) -/

/-- Some Script engine is running or some take engine is armed in the module (R42). -/
def State.sequencing (s : State) : Bool :=
  (List.range 512).any (fun i => s.bit .SCR_STATUS i 0) ||
    (List.range 16).any (fun n => s.fld .TK_STATUS n 1 0 != 0) || s.fld .STK_STATUS 0 1 0 != 0

/-- The clapper becomes ARMED; a master or standalone module plans its epoch pulse for cc A + 16 (R42, R45). -/
def State.arm (s : State) : State :=
  { s with clap := { s.clap with
      state := .armed, armAt := s.now, regAt := none
      pulseAt := if s.role = 1 ∨ s.role = 2 then some (s.now + 16) else none } }

def clapArmOp (s : State) : State :=
  match s.clap.state with
  | .idle => s.arm.clapResult Code.ok
  | .armed => s.clapResult Code.ok
  | .running => if s.sequencing then s.clapResult Code.busy else s.arm.clapResult Code.ok

def execClapArm (who : Requester) (s : State) : Result := .next (s.regAccess who .CLAP_CMD 0 clapArmOp)

/-- DISARM (R42): before the starting edge is registered the arm is cancelled; an emitted pulse is not withdrawn, and its
return is ignored. -/
def clapDisarmOp (s : State) : State :=
  match s.clap.state with
  | .armed =>
    if s.clap.regAt.isSome then s.clapResult Code.busy
    else
      let emitted := s.role == 1 && s.clap.pulseAt.isNone
      { s with clap := { s.clap with
          state := if s.clap.epoch.isSome then .running else .idle
          pulseAt := none
          ignoreEdge := s.clap.ignoreEdge || emitted } }.clapResult Code.ok
  | _ => s.clapResult Code.ok

def execClapDisarm (who : Requester) (s : State) : Result := .next (s.regAccess who .CLAP_CMD 0 clapDisarmOp)

/-! ### Edges and pulses (R41, R43, R45, R47, R48) -/

/-- `CLAP_STATUS.EDGE_POS` and MARGIN (R58, R61). -/
def State.setEdgePos (s : State) (pos : Nat) : State :=
  (s.setFld .CLAP_STATUS 0 7 4 pos).setBit .CLAP_STATUS 0 3 (pos ≤ 1 || 14 ≤ pos)

/-- The check whose window holds footage `f`, if any: check k's window runs from k·2^20 − 80 to k·2^20 − 48 (R47). -/
def windowOf (f : Nat) : Option Nat :=
  let k := (f + 80) / 2 ^ 20
  if 1 ≤ k ∧ k * 2 ^ 20 ≤ f + 80 ∧ f + 48 ≤ k * 2 ^ 20 then some k else none

/-- The starting edge of an armed epoch is registered at sample `pos` (R43). -/
def State.registerEpoch (s : State) (pos : Nat) : State :=
  { s with clap := { s.clap with regAt := some (s.now, pos) } }.setEdgePos pos

/-- The registered edge is re-emitted by a follower with OUT_EN (R41). -/
def State.reemit (s : State) (pos : Nat) : State :=
  if (s.role = 0 ∨ s.role = 3) ∧ s.bit .CLAP_CTRL 0 2 = true then
    ((s.setFld .CLAP_TAP_OUT 0 24 16 (s.fld .CLAP_TAP_OUT 0 8 0))).emit (.clapOut (s.now + 16) pos)
  else s

/-- An edge at footage `f`, sample `pos`, is judged by a check window, or is an UNEXPECTED slip (R47, R48). -/
def State.judgeEdge (s : State) (f pos : Nat) : State :=
  match windowOf f with
  | none => s.slip 3 0 0
  | some _ =>
    if s.clap.winEdges = 0 then { s with clap := { s.clap with winEdges := 1, winEdge := some (f, pos) } }
    else { s with clap := { s.clap with winEdges := s.clap.winEdges + 1 } }.slip 3 0 0

/-- An edge of the clapper is registered at sample `pos`: it starts an armed epoch, or is judged (R43, R47, R48). -/
def State.clapEdge (s : State) (pos : Nat) : State :=
  if s.clap.ignoreEdge then { s with clap := { s.clap with ignoreEdge := false } }.setEdgePos pos
  else if s.clap.state = .armed ∧ s.clap.regAt = none ∧ s.clap.armAt < s.now then s.registerEpoch pos
  else
    let s := s.setEdgePos pos
    if s.clap.epoch.isNone || s.clap.regAt.isSome then s else s.judgeEdge s.ftg pos

/-- CLAPPER_EDGE: an edge at CLAP_IN, which the follower and master roles take and the others ignore (R41). -/
def clapperEdgeOp (pos : Nat) (s : State) : State := if s.role ≤ 1 then (s.clapEdge pos).reemit pos else s

def execClapperEdge (dt pos : Nat) (s : State) : Result := .next (clapperEdgeOp pos (s.pass dt))

/-- EPOCH_PULSE_EMIT (R45): at cc E = A + 16 a master or standalone module emits its epoch pulse; standalone, E is also the
cc of registration, with EDGE_POS 0. The CLAP_OUT tap applies before the pulse (R56). -/
def epochPulseOp (s : State) : State :=
  match s.clap.pulseAt with
  | some e =>
    if e ≤ s.now then
      let s := { s with clap := { s.clap with pulseAt := none, pulseBase := some e } }
      let s := (s.setFld .CLAP_TAP_OUT 0 24 16 (s.fld .CLAP_TAP_OUT 0 8 0)).emit (.clapOut e 0)
      if s.role = 2 then { s with clap := { s.clap with regAt := some (e, 0) } }.setEdgePos 0 else s
    else s
  | none => s

def execEpochPulseEmit (dt : Nat) (s : State) : Result := .next (epochPulseOp (s.pass dt))

/-- CHECK_PULSE_EMIT (R45): every 2^20 cc after the epoch pulse. -/
def checkPulseOp (s : State) : State :=
  match s.clap.pulseBase with
  | some e =>
    if e < s.now ∧ (s.now - e) % 2 ^ 20 = 0 then
      (s.setFld .CLAP_TAP_OUT 0 24 16 (s.fld .CLAP_TAP_OUT 0 8 0)).emit (.clapOut s.now 0)
    else s
  | none => s

def execCheckPulseEmit (dt : Nat) (s : State) : Result := .next (checkPulseOp (s.pass dt))

/-! ### Taps (R56) -/

/-- The register of a tap and its instance. -/
def tapReg : ClapTap → Reg × Nat
  | .ref => (.CLAP_TAP_REF, 0) | .tapIn => (.CLAP_TAP_IN, 0) | .tapOut => (.CLAP_TAP_OUT, 0) | .tile t => (.CLAP_TILE_TAP, t.val)

/-- The key of a slewing tap in `slewAt`. -/
def tapKey : ClapTap → Nat
  | .tile t => t.val
  | _ => 8

/-- Put the written `CLAP_TAP_IN` in force once its cc has come. -/
def State.settleTapIn (s : State) : State :=
  match s.clap.tapInAt with
  | some t => if t ≤ s.now then
      { s with clap := { s.clap with tapInAt := none } }.setFld .CLAP_TAP_IN 0 24 16 (s.fld .CLAP_TAP_IN 0 8 0) else s
  | none => s

/-- The footage after the next check window closes, from footage `f` (R56): k·2^20 − 47. -/
def afterWindow (f : Nat) : Nat := ((f + 47) / 2 ^ 20 + 1) * 2 ^ 20 - 47

/-- CLAP_TAP_WRITE (R56). -/
def clapTapOp (tap : ClapTap) (v : Word) (s : State) : State :=
  let r := tapReg tap
  let s := s.settleTapIn
  let s := s.setFld r.1 r.2 8 0 (bits v 8 0)
  match tap with
  | .tapIn =>
    match s.clap.epoch with
    | some e => { s with clap := { s.clap with tapInAt := some (e + afterWindow s.ftg) } }
    | none => { s with clap := { s.clap with tapInAt := some (s.now + 1) } }
  | .tapOut => s
  | _ =>
    if (tfind s.clap.slewAt (tapKey tap)).isSome then s
    else { s with clap := { s.clap with slewAt := tset s.clap.slewAt (tapKey tap) (s.now + 64) } }

/-- The write as it passes the freeze bits (R239): a tile tap belongs to the tile's unit. -/
def clapTapGatedOp (who : Requester) (tap : ClapTap) (v : Word) (s : State) : State :=
  match tap with
  | .tile t => s.trimGate who (0x600 + t.val) (clapTapOp tap v)
  | _ => clapTapOp tap v s

def execClapTapWrite (who : Requester) (tap : ClapTap) (v : Word) (s : State) : Result :=
  .next (s.regAccess who (tapReg tap).1 (tapReg tap).2 (clapTapGatedOp who tap v))

/-- TAP_SLEW_STEP (R56): every 64 cc `CLAP_TAP_REF` and the tile taps move by 1 ps towards their written value. -/
def tapSlewOp (tap : ClapTap) (s : State) : State :=
  match tap with
  | .tapIn => s.settleTapIn
  | .tapOut => s
  | tap =>
    match tfind s.clap.slewAt (tapKey tap) with
    | some t =>
      if t ≤ s.now then
        let r := tapReg tap
        let cur := s.fld r.1 r.2 24 16
        let tgt := s.fld r.1 r.2 8 0
        let cur' := if cur < tgt then cur + 1 else if tgt < cur then cur - 1 else cur
        let s := s.setFld r.1 r.2 24 16 cur'
        { s with clap := { s.clap with
            slewAt := if cur' = tgt then tdel s.clap.slewAt (tapKey tap) else tset s.clap.slewAt (tapKey tap) (t + 64) } }
      else s
    | none => s

def execTapSlewStep (dt : Nat) (tap : ClapTap) (s : State) : Result := .next (tapSlewOp tap (s.pass dt))

/-! ### The loop measurement (R60) -/

def loopMeasOp (s : State) : State :=
  if s.clap.loopEnd.isSome then s.clapResult Code.busy
  else
    let s := { s with clap := { s.clap with loopEnd := some (s.now + 2 ^ 20) } }
    (((s.setBit .CLAP_STATUS 0 8 true).setBit .CLAP_STATUS 0 9 false).emit (.loopPulses s.now)).clapResult Code.ok

def execLoopMeas (who : Requester) (s : State) : Result := .next (s.regAccess who .CLAP_CMD 0 loopMeasOp)

/-- The end of a loop measurement: the round trip and its spread with an LSB of 0.25 ps, or TIMEOUT when no edge returned or
the round trip exceeds 2,000 ns. -/
def loopDoneOp (rt : Option (BitVec 32)) (spread : BitVec 16) (s : State) : State :=
  match s.clap.loopEnd with
  | some e =>
    if e ≤ s.now then
      let s := { s with clap := { s.clap with loopEnd := none } }.setBit .CLAP_STATUS 0 8 false
      match rt with
      | some r =>
        if r.toNat ≤ 8000000 then
          ((s.setReg .CLAP_LOOP_RT 0 r).setReg .CLAP_LOOP_SPREAD 0 (spread.zeroExtend 32)).setBit .CLAP_STATUS 0 9 true
        else s.clapResult Code.timeout
      | none => s.clapResult Code.timeout
    else s
  | none => s

def execLoopMeasDone (dt : Nat) (rt : Option (BitVec 32)) (spread : BitVec 16) (s : State) : Result :=
  .next (loopDoneOp rt spread (s.pass dt))

/-- A write of `CLAP_CMD` (R42, R60): one command, or RANGE when more than one bit is set. -/
def clapCmdOp (v : Word) (s : State) : State :=
  match bits v 2 0 with
  | 0 => s.clapResult Code.ok
  | 1 => clapArmOp s
  | 2 => clapDisarmOp s
  | 4 => loopMeasOp s
  | _ => s.clapResult Code.range

/-- A write of `CLAP_CTRL` (R41, R61): OUT_EN and CHK_TOL act at any time; ROLE and LINK only while IDLE; a LINK of 24-31,
and ROLE 0b11 without the LINKS feature (R359), are refused with RANGE. -/
def clapCtrlOp (v : Word) (s : State) : State :=
  let role := bits v 1 0
  let link := bits v 12 8
  let same := s.role = role ∧ s.fld .CLAP_CTRL 0 12 8 = link
  let s := (s.setBit .CLAP_CTRL 0 2 (bits v 2 2 == 1)).setFld .CLAP_CTRL 0 19 16 (bits v 19 16)
  if same then s.clapResult Code.ok
  else if s.clap.state ≠ .idle then s.clapResult Code.locked
  else if 24 ≤ link then (if role = 3 ∧ s.feat 4 = false then s else s.setFld .CLAP_CTRL 0 1 0 role).clapResult Code.range
  else if role = 3 ∧ s.feat 4 = false then (s.setFld .CLAP_CTRL 0 12 8 link).clapResult Code.range
  else ((s.setFld .CLAP_CTRL 0 1 0 role).setFld .CLAP_CTRL 0 12 8 link).clapResult Code.ok

end Sys2Proof.Machine
end

