-- ==== Sys2Proof/Machine/Voices.lean ====
section
/-!
DEFINITION. Reels, segments, streams, shadowed sets and markers (R63-R96), and the playing side of Script queues that the
units share with them (R70-R74, R108, R109).
-/

namespace Sys2Proof.Machine

/-! ### Clusters and units -/

/-- `SCR_CL_STATUS.LAST_RESULT` of cluster `g`. -/
def State.clResult (s : State) (g code : Nat) : State := s.setFld .SCR_CL_STATUS g 23 16 code

/-- Engine `e` of cluster `g` runs. -/
def State.engineRuns (s : State) (g e : Nat) : Bool := s.bit .SCR_STATUS (8 * g + e) 0

/-- Every Script engine of cluster `g` is halted. -/
def State.clusterHalted (s : State) (g : Nat) : Bool := (List.range 8).all (fun e => !s.engineRuns g e)

/-- Every Script engine of region `n` is halted. -/
def State.regionHalted (s : State) (n : Nat) : Bool := (List.range 4).all (fun c => s.clusterHalted (4 * n + c))

/-- Unit `u` of cluster `g`. -/
def State.unit (s : State) (g u : Nat) : UnitState := tget {} s.play.unit (20 * g + u)

/-- Store a unit. -/
def State.setUnit (s : State) (g u : Nat) (x : UnitState) : State :=
  { s with play := { s.play with unit := tset s.play.unit (20 * g + u) x } }

/-- The engine that owns unit `u` (R99). -/
def State.unitOwner (s : State) (g u : Nat) : Nat :=
  if u < 8 then s.fld .UNIT_OWNER0 g (3 * u + 2) (3 * u)
  else if u < 16 then s.fld .UNIT_OWNER1 g (3 * (u - 8) + 2) (3 * (u - 8))
  else s.fld .UNIT_OWNER2 g (3 * (u - 16) + 2) (3 * (u - 16))

/-- The engine that owns tone `t` (R99). -/
def State.toneOwner (s : State) (g t : Nat) : Nat :=
  if t < 8 then s.fld .TONE_OWNER0 g (3 * t + 2) (3 * t) else s.fld .TONE_OWNER1 g (3 * (t - 8) + 2) (3 * (t - 8))

/-- The status register of a unit and its instance. -/
def unitStatus (g u : Nat) : Reg × Nat := if u < 16 then (.VOICE_STATUS, 16 * g + u) else (.BBO_STATUS, 4 * g + (u - 16))

/-- Set SPL_LOST of the owner of unit `u` (R108). -/
def State.spliceLost (s : State) (g u : Nat) : State := s.setBit .SCR_STATUS (8 * g + s.unitOwner g u) 3 true

/-- Set LATE of an engine and count it (R101, R116). -/
def State.engineLate (s : State) (g e : Nat) : State := (s.setBit .SCR_STATUS (8 * g + e) 2 true).count .SCR_LATE_CNT (8 * g + e)

/-! ### Shadowed sets (R87-R91) -/

/-- Set `k` of cluster `g` beside its registers. -/
def State.shadow (s : State) (g k : Nat) : SetState := tget {} s.play.set (36 * g + k)

/-- Store the set. -/
def State.setShadow (s : State) (g k : Nat) (x : SetState) : State :=
  { s with play := { s.play with set := tset s.play.set (36 * g + k) x } }

/-- The status register of a set, with PENDING in bit 0, WR_REJ in bit 1 and GEN in bits [15:8]. -/
def setStatus (g k : Nat) : Reg × Nat :=
  if k < 16 then (.VOICE_STATUS, 16 * g + k)
  else if k < 20 then (.BBO_STATUS, 4 * g + (k - 16))
  else (.TONE_STATUS, 16 * g + (k - 20))

/-- PENDING of a set. -/
def State.setPending (s : State) (g k : Nat) : Bool := s.bit (setStatus g k).1 (setStatus g k).2 0

/-- HO_SRC of a set (R89, R124). -/
def State.setHoSrc (s : State) (g k : Nat) : Bool :=
  if k < 16 then s.bit .VOICE_CTRL (16 * g + k) 0
  else if k < 20 then s.bit .BBO_CTRL (4 * g + (k - 16)) 1
  else s.bit .TONE_HO g (k - 20)

/-- The set takes writes in this cc: it was not pending at the start of the cc, or was handed over in it (R90). -/
def State.setOpen (s : State) (g k : Nat) : Bool := !s.setPending g k || (s.shadow g k).pendAt == some s.now

/-- A write to a shadow register: accepted, or discarded with WR_REJ (R90). -/
def State.shadowPut (s : State) (g k : Nat) (r : Reg) (i hi lo v : Nat) : State :=
  if s.setOpen g k then s.setFld r i hi lo v
  else s.setBit (setStatus g k).1 (setStatus g k).2 1 true

/-- A commit of a set (R88): pending from the end of the cc; a commit of a pending set only makes a hand-over cycle (R89). -/
def State.commitSet (s : State) (script : Bool) (g k : Nat) : State :=
  let x := s.shadow g k
  let x := { x with
    pendAt := if s.setPending g k then x.pendAt else some s.now
    commitAt := some s.now
    scriptCommitAt := if script then some s.now else x.scriptCommitAt }
  (s.setShadow g k x).setBit (setStatus g k).1 (setStatus g k).2 0 true

/-- The present cc is a hand-over cycle of the set (R89). -/
def State.handOverCycle (s : State) (g k : Nat) : Bool :=
  let x := s.shadow g k
  let after (c : Option Nat) : Bool := match c with | some c => c + 1 == s.now | none => false
  (!s.setHoSrc g k && after x.scriptCommitAt) ||
    (s.setHoSrc g k && s.epochRun && s.ftg != 0 && s.ftg % 2 ^ 20 == 0) ||
    (s.clusterHalted g && after x.commitAt)

/-- A hand-over of a tone set in this cc applies WBASE to windows whose first, and the discriminator to windows whose last
decimated sample lies in a later cc (R124). -/
def State.handWindows (s : State) (g t : Nat) : State :=
  let i := 16 * g + t
  let ws := tget [] s.rd.window i
  let ws := ws.map (fun (w : ToneWindow) =>
    let w := if s.ftg < 2 * w.m0 then { w with wbase := s.fld .TONE_ACT_WBASE i 15 0 } else w
    if s.ftg < 2 * (w.m0 + w.n - 1) then
      { w with rot := s.fld .TONE_ACT_ROT i 15 0, th0 := s.regNat .TONE_ACT_TH0 i, th1 := s.regNat .TONE_ACT_TH1 i
               th2 := s.regNat .TONE_ACT_TH2 i }
    else w)
  { s with rd := { s.rd with window := tset s.rd.window i ws } }

/-- The active copy takes the shadow copy (R90). -/
def State.copyActive (s : State) (g k : Nat) : State :=
  if k < 16 then
    let i := 16 * g + k
    (((s.setReg .VOICE_ACT_FTW_LO i (s.reg .VOICE_FTW_LO i)).setReg .VOICE_ACT_FTW_HI i (s.reg .VOICE_FTW_HI i)).setReg
      .VOICE_ACT_POFF i (s.reg .VOICE_POFF i)).setReg .VOICE_ACT_AMPSEG i
        (BitVec.ofNat 32 (s.fld .VOICE_AMP i 15 0 ||| s.fld .VOICE_SEGBASE i 11 0 <<< 16))
  else if k < 20 then
    let i := 4 * g + (k - 16)
    s.setReg .BBO_ACT i (BitVec.ofNat 32 (s.fld .BBO_GAIN i 15 0 ||| s.fld .BBO_OFFSET i 15 0 <<< 16))
  else
    let i := 16 * g + (k - 20)
    let s := State.forEach
      [(Reg.TONE_FTW_LO, Reg.TONE_ACT_FTW_LO), (.TONE_FTW_HI, .TONE_ACT_FTW_HI), (.TONE_POFF, .TONE_ACT_POFF),
       (.TONE_WBASE, .TONE_ACT_WBASE), (.TONE_ROT, .TONE_ACT_ROT), (.TONE_TH0, .TONE_ACT_TH0),
       (.TONE_TH1, .TONE_ACT_TH1), (.TONE_TH2, .TONE_ACT_TH2)]
      (fun (p : Reg × Reg) (s : State) => s.setReg p.2 i (s.reg p.1 i)) s
    s.handWindows g (k - 20)

/-- Active SEGBASE of voice `u`, as its register shows it; a baseband output has none. -/
def State.segbaseReg (s : State) (g u : Nat) : Nat := if u < 16 then s.fld .VOICE_ACT_AMPSEG (16 * g + u) 27 16 else 0

/-- A fit whose write R90 discarded is written again after the hand-over, and committed (R235). -/
def State.retryFit (s : State) (g k : Nat) : State :=
  let t := 16 * g + (k - 20)
  let d : DiscUnit := tget {} s.cal.disc t
  match d.retry with
  | some (rot, th) =>
    if k < 20 then s
    else
      let s := { s with cal := { s.cal with disc := tset s.cal.disc t { d with retry := none } } }
      if s.frozen (0x200 + t) then s
      else
        let s := s.setReg .TONE_ROT t (BitVec.ofNat 32 rot)
        let s := (s.setReg .TONE_TH0 t (BitVec.ofInt 32 (th.getD 0 0))).setReg .TONE_TH1 t (BitVec.ofInt 32 (th.getD 1 0))
        (s.setReg .TONE_TH2 t (BitVec.ofInt 32 (th.getD 2 0))).commitSet false g k
  | none => s

/-- The set is handed over in this cc (R90). -/
def State.handOver (s : State) (g k : Nat) : State :=
  let r := setStatus g k
  let s := s.setShadow g k { s.shadow g k with pendAt := none, handedAt := some s.now, prevSegbase := s.segbaseReg g k }
  let s := s.copyActive g k
  ((s.setBit r.1 r.2 0 false).setFld r.1 r.2 15 8 (s.fld r.1 r.2 15 8 + 1)).retryFit g k

/-- HAND_OVER (R90): in a hand-over cycle of a set that was pending at the start of the cc. -/
def handOverOp (g k : Nat) (s : State) : State :=
  if s.setPending g k && (s.shadow g k).pendAt != some s.now && s.handOverCycle g k then s.handOver g k else s

def execHandOver (dt g k : Nat) (s : State) : Result := .next (handOverOp g k (s.pass dt))

/-- The SEGBASE in force in this cc: a hand-over applies from the cc after it (R70, R90). -/
def State.segbase (s : State) (g u : Nat) : Nat :=
  if (s.shadow g u).handedAt = some s.now then (s.shadow g u).prevSegbase else s.segbaseReg g u

/-- The register, instance, bits and set of a shadow register. -/
def shadowHome (g : Nat) : ShadowReg → Reg × Nat × Nat × Nat
  | .voice u .ftwLo => (.VOICE_FTW_LO, 16 * g + u.val, 31, u.val)
  | .voice u .ftwHi => (.VOICE_FTW_HI, 16 * g + u.val, 15, u.val)
  | .voice u .poff => (.VOICE_POFF, 16 * g + u.val, 31, u.val)
  | .voice u .amp => (.VOICE_AMP, 16 * g + u.val, 15, u.val)
  | .voice u .segbase => (.VOICE_SEGBASE, 16 * g + u.val, 11, u.val)
  | .bbo b .gain => (.BBO_GAIN, 4 * g + b.val, 15, 16 + b.val)
  | .bbo b .offset => (.BBO_OFFSET, 4 * g + b.val, 15, 16 + b.val)
  | .tone t .ftwLo => (.TONE_FTW_LO, 16 * g + t.val, 31, 20 + t.val)
  | .tone t .ftwHi => (.TONE_FTW_HI, 16 * g + t.val, 15, 20 + t.val)
  | .tone t .poff => (.TONE_POFF, 16 * g + t.val, 31, 20 + t.val)
  | .tone t .wbase => (.TONE_WBASE, 16 * g + t.val, 15, 20 + t.val)
  | .tone t .rot => (.TONE_ROT, 16 * g + t.val, 15, 20 + t.val)
  | .tone t .th0 => (.TONE_TH0, 16 * g + t.val, 31, 20 + t.val)
  | .tone t .th1 => (.TONE_TH1, 16 * g + t.val, 31, 20 + t.val)
  | .tone t .th2 => (.TONE_TH2, 16 * g + t.val, 31, 20 + t.val)

/-- SHADOW_WRITE: a host or Gaffer write to a shadow register (R87, R90). -/
def shadowWriteOp (g : Nat) (r : ShadowReg) (v : Word) (s : State) : State :=
  let h := shadowHome g r
  s.shadowPut g h.2.2.2 h.1 h.2.1 h.2.2.1 0 (bits v h.2.2.1 0)

/-- The calibration unit that a shadow register belongs to (R227). -/
def shadowUnit (g : Nat) : ShadowReg → Option Nat
  | .tone t .rot | .tone t .th0 | .tone t .th1 | .tone t .th2 => some (0x200 + 16 * g + t.val)
  | _ => none

/-- The write as it passes the freeze bits (R239). -/
def shadowGatedOp (who : Requester) (g : Nat) (r : ShadowReg) (v : Word) (s : State) : State :=
  match shadowUnit g r with
  | some u => s.trimGate who u (shadowWriteOp g r v)
  | none => shadowWriteOp g r v s

def execShadowWrite (who : Requester) (g : Nat) (r : ShadowReg) (v : Word) (s : State) : Result :=
  .next (s.regAccess who (shadowHome g r).1 (shadowHome g r).2.1 (shadowGatedOp who g r v))

/-- The commit register of a unit. -/
def commitReg (g u : Nat) : Reg × Nat := if u < 16 then (.VOICE_COMMIT, 16 * g + u) else (.BBO_COMMIT, 4 * g + (u - 16))

def voiceCommitOp (g u : Nat) (s : State) : State := s.commitSet false g u

def execVoiceCommit (who : Requester) (g u : Nat) (s : State) : Result :=
  .next (s.regAccess who (commitReg g u).1 (commitReg g u).2 (voiceCommitOp g u))

/-- CL_COMMIT: every named set in one cc (R88). Bit 8o + v names voice v of output o, bit 16 + b baseband output b. -/
def clCommitOp (g : Nat) (mask : Word) (s : State) : State :=
  State.forEach (setBitsOf 20 mask.toNat) (fun u s => s.commitSet false g u) s

def execClCommit (who : Requester) (g : Nat) (mask : Word) (s : State) : Result :=
  .next (s.regAccess who .CL_COMMIT g (clCommitOp g mask))

/-! ### The segment table (R68-R70) -/

/-- The BAR0 address of word `w` of entry `e` of region `n` (R68). -/
def segAddr (n e w : Nat) : Nat := 0x0802_0000 + n * 0x0080_0000 + 16 * e + 4 * w

/-- Word `w` of a committed entry. -/
def State.segWord (s : State) (n e w : Nat) : Word := BitVec.ofNat 32 (s.le 3 (segAddr n e w) 4)

/-- The fields of an entry's four words (R68). -/
def segDecode (w0 w1 w2 w3 : Word) : SegEntry :=
  { base := bits w0 21 0, len := bits w1 22 0, fmt := bits w2 1 0, stream := bits w2 2 2 == 1, sid := bits w2 5 3
    loop := bits w2 31 16, next := bits w3 11 0, nextEn := bits w3 12 12 == 1 }

/-- The committed entry `e` of region `n`. -/
def State.segEntry (s : State) (n e : Nat) : SegEntry :=
  segDecode (s.segWord n e 0) (s.segWord n e 1) (s.segWord n e 2) (s.segWord n e 3)

/-- The requester's staging buffer, empty when it holds words of another entry (R69). -/
def State.stagingFor (s : State) (who : Requester) (n e : Nat) : Staging :=
  let b := tget {} s.play.staging (requesterIdx who)
  if b.region = n ∧ b.entry = e then b else { region := n, entry := e }

/-- Store a staging buffer. -/
def State.setStaging (s : State) (who : Requester) (b : Staging) : State :=
  { s with play := { s.play with staging := tset s.play.staging (requesterIdx who) b } }

/-- SEG_ENTRY_STAGE (R69). -/
def segStageOp (who : Requester) (n e w : Nat) (v : Word) (s : State) : State :=
  let b := s.stagingFor who n e
  s.setStaging who (match w with
    | 0 => { b with w0 := some v }
    | 1 => { b with w1 := some v }
    | _ => { b with w2 := some v })

def execSegEntryStage (who : Requester) (n e w : Nat) (v : Word) (s : State) : Result :=
  .next (s.access who (segAddr n e w) (segStageOp who n e w v))

/-- The check of an entry before it is committed (R69). -/
def segCheck (x : SegEntry) : Nat :=
  if x.len = 0 then Code.ok
  else if (!x.stream && x.base % 16 != 0) || x.len % 16 != 0 then Code.align
  else if 4194304 < x.len || (!x.stream && decide (4194304 < x.base + x.len)) || x.fmt == 3 then Code.range
  else Code.ok

/-- SEG_ENTRY_COMMIT (R69): word 3 with the staged words, checked; reserved bits are not held. -/
def segCommitOp (who : Requester) (n e : Nat) (v : Word) (s : State) : State :=
  let b := s.stagingFor who n e
  let held := tget {} s.play.staging (requesterIdx who)
  let s := if held.region = n ∧ held.entry = e then s.setStaging who {} else s
  let w0 := b.w0.getD (s.segWord n e 0)
  let w1 := b.w1.getD (s.segWord n e 1)
  let w2 := b.w2.getD (s.segWord n e 2)
  let code := segCheck (segDecode w0 w1 w2 v)
  let s := if code = Code.ok then
      (((s.writeLe 3 (segAddr n e 0) 4 (bits w0 21 0)).writeLe 3 (segAddr n e 1) 4 (bits w1 22 0)).writeLe 3 (segAddr n e 2) 4
        (bits w2 5 0 ||| bits w2 31 16 <<< 16)).writeLe 3 (segAddr n e 3) 4 (bits v 12 0)
    else s
  (s.setFld .SEG_STATUS n 7 0 code).setFld .SEG_STATUS n 19 8 e

def execSegEntryCommit (who : Requester) (n e : Nat) (v : Word) (s : State) : Result :=
  .next (s.access who (segAddr n e 3) (segCommitOp who n e v))

/-! ### Playing (R71-R74) -/

/-- Words per cc of a format (R71). -/
def fmtRate : Nat → Nat
  | 0 => 2
  | 1 => 8
  | _ => 1

/-- The duration of an entry in cc (R71). -/
def SegEntry.duration (x : SegEntry) : Nat := (x.loop + 1) * x.len / fmtRate x.fmt

/-- The format a unit plays (R74): direct on voice 0 of an output in direct mode, envelope on the other voices. -/
def State.unitFmt (s : State) (g u : Nat) : Nat :=
  if 16 ≤ u then 2
  else if u % 8 = 0 ∧ s.bit .RFO_CTRL (2 * g + u / 8) 1 = true then 1
  else 0

/-- Stream `i` of region `n`. -/
def State.stream (s : State) (n i : Nat) : StreamState := tget {} s.play.stream (8 * n + i)

/-- Store a stream. -/
def State.setStream (s : State) (n i : Nat) (x : StreamState) : State :=
  { s with play := { s.play with stream := tset s.play.stream (8 * n + i) x } }

/-- The size of a stream's area in words (R75). -/
def State.streamSize (s : State) (n i : Nat) : Nat := s.fld .STRM_CFG (8 * n + i) 14 8 * 16384

/-- The read position of a stream in the present cc (R76): it advances in every word slot its consumer plays. -/
def State.streamRead (s : State) (n i : Nat) : Nat :=
  let x := s.stream n i
  match x.consumer with
  | some k =>
    match (tget {} s.play.unit k : UnitState).playing with
    | some p => x.read + min ((p.entry.loop + 1) * p.entry.len) ((s.now - p.start) * fmtRate p.entry.fmt)
    | none => x.read
  | none => x.read

/-- Words present ahead of the read position: `STRM_STATUS.FILL`. -/
def State.streamFill (s : State) (n i : Nat) : Nat := (s.stream n i).written - s.streamRead n i

/-- The stream is enabled. -/
def State.streamOn (s : State) (n i : Nat) : Bool := s.bit .STRM_CFG (8 * n + i) 15

/-- A unit ends the segment it plays: a stream it consumed keeps the position reached (R76). -/
def State.endSegment (s : State) (g u : Nat) : State :=
  match (s.unit g u).playing with
  | none => s
  | some p =>
    let n := g / 4
    let s := if p.consumes then
        s.setStream n p.entry.sid { s.stream n p.entry.sid with read := s.streamRead n p.entry.sid, consumer := none }
      else s
    s.setUnit g u { s.unit g u with playing := none, starved := p.underran }

/-- The take engine of region `n`. -/
def State.takeEngine (s : State) (n : Nat) : TakeEngine := tget {} s.take.eng n

/-- Store the take engine. -/
def State.setTake (s : State) (n : Nat) (x : TakeEngine) : State := { s with take := { s.take with eng := tset s.take.eng n x } }

/-- The condition of FLAGS bit `b` of R223 holds in this cc: it is noted for takes to come, and set in the takes whose span is
in progress. -/
def State.takeMark (s : State) (n b : Nat) : State :=
  let old := (tget [] s.take.flagged (8 * n + b)).filter (fun f => decide (s.ftg < f + 2 ^ 20 + 2 ^ 17))
  let s := { s with take := { s.take with flagged := tset s.take.flagged (8 * n + b) (old ++ [s.ftg]) } }
  let x := s.takeEngine n
  s.setTake n { x with takes := x.takes.map (fun (k : Take) => if k.closed then k else { k with flags := k.flags ||| 1 <<< b }) }

/-- UNDERRUN of the segment that unit `u` plays (R77). -/
def State.flagUnderrun (s : State) (g u : Nat) (p : Playing) : State :=
  let n := g / 4
  let st := unitStatus g u
  let s := s.setUnit g u { s.unit g u with playing := some { p with zero := true, underran := true } }
  let s := (s.setBit st.1 st.2 2 true).setBit .STRM_STATUS (8 * n + p.entry.sid) 23 true
  let s := s.takeMark n 3
  s.raise (regionSource n 3)

/-- Unit `u` starts segment `index`, of which `x` is its copy, in the present cc (R70, R73, R74, R77). -/
def State.startSegment (s : State) (g u index : Nat) (x : SegEntry) (src : Option SuccessorFrom) : State :=
  let n := g / 4
  let st := unitStatus g u
  let s := s.endSegment g u
  if x.len = 0 then s.setBit st.1 st.2 3 true
  else
    let bad := x.fmt != s.unitFmt g u || (x.stream && (!s.streamOn n x.sid || (s.stream n x.sid).consumer.isSome))
    let consumes := x.stream && !bad
    let dpl := s.fld .SCR_CFG (8 * g + s.unitOwner g u) 6 0
    let p : Playing := { index, entry := x, start := s.now, stop := s.now + x.duration, decideAt := s.now + x.duration - dpl
                         zero := bad, consumes, from? := src }
    let starved := (s.unit g u).starved
    let s := if consumes then s.setStream n x.sid { s.stream n x.sid with consumer := some (20 * g + u) } else s
    let s := s.setUnit g u { s.unit g u with playing := some p }
    let s := if bad then s.setBit st.1 st.2 3 true else s
    if consumes && starved && decide (s.streamFill n x.sid < 16) then s.flagUnderrun g u p else s

/-- Entry `seg` plus the unit's SEGBASE, modulo 4,096 (R70). -/
def State.entryIndex (s : State) (g u seg : Nat) : Nat := (seg + s.segbase g u) % 4096

/-- Unit `u` starts the segment that an instruction named (R70, R102). -/
def State.startNamed (s : State) (g u seg : Nat) (src : Option SuccessorFrom) : State :=
  let i := s.entryIndex g u seg
  s.startSegment g u i (s.segEntry (g / 4) i) src

/-- A segment named for a splice, read now (R70). -/
def State.successorOf (s : State) (g u seg : Nat) (src : SuccessorFrom) : Successor :=
  let i := s.entryIndex g u seg
  { index := i, entry := s.segEntry (g / 4) i, src }

/-- SPLICE_DECISION_POINT (R108): at cc D the unit fixes its successor from a taken branch, a pending request or NEXT. -/
def State.fixSuccessor (s : State) (g u : Nat) (p : Playing) : State :=
  let x := s.unit g u
  let put (succ : Option Successor) (x : UnitState) : State :=
    s.setUnit g u { x with playing := some { p with decided := true, succ } }
  let next : Option Successor :=
    if p.entry.nextEn then some { index := p.entry.next, entry := s.segEntry (g / 4) p.entry.next, src := .next } else none
  let due (m : Nat) : Bool := decide (m + s.now ≤ p.decideAt + s.ftg)
  match x.branch, x.request with
  | some seg, some (r, m) =>
    let s' := put (some (s.successorOf g u seg .branch)) { x with branch := none, request := if due m then none else some (r, m) }
    if due m then s'.spliceLost g u else s'
  | some seg, none => put (some (s.successorOf g u seg .branch)) { x with branch := none }
  | none, some (seg, m) =>
    if due m then put (some (s.successorOf g u seg .request)) { x with request := none } else put next x
  | none, none => put next x

def spliceDecideOp (g u : Nat) (s : State) : State :=
  match (s.unit g u).playing with
  | some p => if p.decideAt ≤ s.now && !p.decided then s.fixSuccessor g u p else s
  | none => s

def execSpliceDecisionPoint (dt g u : Nat) (s : State) : Result := .next (spliceDecideOp g u (s.pass dt))

/-- SPLICE (R72, R108): at the end of the last repetition the successor starts, or a request that has matured since (item 4),
or the unit goes idle. -/
def spliceOp (g u : Nat) (s : State) : State :=
  match (s.unit g u).playing with
  | none => s
  | some p =>
    if p.stop ≤ s.now then
      let s := if p.decided then s else s.fixSuccessor g u p
      match (s.unit g u).playing with
      | none => s
      | some p =>
        match p.succ, (s.unit g u).request with
        | some x, _ => s.startSegment g u x.index x.entry (some x.src)
        | none, some (seg, _) => (s.setUnit g u { s.unit g u with request := none }).startNamed g u seg none
        | none, none => s.endSegment g u
    else s

def execSplice (dt g u : Nat) (s : State) : Result := .next (spliceOp g u (s.pass dt))

/-- A successor fixed from a branch or a request is dropped when something else takes the unit (R73, R108). -/
def State.dropSuccessor (s : State) (g u : Nat) : State :=
  match (s.unit g u).playing with
  | some p =>
    let fixed := match p.succ with
      | some x => x.src != .next
      | none => false
    let justStarted := p.start == s.now && (p.from? == some .branch || p.from? == some .request)
    if fixed || justStarted then s.spliceLost g u else s
  | none => s

/-- A splice request matures on unit `u` (R109). -/
def State.matureRequest (s : State) (g u seg m : Nat) : State :=
  match (s.unit g u).playing with
  | none => s.startNamed g u seg none
  | some p =>
    let lost := (s.unit g u).request.isSome
    let s := s.setUnit g u { s.unit g u with request := some (seg, m) }
    let s := if lost then s.spliceLost g u else s
    if p.decideAt < s.now ∧ s.now < p.stop then s.engineLate g (s.unitOwner g u) else s

/-! ### Streams (R75-R78) -/

/-- Append one block of 16 words at the write position; a word whose slot has passed is discarded and counted (R76). -/
def State.appendBlock (s : State) (n i : Nat) (ws : List Word) : State :=
  let x := s.stream n i
  let size := s.streamSize n i
  let base := s.fld .STRM_CFG (8 * n + i) 7 0 * 65536
  let rd := s.streamRead n i
  let put (s : State) (p : Nat × Word) : State :=
    if p.1 < rd then s.count .STRM_DROP (8 * n + i)
    else s.writeLe 2 (n * 2 ^ 26 + base + p.1 % size * 4) 4 p.2.toNat
  let s := (ws.zipIdx.map (fun q => (x.written + q.2, q.1))).foldl put s
  s.setStream n i { s.stream n i with written := x.written + ws.length }

/-- STREAM_PORT_WRITE (R76). -/
def streamWriteOp (n i : Nat) (ws : List Word) (s : State) : State :=
  if !s.hasRegion n then s
  else if !s.streamOn n i then s.count .STRM_DROP (8 * n + i) ws.length
  else
    let x := s.stream n i
    if x.held.isEmpty && decide (s.streamFill n i + ws.length ≤ s.streamSize n i) then s.appendBlock n i ws
    else s.setStream n i { x with held := x.held ++ [ws] }

def execStreamPortWrite (dt n i : Nat) (ws : List Word) (s : State) : Result := .next (streamWriteOp n i ws (s.pass dt))

/-- STREAM_HELD_WRITE_APPEND: the oldest held write, once its words are free. -/
def streamHeldOp (n i : Nat) (s : State) : State :=
  match (s.stream n i).held with
  | [] => s
  | ws :: rest =>
    if s.streamFill n i + ws.length ≤ s.streamSize n i then
      (s.setStream n i { s.stream n i with held := rest }).appendBlock n i ws
    else s

def execStreamHeldWriteAppend (dt n i : Nat) (s : State) : Result := .next (streamHeldOp n i (s.pass dt))

/-- UNDERRUN (R77): a word of the streamed segment is due in this cc and has not arrived. -/
def underrunOp (g u : Nat) (s : State) : State :=
  match (s.unit g u).playing with
  | none => s
  | some p =>
    let n := g / 4
    let x := s.stream n p.entry.sid
    let due := x.read + min ((p.entry.loop + 1) * p.entry.len) ((s.now + 1 - p.start) * fmtRate p.entry.fmt)
    if p.consumes && !p.zero && decide (s.now < p.stop) && decide (x.written < due) then s.flagUnderrun g u p else s

def execUnderrun (dt g u : Nat) (s : State) : Result := .next (underrunOp g u (s.pass dt))

/-- A stream becomes empty (R78): positions and contents. -/
def State.emptyStream (s : State) (n i : Nat) : State :=
  s.setStream n i { s.stream n i with written := 0, read := 0, held := [] }

/-- BASE, SIZE and EN of the eight streams with stream `i` set to `v`. -/
def State.streamCfgs (s : State) (n i : Nat) (v : Word) : List (Nat × Nat × Bool) :=
  (List.range 8).map (fun j =>
    let w := if j = i then v else s.reg .STRM_CFG (8 * n + j)
    (bits w 7 0, bits w 14 8, bits w 15 15 == 1))

/-- The areas of a configuration break one of R75's rules. -/
def streamCfgBad (cs : List (Nat × Nat × Bool)) : Bool :=
  let on := cs.filter (fun c => c.2.2)
  decide (64 < (on.map (fun c => c.2.1)).foldl (· + ·) 0) ||
    cs.any (fun c => decide (256 < c.1 + c.2.1)) || on.any (fun c => c.2.1 == 0) ||
    !decide ((on.map (fun c => (c.1, c.1 + c.2.1))).Pairwise (fun a b => a.2 ≤ b.1 ∨ b.2 ≤ a.1))

/-- STRM_CFG_WRITE (R75, R78). -/
def strmCfgOp (n i : Nat) (v : Word) (s : State) : State :=
  let w := BitVec.ofNat 32 (bits v 15 0)
  let old := s.reg .STRM_CFG (8 * n + i)
  let result (s : State) (c : Nat) : State := s.setFld .REEL_STATUS n 15 8 c
  if !s.regionHalted n then result s (if w = old then Code.ok else Code.locked)
  else if streamCfgBad (s.streamCfgs n i w) then result s Code.range
  else
    let s := result (s.setReg .STRM_CFG (8 * n + i) w) Code.ok
    if bits w 14 0 ≠ bits old 14 0 ∨ (bits old 15 15 = 0 ∧ bits w 15 15 = 1) then s.emptyStream n i else s

def execStrmCfgWrite (who : Requester) (n i : Nat) (v : Word) (s : State) : Result :=
  .next (s.regAccess who .STRM_CFG (8 * n + i) (strmCfgOp n i v))

/-! ### Markers (R92) -/

/-- The reel words that a unit plays in the present cc, none while it outputs zeros. -/
def State.wordsNow (s : State) (g u : Nat) : List Word :=
  match (s.unit g u).playing with
  | none => []
  | some p =>
    if p.zero then []
    else
      let n := g / 4
      let r := fmtRate p.entry.fmt
      (List.range r).map (fun k =>
        let w := (s.now - p.start) * r + k
        let a := if p.entry.stream then
            s.fld .STRM_CFG (8 * n + p.entry.sid) 7 0 * 65536 +
              ((s.stream n p.entry.sid).read + w) % s.streamSize n p.entry.sid * 4
          else (p.entry.base + w % p.entry.len) * 4
        BitVec.ofNat 32 (s.le 2 (n * 2 ^ 26 + a) 4))

/-- The marker of a route is asserted in the present cc (R66, R92). -/
def State.markerOn (s : State) (g : Nat) : MarkerRoute → Bool
  | .rfo o m =>
    let out := 2 * g + o.val
    if s.bit .RFO_CTRL out 1 then
      (s.wordsNow g (8 * o.val)).any (fun w => bits w 14 14 == 1 || bits w 30 30 == 1)
    else
      let src := s.fld .RFO_MKR (8 * out + m.val) 4 0
      (s.wordsNow g (8 * o.val + src / 4)).any (fun w => bitOf w.toNat (28 + src % 4))
  | .bbo b => (s.wordsNow g (16 + b.val)).any (fun w => bits w 14 14 == 1 || bits w 30 30 == 1)

/-- The register of a route. -/
def routeReg (g : Nat) : MarkerRoute → Reg × Nat
  | .rfo o m => (.RFO_MKR, 8 * (2 * g + o.val) + m.val)
  | .bbo b => (.BBO_MKR, 4 * g + b.val)

/-- MARKER_EDGE (R92): a rising edge of the route's marker in this cc drives its TIO line, if that is an output, or makes one
event of footage F with lineage 0. -/
def markerEdgeOp (g : Nat) (route : MarkerRoute) (s : State) : State :=
  let r := routeReg g route
  let dest := s.fld r.1 r.2 14 8
  if !s.markerOn g route then s
  else match s.fld r.1 r.2 6 5 with
    | 1 => if s.bit .TIO_CFG dest 0 then s.emit (.tioMarker dest (s.now + 26)) else s
    | 2 => s.emitEvent (.cluster g) dest s.now 0
    | 3 => s.emitEvent (.cluster g) (chanOf (g / 4) dest true) s.now 0
    | _ => s

def execMarkerEdge (dt g : Nat) (route : MarkerRoute) (s : State) : Result := .next (markerEdgeOp g route (s.pass dt))

/-- A write of a marker route (R92, R94): a DEST outside its KIND is discarded and reported RANGE. -/
def markerRouteOp (r : Reg) (i g : Nat) (v : Word) (s : State) : State :=
  if bits v 6 5 = 3 ∧ 32 ≤ bits v 14 8 then s.clResult g Code.range
  else (s.setReg r i (BitVec.ofNat 32 (bits v 6 0 ||| bits v 14 8 <<< 8))).clResult g Code.ok

/-! ### Idle and reset -/

/-- A unit stops its segment and goes idle at once; its queue and its pending request are withdrawn (R104). -/
def State.stopUnit (s : State) (g u : Nat) : State := (s.endSegment g u).setUnit g u {}

/-- The units' part of a cluster or region reset (R90, R104): segments stop, PENDING clears, both copies are kept. -/
def State.resetUnits (s : State) (g : Nat) : State :=
  let s := State.forEach (List.range 20) (fun u s => s.stopUnit g u) s
  State.forEach (List.range 36) (fun k s =>
    (s.setShadow g k { s.shadow g k with pendAt := none, commitAt := none, scriptCommitAt := none }).setBit
      (setStatus g k).1 (setStatus g k).2 0 false) s

end Sys2Proof.Machine
end

