-- ==== Sys2Proof/Machine/Fabric.lean ====
section
/-!
DEFINITION. The decision fabric (R130, R185-R198): words entering, the cluster and region paths, the hub's schedule, slot
views and slot defaults.
-/

namespace Sys2Proof.Machine

/-! ### Decision words (R130) -/

/-- A decision word. -/
def decisionWord (state : Nat) (valid late src : Bool) (seq : Nat) : BitVec 8 :=
  BitVec.ofNat 8 (state % 4 + 4 * b2n valid + 8 * b2n late + 16 * b2n src + 32 * (seq % 8))

def wordState (w : BitVec 8) : Nat := w.toNat % 4
def wordValid (w : BitVec 8) : Bool := bitOf w.toNat 2
def wordLate (w : BitVec 8) : Bool := bitOf w.toNat 3

/-- The word with LATE set (R192: the fabric never clears it). -/
def setLate (w : BitVec 8) : BitVec 8 := w ||| 8

/-! ### Defaults (R193) -/

/-- Default register `j` as it is in force in the present cc. -/
def State.dfltWord (s : State) (j : Nat) : Word :=
  match tfind s.fab.dfltOld j with
  | some (c, w) => if c = s.now then w else s.reg .FAB_DFLT_ACT j
  | none => s.reg .FAB_DFLT_ACT j

/-- The default of a slot in force in the present cc. -/
def State.slotDefault (s : State) (slot : Nat) : Nat :=
  bits (s.dfltWord (slot / 16)) (2 * (slot % 16) + 1) (2 * (slot % 16))

/-- Default register `j` changes: in force from the next cc. -/
def State.putDefault (s : State) (j : Nat) (v : Word) : State :=
  let s := { s with fab := { s.fab with dfltOld := tset s.fab.dfltOld j (s.now, s.dfltWord j) } }
  s.setReg .FAB_DFLT_ACT j v

/-- FAB_DFLT_WRITE (R193): before the first epoch it applies in the next cc; otherwise it waits for the next check. -/
def fabDfltOp (j : Nat) (v : Word) (s : State) : State :=
  let s := s.setReg .FAB_DFLT j v
  if !s.epochRun then s.putDefault j v
  else
    let s := { s with fab := { s.fab with
      dflt := (s.fab.dflt.filter (fun (p : Nat × Word × Nat) => p.1 != j || p.2.2 == s.now)) ++ [(j, v, s.now)] } }
    s.setBit .FAB_STATUS 0 0 true

def execFabDfltWrite (who : Requester) (j : Nat) (v : Word) (s : State) : Result :=
  .next (s.regAccess who .FAB_DFLT j (fabDfltOp j v))

/-- DFLT_APPLY (R193): at a clapper check the writes that landed before it take effect; one that lands in its cc waits. -/
def State.applyDefaults (s : State) : State :=
  let due := s.fab.dflt.filter (fun p => decide (p.2.2 < s.now))
  let rest := s.fab.dflt.filter (fun p => !decide (p.2.2 < s.now))
  let s := State.forEach due (fun p s => s.putDefault p.1 p.2.1) s
  { s with fab := { s.fab with dflt := rest } }.setBit .FAB_STATUS 0 0 (!rest.isEmpty)

/-! ### Entering and the local paths (R186, R187) -/

/-- A word enters the fabric at cluster `g` in cc `x` (R186). Before the first epoch it is discarded. -/
def State.enterFabric (s : State) (g slot : Nat) (w : BitVec 8) (x : Nat) : State :=
  if !s.epochRun then s
  else
    let n := g / 4
    let up := clusterKey g false
    let hub := regionKey n false
    let reach := if !(s.crossing up).locked then 0 else if !(s.crossing hub).locked then 1 else 2
    let f : FabricWord := { slot, word := w, x, reach, loose := (s.crossing up).faulted }
    let s := { s with fab := { s.fab with words := (s.fab.words.filter (fun (p : FabricWord) => decide (s.now ≤ p.x + 64))) ++ [f] } }
    if reach = 2 then s.countWrap .FAB_RG_UP_CNT n else s

/-- The next SEQ of a slot, and the state that has counted the emission (R130). -/
def State.nextSeq (s : State) (slot : Nat) : Nat × State :=
  let n := tget 0 s.fab.seq slot
  (n % 8, { s with fab := { s.fab with seq := tset s.fab.seq slot (n + 1) } })

/-- Within the reach of a crossing's occupancy of a nominal cc (R25). -/
def nearCc (loose : Bool) (cc now : Nat) : Bool :=
  cc == now || (loose && decide (now ≤ cc + 16) && decide (cc ≤ now + 16))

/-- The word of `slot` that reaches the view of cluster `g` in the present cc, with LATE set when it passed a faulted
crossing (R187, R190, R192). -/
def State.arrivingWord (s : State) (g slot : Nat) : Option (BitVec 8) :=
  let n := g / 4
  let own := slot / 64
  if slot < 1024 ∧ slot / 16 = g then
    (s.fab.words.find? (fun p => p.slot == slot && p.x + 6 == s.now)).map (·.word)
  else if slot < 1024 ∧ own = n then
    let down := s.crossing (clusterKey g true)
    if !down.locked then none
    else
      (s.fab.words.find? (fun p => p.slot == slot && decide (1 ≤ p.reach) &&
        nearCc (p.loose || down.faulted) (p.x + 10) s.now)).map
        (fun p => if p.loose || down.faulted then setLate p.word else p.word)
  else
    (s.fab.sent.find? (fun p => p.slot == slot && bitOf p.legs.toNat g &&
      nearCc (bitOf p.loose.toNat g) (p.c + 11) s.now)).map
      (fun p => if bitOf p.loose.toNat g then setLate p.word else p.word)

/-- FABRIC_DELIVERY (R187, R191, R192). -/
def fabricDeliveryOp (g slot : Nat) (s : State) : State :=
  match s.arrivingWord g slot with
  | none => s
  | some w =>
    if !s.epochRun || !s.regionAwake (g / 4) then s
    else if tfind s.fab.clearedAt g = some s.now then s.count .FAB_RG_DISC_CNT (g / 4)
    else
      let s := { s with fab := { s.fab with view := tset s.fab.view (1280 * g + slot) { word := w, cc := s.now, ftg := s.ftg } } }
      if wordLate w then (s.setBit .FAB_CL_STATUS g 0 true).count .FAB_CL_LATE_CNT g else s

def execFabricDelivery (dt g slot : Nat) (s : State) : Result := .next (fabricDeliveryOp g slot (s.pass dt))

/-! ### The hub (R188-R190) -/

/-- The cc in which the hub sends a word of `slot` read in cc `h`; `h` counts from footage 0 (R188). -/
def hubWait (slot h : Nat) : Nat := (slot / 128 + 10 - (h + 1) % 10) % 10 + 1

/-- The footage of a device cc of the running epoch. -/
def State.ftgOf (s : State) (cc : Nat) : Nat := cc - s.clap.epoch.getD 0

/-- The word of `slot` the hub reads in the present cc, from its uplink or from a link receiver (R187, R190). -/
def State.hubArrival (s : State) (slot : Nat) : Option (BitVec 8) :=
  if slot < 1024 then
    let up := (s.crossing (regionKey (slot / 64) false)).faulted
    (s.fab.words.find? (fun p => p.slot == slot && p.reach == 2 && nearCc (p.loose || up) (p.x + 9) s.now)).map
      (fun p => if p.loose || up then setLate p.word else p.word)
  else (s.fab.linkRx.find? (fun p => p.slot == slot && p.h == s.now)).map (·.word)

/-- HUB_SLOT_READ (R188, R189, R196): the word waits for its phase and replaces a word of the slot that still waits. -/
def hubReadOp (slot : Nat) (s : State) : State :=
  match s.hubArrival slot with
  | none => s
  | some w =>
    if !s.epochRun then s
    else
      let up := (s.crossing (regionKey (slot / 64) false)).faulted
      let replaced := s.fab.waiting.any (fun p => p.slot == slot && decide (s.now < p.c))
      let new : HubWord := { slot, word := w, h := s.now, c := s.now + hubWait slot s.ftg }
      let s := { s with fab := { s.fab with
        waiting := (s.fab.waiting.filter (fun (p : HubWord) => !(p.slot == slot && decide (s.now < p.c)))) ++ [new]
        words := s.fab.words.map (fun (p : FabricWord) =>
          if p.slot = slot ∧ p.reach = 2 ∧ nearCc (p.loose || up) (p.x + 9) s.now = true then { p with reach := 1 } else p)
        linkRx := s.fab.linkRx.filter (fun (p : HubWord) => !(p.slot == slot && p.h == s.now)) } }
      let s := s.setReg .FAB_SLOT slot (BitVec.ofNat 32 (w.toNat + 256))
      let s := { s with lnk := { s.lnk with
        reads := (s.lnk.reads.filter (fun (p : Nat × BitVec 8 × Nat) => decide (s.now < p.2.2 + 64))) ++ [(slot, w, s.now)] } }
      if replaced then (s.setBit .FAB_STATUS 0 1 true).count .FAB_OVWR_CNT else s

def execHubSlotRead (dt slot : Nat) (s : State) : Result := .next (hubReadOp slot (s.pass dt))

/-- The clusters of the populated regions other than the slot's own whose downlinks satisfy `p` (R186, R190). -/
def State.downlegs (s : State) (slot : Nat) (p : CrossingState → Bool) (all? : Bool) : Nat :=
  bitMask ((List.range 64).filter (fun g =>
    s.hasCluster g && !(decide (slot < 1024) && slot / 64 == g / 4) &&
      (let a := p (s.crossing (regionKey (g / 4) true)); let b := p (s.crossing (clusterKey g true))
       if all? then a && b else a || b)))

/-- HUB_BROADCAST_SEND (R188, R190, R192, R196). -/
def hubSendOp (slot : Nat) (s : State) : State :=
  match s.fab.waiting.find? (fun p => p.slot == slot && decide (p.c ≤ s.now)) with
  | none => s
  | some w =>
    if !s.epochRun then s
    else
      let legs := s.downlegs slot (·.locked) true
      let sent : SentWord := { slot, word := w.word, c := s.now, legs := BitVec.ofNat 64 legs
                               loose := BitVec.ofNat 64 (s.downlegs slot (·.faulted) false) }
      let s := { s with fab := { s.fab with
        waiting := s.fab.waiting.filter (fun (p : HubWord) => !(p.slot == slot && decide (p.c ≤ s.now)))
        sent := (s.fab.sent.filter (fun (p : SentWord) => decide (s.now ≤ p.c + 32))) ++ [sent] } }
      let s := s.countWrap .FAB_BCAST_CNT
      let s := State.forEach ((List.range 16).filter (fun n => legs / 16 ^ n % 16 != 0 && s.regionAwake n))
        (fun n s => s.countWrap .FAB_RG_DOWN_CNT n) s
      if wordLate w.word then
        let s := s.count .FAB_LATE_CNT
        if 1024 ≤ slot then (s.setBit .FAB_STATUS 0 2 true).raise 435 else s
      else s

def execHubBroadcastSend (dt slot : Nat) (s : State) : Result := .next (hubSendOp slot (s.pass dt))

/-! ### Views (R191, R197) and BRD's decision (R111) -/

/-- FAB_VIEW_SEL (R197). -/
def fabViewOp (g : Nat) (v : Word) (s : State) : State :=
  let slot := bits v 10 0
  let s := s.setReg .FAB_VIEW_SEL g (BitVec.ofNat 32 slot)
  match (if slot < 1280 then tfind s.fab.view (1280 * g + slot) else none) with
  | some e => (s.setReg .FAB_VIEW_WORD g (BitVec.ofNat 32 (e.word.toNat + 256))).setPair .FAB_VIEW_FTG_LO .FAB_VIEW_FTG_HI g e.ftg
  | none => (s.setReg .FAB_VIEW_WORD g 0).setPair .FAB_VIEW_FTG_LO .FAB_VIEW_FTG_HI g 0

def execFabViewSel (who : Requester) (g : Nat) (v : Word) (s : State) : Result :=
  .next (s.regAccess who .FAB_VIEW_SEL g (fabViewOp g v))

/-- The state that the decisions of `slot` delivered to cluster `g` in footage D − AGE + 1 to D give at D, if one is valid and
not late (R111). -/
def State.decisionState (s : State) (g slot d age : Nat) : Option Nat :=
  match tfind s.fab.view (1280 * g + slot) with
  | some e => if e.ftg ≤ d ∧ d < e.ftg + age ∧ wordValid e.word = true ∧ wordLate e.word = false then some (wordState e.word) else none
  | none => none

/-- A new epoch discards every word in the fabric and clears the views (R186, R191, R196). -/
def State.fabricEpoch (s : State) : State :=
  let s := { s with fab := { s.fab with words := [], linkRx := [], waiting := [], sent := [] } }
  ((s.clearViews (fun _ => true)).resetRegs [.FAB_SLOT, .FAB_OVWR_CNT, .FAB_LATE_CNT] (fun _ => true))

end Sys2Proof.Machine
end

