-- ==== Sys2Proof/Machine/Operands.lean ====
section
/-!
DEFINITION. The operand fields of the two instruction sets: the 64-bit Script word (R105) and, in Machine/Kernel.lean's terms,
the kernel bundle's slots (R168-R179).
-/

namespace Sys2Proof.Machine

/-- Bits [hi:lo] of a 64-bit word. -/
def field64 (w : BitVec 64) (hi lo : Nat) : Nat := (w.toNat >>> lo) % 2 ^ (hi + 1 - lo)

/-- One bit of a 64-bit word. -/
def flag64 (w : BitVec 64) (b : Nat) : Bool := field64 w b b == 1

/-! ### Script instruction words (R105) -/

namespace SI
def op (w : BitVec 64) : Nat := field64 w 63 58
def unit (w : BitVec 64) : Nat := field64 w 57 53
def reg (w : BitVec 64) : Bool := flag64 w 52
def sa (w : BitVec 64) : Nat := field64 w 51 48
def dst (w : BitVec 64) : Nat := field64 w 55 52
def sb (w : BitVec 64) : Nat := field64 w 46 43
/-- SPL of PLAY, SEL of SETA, I of ADD, SUB and CMP: bit 47. -/
def bit47 (w : BitVec 64) : Bool := flag64 w 47
def ent (w : BitVec 64) : Nat := field64 w 11 0
def imm32 (w : BitVec 64) : Nat := field64 w 31 0
def imm48 (w : BitVec 64) : Nat := field64 w 47 0
def imm16 (w : BitVec 64) : Nat := field64 w 15 0
def tgt (w : BitVec 64) : Nat := field64 w 14 0
def code (w : BitVec 64) : Nat := field64 w 7 0
def mask (w : BitVec 64) : Nat := field64 w 19 0
def tones (w : BitVec 64) : Nat := field64 w 15 0
def markL (w : BitVec 64) : Bool := flag64 w 57
def markCh (w : BitVec 64) : Nat := field64 w 56 50
def slot (w : BitVec 64) : Nat := field64 w 52 42
def brdCond (w : BitVec 64) : Nat := field64 w 41 39
def k (w : BitVec 64) : Nat := field64 w 38 37
/-- AGE, where 0 means 256 (R111). -/
def age (w : BitVec 64) : Nat := if field64 w 36 29 = 0 then 256 else field64 w 36 29
def seg (w : BitVec 64) : Nat := field64 w 26 15
def latch (w : BitVec 64) : Nat := field64 w 52 51
def pol (w : BitVec 64) : Bool := flag64 w 50
def brcCond (w : BitVec 64) : Nat := field64 w 57 54
def loopImm (w : BitVec 64) : Nat := field64 w 46 15
def gen (w : BitVec 64) : Nat := field64 w 57 56
end SI

/-- The opcodes that R105 reserves: 0x07, 0x0F, 0x19-0x1F and 0x24-0x3F. -/
def scriptReserved (op : Nat) : Bool :=
  op == 0x07 || op == 0x0F || (decide (0x19 ≤ op) && decide (op ≤ 0x1F)) || decide (0x24 ≤ op)

end Sys2Proof.Machine
end

