-- ==== Sys2Proof/Machine/Flags.lean ====
section
/-!
DEFINITION. Every flag computation of the two instruction sets: N, Z, C and V of the Script engines (R106) and the conditions
tested on them.
-/

namespace Sys2Proof.Machine

/-- N, Z, C, V as bits 3-0 (`SCR_FLAGS.NZCV`). -/
def nzcv (n z c v : Bool) : Nat := 8 * b2n n + 4 * b2n z + 2 * b2n c + b2n v

/-- The flags of a + b on 32 bits: carry out and signed overflow (R106). -/
def addFlags (a b : BitVec 32) : Nat :=
  let r := a + b
  nzcv r.msb (r == 0) (decide (2 ^ 32 ≤ a.toNat + b.toNat)) (a.msb == b.msb && r.msb != a.msb)

/-- The flags of a − b on 32 bits: C = 1 when there is no borrow (R106). -/
def subFlags (a b : BitVec 32) : Nat :=
  let r := a - b
  nzcv r.msb (r == 0) (decide (b.toNat ≤ a.toNat)) (a.msb != b.msb && r.msb != a.msb)

/-- BRC's conditions 0-7 on N, Z, C, V (R106). -/
def brcHolds (cond flags : Nat) : Bool :=
  let n := bitOf flags 3
  let z := bitOf flags 2
  let c := bitOf flags 1
  let v := bitOf flags 0
  match cond with
  | 0 => z
  | 1 => !z
  | 2 => n != v
  | 3 => n == v
  | 4 => !c
  | 5 => c
  | 6 => !z && n == v
  | 7 => z || n != v
  | _ => false

/-- BRD's conditions on the state `st` (R111). -/
def brdHolds (cond st k : Nat) (substituted : Bool) : Bool :=
  match cond with
  | 0 => st == k
  | 1 => st != k
  | 2 => decide (k ≤ st)
  | 3 => decide (st < k)
  | 4 => substituted
  | _ => false

end Sys2Proof.Machine
end

