-- ==== Sys2Proof/Machine/Script.lean ====
section
/-!
DEFINITION. Script engines and sweep generators (R97-R117): starting and halting, issue, every instruction, the decision
points of branches, the maturing of queue entries and the sweep sequences.
-/

namespace Sys2Proof.Machine

/-! ### Engine state -/

/-- Engine `e` of cluster `g`. -/
def State.eng (s : State) (g e : Nat) : EngineState := tget {} s.scr.eng (8 * g + e)

/-- Store an engine. -/
def State.setEng (s : State) (g e : Nat) (x : EngineState) : State :=
  { s with scr := { s.scr with eng := tset s.scr.eng (8 * g + e) x } }

def State.pc (s : State) (g e : Nat) : Nat := s.fld .SCR_PC (8 * g + e) 14 0
def State.setPc (s : State) (g e pc : Nat) : State := s.setReg .SCR_PC (8 * g + e) (BitVec.ofNat 32 (pc % 32768))

/-- Program time T. -/
def State.progTime (s : State) (g e : Nat) : Nat := s.pair .SCR_T_LO .SCR_T_HI (8 * g + e)
def State.setProgTime (s : State) (g e t : Nat) : State := s.setPair .SCR_T_LO .SCR_T_HI (8 * g + e) t

/-- Scalar register Sj. -/
def State.sreg (s : State) (g e j : Nat) : Word := s.reg .SCR_S (16 * (8 * g + e) + j)
def State.setSreg (s : State) (g e j : Nat) (v : Word) : State := s.setReg .SCR_S (16 * (8 * g + e) + j) v

/-- S[SA] where REG = 1, otherwise 0 (R105). -/
def State.regTerm (s : State) (g e : Nat) (w : BitVec 64) : Nat := if SI.reg w then (s.sreg g e (SI.sa w)).toNat else 0

/-- X = IMM + (REG ? S[SA] : 0) of R106, for a 32-bit IMM. -/
def State.opX (s : State) (g e : Nat) (w : BitVec 64) : Nat := SI.imm32 w + s.regTerm g e w

/-- The pair {S[SA+1], S[SA]}. -/
def State.sPair (s : State) (g e sa : Nat) : Nat := (s.sreg g e sa).toNat + (s.sreg g e (sa + 1)).toNat * 2 ^ 32

/-- The WAIT_DP, WAIT_AHEAD and WAIT_Q bits of an engine (R116). -/
def State.setWaits (s : State) (g e : Nat) (dp ahead q : Bool) : State :=
  s.setFld .SCR_STATUS (8 * g + e) 6 4 (b2n dp + 2 * b2n ahead + 4 * b2n q)

/-- An engine stops running with a status code (R104). -/
def State.haltWith (s : State) (g e code : Nat) (error : Bool) : State :=
  let i := 8 * g + e
  let s := (s.setBit .SCR_STATUS i 0 false).setBit .SCR_STATUS i 1 error
  let s := (s.setFld .SCR_STATUS i 15 8 code).setWaits g e false false false
  s.setEng g e { s.eng g e with wait := none, queued := none, watch := none }

/-- HALTED and the region source of a HALT or an error (R104). -/
def State.haltSignal (s : State) (g e : Nat) : State :=
  (s.setBit .SCR_CL_STATUS g (8 + e) true).raise (regionSource (g / 4) (5 + g % 4))

/-- An error halts the engine, with PC at the failing instruction (R104). -/
def State.errorHalt (s : State) (g e code : Nat) : State := (s.haltWith g e code true).haltSignal g e

/-- The lowest of the codes, if there is any (R36). -/
def lowestCode (cs : List (Bool × Nat)) : Option Nat :=
  (cs.filter (·.1)).foldl (fun m c => match m with | none => some c.2 | some x => some (min x c.2)) none

/-- UNIT 20-30, or 31 outside BRD and BRE, is RANGE (R105); a unit of another engine is ACCESS (R99). -/
def State.unitErrors (s : State) (g e u : Nat) (none? : Bool) : List (Bool × Nat) :=
  [(decide (20 ≤ u) && !(none? && u == 31), Code.range), (decide (u < 20) && s.unitOwner g u != e, Code.access)]

/-! ### Fetch and issue (R98, R100, R105) -/

/-- The BAR0 address of word `pc` of the Script program of cluster `g` (R28, R98). -/
def scriptAddr (g pc : Nat) : Nat := 0x0810_0000 + g / 4 * 0x0080_0000 + g % 4 * 0x0010_0000 + 0x40000 + 8 * pc

/-- The word an engine fetches: one written in this cc still gives what it held before (R98). -/
def State.scriptWord (s : State) (g pc : Nat) : BitVec 64 :=
  match tfind s.scr.oldWord (32768 * g + pc) with
  | some (c, w) => if c = s.now then w else BitVec.ofNat 64 (s.le 3 (scriptAddr g pc) 8)
  | none => BitVec.ofNat 64 (s.le 3 (scriptAddr g pc) 8)

/-- The engine issues its next instruction in this cc, if it runs, does not wait at a branch, has not issued in this cc, and its
program time is at most 256 cc ahead (R100). Otherwise it stalls. A reserved opcode halts it with RANGE; an opcode other than
`op` is another command's. -/
def State.issue (s : State) (g e op : Nat) (meaning : BitVec 64 → State → State) : State :=
  let x := s.eng g e
  if !s.engineRuns g e || x.wait.isSome || x.queued.isSome || decide (s.now < x.nextCc) || !s.epochRun then s
  else if s.ftg + 256 < s.progTime g e then s.setWaits g e false true false
  else
    let w := s.scriptWord g (s.pc g e)
    if scriptReserved (SI.op w) then (s.setEng g e { x with nextCc := s.now + 1 }).errorHalt g e Code.range
    else if SI.op w ≠ op then s
    else meaning w ((s.setEng g e { x with nextCc := s.now + 1 }).setWaits g e false false false)

/-- PC advances by 1 modulo 32,768 (R105). -/
def State.nextPc (s : State) (g e : Nat) : State := s.setPc g e (s.pc g e + 1)

/-- Run `k` unless one of the conditions halts the engine (R36). -/
def State.guard (s : State) (g e : Nat) (cs : List (Bool × Nat)) (k : State → State) : State :=
  match lowestCode cs with
  | some c => s.errorHalt g e c
  | none => k s

/-! ### Time queues (R101) -/

/-- Insert an entry behind those of the same or an earlier maturity. -/
def queueInsert {α : Type} (q : List (Nat × α)) (m : Nat) (a : α) : List (Nat × α) :=
  q.filter (fun p => decide (p.1 ≤ m)) ++ (m, a) :: q.filter (fun p => !decide (p.1 ≤ m))

/-- Entries of equal maturity in a queue. -/
def sameMaturity {α : Type} (q : List (Nat × α)) (m : Nat) : Nat := (q.filter (fun p => p.1 == m)).length

/-- Place an entry in a unit's time queue. -/
def State.pushUnit (s : State) (g u m : Nat) (a : UnitAction) : State :=
  s.setUnit g u { s.unit g u with queue := queueInsert (s.unit g u).queue m a }

/-- The engine stalls on a full queue: it has not issued (R100). -/
def State.stallQueue (s : State) (g e : Nat) : State :=
  (s.setEng g e { s.eng g e with nextCc := s.now }).setWaits g e false false true

/-- A timed instruction places `act` at T in the queue of each of `us` (R101), then goes on with `after`: a full queue stalls,
a maturity less than 2 cc ahead is discarded with LATE, a fifth entry of equal maturity in any queue halts with RANGE. -/
def State.placeTimed (s : State) (g e : Nat) (us : List Nat) (act : UnitAction) (after : State → State) : State :=
  let t := s.progTime g e
  if us.any (fun u => decide (64 ≤ (s.unit g u).queue.length)) then s.stallQueue g e
  else if t < s.ftg + 2 then (after (s.engineLate g e)).nextPc g e
  else if us.any (fun u => decide (4 ≤ sameMaturity (s.unit g u).queue t)) then s.errorHalt g e Code.range
  else (after (State.forEach us (fun u s => s.pushUnit g u t act) s)).nextPc g e

/-- The same for the auxiliary queue. -/
def State.placeAux (s : State) (g e : Nat) (act : AuxAction) : State :=
  let t := s.progTime g e
  let q := (s.eng g e).aux
  if 64 ≤ q.length then s.stallQueue g e
  else if t < s.ftg + 2 then (s.engineLate g e).nextPc g e
  else if 4 ≤ sameMaturity q t then s.errorHalt g e Code.range
  else (s.setEng g e { s.eng g e with aux := queueInsert q t act }).nextPc g e

/-! ### Starting and halting (R104) -/

/-- The refusal of a start, if there is one. -/
def State.startRefusal (s : State) (g e : Nat) : Option Nat :=
  let t0 := s.pair .SCR_T0_LO .SCR_T0_HI (8 * g + e)
  if !s.epochRun || s.engineRuns g e then some Code.busy
  else if t0 ≠ 0 ∧ t0 < s.ftg + 16 then some Code.late
  else none

/-- Engine `e` starts (R104). -/
def State.startEngine (s : State) (g e : Nat) : State :=
  let i := 8 * g + e
  let t0 := s.pair .SCR_T0_LO .SCR_T0_HI i
  let s := (s.setPc g e (s.fld .SCR_PC_INIT i 14 0)).setProgTime g e (if t0 = 0 then s.ftg + 16 else t0)
  let s := ((s.setReg .SCR_FLAGS i 0).setReg .SCR_LATE_CNT i 0).setReg .SCR_SUBST_CNT i 0
  let s := State.forEach (List.range 4) (fun k s => s.clearTask (scriptInput g e k)) s
  let s := s.setEng g e { aux := (s.eng g e).aux, nextCc := s.now + 1 }
  (s.setBit .SCR_STATUS i 0 true).setWaits g e false false false

/-- SCR_START (R17, R104): the engines named; the first refusal is reported. -/
def scrStartOp (g : Nat) (mask : Nat) (s : State) : State :=
  let es := setBitsOf 8 mask
  let codes := es.map (fun e => (s.startRefusal g e).getD Code.ok)
  let s := State.forEach es (fun e (s : State) =>
    match s.startRefusal g e with
    | none => s.startEngine g e
    | some c => if c = Code.late then s.engineLate g e else s) s
  s.clResult g ((codes.find? (· != Code.ok)).getD Code.ok)

def execScrStart (who : Requester) (g : Nat) (mask : BitVec 8) (s : State) : Result :=
  .next (s.regAccess who .SCR_START g (scrStartOp g mask.toNat))

/-- An engine that waits at a branch stops past it: PC is the instruction after the last one issued (R104). -/
def State.pcPastWait (s : State) (g e : Nat) : State := if (s.eng g e).wait.isSome then s.nextPc g e else s

/-- Engine `e` is halted from outside, with no source raised (R104). -/
def State.stopEngine (s : State) (g e code : Nat) : State :=
  if s.engineRuns g e then (s.pcPastWait g e).haltWith g e code false else s

/-- Withdraw the entries of engine `e`: those of the units it owns, and its auxiliary queue (R104). -/
def State.flushEngine (s : State) (g e : Nat) : State :=
  let s := State.forEach ((List.range 20).filter (fun u => s.unitOwner g u == e))
    (fun u s => s.setUnit g u { s.unit g u with queue := [] }) s
  s.setEng g e { s.eng g e with aux := [] }

def scrStopOp (g mask flush : Nat) (s : State) : State :=
  State.forEach (setBitsOf 8 mask) (fun e s =>
    let s := s.stopEngine g e Code.ok
    if bitOf flush e then s.flushEngine g e else s) s

def execScrStop (who : Requester) (g : Nat) (mask : BitVec 8) (s : State) : Result :=
  .next (s.regAccess who .SCR_STOP g (scrStopOp g mask.toNat 0))

def scrStopFlushOp (g mask : Nat) (s : State) : State := scrStopOp g mask mask s

def execScrStopFlush (who : Requester) (g : Nat) (mask : BitVec 8) (s : State) : Result :=
  .next (s.regAccess who .SCR_STOP g (scrStopFlushOp g mask.toNat))

/-! ### The instructions (R106) -/

def execNop (dt g e : Nat) (s : State) : Result :=
  .next ((s.pass dt).issue g e 0x00 (fun _ s => s.nextPc g e))

/-- HALT: CODE goes to HCODE, PC stays after the HALT. -/
def haltOp (g e : Nat) (w : BitVec 64) (s : State) : State :=
  (((s.nextPc g e).haltWith g e Code.ok false).setFld .SCR_STATUS (8 * g + e) 23 16 (SI.code w)).haltSignal g e

def execHalt (dt g e : Nat) (s : State) : Result := .next ((s.pass dt).issue g e 0x01 (haltOp g e))

/-- I = (ENT + (REG ? S[SA][11:0] : 0)) mod 4,096. -/
def State.playIndex (s : State) (g e : Nat) (w : BitVec 64) : Nat := (SI.ent w + s.regTerm g e w % 4096) % 4096

/-- PLAY: a timed segment start, or with SPL a splice request, at T. -/
def playOp (g e : Nat) (w : BitVec 64) (s : State) : State :=
  s.guard g e (s.unitErrors g e (SI.unit w) false) (fun s =>
    let i := s.playIndex g e w
    s.placeTimed g e [SI.unit w] (if SI.bit47 w then .request i else .play i) id)

def execPlay (dt g e : Nat) (s : State) : Result := .next ((s.pass dt).issue g e 0x02 (playOp g e))

/-- PLAYD: as PLAY, then T += D of the entry (I + active SEGBASE) mod 4,096 as it stands at issue. -/
def playdOp (g e : Nat) (w : BitVec 64) (s : State) : State :=
  let u := SI.unit w
  s.guard g e ((SI.bit47 w, Code.range) :: s.unitErrors g e u false) (fun s =>
    let i := s.playIndex g e w
    let d := (s.segEntry (g / 4) (s.entryIndex g u i)).duration
    s.placeTimed g e [u] (.play i) (fun s => s.setProgTime g e (s.progTime g e + d)))

def execPlayd (dt g e : Nat) (s : State) : Result := .next ((s.pass dt).issue g e 0x03 (playdOp g e))

def waitOp (g e : Nat) (w : BitVec 64) (s : State) : State :=
  (s.setProgTime g e (s.progTime g e + s.opX g e w)).nextPc g e

def execWait (dt g e : Nat) (s : State) : Result := .next ((s.pass dt).issue g e 0x04 (waitOp g e))

/-- WAITU: T = target if it is not in the past of program time, otherwise LATE. -/
def waituOp (g e : Nat) (w : BitVec 64) (s : State) : State :=
  s.guard g e [(SI.sa w % 2 == 1, Code.range)] (fun s =>
    let t := (s.sPair g e (SI.sa w) + SI.imm32 w) % 2 ^ 64
    (if s.progTime g e ≤ t then s.setProgTime g e t else s.engineLate g e).nextPc g e)

def execWaitu (dt g e : Nat) (s : State) : Result := .next ((s.pass dt).issue g e 0x05 (waituOp g e))

/-- The least k · 2^20 ≥ t with k ≥ 1. -/
def nextCheckFrom (t : Nat) : Nat := max 1 ((t + 2 ^ 20 - 1) / 2 ^ 20) * 2 ^ 20

def clapOp (g e : Nat) (_ : BitVec 64) (s : State) : State :=
  (s.setProgTime g e (nextCheckFrom (s.progTime g e))).nextPc g e

def execClap (dt g e : Nat) (s : State) : Result := .next ((s.pass dt).issue g e 0x06 (clapOp g e))

/-- The errors of SETF, SETP and ROTP: a baseband UNIT is TYPE. -/
def State.voiceErrors (s : State) (g e u : Nat) : List (Bool × Nat) :=
  (decide (16 ≤ u) && decide (u < 20), Code.type) :: s.unitErrors g e u false

def setfOp (g e : Nat) (w : BitVec 64) (s : State) : State :=
  let u := SI.unit w
  s.guard g e ((SI.reg w && SI.sa w % 2 == 1, Code.range) :: s.voiceErrors g e u) (fun s =>
    let r := if SI.reg w then s.sPair g e (SI.sa w) % 2 ^ 48 else 0
    s.placeTimed g e [u] (.setFtw (BitVec.ofNat 48 (r + SI.imm48 w))) id)

def execSetf (dt g e : Nat) (s : State) : Result := .next ((s.pass dt).issue g e 0x08 (setfOp g e))

def setpOp (g e : Nat) (w : BitVec 64) (s : State) : State :=
  s.guard g e (s.voiceErrors g e (SI.unit w)) (fun s =>
    s.placeTimed g e [SI.unit w] (.setPoff (BitVec.ofNat 32 (s.opX g e w))) id)

def execSetp (dt g e : Nat) (s : State) : Result := .next ((s.pass dt).issue g e 0x09 (setpOp g e))

def rotpOp (g e : Nat) (w : BitVec 64) (s : State) : State :=
  s.guard g e (s.voiceErrors g e (SI.unit w)) (fun s =>
    s.placeTimed g e [SI.unit w] (.addPoff (BitVec.ofNat 32 (s.opX g e w))) id)

def execRotp (dt g e : Nat) (s : State) : Result := .next ((s.pass dt).issue g e 0x0A (rotpOp g e))

/-- SETA: SEL 0 writes AMP or GAIN, SEL 1 SEGBASE or OFFSET. -/
def setaOp (g e : Nat) (w : BitVec 64) (s : State) : State :=
  let u := SI.unit w
  s.guard g e (s.unitErrors g e u false) (fun s =>
    let x := SI.imm16 w + s.regTerm g e w
    let act : UnitAction :=
      if u < 16 then (if SI.bit47 w then .setSegbase (BitVec.ofNat 12 x) else .setAmp (BitVec.ofNat 16 x))
      else (if SI.bit47 w then .setOffset (BitVec.ofNat 16 x) else .setGain (BitVec.ofNat 16 x))
    s.placeTimed g e [u] act id)

def execSeta (dt g e : Nat) (s : State) : Result := .next ((s.pass dt).issue g e 0x0B (setaOp g e))

def commitOp (g e : Nat) (w : BitVec 64) (s : State) : State :=
  let us := setBitsOf 20 (SI.mask w)
  if us.isEmpty then s.nextPc g e
  else s.guard g e [(us.any (fun u => s.unitOwner g u != e), Code.access)] (fun s => s.placeTimed g e us .commit id)

def execCommit (dt g e : Nat) (s : State) : Result := .next ((s.pass dt).issue g e 0x0C (commitOp g e))

def acqOp (g e : Nat) (w : BitVec 64) (s : State) : State :=
  let ts := setBitsOf 16 (SI.tones w)
  if ts.isEmpty then s.nextPc g e
  else s.guard g e [(ts.any (fun t => s.toneOwner g t != e), Code.access)] (fun s =>
    s.placeAux g e (.acq (BitVec.ofNat 16 (SI.tones w))))

def execAcq (dt g e : Nat) (s : State) : Result := .next ((s.pass dt).issue g e 0x0D (acqOp g e))

/-- MARK: the lineage is LIN + 1 while LINV = 1 at issue, otherwise 0 (R112). -/
def markOp (g e : Nat) (w : BitVec 64) (s : State) : State :=
  let i := 8 * g + e
  s.guard g e [(SI.markL w && decide (31 < SI.markCh w), Code.range)] (fun s =>
    let lin := if s.bit .SCR_FLAGS i 19 then s.fld .SCR_FLAGS i 18 16 + 1 else 0
    s.placeAux g e (.mark (chanOf (g / 4) (SI.markCh w) (SI.markL w)) lin))

def execMark (dt g e : Nat) (s : State) : Result := .next ((s.pass dt).issue g e 0x0E (markOp g e))

def execBr (dt g e : Nat) (s : State) : Result :=
  .next ((s.pass dt).issue g e 0x10 (fun w s => s.setPc g e (SI.tgt w)))

/-! ### Branches on decisions and events (R107-R112) -/

/-- A slot default is substituted for a BRD (R111): LATE, `SCR_SUBST_CNT` and the region source. -/
def State.substitute (s : State) (g e : Nat) : State :=
  (((s.engineLate g e).count .SCR_SUBST_CNT (8 * g + e)).takeMark (g / 4) 2).raise (regionSource (g / 4) 4)

/-- LIN and LINV after a BRE (R112). -/
def State.setLineage (s : State) (g e : Nat) (l : Option Nat) : State :=
  let i := 8 * g + e
  match l with
  | some l => (s.setFld .SCR_FLAGS i 18 16 l).setBit .SCR_FLAGS i 19 true
  | none => s.setBit .SCR_FLAGS i 19 false

/-- Go to TGT when taken, to the next instruction otherwise. -/
def State.branchTo (s : State) (g e : Nat) (taken : Bool) (w : BitVec 64) : State :=
  if taken then s.setPc g e (SI.tgt w) else s.nextPc g e

/-- A BRD or BRE issues at T with decision point D = T − DPL (R107, R110): it waits for D, or is behind. -/
def State.issueBranch (s : State) (g e : Nat) (w : BitVec 64) (behind : State → State) : State :=
  let t := s.progTime g e
  let dpl := s.fld .SCR_CFG (8 * g + e) 6 0
  if s.ftg + dpl ≤ t then
    (s.setEng g e { s.eng g e with wait := some { word := w, t, d := t - dpl } }).setWaits g e true false false
  else behind s

/-- BRD: behind its decision point it uses the slot default; SEG takes no effect (R110). -/
def brdOp (g e : Nat) (w : BitVec 64) (s : State) : State :=
  s.guard g e ((decide (1279 < SI.slot w), Code.range) :: (decide (4 < SI.brdCond w), Code.range) ::
      s.unitErrors g e (SI.unit w) true) (fun s =>
    s.issueBranch g e w (fun s =>
      let taken := brdHolds (SI.brdCond w) (s.slotDefault (SI.slot w)) (SI.k w) true
      (s.substitute g e).branchTo g e taken w))

def execBrd (dt g e : Nat) (s : State) : Result := .next ((s.pass dt).issue g e 0x11 (brdOp g e))

/-- BRE: behind its decision point it takes its latch as clear and consumes nothing (R110, R112). -/
def breOp (g e : Nat) (w : BitVec 64) (s : State) : State :=
  s.guard g e (s.unitErrors g e (SI.unit w) true) (fun s =>
    s.issueBranch g e w (fun s => ((s.engineLate g e).setLineage g e none).branchTo g e (SI.pol w) w))

def execBre (dt g e : Nat) (s : State) : Result := .next ((s.pass dt).issue g e 0x12 (breOp g e))

/-- The PLAY of a taken branch (R110): placed at `t`, or discarded with LATE; a full queue keeps the engine waiting, a fifth
entry of equal maturity halts it. -/
def State.placeBranchPlay (s : State) (g e u seg t : Nat) : State :=
  let q := (s.unit g u).queue
  if 64 ≤ q.length then
    (s.setEng g e { s.eng g e with queued := some (u, seg, t) }).setWaits g e false false true
  else
    let s := (s.setEng g e { s.eng g e with queued := none, nextCc := s.now + 1 }).setWaits g e false false false
    if t < s.ftg + 2 then s.engineLate g e
    else if 4 ≤ sameMaturity q t then s.errorHalt g e Code.range
    else s.pushUnit g u t (.play seg)

/-- A taken branch with UNIT ≠ 31 (R108, R110): a splice of the unit at T takes SEG, unless its successor is fixed already;
otherwise SEG is a timed PLAY at T. -/
def State.takeSegment (s : State) (g e u seg t : Nat) : State :=
  let x := s.unit g u
  match x.playing with
  | some p =>
    if p.stop + s.ftg = t + s.now then
      if p.decided then s.spliceLost g u else s.setUnit g u { x with branch := some seg }
    else s.placeBranchPlay g e u seg t
  | none => s.placeBranchPlay g e u seg t

/-- BRANCH_DECISION_POINT: at the end of cc D the waiting BRD or BRE evaluates its condition (R110-R112). -/
def branchDecideOp (g e : Nat) (s : State) : State :=
  let x := s.eng g e
  match x.wait with
  | none => s
  | some b =>
    if s.ftg < b.d then s
    else
      let w := b.word
      let s := (s.setEng g e { x with wait := none, nextCc := s.now + 1 }).setWaits g e false false false
      let finish (s : State) (taken : Bool) : State :=
        let s := s.branchTo g e taken w
        if taken && decide (SI.unit w < 20) then s.takeSegment g e (SI.unit w) (SI.seg w) b.t else s
      if SI.op w = 0x11 then
        match s.decisionState g (SI.slot w) b.d (SI.age w) with
        | some st => finish s (brdHolds (SI.brdCond w) st (SI.k w) false)
        | none => finish (s.substitute g e) (brdHolds (SI.brdCond w) (s.slotDefault (SI.slot w)) (SI.k w) true)
      else
        let key := scriptInput g e (SI.latch w)
        match s.taskBit key with
        | some t => finish ((s.clearTask key).setLineage g e (some t.lineage)) (!SI.pol w)
        | none =>
          let s := s.setLineage g e none
          let dpl := b.t - b.d
          let s := s.setEng g e { s.eng g e with watch := some (SI.latch w, s.now + dpl - 1) }
          finish s (SI.pol w)

def execBranchDecisionPoint (dt g e : Nat) (s : State) : Result := .next (branchDecideOp g e (s.pass dt))

/-- QUEUED_PLAY_PLACE: the PLAY of a taken branch is placed once its queue has a free entry (R110). -/
def queuedPlaceOp (g e : Nat) (s : State) : State :=
  match (s.eng g e).queued with
  | some (u, seg, t) => if (s.unit g u).queue.length < 64 then s.placeBranchPlay g e u seg t else s
  | none => s

def execQueuedPlayPlace (dt g e : Nat) (s : State) : Result := .next (queuedPlaceOp g e (s.pass dt))

/-! ### Control and arithmetic (R106) -/

def brcOp (g e : Nat) (w : BitVec 64) (s : State) : State :=
  s.guard g e [(decide (7 < SI.brcCond w), Code.range)] (fun s =>
    s.branchTo g e (brcHolds (SI.brcCond w) (s.fld .SCR_FLAGS (8 * g + e) 3 0)) w)

def execBrc (dt g e : Nat) (s : State) : Result := .next ((s.pass dt).issue g e 0x13 (brcOp g e))

def loopOp (g e : Nat) (w : BitVec 64) (s : State) : State :=
  let n := if SI.reg w then (s.sreg g e (SI.sa w)).toNat else SI.loopImm w
  let x := s.eng g e
  if n = 0 then s.setPc g e (SI.tgt w + 1)
  else s.guard g e [(decide (4 ≤ x.loops.length), Code.range)] (fun s =>
    (s.setEng g e { s.eng g e with loops := ((s.pc g e + 1) % 32768, n - 1) :: x.loops }).nextPc g e)

def execLoop (dt g e : Nat) (s : State) : Result := .next ((s.pass dt).issue g e 0x14 (loopOp g e))

def endlOp (g e : Nat) (_ : BitVec 64) (s : State) : State :=
  let x := s.eng g e
  match x.loops with
  | [] => s.errorHalt g e Code.range
  | (start, n) :: rest =>
    if 0 < n then (s.setEng g e { x with loops := (start, n - 1) :: rest }).setPc g e start
    else (s.setEng g e { x with loops := rest }).nextPc g e

def execEndl (dt g e : Nat) (s : State) : Result := .next ((s.pass dt).issue g e 0x15 (endlOp g e))

def callOp (g e : Nat) (w : BitVec 64) (s : State) : State :=
  let x := s.eng g e
  s.guard g e [(decide (4 ≤ x.calls.length), Code.range)] (fun s =>
    (s.setEng g e { x with calls := (s.pc g e + 1) % 32768 :: x.calls }).setPc g e (SI.tgt w))

def execCall (dt g e : Nat) (s : State) : Result := .next ((s.pass dt).issue g e 0x16 (callOp g e))

def retOp (g e : Nat) (_ : BitVec 64) (s : State) : State :=
  let x := s.eng g e
  match x.calls with
  | [] => s.errorHalt g e Code.range
  | pc :: rest => (s.setEng g e { x with calls := rest }).setPc g e pc

def execRet (dt g e : Nat) (s : State) : Result := .next ((s.pass dt).issue g e 0x17 (retOp g e))

/-! ### Sweep generators (R113, R114) -/

/-- The configuration of a sweep sequence, shared with the march engines (R115). -/
structure SweepCfg where
  mode : Nat
  zero : Bool
  wb : Nat
  dirs : Nat
  n1 : Nat
  n2 : Nat
  poly : Nat
  seed : Nat
  deriving DecidableEq, Repr

/-- The configuration is valid (R113). -/
def SweepCfg.valid (c : SweepCfg) : Bool :=
  match c.mode with
  | 0 => true
  | 1 => true
  | 2 => decide (2 ≤ c.wb) && decide (c.wb ≤ 24) && c.seed % 2 ^ c.wb != 0
  | 3 => decide (1 ≤ c.wb) && decide (c.wb ≤ 24)
  | 4 => decide (1 ≤ c.wb) && decide (c.wb ≤ 24)
  | 5 => decide (c.n2 ≤ 8)
  | _ => false

/-- The length of the sequence (R113). -/
def SweepCfg.length (c : SweepCfg) : Nat :=
  match c.mode with
  | 0 => c.n1
  | 1 => c.n1 * c.n2
  | 2 => 2 ^ c.wb - 1 + b2n c.zero
  | 3 => 2 ^ c.wb
  | 4 => 2 ^ c.wb
  | _ => c.n1 * c.n2

/-- The reversal of the low `n` bits of `k`. -/
def bitReverse : Nat → Nat → Nat
  | 0, _ => 0
  | n + 1, k => k % 2 * 2 ^ n + bitReverse n (k / 2)

/-- The state after `v` of the LFSR (R113). -/
def SweepCfg.lfsrNext (c : SweepCfg) (v : Nat) : Nat :=
  (v / 2) ^^^ (if v % 2 = 1 then c.poly % 2 ^ c.wb else 0)

/-- The ordinal pair (x, j) of step `k`, with the LFSR at `v` (R113). -/
def SweepCfg.ordinal (c : SweepCfg) (k v : Nat) : Nat × Nat :=
  match c.mode with
  | 0 => (k, 0)
  | 1 => (k % c.n1, k / c.n1)
  | 2 => if c.zero && k == 0 then (0, 0) else (v, 0)
  | 3 => (bitReverse c.wb k, 0)
  | 4 => (k ^^^ k / 2, 0)
  | _ => (if bitOf c.dirs (k / c.n1) then c.n1 - 1 - k % c.n1 else k % c.n1, k / c.n1)

/-- Generator `k` of cluster `g` as configured. -/
def State.swgCfg (s : State) (g k : Nat) : SweepCfg :=
  let i := 4 * g + k
  { mode := s.fld .SWG_CTRL i 2 0, zero := s.bit .SWG_CTRL i 5, wb := s.fld .SWG_CTRL i 10 6, dirs := s.fld .SWG_CTRL i 19 12
    n1 := s.fld .SWG_N1 i 23 0 + 1, n2 := s.fld .SWG_N2 i 11 0 + 1
    poly := s.fld .SWG_POLY i 23 0, seed := s.fld .SWG_SEED i 23 0 }

/-- The generator's position. -/
def State.sweep (s : State) (g k : Nat) : SweepState := tget {} s.scr.swg (4 * g + k)

/-- Store the generator's position. -/
def State.setSweep (s : State) (g k : Nat) (x : SweepState) : State :=
  { s with scr := { s.scr with swg := tset s.scr.swg (4 * g + k) x } }

/-- The position returns to step 0 and DONE clears (R114). -/
def State.swgRestart (s : State) (g k : Nat) : State :=
  let c := s.swgCfg g k
  (s.setSweep g k { step := 0, lfsr := c.seed % 2 ^ c.wb }).setBit .SWG_STATUS (4 * g + k) 0 false

/-- The value of the generator's position (R113). -/
def State.swgValue (s : State) (g k : Nat) : Nat :=
  let i := 4 * g + k
  let c := s.swgCfg g k
  let p := s.sweep g k
  let xj := c.ordinal p.step p.lfsr
  let m := if s.bit .SWG_CTRL i 3 then 2 ^ 48 else 2 ^ 32
  (s.pair .SWG_BASE_LO .SWG_BASE_HI i + xj.1 * s.pair .SWG_STEP_LO .SWG_STEP_HI i +
    xj.2 * s.pair .SWG_STEP2_LO .SWG_STEP2_HI i) % m

/-- The position after a value was taken (R114). -/
def State.swgAdvance (s : State) (g k : Nat) : State :=
  let i := 4 * g + k
  let c := s.swgCfg g k
  let p := s.sweep g k
  if p.step + 1 < c.length then
    s.setSweep g k { step := p.step + 1, lfsr := if c.zero && p.step == 0 then p.lfsr else c.lfsrNext p.lfsr }
  else if s.bit .SWG_CTRL i 4 then
    if s.bit .SWG_STATUS i 0 then s.setBit .SWG_STATUS i 1 true else s.setBit .SWG_STATUS i 0 true
  else s.setSweep g k { step := 0, lfsr := c.seed % 2 ^ c.wb }

/-- SWP: the next value of generator GEN; Z = 1 on the last of the sequence (R106, R114). -/
def swpOp (g e : Nat) (w : BitVec 64) (s : State) : State :=
  let k := SI.gen w
  let wide := s.bit .SWG_CTRL (4 * g + k) 3
  let d := SI.dst w
  s.guard g e [(!(s.swgCfg g k).valid, Code.range), (wide && d % 2 == 1, Code.range)] (fun s =>
    let v := s.swgValue g k
    let last := (s.sweep g k).step + 1 == (s.swgCfg g k).length
    let s := s.setSreg g e d (BitVec.ofNat 32 v)
    let s := if wide then s.setSreg g e (d + 1) (BitVec.ofNat 32 (v / 2 ^ 32)) else s
    ((s.setFld .SCR_FLAGS (8 * g + e) 3 0 (nzcv false last false false)).swgAdvance g k).nextPc g e)

def execSwp (dt g e : Nat) (s : State) : Result := .next ((s.pass dt).issue g e 0x18 (swpOp g e))

def ldiOp (g e : Nat) (w : BitVec 64) (s : State) : State :=
  (s.setSreg g e (SI.dst w) (BitVec.ofNat 32 (SI.imm32 w))).nextPc g e

def execLdi (dt g e : Nat) (s : State) : Result := .next ((s.pass dt).issue g e 0x20 (ldiOp g e))

/-- The operands S[SA] and (I ? IMM : S[SB]). -/
def State.aluOperands (s : State) (g e : Nat) (w : BitVec 64) : Word × Word :=
  (s.sreg g e (SI.sa w), if SI.bit47 w then BitVec.ofNat 32 (SI.imm32 w) else s.sreg g e (SI.sb w))

/-- Store N, Z, C, V. -/
def State.setNzcv (s : State) (g e f : Nat) : State := s.setFld .SCR_FLAGS (8 * g + e) 3 0 f

def addOp (g e : Nat) (w : BitVec 64) (s : State) : State :=
  let o := s.aluOperands g e w
  ((s.setSreg g e (SI.dst w) (o.1 + o.2)).setNzcv g e (addFlags o.1 o.2)).nextPc g e

def execAdd (dt g e : Nat) (s : State) : Result := .next ((s.pass dt).issue g e 0x21 (addOp g e))

def subOp (g e : Nat) (w : BitVec 64) (s : State) : State :=
  let o := s.aluOperands g e w
  ((s.setSreg g e (SI.dst w) (o.1 - o.2)).setNzcv g e (subFlags o.1 o.2)).nextPc g e

def execSub (dt g e : Nat) (s : State) : Result := .next ((s.pass dt).issue g e 0x22 (subOp g e))

def cmpOp (g e : Nat) (w : BitVec 64) (s : State) : State :=
  let o := s.aluOperands g e w
  (s.setNzcv g e (subFlags o.1 o.2)).nextPc g e

def execCmp (dt g e : Nat) (s : State) : Result := .next ((s.pass dt).issue g e 0x23 (cmpOp g e))

/-! ### Entries maturing (R102) -/

/-- Take the head entry of unit `u`'s queue, if it has matured. -/
def State.headEntry (s : State) (g u : Nat) : Option (Nat × UnitAction × State) :=
  if !s.epochRun then none
  else match (s.unit g u).queue with
    | (m, a) :: rest => if m ≤ s.ftg then some (m, a, s.setUnit g u { s.unit g u with queue := rest }) else none
    | [] => none

/-- PLAY_ENTRY_MATURE (R73, R102, R108): the segment starts, cutting one that plays and dropping its fixed successor. -/
def playMatureOp (g u : Nat) (s : State) : State :=
  match s.headEntry g u with
  | some (_, .play seg, s) => (s.dropSuccessor g u).startNamed g u seg none
  | _ => s

def execPlayEntryMature (dt g u : Nat) (s : State) : Result := .next (playMatureOp g u (s.pass dt))

/-- A shadow write of a queue entry (R87): POFF rotations add modulo 2^32. -/
def State.applyWrite (s : State) (g u : Nat) : UnitAction → State
  | .setFtw v =>
    let i := 16 * g + u
    if s.setOpen g u then (s.shadowPut g u .VOICE_FTW_LO i 31 0 v.toNat).shadowPut g u .VOICE_FTW_HI i 15 0 (v.toNat / 2 ^ 32)
    else s.shadowPut g u .VOICE_FTW_LO i 31 0 v.toNat
  | .setPoff v => s.shadowPut g u .VOICE_POFF (16 * g + u) 31 0 v.toNat
  | .addPoff v => s.shadowPut g u .VOICE_POFF (16 * g + u) 31 0 (s.regNat .VOICE_POFF (16 * g + u) + v.toNat)
  | .setAmp v => s.shadowPut g u .VOICE_AMP (16 * g + u) 15 0 v.toNat
  | .setSegbase v => s.shadowPut g u .VOICE_SEGBASE (16 * g + u) 11 0 v.toNat
  | .setGain v => s.shadowPut g u .BBO_GAIN (4 * g + (u - 16)) 15 0 v.toNat
  | .setOffset v => s.shadowPut g u .BBO_OFFSET (4 * g + (u - 16)) 15 0 v.toNat
  | _ => s

/-- SHADOW_WRITE_ENTRY_MATURE: a SETF, SETP, ROTP or SETA entry. -/
def shadowMatureOp (g u : Nat) (s : State) : State :=
  match s.headEntry g u with
  | some (_, .play _, _) => s
  | some (_, .request _, _) => s
  | some (_, .commit, _) => s
  | some (_, a, s) => s.applyWrite g u a
  | none => s

def execShadowWriteEntryMature (dt g u : Nat) (s : State) : Result := .next (shadowMatureOp g u (s.pass dt))

/-- COMMIT_ENTRY_MATURE (R88, R91). -/
def commitMatureOp (g u : Nat) (s : State) : State :=
  match s.headEntry g u with
  | some (_, .commit, s) => s.commitSet true g u
  | _ => s

def execCommitEntryMature (dt g u : Nat) (s : State) : Result := .next (commitMatureOp g u (s.pass dt))

/-- SPLICE_REQUEST_MATURE (R109). -/
def requestMatureOp (g u : Nat) (s : State) : State :=
  match s.headEntry g u with
  | some (m, .request seg, s) => s.matureRequest g u seg m
  | _ => s

def execSpliceRequestMature (dt g u : Nat) (s : State) : Result := .next (requestMatureOp g u (s.pass dt))

/-- MARK_ENTRY_MATURE (R102, R264, R269): the event of footage T. -/
def markMatureOp (g e : Nat) (s : State) : State :=
  let x := s.eng g e
  match x.aux with
  | (m, .mark c lin) :: rest =>
    if s.epochRun && decide (m ≤ s.ftg) then
      (s.setEng g e { x with aux := rest }).emitEvent (.cluster g) c s.now lin
    else s
  | _ => s

def execMarkEntryMature (dt g e : Nat) (s : State) : Result := .next (markMatureOp g e (s.pass dt))

/-! ### Sweep commands (R114) -/

def swgRestartOp (g k : Nat) (s : State) : State := s.swgRestart g k

def execSwgRestart (who : Requester) (g k : Nat) (s : State) : Result :=
  .next (s.regAccess who .SWG_CMD (4 * g + k) (swgRestartOp g k))

/-- A configuration register of a generator and the mask of its fields. -/
def swgReg : SwgReg → Reg × Nat
  | .ctrl => (.SWG_CTRL, 0x000F_F7FF)
  | .n1 => (.SWG_N1, 0x00FF_FFFF)
  | .n2 => (.SWG_N2, 0xFFF)
  | .poly => (.SWG_POLY, 0x00FF_FFFF)
  | .seed => (.SWG_SEED, 0x00FF_FFFF)
  | .baseLo => (.SWG_BASE_LO, 0xFFFF_FFFF)
  | .baseHi => (.SWG_BASE_HI, 0xFFFF)
  | .stepLo => (.SWG_STEP_LO, 0xFFFF_FFFF)
  | .stepHi => (.SWG_STEP_HI, 0xFFFF)
  | .step2Lo => (.SWG_STEP2_LO, 0xFFFF_FFFF)
  | .step2Hi => (.SWG_STEP2_HI, 0xFFFF)

/-- SWG_CONFIG_WRITE (R114, R116): while every engine of the cluster is halted; it restarts the generator. -/
def swgConfigOp (g k : Nat) (r : SwgReg) (v : Word) (s : State) : State :=
  let p := swgReg r
  let i := 4 * g + k
  let w := v &&& BitVec.ofNat 32 p.2
  if s.clusterHalted g then ((s.setReg p.1 i w).swgRestart g k).clResult g Code.ok
  else s.clResult g (if s.reg p.1 i = w then Code.ok else Code.locked)

def execSwgConfigWrite (who : Requester) (g k : Nat) (r : SwgReg) (v : Word) (s : State) : Result :=
  .next (s.regAccess who (swgReg r).1 (4 * g + k) (swgConfigOp g k r v))

/-! ### Resets (R104) -/

/-- A cluster or region reset of the Script engines (R104): halted with ERR 0, entries withdrawn, registers cleared, sweep
generators restarted. An engine that was halted already keeps ERR, HCODE and PC. -/
def State.resetScripts (s : State) (g : Nat) : State :=
  let s := State.forEach (List.range 8) (fun e s =>
    let s := s.stopEngine g e Code.ok
    let s := s.setEng g e {}
    let s := State.forEach (List.range 4) (fun k s => s.clearTask (scriptInput g e k)) s
    let s := State.forEach (List.range 16) (fun j s => s.setSreg g e j 0) s
    s.setReg .SCR_FLAGS (8 * g + e) 0) s
  State.forEach (List.range 4) (fun k s => s.swgRestart g k) s

/-- A Cut or FLR halts the engines of a cluster with CUT and withdraws their entries and pending requests (R104). -/
def State.cutScripts (s : State) (g : Nat) : State :=
  let s := State.forEach (List.range 8) (fun e s =>
    let s := s.stopEngine g e Code.cut
    s.setEng g e { s.eng g e with aux := [] }) s
  State.forEach (List.range 20) (fun u s => s.setUnit g u { s.unit g u with queue := [], request := none }) s

end Sys2Proof.Machine
end

