-- ==== Sys2Proof/Machine/Kernel.lean ====
section
/-!
DEFINITION. Kernel engines (R143-R184): bundles and their slots, operands, results in flight, addressing, streams, decisions,
attention, starting and halting. The rows of the kernel instructions stand in Machine/KernelRows.lean.
-/

namespace Sys2Proof.Machine

/-! ### Bundles (R168, R170, R175, R178) -/

namespace KB
def mop (w : BitVec 64) : Nat := field64 w 63 59
def cjs (w : BitVec 64) : Bool := flag64 w 58
def cjt (w : BitVec 64) : Bool := flag64 w 57
def var (w : BitVec 64) : Bool := flag64 w 56
/-- The accumulator of MOP 0x01-0x08. -/
def acc (w : BitVec 64) : Nat := field64 w 55 55
/-- The accumulator of TRN and NORM. -/
def accN (w : BitVec 64) : Nat := field64 w 47 47
def d (w : BitVec 64) : Nat := field64 w 58 55
def s (w : BitVec 64) : Nat := field64 w 54 51
def t (w : BitVec 64) : Nat := field64 w 50 47
/-- K of an accumulator shift, SH of TRN. -/
def k6 (w : BitVec 64) : Nat := field64 w 54 49
def first (w : BitVec 64) : Bool := flag64 w 50
def aop (w : BitVec 64) : Nat := field64 w 46 43
/-- D of LD and RDS, S of ST and WRS. -/
def ad (w : BitVec 64) : Nat := field64 w 42 39
def i (w : BitVec 64) : Nat := field64 w 38 37
def pm (w : BitVec 64) : Bool := flag64 w 36
def sel (w : BitVec 64) : Nat := field64 w 42 41
def aAcc (w : BitVec 64) : Nat := field64 w 40 40
def x (w : BitVec 64) : Nat := field64 w 35 31
def inp (w : BitVec 64) : Nat := field64 w 35 35
def j (w : BitVec 64) : Nat := field64 w 42 41
def imm (w : BitVec 64) : Nat := field64 w 39 24
def cop (w : BitVec 64) : Nat := field64 w 23 19
def tgt (w : BitVec 64) : Nat := field64 w 12 0
def cond (w : BitVec 64) : Nat := field64 w 16 15
def li (w : BitVec 64) : Nat := field64 w 18 18
def cnt (w : BitVec 64) : Nat := field64 w 17 8
def lp (w : BitVec 64) : Nat := field64 w 17 16
def blm1 (w : BitVec 64) : Nat := field64 w 7 0
def im (w : BitVec 64) : Bool := flag64 w 18
def tone (w : BitVec 64) : Nat := field64 w 17 14
def cs (w : BitVec 64) : Nat := field64 w 13 10
def st (w : BitVec 64) : Nat := field64 w 1 0
end KB

/-- A bundle that R169 and R182 refuse, with KSTAT.INATT as given. -/
def bundleRefused (w : BitVec 64) (inatt : Bool) : Bool :=
  let m := KB.mop w
  let a := KB.aop w
  let c := KB.cop w
  let x := KB.x w
  decide (0x10 < m) || decide (0xC < a) || decide (0x0A < c) ||
  (m == 0x0F && KB.t w % 2 == 1) ||
  ((a == 4 || a == 5) && decide (24 < x)) ||
  (c == 6 && !inatt) ||
  (a == 4 && (c == 4 || c == 5) && decide (16 + 3 * KB.li w ≤ x) && decide (x ≤ 18 + 3 * KB.li w)) ||
  (a == 4 && x == 24 && (c == 8 || c == 9 || c == 10 || c == 6)) ||
  (a == 4 && (x == 22 || x == 23) && c == 6)

/-! ### Registers (R145-R147) -/

/-- The first BAR0 address of the window of cluster `g` (R28). -/
def clusterBase (g : Nat) : Nat := 0x0810_0000 + g / 4 * 0x0080_0000 + g % 4 * 0x0010_0000

/-- Complex register Cj. -/
def State.krnC (s : State) (g j : Nat) : Word := s.reg .KRN_C (16 * g + j)

/-- The signed parts of a complex word (R146). -/
def partI (v : Word) : Int := (v.extractLsb' 0 16).toInt
def partQ (v : Word) : Int := (v.extractLsb' 16 16).toInt

/-- A complex word narrowed from exact parts (R146). -/
def narrow (i q : Int) : Word := BitVec.ofInt 16 q ++ BitVec.ofInt 16 i

/-- Accumulator An as its registers hold it. -/
def State.krnAcc (s : State) (g a : Nat) : BitVec 48 × BitVec 48 :=
  let i := 2 * g + a
  (BitVec.ofNat 48 (s.pair .KRN_A_I_LO .KRN_A_I_HI i), BitVec.ofNat 48 (s.pair .KRN_A_Q_LO .KRN_A_Q_HI i))

/-- The KSTAT bits: N 0, Z 1, GX 2, IE 3, INATT 4. -/
def State.kstat (s : State) (g : Nat) : Nat := s.fld .KRN_KSTAT g 4 0
def State.krnStatBit (s : State) (g b : Nat) : Bool := s.bit .KRN_KSTAT g b

def State.krnRuns (s : State) (g : Nat) : Bool := s.bit .KRN_STATUS g 0
def State.krnPc (s : State) (g : Nat) : Nat := s.fld .KRN_PC g 12 0
def State.setKrnPc (s : State) (g pc : Nat) : State := s.setReg .KRN_PC g (BitVec.ofNat 32 (pc % 8192))

def State.krn! (s : State) (g : Nat) : KrnEngine := tget {} s.krn.eng g
def State.setKrn (s : State) (g : Nat) (x : KrnEngine) : State := { s with krn := { s.krn with eng := tset s.krn.eng g x } }

/-- The region source of a kernel engine (R164). -/
def krnSource (g : Nat) : Nat := regionSource (g / 4) (9 + g % 4)

/-- The register of a code of R177 and its instance. -/
def krnXReg (g x : Nat) : Reg × Nat :=
  if x < 4 then (.KRN_P, 4 * g + x)
  else if x < 8 then (.KRN_M, 4 * g + (x - 4))
  else if x < 12 then (.KRN_L, 4 * g + (x - 8))
  else if x < 16 then (.KRN_B, 4 * g + (x - 12))
  else match x with
    | 16 => (.KRN_LC0, g) | 17 => (.KRN_LS0, g) | 18 => (.KRN_LE0, g)
    | 19 => (.KRN_LC1, g) | 20 => (.KRN_LS1, g) | 21 => (.KRN_LE1, g)
    | 22 => (.KRN_IPC, g) | 23 => (.KRN_ISTAT, g) | _ => (.KRN_KSTAT, g)

/-- The width of a register of R177. -/
def krnXBits (x : Nat) : Nat :=
  if x < 17 then 16 else match x with
    | 19 => 16 | 23 => 5 | 24 => 5 | _ => 13

/-! ### Attention causes (R161) -/

/-- The causes latched: the EVT cause is the remembered event of the task input. -/
def State.krnCauses (s : State) (g : Nat) : Nat :=
  (s.fld .KRN_ATTN_CAUSE g 4 2 * 4) + 2 * b2n (s.taskBit (kernelInput g)).isSome + s.fld .KRN_ATTN_CAUSE g 0 0

/-- Latch cause `b` in this cc. -/
def State.krnLatch (s : State) (g b : Nat) : State :=
  if bitOf (s.krnCauses g) b then s
  else (s.setBit .KRN_ATTN_CAUSE g b true).setKrn g { s.krn! g with latchedAt := s.now }

/-- An enabled cause is latched and attention is enabled (R162). -/
def State.krnAttention (s : State) (g : Nat) : Bool :=
  s.krnStatBit g 3 && s.krnCauses g &&& s.fld .KRN_ATTN_EN g 4 0 != 0

/-- KSTAT changes: a GX that goes from 0 to 1 latches its cause and raises the source if that is enabled (R161, R164). -/
def State.setKstat (s : State) (g v : Nat) : State :=
  let before := s.krnStatBit g 2
  let s := s.setReg .KRN_KSTAT g (BitVec.ofNat 32 (v % 32))
  if !before && bitOf v 2 then
    let s := s.krnLatch g 4
    if s.bit .KRN_IRQ_EN g 0 then s.raise (krnSource g) else s
  else s

/-! ### Circular addressing (R159, R160) -/

/-- The post-modify of Pi: the new pointer, and the L and B that a hand-over of the shadow puts in force. -/
def State.postModify (s : State) (g i : Nat) : Nat × Option (Nat × Nat) :=
  let r := 4 * g + i
  let p := s.fld .KRN_P r 15 0
  let m := s.fld .KRN_M r 15 0
  let l := s.fld .KRN_L r 15 0
  let b := s.fld .KRN_B r 15 0
  let q := (p + m) % 65536
  if l = 0 then (q, none)
  else
    let w : Option Nat :=
      if (b + l) % 65536 ≤ q then some ((q + 65536 - l) % 65536)
      else if q < b then some ((q + l) % 65536)
      else none
    match w with
    | none => (q, none)
    | some q =>
      if s.bit .KRN_LPEND g i then
        let ln := s.fld .KRN_LSH r 15 0
        let bn := s.fld .KRN_BSH r 15 0
        ((bn + (q + 65536 - b) % 65536 % ln) % 65536, some (ln, bn))
      else (q, none)

/-- A write to Li (`len`) or Bi (R160): to the shadow while Li ≠ 0, at once when it makes Li zero or Li is zero. -/
def State.writeCircular (s : State) (g i : Nat) (len : Bool) (v : Nat) : State :=
  let r := 4 * g + i
  let home := if len then Reg.KRN_L else Reg.KRN_B
  if s.fld .KRN_L r 15 0 = 0 ∨ (len = true ∧ v % 65536 = 0) then
    (s.setReg home r (BitVec.ofNat 32 (v % 65536))).setBit .KRN_LPEND g i false
  else
    let s := if s.bit .KRN_LPEND g i then s
             else (s.setReg .KRN_LSH r (s.reg .KRN_L r)).setReg .KRN_BSH r (s.reg .KRN_B r)
    (s.setReg (if len then .KRN_LSH else .KRN_BSH) r (BitVec.ofNat 32 (v % 65536))).setBit .KRN_LPEND g i true

/-! ### Landing (R150, R152, R183) -/

/-- One write lands. KSTAT is written field by field. -/
def State.landOne (g : Nat) (w : KrnWrite) (s : State) : State :=
  match w with
  | .c j v => s.setReg .KRN_C (16 * g + j % 16) v
  | .acc a i q =>
    (s.setPair .KRN_A_I_LO .KRN_A_I_HI (2 * g + a % 2) i.toNat).setPair .KRN_A_Q_LO .KRN_A_Q_HI (2 * g + a % 2) q.toNat
  | .flagN b => s.setBit .KRN_KSTAT g 0 b
  | .flagZ b => s.setBit .KRN_KSTAT g 1 b
  | .setGx => s.setBit .KRN_KSTAT g 2 true
  | .clearGx => s.setBit .KRN_KSTAT g 2 false
  | .ie b => s.setBit .KRN_KSTAT g 3 b
  | .rti st => s.setReg .KRN_KSTAT g (BitVec.ofNat 32 (st ||| (s.kstat g &&& 4)))
  | .x code v =>
    if 8 ≤ code ∧ code < 16 then s.writeCircular g (code % 4) (decide (code < 12)) v.toNat
    else
      let r := krnXReg g code
      s.setReg r.1 r.2 (BitVec.ofNat 32 (v.toNat % 2 ^ krnXBits code))
  | .step i p ho =>
    let i := i % 4
    let s := s.setReg .KRN_P (4 * g + i) (BitVec.ofNat 32 p)
    match ho with
    | some (l, b) =>
      ((s.setReg .KRN_L (4 * g + i) (BitVec.ofNat 32 l)).setReg .KRN_B (4 * g + i) (BitVec.ofNat 32 b)).setBit .KRN_LPEND g i false
    | none => s

/-- The writes of a list land at the end of one bundle, in its order; only the KSTAT they leave counts for GX (R183). -/
def State.landList (s : State) (g : Nat) (ws : List KrnWrite) : State :=
  let before := s.kstat g
  let s := State.forEach ws (State.landOne g) s
  let after := s.kstat g
  (s.setReg .KRN_KSTAT g (BitVec.ofNat 32 ((after &&& 27) ||| (before &&& 4)))).setKstat g after

/-- A bundle ends: what is due lands, the rest is one bundle nearer. -/
def State.endBundle (s : State) (g : Nat) : State :=
  let x := s.krn! g
  let due := x.flight.filter (fun f => f.left == 0)
  let rest := (x.flight.filter (fun f => f.left != 0)).map (fun f => { f with left := f.left - 1 })
  (s.setKrn g { x with flight := rest }).landList g (due.map (·.w))

/-- Everything in flight lands (R165). -/
def State.landAll (s : State) (g : Nat) : State := ((s.endBundle g).endBundle g).endBundle g

/-! ### Streams (R153, R154) -/

/-- The words of stream INi, oldest first. -/
def State.krnIn (s : State) (g i : Nat) : List (Nat × Word) := tget [] s.krn.inp (2 * g + i)

def State.setKrnIn (s : State) (g i : Nat) (q : List (Nat × Word)) : State :=
  { s with krn := { s.krn with inp := tset s.krn.inp (2 * g + i) q } }

/-- The words that RDS can take in this cc: they entered before it. -/
def State.krnReady (s : State) (g i : Nat) : Option Word :=
  match s.krnIn g i with
  | (c, w) :: _ => if c < s.now then some w else none
  | [] => none

/-- Latch the watermark cause of INi while it holds at least WM words (R161). -/
def State.krnWatermark (s : State) (g i : Nat) : State :=
  let wm := s.fld .KRN_IN_CFG (2 * g + i) 22 16
  if wm ≠ 0 ∧ wm ≤ (s.krnIn g i).length then s.krnLatch g (2 + i) else s

/-- The windows of tone t that it has accepted and not yet decided (R126). -/
def State.windows (s : State) (g t : Nat) : List ToneWindow := tget [] s.rd.window (16 * g + t)

/-- Store the windows of tone t. -/
def State.setWindows (s : State) (g t : Nat) (ws : List ToneWindow) : State :=
  { s with rd := { s.rd with window := tset s.rd.window (16 * g + t) ws } }

/-- Sign-extend the low 14 bits of a part (R146). -/
def sext14 (v : Nat) : Int := signed 14 v

/-- The word that INi takes in this cc, as R153's table gives it, if its source delivers one. -/
def State.krnSourceWord (s : State) (g i : Nat) (w : Word) : Option Word :=
  let r := 2 * g + i
  let f := s.ftg
  let t := s.fld .KRN_IN_CFG r 11 4
  let array := s.bit .RFI_CTRL g 0
  match s.fld .KRN_IN_CFG r 2 0 with
  | 1 =>
    let m := (f - 19) / 2
    if !array && f % 2 == 1 && decide (19 ≤ f) &&
        (!s.bit .KRN_IN_CFG r 3 || (s.windows g (t % 16)).any (fun x => decide (x.m0 ≤ m) && decide (m < x.m0 + x.n)))
    then some w else none
  | 2 => if !array && (s.windows g (t % 16)).any (fun x => 2 * (x.m0 + x.n - 1) + 25 == f) then some w else none
  | 3 => if 8 ≤ f then some (narrow (sext14 (bits w 15 0)) (sext14 (bits w 31 16))) else none
  | 4 =>
    if array && s.bit .TRK_CTRL (256 * g + t) 0 && decide (1047 ≤ f) && (f - 1047) % 256 == 0 then some w else none
  | _ => none

/-- KRN_IN_WORD (R153, R154). -/
def krnInWordOp (g i : Nat) (w : Word) (s : State) : State :=
  if !s.epochRun || !s.regionAwake (g / 4) then s
  else match s.krnSourceWord g i w with
    | none => s
    | some w =>
      let q := s.krnIn g i
      if 64 ≤ q.length then
        let s := (s.setBit .KRN_IN_STATUS (2 * g + i) 7 true).count .KRN_IN_DROP (2 * g + i)
        if s.bit .KRN_IRQ_EN g 1 then s.raise (krnSource g) else s
      else (s.setKrnIn g i (q ++ [(s.now, w)])).krnWatermark g i

/-! ### Decisions (R155, R156) -/

/-- The windows of tone t for DEC, those that fell out of the four pending ones taken away and counted (R156). -/
def State.settlePend (s : State) (g t : Nat) : State :=
  let ws := tget [] s.krn.pend (16 * g + t)
  let n := (ws.filter (fun w => decide (w.at_ ≤ s.ftg))).length
  let s := { s with krn := { s.krn with pend := tset s.krn.pend (16 * g + t) (ws.drop (n - 4)) } }
  s.count .KRN_MISS_CNT g (n - 4)

/-- A kernel decision word enters slot 16g + t in cc `x`, and SEQ advances. -/
def State.krnEmit (s : State) (g t state x : Nat) (valid late : Bool) : State :=
  let r := s.nextSeq (16 * g + t)
  r.2.enterFabric g (16 * g + t) (decisionWord state valid late true r.1) x

/-- DEC for tone t (R155, R181). -/
def State.krnDecide (s : State) (g t state : Nat) : State :=
  if !s.bit .TONE_CFG (16 * g + t) 1 then s.setBit .KRN_DEC_STATUS g 0 true
  else
    let s := s.settlePend g t
    match tget [] s.krn.pend (16 * g + t) with
    | w :: rest =>
      if s.ftg < w.at_ then s.krnEmit g t state (s.now + 1) true false
      else
        let late := Nat.blt (w.at_ + s.fld .KRN_KDL (16 * g + t) 9 0) s.ftg
        let s := { s with krn := { s.krn with pend := tset s.krn.pend (16 * g + t) rest } }
        let s := s.krnEmit g t state (s.now + 1) true late
        if late then s.count .KRN_LATE_CNT g else s
    | [] => s.krnEmit g t state (s.now + 1) true false

/-- KRN_DEADLINE_MISS (R156): the first pending window whose deadline has passed unreported. Its STATE is not stated. -/
def krnMissOp (g t : Nat) (s : State) : State :=
  let s := s.settlePend g t
  let kdl := s.fld .KRN_KDL (16 * g + t) 9 0
  let ws := tget [] s.krn.pend (16 * g + t)
  let due (w : KrnWindow) : Bool := !w.missed && Nat.blt (w.at_ + kdl) s.ftg
  if ws.any due then
    let before := ws.takeWhile (fun w => !due w)
    let after := match ws.dropWhile (fun w => !due w) with
      | w :: rest => { w with missed := true } :: rest
      | [] => []
    let s := { s with krn := { s.krn with pend := tset s.krn.pend (16 * g + t) (before ++ after) } }
    let r := s.free 2
    let s := r.2.krnEmit g t r.1 s.now false true
    let s := (s.setBit .KRN_DEC_STATUS g 1 true).count .KRN_MISS_CNT g
    if s.bit .KRN_IRQ_EN g 2 then s.raise (krnSource g) else s
  else s

/-! ### Halting and starting (R165) -/

/-- The engine stops at a bundle boundary: results in flight land, RUN clears. -/
def State.krnHalt (s : State) (g code : Nat) (error : Bool) : State :=
  let s := s.landAll g
  ((s.setBit .KRN_STATUS g 0 false).setBit .KRN_STATUS g 3 error).setFld .KRN_STATUS g 15 8 code

/-- HALTED is set and the source raised (R164, R165). -/
def State.krnHaltSignal (s : State) (g : Nat) : State := (s.setBit .KRN_STATUS g 1 true).raise (krnSource g)

/-- `KRN_STATUS.LAST_RESULT`. -/
def State.krnResult (s : State) (g code : Nat) : State := s.setFld .KRN_STATUS g 23 16 code

/-- Both input streams are emptied. -/
def State.emptyStreams (s : State) (g : Nat) : State := (s.setKrnIn g 0 []).setKrnIn g 1 []

/-- The pending windows of the tones of cluster `g` that satisfy `p` are kept. -/
def State.keepPend (s : State) (g : Nat) (p : KrnWindow → Bool) : State :=
  { s with krn := { s.krn with pend := s.krn.pend.map (fun (e : Nat × List KrnWindow) =>
      if e.1 / 16 = g then (e.1, e.2.filter p) else e) } }

/-- KRN_START (R165). -/
def krnStartOp (g : Nat) (s : State) : State :=
  if !s.epochRun || s.krnRuns g then s.krnResult g Code.busy
  else
    let s := s.setKrnPc g (s.fld .KRN_PC_INIT g 12 0)
    let s := s.setReg .KRN_KSTAT g (BitVec.ofNat 32 (8 * s.fld .KRN_CTRL g 2 2))
    let s := (s.emptyStreams g).keepPend g (fun w => Nat.blt s.ftg w.at_)
    let s := (s.setReg .KRN_ATTN_CAUSE g 0).clearTask (kernelInput g)
    let s := State.forEach [2 * g, 2 * g + 1] (fun i s => (s.setReg .KRN_IN_DROP i 0).setReg .KRN_IN_STALL i 0) s
    let s := ((s.setReg .KRN_MISS_CNT g 0).setReg .KRN_LATE_CNT g 0).setReg .KRN_OUTT_CNT g 0
    let s := s.setKrn g { flight := [], nextCc := s.now + 1, latchedAt := s.now }
    (s.setBit .KRN_STATUS g 0 true).krnResult g Code.ok

/-- KRN_STOP (R165). -/
def krnStopOp (g : Nat) (s : State) : State := if s.krnRuns g then s.krnHalt g Code.ok false else s

/-- A write of KRN_CTRL (R166): IE0 is stored, then START and STOP act. -/
def krnCtrlOp (g : Nat) (v : Word) (s : State) : State :=
  let s := s.setFld .KRN_CTRL g 2 2 (bits v 2 2)
  let s := if bits v 0 0 = 1 then krnStartOp g s else s
  if bits v 1 1 = 1 then krnStopOp g s else s

/-- The registers of R145. -/
def krnStateRegs : List Reg :=
  [.KRN_C, .KRN_A_I_LO, .KRN_A_I_HI, .KRN_A_Q_LO, .KRN_A_Q_HI, .KRN_P, .KRN_M, .KRN_L, .KRN_B, .KRN_LC0, .KRN_LS0, .KRN_LE0,
   .KRN_LC1, .KRN_LS1, .KRN_LE1, .KRN_IPC, .KRN_ISTAT, .KRN_KSTAT, .KRN_LPEND, .KRN_LSH, .KRN_BSH]

/-- The number of instances a register of R145 has in one cluster. -/
def krnPerCluster : Reg → Nat
  | .KRN_C => 16
  | .KRN_A_I_LO | .KRN_A_I_HI | .KRN_A_Q_LO | .KRN_A_Q_HI => 2
  | .KRN_P | .KRN_M | .KRN_L | .KRN_B | .KRN_LSH | .KRN_BSH => 4
  | _ => 1

/-- A cluster or region reset of a kernel engine (R154, R165). An engine halted before keeps ERR. -/
def State.resetKernel (s : State) (g : Nat) : State :=
  let s := if s.krnRuns g then s.krnHalt g Code.ok false else s
  let s := State.forEach krnStateRegs (fun r s =>
    State.forEach (List.range (krnPerCluster r)) (fun k s => s.resetReg r (krnPerCluster r * g + k)) s) s
  let s := ((s.emptyStreams g).keepPend g (fun w => Nat.ble w.at_ s.ftg)).setKrn g {}
  (s.clearTask (kernelInput g)).setKrnPc g (s.fld .KRN_PC_INIT g 12 0)

/-- A Cut or FLR with the cluster in its scope (R154, R165). -/
def State.cutKernel (s : State) (g : Nat) : State :=
  let s := if s.krnRuns g then s.krnHalt g Code.cut false else s
  (s.emptyStreams g).keepPend g (fun w => Nat.ble w.at_ s.ftg)

/-! ### The M slot (R171-R174) -/

/-- An's newest value: of the last M instruction in flight that writes it, or of its registers (R172). -/
def State.accNewest (s : State) (g a : Nat) : BitVec 48 × BitVec 48 :=
  match ((s.krn! g).flight.reverse.findSome? (fun f => match f.w with
    | .acc a' i q => if a' = a then some (i, q) else none
    | _ => none)) with
  | some v => v
  | none => s.krnAcc g a

/-- Cd's newest value from the M slot (R172). -/
def State.cNewest (s : State) (g d : Nat) : Word :=
  match ((s.krn! g).flight.reverse.findSome? (fun f => match f.mslot, f.w with
    | true, .c d' v => if d' = d then some v else none
    | _, _ => none)) with
  | some v => v
  | none => s.krnC g d

/-- The value lies outside the signed 48-bit range (R147). -/
def outside48 (x : Int) : Bool := decide (x < -2 ^ 47) || decide (2 ^ 47 ≤ x)

/-- An accumulator write of exact parts, with GX when a part is outside the range. -/
def accWrite (a : Nat) (i q : Int) (gx : Bool) : List KrnWrite :=
  KrnWrite.acc a (BitVec.ofInt 48 i) (BitVec.ofInt 48 q) :: (if gx && (outside48 i || outside48 q) then [.setGx] else [])

/-- The parts of s × t with the conjugations asked for (R171). -/
def complexProduct (s t : Word) (cjs cjt : Bool) : Int × Int :=
  let si := partI s
  let sq := if cjs then -partQ s else partQ s
  let ti := partI t
  let tq := if cjt then -partQ t else partQ t
  (si * ti - sq * tq, si * tq + sq * ti)

/-- The bits below the sign bit of an `n`-bit value that equal it (R171). -/
def redundantSignBits (n : Nat) (v : Nat) : Nat :=
  ((List.range (n - 1)).reverse.takeWhile (fun b => bitOf v b == bitOf v (n - 1))).length

/-- x / 2^k towards −∞. -/
def asr (x : Int) (k : Nat) : Int := x / (2 ^ k : Nat)

/-- The shift count of SHL and SHR on an accumulator. -/
def State.accShift (s : State) (g : Nat) (w : BitVec 64) : Nat :=
  if KB.var w then bits (s.krnC g (KB.s w)) 5 0 else KB.k6 w

/-- What the M slot of a bundle writes. -/
def State.mSlot (s : State) (g : Nat) (w : BitVec 64) : List KrnWrite :=
  let cs := s.krnC g (KB.s w)
  let ct := s.krnC g (KB.t w)
  let a := KB.acc w
  let prod := complexProduct cs ct (KB.cjs w) (KB.cjt w)
  match KB.mop w with
  | 0x01 => let o := s.accNewest g a; accWrite a (o.1.toInt + prod.1) (o.2.toInt + prod.2) true
  | 0x02 => let o := s.accNewest g a; accWrite a (o.1.toInt - prod.1) (o.2.toInt - prod.2) true
  | 0x03 => accWrite a prod.1 prod.2 false
  | 0x04 => accWrite a (partI cs * partI cs + partQ cs * partQ cs) 0 false
  | 0x05 => accWrite a (partI cs * (2 ^ KB.t w : Nat)) (partQ cs * (2 ^ KB.t w : Nat)) false
  | 0x06 => accWrite a cs.toInt ct.toInt false
  | 0x07 =>
    let o := s.krnAcc g a
    let k := s.accShift g w
    accWrite a (o.1.toInt * (2 ^ k : Nat)) (o.2.toInt * (2 ^ k : Nat)) true
  | 0x08 =>
    let o := s.krnAcc g a
    let k := s.accShift g w
    accWrite a (asr o.1.toInt k) (asr o.2.toInt k) false
  | 0x09 =>
    let o := s.krnAcc g (KB.accN w)
    let v := narrow (asr o.1.toInt (KB.k6 w)) (asr o.2.toInt (KB.k6 w))
    [.c (KB.d w) v, .flagN (bits v 15 15 == 1), .flagZ (v == 0)]
  | 0x0A =>
    let o := s.krnAcc g (KB.accN w)
    let r := min (redundantSignBits 48 o.1.toNat) (redundantSignBits 48 o.2.toNat)
    [.c (KB.d w) (narrow r (8 - r : Nat)), .flagN false, .flagZ (o.1 == 0 && o.2 == 0)]
  | 0x0B =>
    let p := if KB.first w then 15 else partI (s.cNewest g (KB.d w))
    let r := min (redundantSignBits 16 (bits cs 15 0)) (redundantSignBits 16 (bits cs 31 16))
    [.c (KB.d w) (narrow (min p r) 0)]
  | 0x0C => [.c (KB.d w) (narrow (partI cs) (-partQ cs))]
  | 0x0D =>
    let k := bits ct 3 0
    [.c (KB.d w) (narrow (partI cs * (2 ^ k : Nat)) (partQ cs * (2 ^ k : Nat)))]
  | 0x0E =>
    let k := bits ct 3 0
    [.c (KB.d w) (narrow (asr (partI cs) k) (asr (partQ cs) k))]
  | 0x0F =>
    let u := s.krnC g (KB.t w + 1)
    let x := partI cs
    let st := b2n (decide (partI ct ≤ x)) + b2n (decide (partQ ct ≤ x)) + b2n (decide (partI u ≤ x))
    [.c (KB.d w) (narrow st 0), .flagN false, .flagZ (st == 0)]
  | 0x10 => [.c (KB.d w) cs]
  | _ => []

/-! ### The A slot (R176) -/

/-- The BAR0 address of data word `p` of cluster `g` (R149). -/
def krnDataAddr (g p : Nat) : Nat := clusterBase g + 0x80000 + 4 * (p % 65536)

/-- The data word that the engine reads: one written from outside in this cc still gives what it held (R149). -/
def State.krnData (s : State) (g p : Nat) : Word :=
  let v := BitVec.ofNat 32 (s.le 3 (krnDataAddr g p) 4)
  match tfind s.krn.oldData (65536 * g + p) with
  | some (c, w) => if c = s.now then w else v
  | none => v

/-- The engine writes a data word: a write from outside in the same cc does not replace it (R149). -/
def State.krnStore (s : State) (g p : Nat) (v : Word) : State :=
  let s := s.writeLe 3 (krnDataAddr g p) 4 v.toNat
  { s with krn := { s.krn with wrote := tset (s.krn.wrote.filter (fun (e : Nat × Nat) => e.2 == s.now)) (65536 * g + p) s.now } }

/-- The word that STA stores. -/
def staWord (sel : Nat) (i q : BitVec 48) : Word :=
  match sel with
  | 0 => i.extractLsb' 0 32
  | 1 => (i.extractLsb' 32 16).signExtend 32
  | 2 => q.extractLsb' 0 32
  | _ => (q.extractLsb' 32 16).signExtend 32

/-- A WRS puts a word into OUTT with the footage of the next cc (R157); it is kept while the take engine of the region is armed
or captures. -/
def State.krnOutt (s : State) (g : Nat) (v : Word) : State :=
  let s := s.countWrap .KRN_OUTT_CNT g
  let st := s.fld .TK_STATUS (g / 4) 1 0
  if st = 1 ∨ st = 2 then
    { s with krn := { s.krn with outt := tset s.krn.outt g (tget [] s.krn.outt g ++ [(s.ftg + 1, v)]) } }
  else s

/-- What the A slot of a bundle writes to registers, with the bundles until each lands. -/
def State.aWrites (s : State) (g : Nat) (w : BitVec 64) : List (Nat × KrnWrite) :=
  let i := KB.i w
  let p := s.fld .KRN_P (4 * g + i) 15 0
  let pm := s.postModify g i
  let step : List (Nat × KrnWrite) := if KB.pm w then [(0, .step i pm.1 pm.2)] else []
  match KB.aop w with
  | 1 => step ++ [(1, .c (KB.ad w) (s.krnData g p))]
  | 2 => step
  | 3 => step
  | 4 => step ++ [(1, .x (KB.x w) (s.krnData g p))]
  | 5 => step
  | 6 => match s.krnReady g (KB.inp w) with
    | some v => [(1, .c (KB.ad w) v)]
    | none => []
  | 8 => [(0, .x (KB.j w) (BitVec.ofNat 32 (KB.imm w)))]
  | 9 => [(0, .x (4 + KB.j w) (BitVec.ofNat 32 (KB.imm w)))]
  | 0xA => [(0, .x (8 + KB.j w) (BitVec.ofNat 32 (KB.imm w)))]
  | 0xB => [(0, .x (12 + KB.j w) (BitVec.ofNat 32 (KB.imm w)))]
  | 0xC => [(0, .step i pm.1 pm.2)]
  | _ => []

/-- What the A slot does beside registers: the store, the stream word taken, the word into OUTT. -/
def State.aEffect (s : State) (g : Nat) (w : BitVec 64) : State :=
  let p := s.fld .KRN_P (4 * g + KB.i w) 15 0
  match KB.aop w with
  | 2 => s.krnStore g p (s.krnC g (KB.ad w))
  | 3 => let o := s.krnAcc g (KB.aAcc w); s.krnStore g p (staWord (KB.sel w) o.1 o.2)
  | 5 => let r := krnXReg g (KB.x w); s.krnStore g p (s.reg r.1 r.2)
  | 6 => s.setKrnIn g (KB.inp w) ((s.krnIn g (KB.inp w)).drop 1)
  | 7 => s.krnOutt g (s.krnC g (KB.ad w))
  | _ => s

/-! ### The C slot (R179, R180) -/

/-- BRC's conditions on N and Z. -/
def krnCond (cond kstat : Nat) : Bool :=
  match cond with
  | 0 => bitOf kstat 1
  | 1 => !bitOf kstat 1
  | 2 => bitOf kstat 0
  | _ => !bitOf kstat 0

/-- The count of LOOP and LOOPR. -/
def State.loopCount (s : State) (g : Nat) (w : BitVec 64) : Nat :=
  if KB.cop w = 4 then KB.cnt w else s.fld .KRN_P (4 * g + KB.lp w) 15 0

/-- What the C slot of a bundle at `pc` writes. -/
def State.cWrites (s : State) (g : Nat) (w : BitVec 64) (pc : Nat) : List KrnWrite :=
  let wr (x v : Nat) : KrnWrite := .x x (BitVec.ofNat 32 v)
  match KB.cop w with
  | 4 | 5 =>
    let x := 16 + 3 * KB.li w
    [wr (x + 1) ((pc + 1) % 8192), wr (x + 2) ((pc + 1 + KB.blm1 w) % 8192), wr x (s.loopCount g w)]
  | 6 => [.rti (s.fld .KRN_ISTAT g 4 0)]
  | 8 => [.ie true]
  | 9 => [.ie false]
  | 10 => [.clearGx]
  | _ => []

/-- Where the C slot takes the PC, if it does. -/
def State.cTarget (s : State) (g : Nat) (w : BitVec 64) (pc : Nat) : Option Nat :=
  match KB.cop w with
  | 2 => some (KB.tgt w)
  | 3 => if krnCond (KB.cond w) (s.kstat g) then some (KB.tgt w) else none
  | 4 | 5 => if s.loopCount g w = 0 then some ((pc + 1 + KB.blm1 w + 1) % 8192) else none
  | 6 => some (s.fld .KRN_IPC g 12 0)
  | _ => none

/-- DEC's state (R179, R181), if the bundle holds a DEC. -/
def State.decOf (s : State) (g : Nat) (w : BitVec 64) : Option (Nat × Nat) :=
  if KB.cop w = 7 then some (KB.tone w, if KB.im w then KB.st w else bits (s.krnC g (KB.cs w)) 1 0) else none

/-! ### Issue (R144, R150, R154, R158) -/

/-- The bundle the engine fetches: one written in this cc is fetched old (R148). -/
def State.krnBundle (s : State) (g a : Nat) : BitVec 64 :=
  let v := BitVec.ofNat 64 (s.le 3 (clusterBase g + 0x10000 + 8 * a) 8)
  match tfind s.krn.oldBundle (8192 * g + a) with
  | some (c, w) => if c = s.now then w else v
  | none => v

/-- The PC after a bundle at `pc` that takes no branch, and the loop register writes that this makes (R158). -/
def State.loopRule (s : State) (g pc : Nat) : Nat × State :=
  let lc1 := s.fld .KRN_LC1 g 15 0
  let lc0 := s.fld .KRN_LC0 g 15 0
  if lc1 ≠ 0 ∧ s.fld .KRN_LE1 g 12 0 = pc then
    (if 1 < lc1 then s.fld .KRN_LS1 g 12 0 else (pc + 1) % 8192, s.setReg .KRN_LC1 g (BitVec.ofNat 32 (lc1 - 1)))
  else if lc0 ≠ 0 ∧ s.fld .KRN_LE0 g 12 0 = pc then
    (if 1 < lc0 then s.fld .KRN_LS0 g 12 0 else (pc + 1) % 8192, s.setReg .KRN_LC0 g (BitVec.ofNat 32 (lc0 - 1)))
  else ((pc + 1) % 8192, s)

/-- The bundle at the PC leaves its loop at its end: the loop whose LE it is has its count at 1. -/
def State.loopEnds (s : State) (g : Nat) : Bool :=
  let pc := s.krnPc g
  let at1 := s.fld .KRN_LC1 g 15 0 != 0 && s.fld .KRN_LE1 g 12 0 == pc
  if at1 then s.fld .KRN_LC1 g 15 0 == 1 else s.fld .KRN_LC0 g 15 0 == 1 && s.fld .KRN_LE0 g 12 0 == pc

/-- A legal bundle whose stream is not empty issues. -/
def State.issueBundle (s : State) (g : Nat) (w : BitVec 64) : State :=
  let pc := s.krnPc g
  let flight (k : Nat) (m : Bool) (x : KrnWrite) : InFlight := { left := k, mslot := m, w := x }
  let new := (s.cWrites g w pc).map (flight 0 false) ++
    ((s.aWrites g w).map (fun p => flight p.1 false p.2) ++ (s.mSlot g w).map (flight 2 true))
  let target := s.cTarget g w pc
  let dec := s.decOf g w
  let x := s.krn! g
  let s := s.aEffect g w
  let s := s.setKrn g { x with flight := x.flight ++ new, nextCc := s.now + 1 }
  let s := match dec with
    | some (t, st) => s.krnDecide g t st
    | none => s
  let s := s.endBundle g
  let s := match target with
    | some t => s.setKrnPc g t
    | none => let r := s.loopRule g pc; r.2.setKrnPc g r.1
  if KB.cop w = 1 then (s.krnHalt g Code.ok false).krnHaltSignal g else s

/-- The engine issues the bundle at its PC in this cc, if `holds` says it is the one the command names: a refused bundle halts
it (R169), an RDS on an empty stream stalls it (R154), a diversion that is due comes first (R162). -/
def State.krnIssue (s : State) (g : Nat) (holds : BitVec 64 → Bool) : State :=
  let x := s.krn! g
  if !s.krnRuns g || decide (s.now < x.nextCc) || (s.krnAttention g && decide (x.latchedAt + 2 ≤ s.now)) then s
  else
    let w := s.krnBundle g (s.krnPc g)
    if !holds w then s
    else if bundleRefused w (s.krnStatBit g 4) then
      ((s.setKrn g { x with nextCc := s.now + 1 }).krnHalt g Code.range true).krnHaltSignal g
    else if KB.aop w = 6 then
      let i := KB.inp w
      match s.krnReady g i with
      | none =>
        (s.setKrn g { x with nextCc := s.now + 1 }).count .KRN_IN_STALL (2 * g + i) (s.now + 1 - x.nextCc)
      | some _ => (s.count .KRN_IN_STALL (2 * g + i) (s.now - x.nextCc)).issueBundle g w
    else s.issueBundle g w

end Sys2Proof.Machine
end

