-- ==== Sys2Proof/Machine/KernelRows.lean ====
section
/-!
DEFINITION. The commands of the kernel engines: start, stop, attention, streams, deadlines, hardware loops, and one command for
each instruction of the three slots, which issues the bundle that holds it.
-/

namespace Sys2Proof.Machine

def execKrnStart (who : Requester) (g : Nat) (ie0 : Bool) (s : State) : Result :=
  .next (s.regAccess who .KRN_CTRL g (krnCtrlOp g (BitVec.ofNat 32 (1 + 4 * b2n ie0))))

def execKrnStop (who : Requester) (g : Nat) (ie0 : Bool) (s : State) : Result :=
  .next (s.regAccess who .KRN_CTRL g (krnCtrlOp g (BitVec.ofNat 32 (2 + 4 * b2n ie0))))

/-- KRN_ATTN_SET (R161). -/
def krnAttnSetOp (g : Nat) (s : State) : State := s.krnLatch g 0

def execKrnAttnSet (who : Requester) (g : Nat) (s : State) : Result :=
  .next (s.regAccess who .KRN_ATTN_SET g (krnAttnSetOp g))

/-- ATTENTION_DIVERT (R162): from the cc after the one the cause was latched in, so that the first handler bundle issues in the
second. -/
def divertOp (g : Nat) (s : State) : State :=
  let x := s.krn! g
  if s.krnRuns g && s.krnAttention g && decide (x.latchedAt < s.now) then
    let pc := s.krnPc g
    let st := s.kstat g
    let s := (s.setReg .KRN_IPC g (BitVec.ofNat 32 pc)).setReg .KRN_ISTAT g (BitVec.ofNat 32 st)
    let s := (s.setBit .KRN_KSTAT g 3 false).setBit .KRN_KSTAT g 4 true
    (s.setKrnPc g (s.fld .KRN_VEC g 12 0)).setKrn g { x with nextCc := s.now + 1 }
  else s

def execAttentionDivert (dt g : Nat) (s : State) : Result := .next (divertOp g (s.pass dt))

def execKrnInWord (dt g i : Nat) (w : Word) (s : State) : Result := .next (krnInWordOp g i w (s.pass dt))

/-- KRN_IN_CFG (R153, R154, R166): SRC, GATE, TSEL and RSEL only while the engine is halted; the stream is emptied. -/
def krnInCfgOp (g i : Nat) (v : Word) (s : State) : State :=
  let r := 2 * g + i
  let src := bits v 2 0
  if 4 < src ∨ ((src = 1 ∨ src = 2) ∧ 15 < bits v 11 4) ∨ 64 < bits v 22 16 then s.krnResult g Code.range
  else
    let locked := s.krnRuns g && bits v 13 0 != s.fld .KRN_IN_CFG r 13 0
    let s := s.setFld .KRN_IN_CFG r 22 16 (bits v 22 16)
    let s := if s.krnRuns g then s else s.setFld .KRN_IN_CFG r 13 0 (bits v 13 0)
    (s.setKrnIn g i []).krnResult g (if locked then Code.locked else Code.ok)

def execKrnInCfgWrite (who : Requester) (g i : Nat) (v : Word) (s : State) : Result :=
  .next (s.regAccess who .KRN_IN_CFG (2 * g + i) (krnInCfgOp g i v))

def execKrnDeadlineMiss (dt g t : Nat) (s : State) : Result := .next (krnMissOp g t (s.pass dt))

/-- HARDWARE_LOOP_END (R158): the bundle at the PC issues, if at its end a loop count reaches 0 and execution leaves the
body. -/
def execHardwareLoopEnd (dt g : Nat) (s : State) : Result :=
  let s := s.pass dt
  .next (if s.loopEnds g then s.krnIssue g (fun _ => true) else s)

/-- A bundle with opcode `n` in its M, A or C slot. -/
def mIs (n : Nat) (w : BitVec 64) : Bool := KB.mop w == n
def aIs (n : Nat) (w : BitVec 64) : Bool := KB.aop w == n
def cIs (n : Nat) (w : BitVec 64) : Bool := KB.cop w == n

/-- A NOP in any slot, or no instruction at all because the bundle is refused. -/
def hasNop (w : BitVec 64) : Bool := mIs 0 w || aIs 0 w || cIs 0 w || bundleRefused w true

def execKrnNop (dt g : Nat) (s : State) : Result := .next ((s.pass dt).krnIssue g hasNop)

/-! ### M slot (R171) -/

def execCmac (dt g : Nat) (s : State) : Result := .next ((s.pass dt).krnIssue g (mIs 0x01))
def execCmsu (dt g : Nat) (s : State) : Result := .next ((s.pass dt).krnIssue g (mIs 0x02))
def execCmul (dt g : Nat) (s : State) : Result := .next ((s.pass dt).krnIssue g (mIs 0x03))
def execMag2 (dt g : Nat) (s : State) : Result := .next ((s.pass dt).krnIssue g (mIs 0x04))
def execAld (dt g : Nat) (s : State) : Result := .next ((s.pass dt).krnIssue g (mIs 0x05))
def execAldw (dt g : Nat) (s : State) : Result := .next ((s.pass dt).krnIssue g (mIs 0x06))
def execKrnShlAcc (dt g : Nat) (s : State) : Result := .next ((s.pass dt).krnIssue g (mIs 0x07))
def execKrnShrAcc (dt g : Nat) (s : State) : Result := .next ((s.pass dt).krnIssue g (mIs 0x08))
def execTrn (dt g : Nat) (s : State) : Result := .next ((s.pass dt).krnIssue g (mIs 0x09))
def execNorm (dt g : Nat) (s : State) : Result := .next ((s.pass dt).krnIssue g (mIs 0x0A))
def execExpb (dt g : Nat) (s : State) : Result := .next ((s.pass dt).krnIssue g (mIs 0x0B))
def execCconj (dt g : Nat) (s : State) : Result := .next ((s.pass dt).krnIssue g (mIs 0x0C))
def execKrnShlCplx (dt g : Nat) (s : State) : Result := .next ((s.pass dt).krnIssue g (mIs 0x0D))
def execKrnShrCplx (dt g : Nat) (s : State) : Result := .next ((s.pass dt).krnIssue g (mIs 0x0E))
def execCthr (dt g : Nat) (s : State) : Result := .next ((s.pass dt).krnIssue g (mIs 0x0F))
def execMov (dt g : Nat) (s : State) : Result := .next ((s.pass dt).krnIssue g (mIs 0x10))

/-! ### A slot (R176) -/

def execLd (dt g : Nat) (s : State) : Result := .next ((s.pass dt).krnIssue g (aIs 0x1))
def execSt (dt g : Nat) (s : State) : Result := .next ((s.pass dt).krnIssue g (aIs 0x2))
def execSta (dt g : Nat) (s : State) : Result := .next ((s.pass dt).krnIssue g (aIs 0x3))
def execLdx (dt g : Nat) (s : State) : Result := .next ((s.pass dt).krnIssue g (aIs 0x4))
def execStx (dt g : Nat) (s : State) : Result := .next ((s.pass dt).krnIssue g (aIs 0x5))
def execRds (dt g : Nat) (s : State) : Result := .next ((s.pass dt).krnIssue g (aIs 0x6))
def execWrs (dt g : Nat) (s : State) : Result := .next ((s.pass dt).krnIssue g (aIs 0x7))
def execLdp (dt g : Nat) (s : State) : Result := .next ((s.pass dt).krnIssue g (aIs 0x8))
def execLdm (dt g : Nat) (s : State) : Result := .next ((s.pass dt).krnIssue g (aIs 0x9))
def execLdl (dt g : Nat) (s : State) : Result := .next ((s.pass dt).krnIssue g (aIs 0xA))
def execLdb (dt g : Nat) (s : State) : Result := .next ((s.pass dt).krnIssue g (aIs 0xB))
def execModp (dt g : Nat) (s : State) : Result := .next ((s.pass dt).krnIssue g (aIs 0xC))

/-! ### C slot (R179) -/

def execKrnHalt (dt g : Nat) (s : State) : Result := .next ((s.pass dt).krnIssue g (cIs 0x01))
def execKrnBr (dt g : Nat) (s : State) : Result := .next ((s.pass dt).krnIssue g (cIs 0x02))
def execKrnBrc (dt g : Nat) (s : State) : Result := .next ((s.pass dt).krnIssue g (cIs 0x03))
def execKrnLoop (dt g : Nat) (s : State) : Result := .next ((s.pass dt).krnIssue g (cIs 0x04))
def execLoopr (dt g : Nat) (s : State) : Result := .next ((s.pass dt).krnIssue g (cIs 0x05))
def execRti (dt g : Nat) (s : State) : Result := .next ((s.pass dt).krnIssue g (cIs 0x06))
def execDec (dt g : Nat) (s : State) : Result := .next ((s.pass dt).krnIssue g (cIs 0x07))
def execEi (dt g : Nat) (s : State) : Result := .next ((s.pass dt).krnIssue g (cIs 0x08))
def execDi (dt g : Nat) (s : State) : Result := .next ((s.pass dt).krnIssue g (cIs 0x09))
def execClrgx (dt g : Nat) (s : State) : Result := .next ((s.pass dt).krnIssue g (cIs 0x0A))

end Sys2Proof.Machine
end

