-- ==== Sys2Proof/Machine/Time.lean ====
section
/-!
DEFINITION. Network time (R394-R411): the wall-time counter, time epochs, the PTP domains, the servo, domain switches and PPS.
-/

namespace Sys2Proof.Machine

/-! ### Wall time (R394-R396) -/

/-- W in device cc `cc` (R394, R395). -/
def wallIn : List WallSeg → Nat → Nat
  | [], cc => cc * 2 ^ 32 % 2 ^ 96
  | g :: gs, cc => if g.cc ≤ cc then (g.w + (cc - g.cc) * g.inc) % 2 ^ 96 else wallIn gs cc

/-- W in device cc `cc`. -/
def State.wallAt (s : State) (cc : Nat) : Nat := wallIn s.time.segs cc

/-- W of footage `f` of the running epoch. -/
def State.wallOfFootage (s : State) (f : Nat) : Nat := s.wallAt (s.clap.epoch.getD 0 + f)

/-- INC as last written. -/
def State.wallInc (s : State) : Nat := s.pair .WT_INC_LO .WT_INC_HI

/-- `WT_STATUS.LAST_RESULT`. -/
def State.wtResult (s : State) (code : Nat) : State := s.setFld .WT_STATUS 0 15 8 code

/-- From the next cc on, W advances by `inc` from `w`. -/
def State.newSegment (s : State) (w inc : Nat) : State :=
  { s with time := { s.time with segs := { cc := s.now + 1, w := w % 2 ^ 96, inc } :: s.time.segs } }

/-- INC is set: it applies from the next cc (R394). -/
def State.setInc (s : State) (inc : Nat) : State :=
  (s.setPair .WT_INC_LO .WT_INC_HI 0 inc).newSegment (s.wallAt (s.now + 1)) inc

/-- The range of INC (R394). -/
def incMin : Nat := 0x0000_0000_FFF2_E48F
def incMax : Nat := 0x0000_0001_000D_1B71

/-- A core that may write INC while a domain is selected (R396). -/
def servoCore : Requester → Bool
  | .gaffer k => decide (k.val ≤ 1)
  | .host => false

/-- WT_INC_WRITE (R394, R396). -/
def wtIncOp (who : Requester) (v : BitVec 64) (s : State) : State :=
  if v.toNat < incMin ∨ incMax < v.toNat then s.wtResult Code.range
  else if s.fld .WT_CTRL 0 1 0 ≠ 0 ∧ servoCore who = false then s.wtResult Code.locked
  else (s.setInc v.toNat).wtResult Code.ok

def execWtIncWrite (who : Requester) (v : BitVec 64) (s : State) : Result :=
  .next (s.regAccess who .WT_INC_LO 0 (wtIncOp who v))

/-! ### Steps and time epochs (R397-R399) -/

/-- Store a 96-bit quantity in three words. -/
def State.setTriple (s : State) (r : Reg) (v : Nat) : State :=
  ((s.setReg r 0 (BitVec.ofNat 32 v)).setReg r 1 (BitVec.ofNat 32 (v / 2 ^ 32))).setReg r 2 (BitVec.ofNat 32 (v / 2 ^ 64))

/-- A step of `d`, in the format of W, sampled in this cc (R397). -/
def State.stepWall (s : State) (d : Int) : State :=
  let w := ((s.wallAt (s.now + 1) : Int) + d) % (2 ^ 96 : Int)
  let s := s.newSegment w.toNat s.wallInc
  let s := { s with time := { s.time with steppedAt := some (s.now + 1), everStep := true } }
  let s := (s.setBit .WT_STATUS 0 3 false).setFld .WT_STATUS 0 31 16 (s.fld .WT_STATUS 0 31 16 + 1)
  let s := (s.setPair .WT_EPOCH_FTG_LO .WT_EPOCH_FTG_HI 0 (s.ftg + 1)).setTriple .WT_EPOCH_WALL w.toNat
  s.raise 439

/-- `WT_STEP` as a signed value. -/
def State.wtStepValue (s : State) : Int :=
  signed 96 (s.regNat .WT_STEP 0 + s.regNat .WT_STEP 1 * 2 ^ 32 + s.regNat .WT_STEP 2 * 2 ^ 64)

/-- WT_STEP (R397). -/
def wtStepOp (s : State) : State :=
  if s.bit .WT_STATUS 0 3 then (s.stepWall s.wtStepValue).wtResult Code.ok else s.wtResult Code.access

def execWtStep (who : Requester) (s : State) : Result := .next (s.regAccess who .WT_CMD 0 wtStepOp)

/-- WT_NEW_EPOCH (R399): STEP_PEND is set and every take engine is marked for DISCONT. -/
def wtNewEpochOp (s : State) : State :=
  if s.bit .WT_STATUS 0 3 then s.wtResult Code.ok
  else
    let s := { s with take := { s.take with discont := BitVec.allOnes 17 } }
    (s.setBit .WT_STATUS 0 3 true).wtResult Code.ok

def execWtNewEpoch (who : Requester) (s : State) : Result := .next (s.regAccess who .WT_CMD 0 wtNewEpochOp)

/-- A write of `WT_CMD` (R399): both bits in one write are refused. -/
def wtCmdOp (v : Word) (s : State) : State :=
  match bits v 1 0 with
  | 1 => wtStepOp s
  | 2 => wtNewEpochOp s
  | 3 => s.wtResult Code.range
  | _ => s

/-- WT_NOW_SNAPSHOT (R395). -/
def wtNowOp (who : Requester) (s : State) : BitVec 64 × State :=
  let w := s.wallAt s.now
  let s := (s.capture who .WT_NOW 1 (BitVec.ofNat 32 (w / 2 ^ 32))).capture who .WT_NOW 2 (BitVec.ofNat 32 (w / 2 ^ 64))
  let s := (s.capture who .WT_NOW_FTG_LO 0 (BitVec.ofNat 32 s.ftg)).capture who .WT_NOW_FTG_HI 0 (BitVec.ofNat 32 (s.ftg / 2 ^ 32))
  (BitVec.ofNat 64 (w % 2 ^ 32), s)

def execWtNowSnapshot (who : Requester) (s : State) : Result := .next (s.regAccessRead who .WT_NOW 0 (wtNowOp who))

/-! ### Domains (R401-R404) -/

/-- Domain `d`. -/
def State.ptp (s : State) (d : Nat) : PtpDomain := tget {} s.time.ptp d

/-- Store domain `d`. -/
def State.setPtp (s : State) (d : Nat) (x : PtpDomain) : State :=
  { s with time := { s.time with ptp := tset s.time.ptp d x } }

/-- A served object of network time (R411). -/
def State.servedAt (s : State) (index sub default : Nat) : Nat := tget default s.served (256 * index + sub)

/-- `PTP_STATUS.STATE` changes: each change raises the domain's source (R404). -/
def State.ptpMove (s : State) (d st : Nat) : State :=
  let was := s.fld .PTP_STATUS d 2 0
  if was = st then s
  else
    let s := (s.setFld .PTP_STATUS d 2 0 st).raise (156 + d)
    if was = 4 then s.setPtp d { s.ptp d with unlockedSince := s.now } else s

/-- Wall time of an event in quarter `q` of this cc, truncated to 0.25 ns (R402), in units of 0.25 ns. -/
def State.stamp (s : State) (q : Nat) : Nat := (s.wallAt s.now + q * s.wallInc / 4) / 2 ^ 30 % 2 ^ 66

/-- The same in units of 2^-16 ns. -/
def State.stampFine (s : State) (q : Nat) : Int := (s.stamp q * 2 ^ 14 : Nat)

/-- A clock is qualified: two of its Announce messages came within four of its intervals, and it has not timed out (R401,
IEEE 1588-2019). -/
def ForeignClock.qualified (f : ForeignClock) (now timeout : Nat) : Bool :=
  decide (now < f.last + timeout * f.interval) &&
    (match f.previous with | some p => decide (f.last ≤ p + 4 * f.interval) | none => false)

/-- The first clock is the better one: its data set, then the identity and port of its sender are the lower. -/
def ForeignClock.better (a b : ForeignClock) : Bool :=
  let k (f : ForeignClock) : List Nat := f.rank ++ [f.clock.toNat, f.portNumber.toNat, b2n f.netB]
  decide (k a < k b)

/-- The best qualified clock. -/
def bestClock (fs : List ForeignClock) (now timeout : Nat) : Option ForeignClock :=
  (fs.filter (·.qualified now timeout)).foldl
    (fun m f => match m with | none => some f | some g => if f.better g then some f else some g) none

/-- The same port of the same clock. -/
def ForeignClock.same (a b : ForeignClock) : Bool := a.clock == b.clock && a.portNumber == b.portNumber && a.netB == b.netB

/-- The domain follows `m` from now on (R403, R404, R406): with another master, or none, its offset is no longer valid. -/
def State.setMaster (s : State) (d : Nat) (m : Option ForeignClock) : State :=
  let x := s.ptp d
  let unchanged := match x.master, m with
    | some a, some b => a.same b
    | none, none => true
    | _, _ => false
  let s := s.setPtp d { x with master := m }
  if unchanged then s
  else
    let s := s.setPtp d { s.ptp d with sync := none, forward := none, request := none, requestAt := s.now, exchange := none,
                                       exchanges := 0, inLock := 0, outLock := 0 }
    let s := (s.setBit .PTP_STATUS d 3 false).setBit .PTP_STATUS d 5 true
    match m with
    | some f =>
      let s := (s.setPair .PTP_MASTER_LO .PTP_MASTER_HI d f.clock.toNat).setReg .PTP_MPORT d (BitVec.ofNat 32 f.portNumber.toNat)
      (s.setBit .PTP_STATUS d 4 f.netB).ptpMove d 2
    | none =>
      let s := if s.fld .WT_STATUS 0 1 0 = d + 1 then s.setBit .WT_STATUS 0 2 true else s
      s.ptpMove d 1

/-- Choose the master again. -/
def State.selectMaster (s : State) (d : Nat) : State :=
  s.setMaster d (bestClock (s.ptp d).foreign s.now (s.fld .PTP_CFG d 19 16))

/-- The domain exists: B needs DUAL_DOMAIN (R401, R359). -/
def State.domainOn (s : State) (d : Nat) : Bool := s.active && (d == 0 || s.feat 5) && s.bit .PTP_CFG d 12

/-- 2^n seconds in cc, for n from −7 to 4 and beyond. -/
def intervalCc (n : Int) : Nat := if n < 0 then 10 ^ 9 / 2 ^ n.natAbs else 10 ^ 9 * 2 ^ n.natAbs

/-- The exchange is complete once both sides are known. -/
def PtpDomain.complete (x : PtpDomain) (t3 t4 corr : Int) : PtpDomain :=
  match x.forward with
  | some (t1, t2, c) =>
    { x with exchange := some { t1, t2, t3, t4, corrSync := c, corrDresp := corr }, forward := none }
  | none => x

/-- A message of the domain's own number, on an enabled port and transport. -/
def State.ptpUse (s : State) (d : Nat) (m : PtpMessage) (q : Nat) : State :=
  let x := s.ptp d
  let fromMaster := match x.master with
    | some f => f.clock == m.clock && f.portNumber == m.portNumber && f.netB == m.netB
    | none => false
  match m.body with
  | .announce rank li =>
    let f : ForeignClock := { rank, clock := m.clock, portNumber := m.portNumber, netB := m.netB, interval := intervalCc li, last := s.now }
    let f := match x.foreign.find? f.same with
      | some old => { f with previous := some old.last }
      | none => f
    (s.setPtp d { x with foreign := x.foreign.filter (fun o => !f.same o) ++ [f] }).selectMaster d
  | .sync oneStep seq origin corr =>
    if !fromMaster then s
    else if oneStep then s.setPtp d { x with forward := some (origin, s.stampFine q, corr), sync := none }
    else s.setPtp d { x with sync := some (seq, s.stampFine q, corr) }
  | .followUp seq origin corr =>
    match x.sync with
    | some (sq, t2, c) =>
      if fromMaster && sq == seq then s.setPtp d { x with forward := some (origin, t2, c + corr), sync := none } else s
    | none => s
  | .delayResp seq t4 corr li =>
    match x.request with
    | some (sq, t3) =>
      if fromMaster && sq == seq then
        s.setPtp d { x.complete t3 t4 corr with request := none, requestAt := s.now + intervalCc li }
      else s
    | none => s
  | .other => s

/-- PTP_MESSAGE_RECEIVE (R401, R402): each enabled domain uses the message, or discards and counts it. -/
def ptpReceiveOp (m : PtpMessage) (q : Nat) (s : State) : State :=
  State.forEach [0, 1] (fun d s =>
    if !s.domainOn d then s
    else if m.body = .other then s
    else if m.wellFormed && m.domainNumber == s.fld .PTP_CFG d 7 0 && s.bit .PTP_CFG d (if m.netB then 9 else 8) &&
        s.bit .PTP_CFG d (if m.udp then 11 else 10) then s.ptpUse d m q
    else s.count .PTP_ERR_CNT d) s

def execPtpMessageReceive (dt : Nat) (m : PtpMessage) (q : Nat) (s : State) : Result := .next (ptpReceiveOp m q (s.pass dt))

/-- DELAY_REQ_SEND (R401, R402). -/
def delayReqOp (d q : Nat) (s : State) : State :=
  let x := s.ptp d
  match x.master with
  | some f =>
    if !s.domainOn d || decide (s.now < x.requestAt) then s
    else (s.setPtp d { x with request := some (x.nextSeq, s.stampFine q), nextSeq := (x.nextSeq + 1) % 65536 }).emit
      (.delayReq d f.netB x.nextSeq)
  | none => s

def execDelayReqSend (dt d q : Nat) (s : State) : Result := .next (delayReqOp d q (s.pass dt))

/-- ANNOUNCE_TIMEOUT (R401, R404, R406). -/
def announceTimeoutOp (d : Nat) (s : State) : State :=
  match (s.ptp d).master with
  | some m =>
    match (s.ptp d).foreign.find? m.same with
    | some f =>
      if s.now < f.last + s.fld .PTP_CFG d 19 16 * f.interval then s
      else (s.setPtp d { s.ptp d with foreign := (s.ptp d).foreign.filter (fun o => !f.same o) }).selectMaster d
    | none => s.selectMaster d
  | none => s

def execAnnounceTimeout (dt d : Nat) (s : State) : Result := .next (announceTimeoutOp d (s.pass dt))

/-! ### Servo and domain switch (R403-R407) -/

/-- The value of an IEEE 754 single as mantissa and exponent of 2. -/
def real32 (v : Nat) : Int × Int :=
  let e := v / 2 ^ 23 % 256
  let m : Nat := if e = 0 then v % 2 ^ 23 else v % 2 ^ 23 + 2 ^ 23
  (if bitOf v 31 then -(m : Int) else m, (if e = 0 then 1 else e : Nat) - 150)

/-- `x · v` rounded to the nearest integer, `v` an IEEE 754 single, divided by `d`. -/
def scaleReal (x : Int) (v : Nat) (d : Nat) : Int :=
  let r := real32 v
  let num := x * r.1 * (if r.2 < 0 then 1 else (2 ^ r.2.natAbs : Nat))
  let den : Int := d * (if r.2 < 0 then (2 ^ r.2.natAbs : Nat) else 1)
  (2 * num + den) / (2 * den)

/-- The domain in force, 0 for MANUAL. -/
def State.srcAct (s : State) : Nat := s.fld .WT_STATUS 0 1 0

/-- A switch of the steering domain takes effect (R407). -/
def State.switchDomain (s : State) (d : Nat) : State :=
  let s := { s with time := { s.time with switchTo := none } }
  (s.setFld .WT_STATUS 0 1 0 (d + 1)).raise 438

/-- An automatic switch to domain `d` is due (R407), with `ofs` its offset. -/
def State.autoSwitch (s : State) (d : Nat) (ofs : Int) : Bool :=
  let act := s.srcAct
  s.bit .WT_CTRL 0 2 && act != 0 && act != d + 1 &&
    s.fld .PTP_STATUS (act - 1) 2 0 != 4 &&
    decide ((s.ptp (act - 1)).unlockedSince + s.fld .WT_CTRL 0 15 8 * 10 ^ 9 ≤ s.now) &&
    s.fld .PTP_STATUS d 2 0 == 4 && decide (ofs.natAbs ≤ s.servedAt 0x2030 6 1000000 * 65536)

/-- The offset of a completed exchange and its mean path delay, in units of 2^-16 ns (R402, R403). -/
def Exchange.pathDelay (e : Exchange) (asym : Int) : Int :=
  ((e.t2 - e.t1 - e.corrSync - asym) + (e.t4 - e.t3 - e.corrDresp + asym)).tdiv 2

def Exchange.offset (e : Exchange) (asym : Int) : Int := e.pathDelay asym - (e.t2 - e.t1 - e.corrSync - asym)

/-- `DELAY_ASYM` of the domain (R411). -/
def State.asymmetry (s : State) (d : Nat) : Int := signed 32 (s.servedAt (0x2020 + d) 7 0) * 65536

/-- The offset is small: the servo slews by its proportional and integral terms (R398). -/
def State.smallOffset (s : State) (ofs : Int) : Bool := decide (ofs.natAbs ≤ s.servedAt 0x2030 7 1000 * 65536)

/-- The domain after an exchange with offset `ofs` and the rate estimate `rate` (R398, R404). -/
def State.servoDomain (s : State) (d rate : Nat) (ofs : Int) : PtpDomain :=
  let x := s.ptp d
  let inside := decide (ofs.natAbs ≤ s.servedAt 0x2030 3 100 * 65536)
  { x with exchange := none, exchanges := x.exchanges + 1,
           iAcc := if s.smallOffset ofs then x.iAcc + ofs / (2 ^ s.servedAt 0x2030 2 7 : Nat) else x.iAcc,
           incRate := (s.wallInc : Int) * (10 ^ 12 + signed 32 rate) / 10 ^ 12,
           inLock := if inside then x.inLock + 1 else 0, outLock := if inside then 0 else x.outLock + 1 }

/-- The registers of an exchange (R403, R410). -/
def State.servoRegs (s : State) (d : Nat) (e : Exchange) (mpd ofs : Int) (rate : Nat) : State :=
  let s := (s.setPair .PTP_OFS_LO .PTP_OFS_HI d (wrapTo 64 ofs)).setReg .PTP_MPD d (BitVec.ofInt 32 mpd)
  let s := (s.setReg .PTP_RATE d (BitVec.ofNat 32 rate)).countWrap .PTP_SYNC_CNT d
  State.forEach [(0, e.t1), (1, e.t2), (2, e.t3), (3, e.t4)] (fun (p : Nat × Int) s =>
    let v := wrapTo 64 (p.2 / 2 ^ 14)
    (s.setReg .PTP_T (8 * d + 2 * p.1) (BitVec.ofNat 32 v)).setReg .PTP_T (8 * d + 2 * p.1 + 1) (BitVec.ofNat 32 (v / 2 ^ 32))) s

/-- The domain's state after an exchange (R404). -/
def State.servoState (s : State) (d : Nat) : State :=
  let x := s.ptp d
  let valid := decide (4 ≤ x.exchanges)
  let s := s.setBit .PTP_STATUS d 3 valid
  let lockN := s.servedAt 0x2030 4 16
  let was := s.fld .PTP_STATUS d 2 0
  s.ptpMove d (if !valid then 2 else if was = 4 then (if lockN ≤ x.outLock then 3 else 4) else if lockN ≤ x.inLock then 4 else 3)

/-- The switches that an exchange brings (R407). -/
def State.servoSwitch (s : State) (d : Nat) (ofs : Int) : State :=
  let s := if s.time.switchTo = some d && decide (4 ≤ (s.ptp d).exchanges) then s.switchDomain d else s
  if s.time.switchTo = none && s.autoSwitch d ofs then s.switchDomain d else s

/-- The servo steers W by the domain in force, and writes nothing while SRC is MANUAL (R396, R398, R400, R405, R406). -/
def State.servoSteer (s : State) (d : Nat) (ofs : Int) : State :=
  let x := s.ptp d
  if s.srcAct ≠ d + 1 ∨ s.fld .WT_CTRL 0 1 0 = 0 then s
  else
    let s := s.setBit .WT_STATUS 0 2 false
    if s.bit .WT_STATUS 0 3 then (if 4 ≤ x.exchanges then s.stepWall (ofs * 65536) else s)
    else
      let s := if s.time.everStep && decide (10 ^ 6 * 65536 < ofs.natAbs) then s.setBit .WT_STATUS 0 4 true else s
      let slew := scaleReal x.incRate (s.servedAt 0x2030 5 0x42C80000) 1000000
      let inc := if s.smallOffset ofs then x.incRate + ofs / (2 ^ s.servedAt 0x2030 1 3 : Nat) + x.iAcc
                 else if 0 < ofs then x.incRate + slew else x.incRate - slew
      s.setInc (max (incMin : Int) (min incMax inc)).toNat

/-- SERVO_UPDATE (R398, R400, R403-R407): a complete exchange of domain `d`. The rate estimate is a free value: the spec gives
no algorithm for it. -/
def servoOp (d : Nat) (s : State) : State :=
  match (s.ptp d).exchange with
  | none => s
  | some e =>
    if !s.domainOn d || !s.coreRuns 0 then s
    else
      let ofs := e.offset (s.asymmetry d)
      let mpd := e.pathDelay (s.asymmetry d)
      let rate := s.free 32
      let s := rate.2
      ((((s.setPtp d (s.servoDomain d rate.1 ofs)).servoRegs d e mpd ofs rate.1).servoState d).servoSwitch d ofs).servoSteer d ofs

def execServoUpdate (dt d : Nat) (s : State) : Result := .next (servoOp d (s.pass dt))

/-- WT_SRC_WRITE: a write of `WT_CTRL` (R407). -/
def wtCtrlOp (v : Word) (s : State) : State :=
  let src := bits v 1 0
  let cur := s.fld .WT_CTRL 0 1 0
  if src = 3 ∨ (src = 2 ∧ s.feat 5 = false) ∨ bits v 15 8 = 0 then s.wtResult Code.range
  else if src ≠ cur ∧ src ≠ 0 ∧ s.bit .PTP_STATUS (src - 1) 3 = false then s.wtResult Code.busy
  else
    let s := s.setReg .WT_CTRL 0 (v &&& 0xFF07)
    let s := if src = cur then s
      else if src = 0 then
        { s with time := { s.time with switchTo := none } }.setFld .WT_STATUS 0 2 0 0
      else { s with time := { s.time with switchTo := some (src - 1) } }
    s.wtResult Code.ok

def execWtSrcWrite (who : Requester) (v : Word) (s : State) : Result := .next (s.regAccess who .WT_CTRL 0 (wtCtrlOp v))

/-- A write of `PTP_CFG` (R401, R404, R410). -/
def ptpCfgOp (d : Nat) (v : Word) (s : State) : State :=
  let bad := decide (127 < bits v 7 0) || bits v 7 0 == s.fld .PTP_CFG (1 - d) 7 0 || decide (bits v 19 16 < 2) || decide (10 < bits v 19 16)
  if bad then s.setFld .PTP_STATUS d 15 8 Code.range
  else
    let on := bits v 12 12 = 1
    let was := s.bit .PTP_CFG d 12
    let s := (s.setReg .PTP_CFG d (v &&& 0x000F_1FFF)).setFld .PTP_STATUS d 15 8 Code.ok
    if on then (if was then s else s.ptpMove d 1)
    else
      let s := (s.setPtp d { s.ptp d with foreign := [] }).setMaster d none
      s.ptpMove d 0

/-! ### PPS (R408, R409) -/

/-- PPS_OUT_RISE: W reaches a whole multiple of 10^9 ns in this cc. -/
def ppsRiseOp (s : State) : State :=
  let rem := s.wallAt s.now % (10 ^ 9 * 2 ^ 32)
  let stepped := s.time.steppedAt == some s.now
  let reaches := if stepped then rem == 0 else decide (0 < s.now) && decide (rem < s.wallAt s.now - s.wallAt (s.now - 1))
  if s.active && s.bit .PPS_CTRL 0 0 && reaches && s.time.ppsEnd.isNone then
    { s with time := { s.time with ppsEnd := some (s.now + s.fld .PPS_CTRL 0 17 8 * 10 ^ 6) } }.emit (.ppsRise s.now)
  else s

def execPpsOutRise (dt : Nat) (s : State) : Result := .next (ppsRiseOp (s.pass dt))

def ppsFallOp (s : State) : State :=
  match s.time.ppsEnd with
  | some c => if c ≤ s.now then { s with time := { s.time with ppsEnd := none } }.emit (.ppsFall s.now) else s
  | none => s

def execPpsOutFall (dt : Nat) (s : State) : Result := .next (ppsFallOp (s.pass dt))

/-- PPS_IN_CAPTURE (R409). -/
def ppsCaptureOp (q : Nat) (s : State) : State :=
  if !s.active || !s.bit .PPS_CTRL 0 1 then s
  else
    let s := if s.bit .PPS_STATUS 0 0 then s.setBit .PPS_STATUS 0 1 true else s
    let s := s.setPair .PPS_IN_TS_LO .PPS_IN_TS_HI 0 (s.stamp q)
    ((s.setPair .PPS_IN_FTG_LO .PPS_IN_FTG_HI 0 s.ftg).setBit .PPS_STATUS 0 0 true).raise 158

def execPpsInCapture (dt q : Nat) (s : State) : Result := .next (ppsCaptureOp q (s.pass dt))

/-- PPS_IN_CLAIM (R409, R10): a 32-bit read of `PPS_IN_TS_LO`. -/
def ppsClaimOp (who : Requester) (s : State) : BitVec 64 × State :=
  ((s.reg .PPS_IN_TS_LO).zeroExtend 64, (s.capture who .PPS_IN_TS_HI 0 (s.reg .PPS_IN_TS_HI)).setBit .PPS_STATUS 0 0 false)

def execPpsInClaim (who : Requester) (s : State) : Result := .next (s.regAccessRead who .PPS_IN_TS_LO 0 (ppsClaimOp who))

/-- A write of `PPS_CTRL` (R408). -/
def ppsCtrlOp (v : Word) (s : State) : State :=
  let w := bits v 17 8
  if w = 0 ∨ 999 < w then s.setFld .PPS_STATUS 0 15 8 Code.range
  else (s.setReg .PPS_CTRL 0 (v &&& 0x0003_FF03)).setFld .PPS_STATUS 0 15 8 Code.ok

end Sys2Proof.Machine
end

