-- ==== Sys2Proof/Machine/Takes.lean ====
section
/-!
DEFINITION. Take engines (R199-R226): terms and positions, region triggers, spans, reductions, slates, takes ended early, system
terms, system triggers and the system ring.
-/

namespace Sys2Proof.Machine

/-! ### Terms (R201, R202) -/

/-- The keys of the sources: comparators of tone t and tracker k of input g, raw channel c of region n, TIO line l, and the
system trigger. -/
def toneKey (g t : Nat) : Nat := 272 * g + t
def trackerKey (g k : Nat) : Nat := 272 * g + 16 + k
def rawKey (n c : Nat) : Nat := 17408 + 4 * n + c
def tioKey (l : Nat) : Nat := 17472 + l
def sysKey : Nat := 17600

/-- The term that a comparator configuration word drives. -/
def cmpTerm (w : Word) : Option Nat := if bits w 0 0 = 1 ∧ bits w 14 14 = 1 then some (bits w 13 8) else none

/-- The source with key `k` is mapped to term `m` of region `n` (R201). -/
def State.mapped (s : State) (n m k : Nat) : Bool :=
  if k < 17408 then
    let g := k / 272
    let array := s.bit .RFI_CTRL g 0
    g / 4 == n &&
      (if k % 272 < 16 then !array && cmpTerm (s.reg .TONE_CMP_CFG (16 * g + k % 272)) == some m
       else array && cmpTerm (s.reg .TRK_CMP_CFG (256 * g + (k % 272 - 16))) == some m)
  else
    let x := s.fld .TK_TERM (64 * n + m) 2 0
    let i := s.fld .TK_TERM (64 * n + m) 9 3
    if k < 17472 then x == 1 && rawKey n i == k && s.bit .TK_RAWCMP_CTRL (4 * n + i) 0
    else if k < 17600 then x == 2 && tioKey i == k
    else x == 3

/-- The interval asserts term `m` of region `n` at position `p` (R202). -/
def State.asserts (s : State) (n m p : Nat) (x : TermInterval) : Bool :=
  let st := if 17472 ≤ x.src ∧ x.src < 17600 then 0 else 8 * s.fld .TK_TERM (64 * n + m) 25 16
  decide (x.a ≤ p) && (match x.c with | some c => decide (p < max c (x.a + st)) | none => true) && s.mapped n m x.src

/-- terms(p) (R203). -/
def State.termsAt (s : State) (n p : Nat) : Nat :=
  let xs := (s.takeEngine n).terms
  bitMask ((List.range 64).filter (fun m => xs.any (s.asserts n m p)))

/-- The pattern of region `n` matches at `p` (R203). -/
def State.patternAt (s : State) (n p : Nat) : Bool :=
  let care := s.pair .TK_CARE_LO .TK_CARE_HI n
  care != 0 && s.termsAt n p &&& care == s.pair .TK_VAL_LO .TK_VAL_HI n &&& care

/-- The latency of a source (R201). -/
def State.sourceLatency (s : State) (k : Nat) : Nat :=
  if k < 17408 then (if k % 272 < 16 then 22 else 1056)
  else if k < 17472 then 10
  else if k < 17600 then 8
  else s.fld .STK_HZN 0 15 0 + 6

/-- The keys of all sources that can be mapped in region `n`. -/
def sourcesOf (n : Nat) : List Nat :=
  (List.range (4 * 272)).map (· + 4 * 272 * n) ++ (List.range 4).map (rawKey n) ++ (List.range 128).map tioKey ++ [sysKey]

/-- LAG (R204). -/
def State.lagOf (s : State) (n : Nat) : Nat :=
  let care := setBitsOf 64 (s.pair .TK_CARE_LO .TK_CARE_HI n)
  (sourcesOf n).foldl (fun l k => if care.any (fun m => s.mapped n m k) then max l (s.sourceLatency k) else l) 10

/-- Add a term interval, and forget those that can no longer matter. -/
def State.addInterval (s : State) (n : Nat) (x : TermInterval) : State :=
  let e := s.takeEngine n
  let keep (y : TermInterval) : Bool := match y.c with
    | some c => decide (8 * s.ftg < c + 8 * 2 ^ 17)
    | none => true
  s.setTake n { e with terms := e.terms.filter keep ++ [x] }

/-- The source's open interval ends at `c`. -/
def State.endInterval (s : State) (n k c : Nat) : State :=
  let e := s.takeEngine n
  s.setTake n { e with terms := e.terms.map (fun (x : TermInterval) => if x.src = k ∧ x.c = none then { x with c := some c } else x) }

/-! ### System terms (R206) -/

/-- Link `l`. -/
def State.link (s : State) (l : Nat) : LinkState := tget {} s.lnk.link l

/-- Store link `l`. -/
def State.setLink (s : State) (l : Nat) (x : LinkState) : State := { s with lnk := { s.lnk with link := tset s.lnk.link l x } }

/-- A local timestamp that reaches the hub at footage `at_` goes to the links that send its channel (R339). -/
def State.linkStamp (s : State) (kind index ts at_ : Nat) : State :=
  State.forEach ((List.range 64).filter (fun c => s.fld .LNK_TSTX c 2 0 == kind && s.fld .LNK_TSTX c 12 3 == index)) (fun c s =>
    State.forEach (setBitsOf 24 (s.regNat .LNK_TSTX_LINKS c)) (fun l s =>
      let x := s.link l
      s.setLink l { x with coming := x.coming ++ [{ h := s.clap.epoch.getD 0 + at_, ch := c, ts }] }) s) s

/-- A timestamp of KIND `kind` and INDEX `index` is on its way to the system terms that select it. -/
def State.sysStamp (s : State) (kind index ts at_ : Nat) (link : Bool) : State :=
  let ks := (List.range 256).filterMap (fun t =>
    if s.fld .STK_TERM t 2 0 = kind ∧ s.fld .STK_TERM t 12 3 = index then some ({ t, ts, at_, link } : SysStamp) else none)
  let s := { s with take := { s.take with sys := { s.take.sys with arriving := s.take.sys.arriving ++ ks } } }
  if link then s else s.linkStamp kind index ts at_

/-- The terms of region `n` that a source is mapped to. -/
def State.termsOf (s : State) (n k : Nat) : List Nat := (List.range 64).filter (fun m => s.mapped n m k)

/-! ### Engine state -/

def State.tkState (s : State) (n : Nat) : Nat := s.fld .TK_STATUS n 1 0
def State.setTkState (s : State) (n st : Nat) : State := s.setFld .TK_STATUS n 1 0 st
def State.tkResult (s : State) (n code : Nat) : State := s.setFld .TK_STATUS n 15 8 code
def State.tkPre (s : State) (n : Nat) : Nat := s.fld .TK_PRE n 19 0
def State.tkPost (s : State) (n : Nat) : Nat := s.regNat .TK_POST_LO n + s.fld .TK_POST_HI n 7 0 * 2 ^ 32

/-- Usable DDR5 capacity (R316, R318). -/
def State.memCap (s : State) : Nat := if s.bit .MEM_CTRL 0 0 then 0 else s.pair .MEM_CAP_LO .MEM_CAP_HI

/-- No free slot (R216). -/
def State.ringFull (s : State) (n : Nat) : Bool :=
  decide (s.regNat .TK_NSLOT n ≤ s.regNat .TK_TRIG n - s.regNat .TK_RD n)

/-- RING_FULL follows the counters, and the full cc outside the last span are counted for DEAD (R217). -/
def State.settleRing (s : State) (n at_ : Nat) : State :=
  let x := s.takeEngine n
  let full := s.ringFull n
  let s := s.setBit .TK_STATUS n 2 full
  match full, x.fullFrom with
  | true, none => s.setTake n { x with fullFrom := some at_ }
  | false, some f => s.setTake n { x with fullFrom := none, deadFull := x.deadFull + (at_ - max f x.lastEnd) }
  | _, _ => s

/-! ### Reductions (R210, R211) -/

/-- A reduction as configured: its channel, KIND, K and SEL. -/
structure Reduction where
  i : Nat
  kind : Nat
  k : Nat
  sel : Nat
  deriving DecidableEq, Repr

/-- The enabled reductions of region `n`. -/
def State.reductions (s : State) (n : Nat) : List Reduction :=
  ((List.range 16).filter (fun i => s.bit .TK_RED_CTRL (16 * n + i) 0)).map (fun i =>
    { i, kind := s.fld .TK_RED_CTRL (16 * n + i) 3 1, k := s.fld .TK_RED_CTRL (16 * n + i) 8 4
      sel := s.fld .TK_RED_CTRL (16 * n + i) 16 9 })

/-- The receiver of the reduction's channel is in array mode. -/
def State.redArray (s : State) (n : Nat) (r : Reduction) : Bool := s.bit .RFI_CTRL (4 * n + r.i / 4) 0

/-- The period d in eighths of a cc; 0 for KWORD. -/
def State.redPeriod (s : State) (n : Nat) (r : Reduction) : Nat :=
  match r.kind with
  | 0 => 1
  | 4 => if s.redArray n r then 2048 else 16
  | 5 => 0
  | _ => 2 ^ r.k

/-- Bytes per output sample. -/
def Reduction.bytes (r : Reduction) : Nat :=
  match r.kind with
  | 0 => 2 | 1 => 2 | 5 => 8 | _ => 4

/-- The KIND is reserved, or K or SEL is out of its range (R210, R215). -/
def State.redBad (s : State) (n : Nat) (r : Reduction) : Bool :=
  match r.kind with
  | 0 => false
  | 1 => decide (r.k < 1) || decide (10 < r.k)
  | 2 => decide (r.k < 1) || decide (20 < r.k)
  | 3 => decide (r.k < 1) || decide (18 < r.k)
  | 4 => !s.redArray n r && decide (15 < r.sel)
  | 5 => s.fld .TK_KWMAX n 15 0 == 0
  | _ => true

/-- The output samples of a reduction in a span of `cc` (R211, R216). -/
def State.redSamples (s : State) (n : Nat) (r : Reduction) (cc : Nat) : Nat :=
  if r.kind = 5 then s.fld .TK_KWMAX n 15 0 else 8 * cc / s.redPeriod n r

/-- The bytes a reduction takes up in a slot. -/
def State.redLength (s : State) (n : Nat) (r : Reduction) (cc : Nat) : Nat := (s.redSamples n r cc * r.bytes + 63) / 64 * 64

/-- TLEN (R216). -/
def State.tkTlen (s : State) (n : Nat) : Nat :=
  64 + ((s.reductions n).map (fun r => s.redLength n r (s.tkPre n + s.tkPost n))).sum

/-- The output samples that reductions with period `p8` form in the cc [a, b) (R212). -/
def formedIn (p8 a b : Nat) : Nat := if p8 = 0 then 0 else 8 * (b - 10) / p8 - 8 * (a - 10) / p8

/-- `TK_RED_CNT` in this cc. -/
def State.redCount (s : State) (n i : Nat) : Nat :=
  let stored := s.regNat .TK_RED_CNT (16 * n + i)
  match (s.reductions n).find? (fun r => r.i == i) with
  | some r =>
    if s.tkState n = 1 ∨ s.tkState n = 2 then (stored + formedIn (s.redPeriod n r) (s.takeEngine n).redFrom s.ftg) % 2 ^ 32 else stored
  | none => stored

/-- Settle `TK_RED_CNT` when the engine leaves ARMED or CAPTURE. -/
def State.settleReds (s : State) (n : Nat) : State :=
  let s := State.forEach (List.range 16) (fun i s => s.setReg .TK_RED_CNT (16 * n + i) (BitVec.ofNat 32 (s.redCount n i))) s
  s.setTake n { s.takeEngine n with redFrom := s.ftg }

/-- The engine goes to IDLE or STOPPED. -/
def State.tkRest (s : State) (n st : Nat) : State :=
  let s := (s.settleReds n).setTkState n st
  let s := s.setTake n { s.takeEngine n with disarming := false, forces := [] }
  State.forEach (List.range 4) (fun c s => { s with krn := { s.krn with outt := tdel s.krn.outt (4 * n + c) } }) s

/-! ### Arm, disarm and force (R203, R214, R215) -/

/-- Two enabled shares overlap, or one lies outside the 64 units (R212, R215). -/
def State.sharesBad (s : State) (n : Nat) : Bool :=
  let sh := (s.reductions n).map (fun r => (s.fld .TK_RED_SHARE (16 * n + r.i) 5 0, s.fld .TK_RED_SHARE (16 * n + r.i) 14 8))
  let meet (a b : Nat × Nat) : Bool := decide (a.1 < b.1 + b.2) && decide (b.1 < a.1 + a.2)
  sh.any (fun a => a.2 == 0 || decide (64 < a.1 + a.2)) ||
    (List.range sh.length).any (fun i => (List.range i).any (fun j => meet (sh.getD i (0, 0)) (sh.getD j (0, 0))))

/-- The statuses that an ARM of region `n` meets (R17, R215, R418). -/
def State.armChecks (s : State) (n lag : Nat) : List (Bool × Nat) :=
  let rs := s.reductions n
  let pre := s.tkPre n
  let post := s.tkPost n
  let base := s.regNat .TK_RING_BASE_LO n + s.fld .TK_RING_BASE_HI n 9 0 * 2 ^ 32
  let size := s.fld .TK_RING_SIZE n 26 0 * 65536
  let d := rs.foldl (fun m r => max m (s.redPeriod n r)) 1
  [(base % 65536 != 0, Code.align),
   (rs.any (fun r => s.redPeriod n r != 0 &&
      decide (s.fld .TK_RED_SHARE (16 * n + r.i) 14 8 * 65536 * s.redPeriod n r < (pre + lag) * r.bytes * 8)), Code.armTooLong),
   (decide (size < s.tkTlen n), Code.armTooLong),
   (!s.epochRun || decide (3 ≤ (s.regionPower n).state), Code.busy),
   (rs.isEmpty || rs.any (s.redBad n) || s.sharesBad n || 8 * pre % d != 0 || 8 * post % d != 0 || post == 0 ||
      decide (s.memCap < base + size) ||
      (List.range 4).any (fun i => s.bit .TK_MASK_CTRL (4 * n + i) 0 &&
        rs.any (fun r => r.i == s.fld .TK_MASK_CTRL (4 * n + i) 5 2 && r.kind == 5)), Code.range)]

/-- TK_ARM (R214, R215). -/
def tkArmOp (n : Nat) (s : State) : State :=
  if s.tkState n = 1 ∨ s.tkState n = 2 then s.tkResult n (if s.epochRun then Code.ok else Code.busy)
  else
    let lag := s.lagOf n
    match lowestCode (s.armChecks n lag) with
    | some c => s.tkResult n c
    | none =>
      let tlen := s.tkTlen n
      let x := s.takeEngine n
      let s := s.setTake n { x with
        armAt := s.ftg + 1, disarming := false, forces := [], takes := x.takes.filter (·.closed), lastFt := none
        lastEnd := s.ftg + 1, fullFrom := none, deadFull := 0, cfggen := x.cfggen + 1, redFrom := s.ftg + 1 }
      let s := State.forEach [Reg.TK_TRIG, .TK_WR, .TK_RD, .TK_MISSED] (fun r s => s.setReg r n 0) s
      let s := State.forEach (List.range 4) (fun i s => s.setReg .TK_MASK_CNT (4 * n + i) 0) s
      let s := (s.setReg .TK_LAG n (BitVec.ofNat 32 lag)).setPair .TK_TLEN_LO .TK_TLEN_HI n tlen
      let s := s.setReg .TK_NSLOT n (BitVec.ofNat 32 (s.fld .TK_RING_SIZE n 26 0 * 65536 / tlen))
      let s := State.forEach (List.range 4) (fun c s => { s with krn := { s.krn with outt := tdel s.krn.outt (4 * n + c) } }) s
      ((s.setTkState n 1).settleRing n s.ftg).tkResult n Code.ok

def execTkArm (who : Requester) (n : Nat) (s : State) : Result := .next (s.regAccess who .TK_CMD n (tkArmOp n))

/-- TK_DISARM (R214). -/
def tkDisarmOp (n : Nat) (s : State) : State :=
  (match s.tkState n with
    | 1 => s.tkRest n 0
    | 2 => s.setTake n { s.takeEngine n with disarming := true }
    | _ => s).tkResult n Code.ok

def execTkDisarm (who : Requester) (n : Nat) (s : State) : Result := .next (s.regAccess who .TK_CMD n (tkDisarmOp n))

/-- TK_FORCE (R203): kept until the position of this cc is evaluated; ignored where no arm is in force. -/
def tkForceOp (n : Nat) (s : State) : State :=
  if s.epochRun && (s.tkState n == 1 || s.tkState n == 2) then
    (s.setTake n { s.takeEngine n with forces := (s.takeEngine n).forces ++ [s.ftg] }).tkResult n Code.ok
  else s

def execTkForce (who : Requester) (n : Nat) (s : State) : Result := .next (s.regAccess who .TK_CMD n (tkForceOp n))

/-- A write of `TK_CMD` (R224): more than one bit is refused. -/
def tkCmdOp (n : Nat) (v : Word) (s : State) : State :=
  match bits v 2 0 with
  | 0 => s
  | 1 => tkArmOp n s
  | 2 => tkDisarmOp n s
  | 4 => tkForceOp n s
  | _ => s.tkResult n Code.range

/-! ### Triggers (R203, R204, R216, R217) -/

/-- ⌊p/8⌋ lies in the arm window (R200, R203). -/
def State.inArmWindow (s : State) (n f : Nat) : Bool :=
  let e := s.pair .TK_WIN_END_LO .TK_WIN_END_HI n
  decide (s.pair .TK_WIN_START_LO .TK_WIN_START_HI n ≤ f) && (e == 0 || decide (f < e))

/-- DEAD of a take at F_T = f (R217). -/
def TakeEngine.deadAt (x : TakeEngine) (f : Nat) : Nat :=
  match x.lastFt with
  | some l => min f x.lastEnd - l + x.deadFull
  | none => x.deadFull

/-- A system term source of region `n` is asserted at `p` through some term (R209). -/
def State.sysAt (s : State) (n p : Nat) : Option SysMark :=
  let x := s.takeEngine n
  (x.marks.find? (fun k =>
    let iv : TermInterval := { src := sysKey, a := k.p, c := some (k.p + 1) }
    (List.range 64).any (fun m => s.asserts n m p iv)))

/-- The engine accepts at position cc `f` (R216). -/
def State.accepting (s : State) (n f : Nat) : Bool :=
  let x := s.takeEngine n
  !x.disarming && decide (x.lastEnd ≤ f) && !s.ringFull n

/-- A unit that feeds takes of region `n` is frozen (R240). -/
def State.calFrozen (s : State) (n : Nat) : Bool :=
  let care := setBitsOf 64 (s.pair .TK_CARE_LO .TK_CARE_HI n)
  let toneFrozen (g t : Nat) : Bool := s.frozen (0x200 + 16 * g + t)
  (s.reductions n).any (fun r =>
      let g := 4 * n + r.i / 4
      s.frozen g || (r.kind == 4 && !s.bit .RFI_CTRL g 0 && toneFrozen g (r.sel % 16))) ||
    (List.range 4).any (fun c => (List.range 16).any (fun t =>
      toneFrozen (4 * n + c) t && care.any (fun m => s.mapped n m (toneKey (4 * n + c) t)))) ||
    care.any (fun m => s.fld .TK_TERM (64 * n + m) 2 0 == 2 &&
      s.frozen (0x680 + s.fld .TK_TERM (64 * n + m) 9 3)) ||
    s.frozen (0x600 + n / 2)

/-- A trigger at `p` (R203, R205, R213, R216). -/
def State.takeTrigger (s : State) (n p : Nat) (forced : Bool) : State :=
  let x := s.takeEngine n
  let f := p / 8
  let pre := s.tkPre n
  let sys := s.sysAt n p
  let short := decide (f < x.armAt + pre)
  let held (b : Nat) : Nat :=
    if (tget [] s.take.flagged (8 * n + b)).any (fun c => decide (f ≤ c + pre) && decide (c < f + s.tkPost n)) then 1 <<< b else 0
  let flags := held 2 ||| held 3 ||| held 4 ||| (b2n (s.calFrozen n) <<< 4) ||| (b2n short <<< 5) ||| (b2n forced <<< 7) |||
    (match sys with | some k => 1 <<< 8 ||| b2n k.link <<< 10 | none => 0)
  let t : Take := { q := s.regNat .TK_TRIG n, ft := f, p, toff := (match sys with | some k => k.u | none => 256 * (p % 8))
                    sysTake := sys.map (·.q), terms := s.termsAt n p, dead := x.deadAt f, flags }
  let s := s.setTake n { x with takes := x.takes ++ [t], lastFt := some f, lastEnd := f + s.tkPost n, fullFrom := none, deadFull := 0 }
  let s := (s.countWrap .TK_TRIG n).setTkState n 2
  let s := s.settleRing n f
  let s := if short then s.setBit .TK_STATUS n 5 true else s
  let nt := s.regNat .TK_NTAKES n
  let s := if nt ≠ 0 ∧ nt ≤ s.regNat .TK_TRIG n then s.setTake n { s.takeEngine n with disarming := true } else s
  let s := match sys with
    | some k => { s with take := { s.take with sys := { s.take.sys with
        takes := s.take.sys.takes.map (fun (y : SysTake) => if y.q = k.q then { y with rmask := y.rmask ||| 1 <<< n } else y) } } }
    | none => s
  let s := if s.bit .TK_EV n 8 then s.emitEvent (.region n) (chanOf n (s.fld .TK_EV n 6 0) (s.bit .TK_EV n 7)) s.now 0 else s
  s.sysStamp 2 n (256 * p) (s.ftg + 8) false

/-- REGION_TRIGGER: position 8 (ftg − LAG) + r is evaluated (R204). -/
def regionTriggerOp (n r : Nat) (s : State) : State :=
  let lag := s.fld .TK_LAG n 15 0
  let st := s.tkState n
  let x := s.takeEngine n
  let f := s.ftg - lag
  let p := 8 * f + r
  if !s.epochRun || (st != 1 && st != 2) || decide (s.ftg < lag) || decide (f < x.armAt) then s
  else
    let forced := r == 0 && x.forces.contains f
    let edge := s.patternAt n p && !(decide (0 < p) && s.patternAt n (p - 1))
    let s := s.setTake n { x with forces := if r = 0 then x.forces.filter (· != f) else x.forces }
    if !forced && !edge then s
    else if !s.accepting n f then
      (s.count .TK_MISSED n).setTake n { s.takeEngine n with missed := (s.takeEngine n).missed + 1 }
    else if forced || s.inArmWindow n f then s.takeTrigger n p forced
    else s

def execRegionTrigger (dt n r : Nat) (s : State) : Result := .next (regionTriggerOp n r (s.pass dt))

/-- The last take's span is over. -/
def State.closeTakes (s : State) (n : Nat) : State :=
  s.setTake n { s.takeEngine n with takes := (s.takeEngine n).takes.map (fun (k : Take) => { k with closed := true }) }

/-- CAPTURE_END (R214, R216). -/
def captureEndOp (n : Nat) (s : State) : State :=
  let x := s.takeEngine n
  if s.tkState n ≠ 2 ∨ s.ftg < x.lastEnd then s
  else if x.disarming then (s.closeTakes n).tkRest n 0
  else (s.closeTakes n).setTkState n 1

def execCaptureEnd (dt n : Nat) (s : State) : Result := .next (captureEndOp n (s.pass dt))

/-! ### Ending a take early (R219-R221) -/

/-- A take of region `n` ends at F_stop with a status and its flag; the earlier of two ends it, and of two at one F_stop the
lower code (R220). -/
def Take.endAt (k : Take) (fstop code flag : Nat) : Take :=
  match k.fstop with
  | some f =>
    if fstop < f then { k with fstop := some fstop, status := code, flags := k.flags / 4 * 4 ||| flag }
    else if fstop = f then { k with status := min k.status code, flags := k.flags ||| flag }
    else k
  | none => { k with fstop := some fstop, status := code, flags := k.flags ||| flag, closed := true }

/-- End take `q` early: STOPPED, STOP_CODE, and for a system take its source (R209, R219). -/
def State.stopTake (s : State) (n q fstop code flag : Nat) : State :=
  let x := s.takeEngine n
  let s := s.setTake n { x with takes := x.takes.map (fun (k : Take) => if k.q = q then k.endAt fstop code flag else k) }
  let s := (s.closeTakes n).tkRest n 3
  let s := match (s.takeEngine n).takes.find? (fun (k : Take) => k.q == q) with
    | some k => s.setFld .TK_STATUS n 23 16 k.status
    | none => s
  if (x.takes.find? (fun (k : Take) => k.q == q && k.sysTake.isSome)).isSome then
    (if code = Code.overflow then s.raise 433 else if code = Code.maskStop then s.raise 434 else s)
  else s

/-- TAKE_OVERFLOW (R219): a post-trigger sample at position cc `fl` is lost. -/
def takeOverflowOp (n fl : Nat) (s : State) : State :=
  match (s.takeEngine n).takes.find? (fun (k : Take) =>
    decide (k.ft ≤ fl) && decide (fl < k.ft + s.tkPost n) && decide (fl ≤ s.ftg) && (k.fstop.all (fun f => decide (fl ≤ f)))) with
  | some k => ((s.stopTake n k.q fl Code.overflow 1).setBit .TK_STATUS n 3 true).raise (regionSource n 1)
  | none => s

def execTakeOverflow (dt n fl : Nat) (s : State) : Result := .next (takeOverflowOp n fl (s.pass dt))

/-- The sample violates the limits of a mask test (R220). -/
def State.violates (s : State) (j : Nat) (kind : Nat) (v : OutputSample) : Bool :=
  let lo := (s.reg .TK_MASK_LO j).toInt
  let hi := (s.reg .TK_MASK_HI j).toInt
  match kind with
  | 2 => decide (v.1 < lo) || decide (hi < v.2)
  | 4 => decide (v.1 < lo) || decide (hi < v.1) || decide (v.2 < lo) || decide (hi < v.2)
  | _ => decide (v.1 < lo) || decide (hi < v.1)

/-- The cc after the last raw position that the output sample at position `pos` covers (R123, R210, R220). -/
def State.coveredEnd (s : State) (n : Nat) (r : Reduction) (pos : Nat) : Nat :=
  if r.kind = 4 then pos / 8 + (if s.redArray n r then 256 else 8) else (pos + s.redPeriod n r - 1) / 8 + 1

/-- MASK_VIOLATION (R220): the output sample at ADC position `pos` of the reduction that test `i` watches. -/
def maskViolationOp (n i pos : Nat) (v : OutputSample) (s : State) : State :=
  let j := 4 * n + i
  match (s.reductions n).find? (fun r => r.i == s.fld .TK_MASK_CTRL j 5 2) with
  | none => s
  | some r =>
    let ms := (s.reg .TK_MASK_MS j).toInt
    let me := (s.reg .TK_MASK_ME j).toInt
    let hit (k : Take) : Bool :=
      decide (k.ft + ms ≤ (pos / 8 : Nat)) && decide (((pos / 8 : Nat) : Int) < k.ft + me) &&
      decide (k.ft ≤ pos / 8 + s.tkPre n) && decide (pos / 8 < k.ft + s.tkPost n) && (k.fstop.all (fun f => decide (pos / 8 < f)))
    match (s.takeEngine n).takes.find? hit with
    | none => s
    | some k =>
      if !s.bit .TK_MASK_CTRL j 0 || !s.violates j r.kind v || decide (s.ftg < s.coveredEnd n r pos + 9) then s
      else
        let x := s.takeEngine n
        let s := (s.count .TK_MASK_CNT j).setTake n { x with
          takes := x.takes.map (fun (y : Take) => if y.q = k.q then { y with viol := y.viol + 1 } else y) }
        if s.bit .TK_MASK_CTRL j 1 && k.flags &&& 2 == 0 then
          ((s.stopTake n k.q (s.coveredEnd n r pos) Code.maskStop 2).setBit .TK_STATUS n 4 true).raise (regionSource n 2)
        else s

def execMaskViolation (dt n i pos : Nat) (v : OutputSample) (s : State) : Result := .next (maskViolationOp n i pos v (s.pass dt))

/-- A Cut or FLR with region `n` in its scope (R221): to IDLE at once, a take in capture ends with CUT. -/
def State.cutTake (s : State) (n : Nat) : State :=
  let x := s.takeEngine n
  if s.tkState n = 1 ∨ s.tkState n = 2 then
    let s := s.setTake n { x with takes := x.takes.map (fun (k : Take) => if k.closed then k else k.endAt s.ftg Code.cut 0) }
    let s := if x.takes.any (fun k => !k.closed) then s.setFld .TK_STATUS n 23 16 Code.cut else s
    s.tkRest n 0
  else s

/-- A region reset or entry to P4 (R212, R221): IDLE without a slate. -/
def State.resetTake (s : State) (n : Nat) : State :=
  let s := s.tkRest n 0
  let x := s.takeEngine n
  s.setTake n { cfggen := x.cfggen, missed := x.missed }

/-! ### The data of a take and its slate (R210, R216, R218, R222, R223) -/

/-- The raw samples of block `b` of length `len`, from samples that begin at position `from`. -/
def rawBlock (raw : List Int) (start b len : Nat) : List Int := (raw.drop (b * len - start)).take len

/-- The value of an output sample of a block reduction (R210). -/
def blockValue (kind k : Nat) (xs : List Int) : Nat :=
  match kind with
  | 0 => wrapTo 16 (xs.headD 0)
  | 1 => wrapTo 16 (xs.sum / (2 ^ k : Nat))
  | 2 => wrapTo 16 (xs.foldl min (xs.headD 0)) + wrapTo 16 (xs.foldl max (xs.headD 0)) * 65536
  | _ => wrapTo 32 xs.sum

/-- The bytes of a reduction over the positions [lo, hi), the samples before cc `armAt` as zeros (R213). -/
def State.redData (s : State) (n : Nat) (r : Reduction) (samples : TakeSamples) (kwords : List (Nat × Word)) (lo hi armAt : Nat) :
    List Byte :=
  let start := 8 * lo
  match r.kind with
  | 4 =>
    let zs := ((samples.iq.find? (fun p => p.1 == r.i)).map Prod.snd).getD []
    let p8 := s.redPeriod n r
    let first := (start + p8 - 1) / p8
    let cnt := (8 * hi + p8 - 1) / p8 - first
    (List.range cnt).flatMap (fun j =>
      let z := zs.getD j (0, 0)
      if s.redBad n r || decide ((first + j) * p8 < 8 * armAt) then leBytes 4 0 else leBytes 4 (wrapTo 16 z.1 + wrapTo 16 z.2 * 65536))
  | 5 =>
    let max := s.fld .TK_KWMAX n 15 0
    let ws := (kwords.filter (fun p => decide (lo ≤ p.1) && decide (p.1 < hi))).take max
    (ws.flatMap (fun p => leBytes 4 p.2.toNat ++ leBytes 4 (p.1 - lo))) ++
      (List.replicate (max - ws.length) (leBytes 4 0 ++ leBytes 4 0xFFFF_FFFF)).flatten
  | kind =>
    let raw := samples.raw.getD (r.i / 4) []
    let len := s.redPeriod n r
    let first := (start + len - 1) / len
    let cnt := (8 * hi + len - 1) / len - first
    (List.range cnt).flatMap (fun j =>
      let b := first + j
      leBytes r.bytes (if b * len < 8 * armAt then 0 else blockValue kind r.k (rawBlock raw start b len)))

/-- The 64 bytes of a slate (R222). -/
def slateBytes (take engine status flags wall ftg toff dead missed stopAt viol terms rmask cfggen sysTake : Nat) : List Byte :=
  let sat (v : Nat) : Nat := min v 0xFFFF_FFFF
  leBytes 4 take ++ leBytes 1 engine ++ leBytes 1 status ++ leBytes 2 flags ++ leBytes 12 wall ++ leBytes 8 ftg ++
    leBytes 2 toff ++ leBytes 2 0 ++ leBytes 4 (sat dead) ++ leBytes 4 (sat missed) ++ leBytes 4 stopAt ++ leBytes 4 (sat viol) ++
    leBytes 8 terms ++ leBytes 2 rmask ++ leBytes 2 cfggen ++ leBytes 4 sysTake

/-- The DISCONT and LATE marks of an engine (16 the system's), and the state without them. -/
def State.takeMarks (s : State) (e : Nat) : Nat × State :=
  let fl := (b2n (bitOf s.take.discont.toNat e) <<< 6) ||| (b2n (bitOf s.take.lateNext.toNat e) <<< 2)
  let clear (v : BitVec 17) : BitVec 17 := v &&& ~~~BitVec.ofNat 17 (1 <<< e)
  (fl, { s with take := { s.take with discont := clear s.take.discont, lateNext := clear s.take.lateNext } })

/-- The first and the last cc of a take's data (R216, R218). -/
def State.takeFrom (s : State) (n : Nat) (k : Take) : Nat := k.ft - s.tkPre n
def State.takeTo (s : State) (n : Nat) (k : Take) : Nat := k.fstop.getD (k.ft + s.tkPost n)

/-- The address of a take's slot (R216). -/
def State.slotBase (s : State) (n : Nat) (k : Take) : Nat :=
  s.regNat .TK_RING_BASE_LO n + s.fld .TK_RING_BASE_HI n 9 0 * 2 ^ 32 +
    (k.q % max 1 (s.regNat .TK_NSLOT n)) * s.pair .TK_TLEN_LO .TK_TLEN_HI n

/-- The words of OUTT that reduction `r` can take (R157). -/
def State.redKwords (s : State) (n : Nat) (r : Reduction) : List (Nat × Word) := tget [] s.krn.outt (4 * n + r.i / 4)

/-- A KWORD reduction met more words than its part of the slot holds. -/
def State.kwordDrop (s : State) (n : Nat) (k : Take) : Bool :=
  (s.reductions n).any (fun r => r.kind == 5 && decide (s.fld .TK_KWMAX n 15 0 <
    ((s.redKwords n r).filter (fun p => decide (s.takeFrom n k ≤ p.1) && decide (p.1 < s.takeTo n k))).length))

/-- The data of a take: each reduction's address and bytes, behind the ones before it (R210, R216). -/
def State.slateParts (s : State) (n : Nat) (k : Take) (samples : TakeSamples) : List (Nat × List Byte) :=
  ((s.reductions n).foldl (fun (a : Nat × List (Nat × List Byte)) r =>
    (a.1 + s.redLength n r (s.tkPre n + s.tkPost n),
     a.2 ++ [(a.1, s.redData n r samples (s.redKwords n r) (s.takeFrom n k) (s.takeTo n k) (s.takeEngine n).armAt)]))
    (s.slotBase n k + 64, [])).2

/-- The slate of take `k` (R222). -/
def State.slateOf (s : State) (n : Nat) (k : Take) (status marks : Nat) : List Byte :=
  let x := s.takeEngine n
  slateBytes k.q n status (k.flags ||| marks ||| (b2n (s.kwordDrop n k) <<< 9)) (s.wallOfFootage k.ft) k.ft k.toff k.dead
    x.missed (s.takeTo n k - s.takeFrom n k) k.viol k.terms (bitMask ((s.reductions n).map (·.i))) (x.cfggen % 65536)
    (k.sysTake.getD 0xFFFF_FFFF)

/-- The slate of take `k` is written: WR counts, the region's source and the event of the slate follow (R218, R222-R224). -/
def State.putSlate (s : State) (n : Nat) (k : Take) (status : Nat) (rest : List Take) : State :=
  let m := s.takeMarks n
  let s := m.2
  let s := s.writeBytes 0 (s.slotBase n k) (s.slateOf n k status m.1)
  let s := s.setTake n { s.takeEngine n with takes := rest, missed := 0 }
  let s := (s.countWrap .TK_WR n).raise (regionSource n 0)
  if s.bit .TK_EV n 24 then s.emitEvent (.region n) (chanOf n (s.fld .TK_EV n 22 16) (s.bit .TK_EV n 23)) s.now 0 else s

/-- A take whose write failed (R221): the data is not written, the engine stops, and the slate is written if its own write
passes. -/
def State.failTake (s : State) (n : Nat) (k : Take) (rest : List Take) (code : Nat) (slate : Bool) : State :=
  let status := if k.status = 0 then code else min code k.status
  let stop (s : State) : State := (((s.closeTakes n).tkRest n 3)).setFld .TK_STATUS n 23 16 status
  if slate then stop (s.putSlate n k status rest)
  else stop (s.setTake n { s.takeEngine n with takes := rest })

/-- SLATE_WRITE (R218, R221): the oldest take whose span is over. -/
def slateWriteOp (n : Nat) (samples : TakeSamples) (port : TakePort) (s : State) : State :=
  match (s.takeEngine n).takes with
  | [] => s
  | k :: rest =>
    if !k.closed then s
    else match port with
      | .completed =>
        (State.forEach (s.slateParts n k samples) (fun p s => s.writeBytes 0 p.1 p.2) s).putSlate n k k.status rest
      | .timeout sl => s.failTake n k rest Code.timeout sl
      | .poison sl => s.failTake n k rest Code.poison sl

def execSlateWrite (dt n : Nat) (samples : TakeSamples) (port : TakePort) (s : State) : Result :=
  .next (slateWriteOp n samples port (s.pass dt))

/-- TK_RD_WRITE (R217). -/
def tkRdOp (n : Nat) (v : Word) (s : State) : State :=
  if s.regNat .TK_TRIG n < v.toNat then s.tkResult n Code.range
  else ((s.setReg .TK_RD n v).settleRing n s.ftg).tkResult n Code.ok

def execTkRdWrite (who : Requester) (n : Nat) (v : Word) (s : State) : Result := .next (s.regAccess who .TK_RD n (tkRdOp n v))

/-! ### The system take engine (R206-R209, R225) -/

def State.setSys (s : State) (x : SysEngine) : State := { s with take := { s.take with sys := x } }
def State.stkResult (s : State) (code : Nat) : State := s.setFld .STK_STATUS 0 15 8 code
def State.stkArmed (s : State) : Bool := s.fld .STK_STATUS 0 1 0 == 1
def State.stkSlots (s : State) : Nat := s.fld .STK_RING_SIZE 0 26 0 * 1024
def State.stkFull (s : State) : Bool := decide (s.stkSlots ≤ s.regNat .STK_TRIG - s.regNat .STK_RD)

/-- RING_FULL and the full cc follow the counters of the system ring. -/
def State.settleSysRing (s : State) (at_ : Nat) : State :=
  let x := s.take.sys
  let full := s.stkFull
  let s := s.setBit .STK_STATUS 0 2 full
  match full, x.fullFrom with
  | true, none => s.setSys { x with fullFrom := some at_ }
  | false, some f => s.setSys { x with fullFrom := none, deadFull := x.deadFull + (at_ - max f (x.holdEnd / 2048)) }
  | _, _ => s

/-- SYSTEM_TIMESTAMP_ARRIVAL (R208): the oldest timestamp under way to term `t` joins it, or is late. -/
def sysArrivalOp (t : Nat) (s : State) : State :=
  let x := s.take.sys
  match x.arriving.find? (fun k => k.t == t && decide (k.at_ ≤ s.ftg)) with
  | none => s
  | some k =>
    let hzn := s.fld .STK_HZN 0 15 0
    let rest := x.arriving.erase k
    if k.ts / 2048 + hzn < k.at_ then
      let s := (s.setSys { x with arriving := rest }).count .STK_LATE_CNT
      { s with take := { s.take with
        lateNext := s.take.lateNext ||| BitVec.ofNat 17 (65536 + s.fld .STK_REGMASK 0 15 0) } }
    else
      let keep (y : SysStamp) : Bool := decide (s.ftg < y.ts / 2048 + s.fld .STK_TERM y.t 31 16 + hzn + 16)
      s.setSys { x with arriving := rest, joined := x.joined.filter keep ++ [k] }

def execSystemTimestampArrival (dt t : Nat) (s : State) : Result := .next (sysArrivalOp t (s.pass dt))

/-- A timestamp makes its term true at instant x (R207). -/
def State.stampTrue (s : State) (x : Nat) (k : SysStamp) : Bool :=
  decide (k.ts ≤ x) && decide (x < k.ts + 2048 * s.fld .STK_TERM k.t 31 16)

/-- The truth of the 256 terms at x. -/
def State.sysTermsAt (s : State) (x : Nat) : Nat :=
  bitMask ((s.take.sys.joined.filter (s.stampTrue x)).map (·.t))

/-- The system pattern matches at x (R207). -/
def State.sysPatternAt (s : State) (x : Nat) : Bool :=
  let word (r : Reg) : Nat := ((List.range 8).map (fun j => s.regNat r j * 2 ^ (32 * j))).sum
  let care := word .STK_CARE
  care != 0 && s.sysTermsAt x &&& care == word .STK_VAL &&& care

/-- An event of the system take engine on the channel in bits [lo+6:lo] of `STK_EV` (R225): the hub uses global channels. -/
def State.stkEvent (s : State) (lo : Nat) : State :=
  if s.bit .STK_EV 0 (lo + 8) && !s.bit .STK_EV 0 (lo + 7) then s.emitEvent .hub (s.fld .STK_EV 0 (lo + 6) lo) s.now 0 else s

/-- SYSTEM_TRIGGER: instant 2,048 (ftg − HZN) + u is decided (R207-R209). -/
def systemTriggerOp (u : Nat) (s : State) : State :=
  let hzn := s.fld .STK_HZN 0 15 0
  let f := s.ftg - hzn
  let x := 2048 * f + u
  let y := s.take.sys
  if !s.epochRun || !s.stkArmed || decide (s.ftg < hzn) || decide (f < y.armAt) then s
  else if !(s.sysPatternAt x && !(decide (0 < x) && s.sysPatternAt (x - 1))) then s
  else
    let e := s.pair .STK_WIN_END_LO .STK_WIN_END_HI
    if x < y.holdEnd ∨ s.stkFull = true then (s.count .STK_MISSED).setSys { y with missed := y.missed + 1 }
    else if f < s.pair .STK_WIN_START_LO .STK_WIN_START_HI ∨ (e ≠ 0 ∧ e ≤ f) then s
    else
      let g := s.fld .STK_SNAP 0 1 0
      let link := y.joined.any (fun k => k.link && s.stampTrue x k)
      let dead := (match y.lastX with | some l => min f (y.holdEnd / 2048) - l / 2048 | none => 0) + y.deadFull
      let t : SysTake := { q := s.regNat .STK_TRIG, x, terms := s.sysTermsAt x / 2 ^ (64 * g) % 2 ^ 64, dead
                           flags := b2n link <<< 10, mask := s.fld .STK_REGMASK 0 15 0, assertAt := s.ftg + 6 }
      let s := s.setSys { y with takes := y.takes ++ [t], lastX := some x, holdEnd := x + 2048 * s.fld .STK_HOLD 0 19 0,
                                 fullFrom := none, deadFull := 0 }
      let s := (s.countWrap .STK_TRIG).settleSysRing f
      let nt := s.regNat .STK_NTAKES
      let s := if nt ≠ 0 ∧ nt ≤ s.regNat .STK_TRIG then s.setFld .STK_STATUS 0 1 0 0 else s
      s.stkEvent 0

def execSystemTrigger (dt u : Nat) (s : State) : Result := .next (systemTriggerOp u (s.pass dt))

/-- SYSTEM_TRIGGER_ASSERT (R209): six cc after the decision. -/
def systemAssertOp (s : State) : State :=
  let y := s.take.sys
  let due := y.takes.filter (fun t => !t.asserted && decide (t.assertAt ≤ s.ftg))
  let s := s.setSys { y with takes := y.takes.map (fun (t : SysTake) => if t.assertAt ≤ s.ftg then { t with asserted := true } else t) }
  State.forEach due (fun (t : SysTake) s =>
    State.forEach (setBitsOf 16 t.mask) (fun n s =>
      let p := t.x / 256
      let s := s.addInterval n { src := sysKey, a := p, c := some (p + 1) }
      let e := s.takeEngine n
      let mark : SysMark := { p, u := t.x % 2048, q := t.q, link := bitOf t.flags 10 }
      s.setTake n { e with marks := e.marks.filter (fun (k : SysMark) => decide (8 * s.ftg < k.p + 8 * 2 ^ 17)) ++ [mark] }) s) s

def execSystemTriggerAssert (dt : Nat) (s : State) : Result := .next (systemAssertOp (s.pass dt))

/-- Region `n` has written the slate of system take `q`, or will record none (R209). -/
def State.regionDone (s : State) (n : Nat) (t : SysTake) : Bool :=
  let st := s.tkState n
  (decide (t.x / 2048 + s.fld .TK_LAG n 15 0 < s.ftg) || (st != 1 && st != 2)) &&
    !(s.takeEngine n).takes.any (fun k => k.sysTake == some t.q)

/-- SYSTEM_SLATE_WRITE (R209, R222). STOP_AT is not stated for a system slate: a free value. -/
def systemSlateOp (s : State) : State :=
  let y := s.take.sys
  match y.takes with
  | [] => s
  | t :: rest =>
    if !t.asserted || !(setBitsOf 16 t.mask).all (fun n => s.regionDone n t) then s
    else
      let m := s.takeMarks 16
      let r := m.2.free 32
      let s := r.2
      let f := t.x / 2048
      let under := (setBitsOf 16 t.rmask).any (fun n =>
        (tget [] s.take.flagged (8 * n + 3)).any (fun c => decide (f ≤ c + s.tkPre n) && decide (c < f + s.tkPost n)))
      let base := s.regNat .STK_RING_BASE_LO + s.fld .STK_RING_BASE_HI 0 9 0 * 2 ^ 32 + 64 * (t.q % max 1 s.stkSlots)
      let s := s.writeBytes 0 base (slateBytes t.q 0xFF 0 (t.flags ||| m.1 ||| (b2n under <<< 3)) (s.wallOfFootage f) f (t.x % 2048)
        t.dead y.missed r.1 0 t.terms t.rmask (y.cfggen % 65536) t.q)
      let s := s.setSys { s.take.sys with takes := rest, missed := 0 }
      ((s.countWrap .STK_WR).stkEvent 16).raise 432

def execSystemSlateWrite (dt : Nat) (s : State) : Result := .next (systemSlateOp (s.pass dt))

/-- STK_ARM (R225). -/
def stkArmOp (s : State) : State :=
  if s.stkArmed then s.stkResult Code.ok
  else
    let base := s.regNat .STK_RING_BASE_LO + s.fld .STK_RING_BASE_HI 0 9 0 * 2 ^ 32
    match lowestCode [(base % 65536 != 0, Code.align), (!s.epochRun, Code.busy),
        (decide (s.memCap < base + s.fld .STK_RING_SIZE 0 26 0 * 65536), Code.range)] with
    | some c => s.stkResult c
    | none =>
      let y := s.take.sys
      let s := s.setSys { y with armAt := s.ftg + 1, holdEnd := 0, lastX := none, fullFrom := none, deadFull := 0, cfggen := y.cfggen + 1 }
      let s := State.forEach [Reg.STK_TRIG, .STK_WR, .STK_RD, .STK_MISSED, .STK_LATE_CNT] (fun r s => s.setReg r 0 0) s
      ((s.setFld .STK_STATUS 0 1 0 1).settleSysRing s.ftg).stkResult Code.ok

def execStkArm (who : Requester) (s : State) : Result := .next (s.regAccess who .STK_CMD 0 stkArmOp)

/-- STK_DISARM (R225). -/
def stkDisarmOp (s : State) : State := (s.setFld .STK_STATUS 0 1 0 0).stkResult Code.ok

def execStkDisarm (who : Requester) (s : State) : Result := .next (s.regAccess who .STK_CMD 0 stkDisarmOp)

/-- A write of `STK_CMD`. -/
def stkCmdOp (v : Word) (s : State) : State :=
  match bits v 1 0 with
  | 0 => s
  | 1 => stkArmOp s
  | 2 => stkDisarmOp s
  | _ => s.stkResult Code.range

/-- STK_RD_WRITE (R217, R225). -/
def stkRdOp (v : Word) (s : State) : State :=
  if s.regNat .STK_TRIG < v.toNat then s.stkResult Code.range
  else ((s.setReg .STK_RD 0 v).settleSysRing s.ftg).stkResult Code.ok

def execStkRdWrite (who : Requester) (v : Word) (s : State) : Result := .next (s.regAccess who .STK_RD 0 (stkRdOp v))

end Sys2Proof.Machine
end

