-- ==== Sys2Proof/Machine/Trig.lean ====
section
/-!
DEFINITION. The sine and cosine tables of the converters and the discriminators (R79, R129): round(32767 · cos(2πk / 2^n)),
computed in fixed point with 96 fraction bits, far below the distance of any entry from a rounding boundary.
-/

namespace Sys2Proof.Machine

/-- One turn's half, π, with 96 fraction bits. -/
def piFix : Int := 248902613312231085230521944622

/-- The terms of the Taylor series from degree `d` on, for a squared argument `x2` with 96 fraction bits. -/
def taylor : Nat → Nat → Int → Int → Int
  | 0, _, _, _ => 0
  | f + 1, d, t, x2 => t + taylor f (d + 2) (-(t * x2 / 2 ^ 96 / ((d + 1) * (d + 2) : Nat))) x2

/-- cos(x) for an angle of at most a quarter turn, 96 fraction bits. -/
def cosFix (x : Int) : Int := taylor 20 0 (2 ^ 96) (x * x / 2 ^ 96)

/-- sin(x) for an angle of at most a quarter turn, 96 fraction bits. -/
def sinFix (x : Int) : Int := taylor 20 1 x (x * x / 2 ^ 96)

/-- round(32767 · v / 2^96), a half rounded away from zero. -/
def roundScale (v : Int) : Int :=
  let a : Nat := (32767 * v.natAbs * 2 + 2 ^ 96) / 2 ^ 97
  if v < 0 then -(a : Int) else a

/-- round(32767 · cos(2πk / 2^n)), with the quadrants exact. -/
def cosEntry (n k : Nat) : Int :=
  let k := k % 2 ^ n
  let q := k / 2 ^ (n - 2)
  let x : Int := 2 * piFix * (k % 2 ^ (n - 2) : Nat) / 2 ^ n
  match q with
  | 0 => roundScale (cosFix x)
  | 1 => -roundScale (sinFix x)
  | 2 => -roundScale (cosFix x)
  | _ => roundScale (sinFix x)

/-- round(32767 · sin(2πk / 2^n)). -/
def sinEntry (n k : Nat) : Int := cosEntry n (k + 2 ^ n - 2 ^ (n - 2))

/-- COS[t] and SIN[t] of R79. -/
def cos24 (t : Nat) : Int := cosEntry 24 t
def sin24 (t : Nat) : Int := sinEntry 24 t

/-- COS16[ROT] and SIN16[ROT] of R129. -/
def cos16 (r : Nat) : Int := cosEntry 16 r
def sin16 (r : Nat) : Int := sinEntry 16 r

end Sys2Proof.Machine
end

