-- ==== Sys2Proof/Machine/Readout.lean ====
section
/-!
DEFINITION. Read-out receivers (R118-R142): tone sets, acquisition windows, integration and discrimination, comparators,
trackers and the dailies writers.
-/

namespace Sys2Proof.Machine

/-- `RFI_STATUS.LAST_RESULT`. -/
def State.rfiResult (s : State) (g code : Nat) : State := s.setFld .RFI_STATUS g 15 8 code

/-- TONE_COMMIT (R124). -/
def toneCommitOp (g mask : Nat) (s : State) : State :=
  State.forEach (setBitsOf 16 mask) (fun t s => s.commitSet false g (20 + t)) s

def execToneCommit (who : Requester) (g : Nat) (mask : BitVec 16) (s : State) : Result :=
  .next (s.regAccess who .TONE_COMMIT g (toneCommitOp g mask.toNat))

/-! ### Acquisition windows (R125-R127) -/

/-- Tone t is busy at footage `f` (R126). -/
def State.toneBusy (s : State) (g t f : Nat) : Bool := (s.windows g t).any (fun w => decide (f ≤ 2 * w.m1))

/-- Tone t is offered an ACQ that matured in footage `a` (R125, R126). -/
def State.offerAcq (s : State) (g t a : Nat) : State :=
  let i := 16 * g + t
  let n := s.fld .TONE_WLEN i 23 0 + 1
  let box := s.bit .TONE_CFG i 0
  let again := tfind s.rd.offered i == some a
  let s := { s with rd := { s.rd with offered := tset s.rd.offered i a } }
  if s.bit .RFI_CTRL g 0 || (!box && decide (4096 < n)) then s.setBit .TONE_STATUS i 4 true
  else if again || s.toneBusy g t a then s.setBit .TONE_STATUS i 3 true
  else
    let w : ToneWindow := { m0 := (a + s.fld .TONE_WOFF i 19 0 + 1) / 2, n, box, ishift := s.fld .TONE_CFG i 12 8
                            wbase := s.fld .TONE_ACT_WBASE i 15 0, rot := s.fld .TONE_ACT_ROT i 15 0, th0 := s.regNat .TONE_ACT_TH0 i
                            th1 := s.regNat .TONE_ACT_TH1 i, th2 := s.regNat .TONE_ACT_TH2 i }
    let s := s.setWindows g t (s.windows g t ++ [w])
    let s := if s.bit .TONE_CFG i 1 then
        let k : KrnWindow := { at_ := 2 * w.m1 + 25 }
        { s with krn := { s.krn with pend := tset s.krn.pend i (tget [] s.krn.pend i ++ [k]) } }
      else s
    if !s.setHoSrc g (20 + t) && s.setPending g (20 + t) && (s.shadow g (20 + t)).pendAt != some s.now then s.handOver g (20 + t) else s

/-- ACQ_ENTRY_MATURE (R102, R126). -/
def acqMatureOp (g e : Nat) (s : State) : State :=
  let x := s.eng g e
  match x.aux with
  | (m, .acq tones) :: rest =>
    if s.epochRun && decide (m ≤ s.ftg) then
      State.forEach (setBitsOf 16 tones.toNat) (fun t s => s.offerAcq g t m) (s.setEng g e { x with aux := rest })
    else s
  | _ => s

def execAcqEntryMature (dt g e : Nat) (s : State) : Result := .next (acqMatureOp g e (s.pass dt))

/-- The windows of cluster `g` whose decisions are not formed end without one (R127). -/
def State.endWindows (s : State) (g : Nat) : State :=
  let s := State.forEach (List.range 16) (fun t s => s.setWindows g t []) s
  s.keepPend g (fun w => Nat.ble w.at_ s.ftg)

/-! ### Dailies (R138, R139) -/

/-- The dailies writer of region `n`. -/
def State.dailies (s : State) (n : Nat) : DailiesState := tget {} s.rd.dly n

/-- Store the dailies writer. -/
def State.setDailies (s : State) (n : Nat) (d : DailiesState) : State := { s with rd := { s.rd with dly := tset s.rd.dly n d } }

/-- The bytes of a record, with RSEQ and KIND in their places (R139). -/
def recordBytes (head : List Byte) (rseq kind : Nat) : List Byte := head ++ leBytes 2 rseq ++ leBytes 1 kind ++ leBytes 1 0

/-- The pad record. -/
def padRecord : List Byte := leBytes 30 0 ++ leBytes 1 0xFF ++ leBytes 1 0

/-- A record of region `n` is produced, with its first 28 bytes (R138). -/
def State.addRecord (s : State) (n : Nat) (head : List Byte) (kind : Nat) : State :=
  if !s.bit .DLY_CTRL n 0 then s
  else
    let rs := s.fld .DLY_RSEQ n 15 0
    let s := s.setReg .DLY_RSEQ n (BitVec.ofNat 32 ((rs + 1) % 65536))
    let d := s.dailies n
    let r := recordBytes head rs kind
    match d.half with
    | some (h, _) => s.setDailies n { half := none, blocks := d.blocks ++ [h ++ r] }
    | none =>
      if 64 ≤ d.blocks.length then (s.setBit .DLY_STATUS n 7 true).count .DLY_DROP n
      else s.setDailies n { d with half := some (r, s.now) }

/-- The open block of region `n` is completed with a pad record. -/
def State.padBlock (s : State) (n : Nat) : State :=
  let d := s.dailies n
  match d.half with
  | some (h, _) => s.setDailies n { half := none, blocks := d.blocks ++ [h ++ padRecord] }
  | none => s

/-- DAILIES_PAD (R138). -/
def dailiesPadOp (n : Nat) (s : State) : State :=
  match (s.dailies n).half with
  | some (_, f) => if f + 64 * s.fld .DLY_CTRL n 31 16 ≤ s.now then s.padBlock n else s
  | none => s

def execDailiesPad (dt n : Nat) (s : State) : Result := .next (dailiesPadOp n (s.pass dt))

/-- OVR and its counter (R121). -/
def State.countOverrange (s : State) (g : Nat) (o : Overrange) : State :=
  if o.count = 0 then s else (s.setBit .RFI_STATUS g 0 true).count .RFI_OVR_CNT g o.count

/-! ### Integration and discrimination (R128, R129) -/

/-- The first word logged for weight `key` in or after cc `c`: what the weight still was in cc `c`. -/
def weightBefore : List (Nat × Nat × Word) → Nat → Nat → Option Word
  | [], _, _ => none
  | (k, cc, w) :: l, key, c => if k = key ∧ c ≤ cc then some w else weightBefore l key c

/-- Weight `a` of cluster `g` as it is read in device cc `c` (R128). -/
def State.weight (s : State) (g a c : Nat) : Word :=
  match weightBefore s.rd.weightLog (65536 * g + a) c with
  | some w => w
  | none => BitVec.ofNat 32 (s.le 3 (clusterBase g + 0xC0000 + 4 * a) 4)

/-- The accumulators of a window over its samples (R128). -/
def State.integrate (s : State) (g : Nat) (w : ToneWindow) (zs : List (Int × Int)) : Int × Int :=
  (List.range w.n).foldl (fun (acc : Int × Int) k =>
    let z := zs.getD k (0, 0)
    if w.box then (acc.1 + z.1, acc.2 + z.2)
    else
      let x := s.weight g ((w.wbase + k) % 65536) (s.clap.epoch.getD 0 + 2 * (w.m0 + k) + 19)
      (acc.1 + z.1 * partI x - z.2 * partQ x, acc.2 + z.1 * partQ x + z.2 * partI x)) (0, 0)

/-- The value is a signed 32-bit one. -/
def fits32 (x : Int) : Bool := decide (-2 ^ 31 ≤ x) && decide (x < 2 ^ 31)

/-- The rotation of R129 and R136. -/
def rotate (i q : Int) (rot : Nat) : Int := (i * cos16 rot + q * sin16 rot) / 2 ^ 15

/-- The state of a result (R129). -/
def ToneWindow.stateOf (w : ToneWindow) (u : Int) : Nat :=
  b2n (decide (signed 32 w.th0 ≤ u)) + b2n (decide (signed 32 w.th1 ≤ u)) + b2n (decide (signed 32 w.th2 ≤ u))

/-- A result is copied into the histogram FIFO (R235). -/
def State.histCopy (s : State) (g t : Nat) (yi yq : Word) : State :=
  let q := tget [] s.rd.hist g
  if !s.bit .CAL_HIST_EN g t then s
  else if 256 ≤ q.length then s.count .CAL_HIST_DROP g
  else { s with rd := { s.rd with hist := tset s.rd.hist g (q ++ [(t, yi, yq)]) } }

/-- TONE_RESULT (R121, R128-R132, R138): the oldest window of the tone, 28 cc after its last sample. -/
def toneResultOp (g t : Nat) (zs : List (Int × Int)) (ovr : Overrange) (s : State) : State :=
  match s.windows g t with
  | [] => s
  | w :: rest =>
    if !s.epochRun || decide (s.ftg < 2 * w.m1 + 28) then s
    else
      let i := 16 * g + t
      let slot := 16 * g + t
      let s := (s.setWindows g t rest).countOverrange g ovr
      let acc := s.integrate g w zs
      let yi := acc.1 / (2 ^ w.ishift : Nat)
      let yq := acc.2 / (2 ^ w.ishift : Nat)
      let u := rotate yi yq w.rot
      let wrap := !(fits32 yi && fits32 yq && fits32 u)
      let st := w.stateOf u
      let dsrc := s.bit .TONE_CFG i 1
      let sq := s.nextSeq slot
      let word := decisionWord st true false false sq.1
      let s := if dsrc then s else sq.2.enterFabric g slot word s.now
      let s := ((s.setReg .TONE_RES_I i (BitVec.ofInt 32 yi)).setReg .TONE_RES_Q i (BitVec.ofInt 32 yq)).setReg .TONE_RES_U i (BitVec.ofInt 32 u)
      let s := (s.setPair .TONE_RES_FTG_LO .TONE_RES_FTG_HI i (2 * w.m0)).setFld .TONE_STATUS i 23 16 word.toNat
      let s := if wrap then s.setBit .TONE_STATUS i 5 true else s
      let s := if s.bit .TONE_CFG i 2 then
          s.addRecord (g / 4) (leBytes 8 (2 * w.m0) ++ leBytes 4 (wrapTo 32 yi) ++ leBytes 4 (wrapTo 32 yq) ++ leBytes 4 (wrapTo 32 u) ++
            leBytes 4 w.n ++ leBytes 2 slot ++ leBytes 1 word.toNat ++ leBytes 1 (b2n ovr.inSpan + 2 * b2n wrap)) 1
        else s
      if wrap || ovr.inSpan then s else s.histCopy g t (BitVec.ofInt 32 yi) (BitVec.ofInt 32 yq)

def execToneResult (dt g t : Nat) (zs : List (Int × Int)) (ovr : Overrange) (s : State) : Result :=
  .next (toneResultOp g t zs ovr (s.pass dt))

/-! ### Trackers and comparators (R133-R137) -/

/-- The key of a comparator and its region. -/
def cmpKey : Comparator → Nat
  | .tone g t => toneKey g t
  | .tracker g k => trackerKey g k
  | .raw n c => rawKey n c
def cmpRegion : Comparator → Nat
  | .tone g _ => g.val / 4
  | .tracker g _ => g.val / 4
  | .raw n _ => n.val

/-- What a comparator is configured to (R136, R201). -/
structure CmpCfg where
  on : Bool
  energy : Bool
  falling : Bool
  bk : Nat
  th : Int
  hys : Int
  rot : Nat
  /-- The ADC sample positions from one stream sample to the next, and the latency (R137). -/
  step : Nat
  latency : Nat
  deriving DecidableEq, Repr

/-- The configuration from a `CMP_CFG` word. -/
def cmpCfgOf (w : Word) (on : Bool) (th hys : Word) (rot step latency : Nat) : CmpCfg :=
  { on := on && bits w 0 0 == 1, energy := bits w 1 1 == 1, falling := bits w 2 2 == 1, bk := bits w 7 3
    th := th.toInt, hys := hys.toNat, rot, step, latency }

/-- The comparator as configured in this cc. A comparator runs in the mode of its stream only. -/
def State.cmpCfg (s : State) : Comparator → CmpCfg
  | .tone g t =>
    let i := 16 * g.val + t.val
    cmpCfgOf (s.reg .TONE_CMP_CFG i) (!s.bit .RFI_CTRL g.val 0) (s.reg .TONE_CMP_TH i) (s.reg .TONE_CMP_HYS i)
      (s.fld .TONE_ACT_ROT i 15 0) 16 22
  | .tracker g k =>
    let i := 256 * g.val + k.val
    cmpCfgOf (s.reg .TRK_CMP_CFG i) (s.bit .RFI_CTRL g.val 0 && s.bit .TRK_CTRL i 0) (s.reg .TRK_CMP_TH i) (s.reg .TRK_CMP_HYS i)
      (s.fld .TRK_ROT i 15 0) 2048 1056
  | .raw n c =>
    let i := 4 * n.val + c.val
    { on := s.bit .TK_RAWCMP_CTRL i 0, energy := false, falling := s.bit .TK_RAWCMP_CTRL i 1, bk := 0
      th := signed 16 (s.fld .TK_RAWCMP_TH i 15 0), hys := s.fld .TK_RAWCMP_TH i 31 16, rot := 0, step := 1, latency := 10 }

/-- A raw level comparator compares the sample itself (R201). -/
def isRaw : Comparator → Bool
  | .raw _ _ => true
  | _ => false

/-- What a stream sample does to a comparator: its new state, q, and whether act was set or cleared. -/
structure CmpStep where
  next : CmpState
  q : Int
  entered : Bool
  cleared : Bool
  deriving DecidableEq, Repr

/-- One stream sample (R136). -/
def cmpStep (f : CmpCfg) (raw : Bool) (x : CmpState) (z : Int × Int) : CmpStep :=
  let bI := if f.bk = 0 then 0 else x.bxI / 2 ^ 16
  let bQ := if f.bk = 0 then 0 else x.bxQ / 2 ^ 16
  let dI := z.1 - bI
  let dQ := z.2 - bQ
  let q := if raw then z.1 else if f.energy then (dI * dI + dQ * dQ) / 2 ^ 8 else rotate dI dQ f.rot
  let p : Int := if f.falling then -1 else 1
  let entered := f.on && !x.act && decide (p * f.th ≤ p * q)
  let cleared := x.act && decide (p * q < p * f.th - f.hys)
  let act := entered || (x.act && !cleared)
  let follow := f.bk != 0 && !act
  let bxI := if follow then x.bxI + (z.1 * 2 ^ 16 - x.bxI) / (2 ^ f.bk : Nat) else x.bxI
  let bxQ := if follow then x.bxQ + (z.2 * 2 ^ 16 - x.bxQ) / (2 ^ f.bk : Nat) else x.bxQ
  let next : CmpState := { x with act, bxI, bxQ, qp := q, blockN := x.blockN + 1, sumI := x.sumI + z.1, sumQ := x.sumQ + z.2,
                                  qmax := some (match x.qmax with | some m => max m q | none => q), nent := x.nent + b2n entered }
  { next, q, entered, cleared }

/-- The timestamp of an entry (R206). -/
def entryStamp (f : CmpCfg) (pos : Nat) (qp q : Int) : Nat :=
  let p : Int := if f.falling then -1 else 1
  let num := max 0 (p * (f.th - qp))
  let den := p * (q - qp)
  let p1 := 256 * pos
  let dt := 256 * f.step
  if den ≤ 0 ∨ den ≤ num then p1 else p1 - dt + (num * dt / den).toNat

/-- The counter of entries of a comparator, if it has one. -/
def State.countEntry (s : State) : Comparator → State
  | .tone g t => s.count .TONE_CMP_CNT (16 * g.val + t.val)
  | .tracker g k => s.count .TRK_CMP_CNT (256 * g.val + k.val)
  | .raw _ _ => s

/-- The comparator's state. -/
def State.cmp (s : State) (c : Comparator) : CmpState := tget {} s.rd.cmp (cmpKey c)

/-- Store the comparator's state. -/
def State.setCmp (s : State) (c : Comparator) (x : CmpState) : State :=
  { s with rd := { s.rd with cmp := tset s.rd.cmp (cmpKey c) x } }

/-- A stream sample with position `pos` reaches its comparator (R136, R137, R206). -/
def State.cmpSample (s : State) (c : Comparator) (pos : Nat) (z : Int × Int) : State :=
  let f := s.cmpCfg c
  let x := s.cmp c
  let r := cmpStep f (isRaw c) x z
  let n := cmpRegion c
  let k := cmpKey c
  let s := s.setCmp c r.next
  let s := if r.entered then
      let s := (s.countEntry c).addInterval n { src := k, a := pos, c := none }
      let ts := entryStamp f pos x.qp r.q
      State.forEach (s.termsOf n k) (fun m s => s.sysStamp 1 (64 * n + m) ts (pos / 8 + f.latency + 8) false) s
    else s
  if r.cleared then s.endInterval n k pos else s

/-- The samples of a stream up to index `last` reach the comparator in order. -/
def State.cmpSamples (s : State) (c : Comparator) (last : Nat) (zs : List (Int × Int)) : State :=
  let f := s.cmpCfg c
  (zs.foldl (fun (a : Nat × State) z => (a.1 + 1, a.2.cmpSample c (a.1 * f.step) z)) (last + 1 - zs.length, s)).2

/-- The samples have reached the engine by this cc. -/
def State.streamReady (s : State) (c : Comparator) (last : Nat) : Bool :=
  let f := s.cmpCfg c
  f.on && s.epochRun && s.regionAwake (cmpRegion c) && decide (last * f.step / 8 + f.latency ≤ s.ftg)

/-- The bin K of a tracker (R134). -/
def trackerBin (ftw : Nat) : Nat := (ftw + 2 ^ 34) / 2 ^ 35 % 4096

/-- K lies outside the bins of the selected zone (R134). -/
def State.outsideZone (s : State) (g k : Nat) : Bool :=
  let b := (s.pair .TRK_FTW_LO .TRK_FTW_HI (256 * g + k) + 2 ^ 34) / 2 ^ 35
  if s.bit .RFI_CTRL g 1 then decide (b < 2048) || decide (4095 < b) else decide (2047 < b)

/-- The samples of a stream: a tracker outside the zone gives zeros (R134). -/
def State.streamOf (s : State) (c : Comparator) (zs : List (Int × Int)) : List (Int × Int) :=
  match c with
  | .tracker g k => if s.outsideZone g.val k.val then zs.map (fun _ => (0, 0)) else zs
  | _ => zs

/-- ZERR of a tracker outside the zone. -/
def State.flagZone (s : State) (c : Comparator) : State :=
  match c with
  | .tracker g k => if s.outsideZone g.val k.val then s.setBit .TRK_STATUS (256 * g.val + k.val) 13 true else s
  | _ => s

/-- COMPARATOR_ENTRY (R136, R137, R206): the last of the samples sets act. -/
def comparatorEntryOp (c : Comparator) (last : Nat) (zs : List (Int × Int)) (s : State) : State :=
  if !s.streamReady c last then s
  else
    let t := (s.flagZone c).cmpSamples c last (s.streamOf c zs)
    let before := (s.flagZone c).cmpSamples c (last - 1) (s.streamOf c zs).dropLast
    if !(before.cmp c).act && (t.cmp c).act then t else s

def execComparatorEntry (dt : Nat) (c : Comparator) (last : Nat) (zs : List (Int × Int)) (s : State) : Result :=
  .next (comparatorEntryOp c last zs (s.pass dt))

/-- COMPARATOR_ACT_CLEAR (R136, R137): the last of the samples clears act. -/
def comparatorClearOp (c : Comparator) (last : Nat) (zs : List (Int × Int)) (s : State) : State :=
  if !s.streamReady c last then s
  else
    let t := (s.flagZone c).cmpSamples c last (s.streamOf c zs)
    let before := (s.flagZone c).cmpSamples c (last - 1) (s.streamOf c zs).dropLast
    if (before.cmp c).act && !(t.cmp c).act then t else s

def execComparatorActClear (dt : Nat) (c : Comparator) (last : Nat) (zs : List (Int × Int)) (s : State) : Result :=
  .next (comparatorClearOp c last zs (s.pass dt))

/-- TRACKER_RECORD (R121, R138, R139): the block of tracker `k` ends with sample `last`. -/
def trackerRecordOp (g k : Nat) (c : Comparator) (last : Nat) (zs : List (Int × Int)) (ovr : Overrange) (s : State) : State :=
  let i := 256 * g + k
  if !s.epochRun || !s.regionAwake (g / 4) || !s.bit .RFI_CTRL g 0 || !s.bit .TRK_CTRL i 0 || decide (s.ftg < 256 * last + 1047) then s
  else
    let kb := max 4 (s.fld .TRK_CTRL i 5 2)
    let t := (s.flagZone c).cmpSamples c last (s.streamOf c zs)
    let x := t.cmp c
    if x.blockN ≠ 2 ^ kb then s
    else
      let t := t.countOverrange g ovr
      let mi := x.sumI / (2 ^ kb : Nat)
      let mq := x.sumQ / (2 ^ kb : Nat)
      let t := (t.setReg .TRK_MEAN_I i (BitVec.ofInt 32 mi)).setReg .TRK_MEAN_Q i (BitVec.ofInt 32 mq)
      let t := t.setCmp c { x with blockN := 0, sumI := 0, sumQ := 0, qmax := none, nent := 0 }
      if t.bit .TRK_CTRL i 1 then
        t.addRecord (g / 4) (leBytes 8 (256 * (last + 1 - 2 ^ kb)) ++ leBytes 4 (wrapTo 32 mi) ++ leBytes 4 (wrapTo 32 mq) ++
          leBytes 4 (wrapTo 32 (x.qmax.getD 0)) ++ leBytes 4 x.nent ++ leBytes 2 i ++ leBytes 1 0 ++ leBytes 1 (b2n ovr.inSpan)) 2
      else t

def execTrackerRecord (dt : Nat) (g : Cluster) (k : Fin 256) (last : Nat) (zs : List (Int × Int)) (ovr : Overrange) (s : State) : Result :=
  .next (trackerRecordOp g.val k.val (.tracker g k) last zs ovr (s.pass dt))

/-- A comparator is enabled or disabled: it starts from nothing, its counter is cleared at enable, an open interval ends. -/
def State.restartCmp (s : State) (c : Comparator) (enabled : Bool) : State :=
  let s := if (s.cmp c).act then s.endInterval (cmpRegion c) (cmpKey c) (8 * s.ftg) else s
  let x := s.cmp c
  let s := s.setCmp c { blockN := x.blockN, sumI := x.sumI, sumQ := x.sumQ, qmax := x.qmax, nent := x.nent }
  if !enabled then s
  else match c with
    | .tone g t => s.setReg .TONE_CMP_CNT (16 * g.val + t.val) 0
    | .tracker g k => s.setReg .TRK_CMP_CNT (256 * g.val + k.val) 0
    | .raw _ _ => s

/-- The comparators of cluster `g`. -/
def comparatorsOf (g : Cluster) : List Comparator :=
  (List.finRange 16).map (Comparator.tone g) ++ (List.finRange 256).map (Comparator.tracker g)

/-- RFI_MODE_WRITE: a write of `RFI_CTRL` (R127, R140, R359). A change of MODE ends the windows and restarts the comparators. -/
def rfiCtrlOp (g : Cluster) (v : Word) (s : State) : State :=
  if bits v 0 0 = 1 ∧ s.feat 1 = false then s.rfiResult g.val Code.range
  else if !s.clusterHalted g.val then
    s.rfiResult g.val (if bits v 1 0 = s.fld .RFI_CTRL g.val 1 0 then Code.ok else Code.locked)
  else
    let change := bits v 0 0 != s.fld .RFI_CTRL g.val 0 0
    let s := (s.setReg .RFI_CTRL g.val (v &&& 3)).rfiResult g.val Code.ok
    if change then
      let s := s.endWindows g.val
      State.forEach ((comparatorsOf g).filter (fun c => (tfind s.rd.cmp (cmpKey c)).isSome)) (fun c s => s.restartCmp c false) s
    else s

def execRfiModeWrite (who : Requester) (g : Cluster) (v : Word) (s : State) : Result :=
  .next (s.regAccess who .RFI_CTRL g.val (rfiCtrlOp g v))

end Sys2Proof.Machine
end

