-- ==== Sys2Proof/Machine/Calibration.lean ====
section
/-!
DEFINITION. Calibration (R227-R244): units, foreground runs, interleave statistics and updates, the output monitor, the
discriminator fits, states and residuals, and freezing.
-/

namespace Sys2Proof.Machine

/-! ### Real arithmetic: fixed point with 64 fraction bits, and IEEE 754 singles -/

/-- The integer square root, built from bit `b - 1` down. -/
def isqrtFrom : Nat → Nat → Nat → Nat
  | 0, _, r => r
  | b + 1, n, r => isqrtFrom b n (if (r + 2 ^ b) * (r + 2 ^ b) ≤ n then r + 2 ^ b else r)

/-- ⌊√n⌋. -/
def isqrt (n : Nat) : Nat := isqrtFrom (n.log2 / 2 + 1) n 0

/-- `a / d` rounded to the nearest integer, a half to the even one. -/
def roundEven (a d : Nat) : Nat :=
  let q := a / d
  let r := 2 * (a % d)
  if r < d then q else if d < r then q + 1 else q + q % 2

/-- `x / d` rounded to the nearest integer, a half away from zero. -/
def roundAway (x : Int) (d : Nat) : Int := if x < 0 then -((2 * x.natAbs + d) / (2 * d) : Nat) else ((2 * x.natAbs + d) / (2 * d) : Nat)

/-- `a · 2^k / d` rounded. -/
def scaledRound (a d : Nat) (k : Int) : Nat := if 0 ≤ k then roundEven (a * 2 ^ k.natAbs) d else roundEven a (d * 2 ^ k.natAbs)

/-- The IEEE 754 single nearest to x / d. -/
def toReal32 (x : Int) (d : Nat) : Nat :=
  let a := x.natAbs
  let sign := if x < 0 then 2 ^ 31 else 0
  if a = 0 ∨ d = 0 then 0
  else
    let e0 : Int := (a.log2 : Int) - d.log2
    let below : Bool := if 0 ≤ e0 then decide (a < d * 2 ^ e0.natAbs) else decide (a * 2 ^ e0.natAbs < d)
    let e : Int := if below then e0 - 1 else e0
    if e < -126 then sign + scaledRound a d 149
    else
      let m := scaledRound a d (23 - e)
      let v : Nat := ((e + 127).toNat) * 2 ^ 23 + (m - 2 ^ 23)
      sign + min v 0x7F80_0000

/-- One, with 64 fraction bits. -/
def fixOne : Nat := 2 ^ 64

/-- √(x), 64 fraction bits. -/
def fixSqrt (x : Int) : Int := isqrt (x.toNat * fixOne)

/-- The mean of four. -/
def mean4 (xs : List Int) : Int := xs.foldl (· + ·) 0 / 4

/-- The root of the mean square of four numbers with 64 fraction bits. -/
def rms4 (xs : List Int) : Int := isqrt ((xs.foldl (fun a x => a + x * x) 0 / 4).toNat)

/-- π with 256 fraction bits. -/
def piBig : Nat := 363771576891766324280234942777729862653393377328392429958772151117938894466185

/-- The terms of x − x³/6 + x⁵/40 − …, the integral of exp(−x²/2), with 256 fraction bits. -/
def gaussTerms : Nat → Nat → Int → Int → Int
  | 0, _, _, _ => 0
  | f + 1, n, t, x2 => t + gaussTerms f (n + 1) (-(t * x2 / 2 ^ 256 * (2 * n + 1 : Nat) / (2 * (n + 1) * (2 * n + 3) : Nat))) x2

/-- Q(x), the upper tail of the normal distribution, for x ≥ 0 with 64 fraction bits, as a single (R235). -/
def gaussTail (x : Nat) : Nat :=
  if 14 * fixOne ≤ x then 0
  else
    let y : Int := x * 2 ^ 192
    let s := gaussTerms 500 0 y (y * y / 2 ^ 256)
    toReal32 (2 ^ 255 - s * 2 ^ 256 / isqrt (2 * piBig * 2 ^ 256)) (2 ^ 256)

/-- How many of the angles (2k + 1)π / 2^16, k < n, the direction (x, y) of the first quadrant has reached, by bisection. -/
def angleCount : Nat → Nat → Int → Int → Nat
  | 0, lo, _, _ => lo
  | b + 1, lo, x, y =>
    let k := lo + 2 ^ b - 1
    let th : Int := (2 * k + 1) * piFix / 2 ^ 16
    angleCount b (if decide (x * sinFix th ≤ y * cosFix th) then lo + 2 ^ b else lo) x y

/-- round(atan2(y, x) · 65536 / 2π) mod 65536 (R235), for (x, y) ≠ (0, 0). -/
def rotOf (x y : Int) : Nat :=
  let r : Nat × Int × Int :=
    if 0 < x ∧ 0 ≤ y then (0, x, y) else if x ≤ 0 ∧ 0 < y then (1, y, -x)
    else if x < 0 ∧ y ≤ 0 then (2, -x, -y) else (3, -y, x)
  let last := if decide (r.2.1 * sinFix ((2 ^ 15 - 1) * piFix / 2 ^ 16) ≤ r.2.2 * cosFix ((2 ^ 15 - 1) * piFix / 2 ^ 16)) then 2 ^ 14
    else angleCount 14 0 r.2.1 r.2.2
  (r.1 * 2 ^ 14 + last) % 65536

/-! ### Units (R227) -/

/-- The unit exists (R227, R3). -/
def State.hasUnit (s : State) (u : Nat) : Bool :=
  match calClass u, calCluster u with
  | _, some g => s.hasCluster g
  | some (.tile, t), _ => decide (t < s.variant.tiles)
  | some _, _ => true
  | none, _ => false

/-- The trims of a unit, in the order of the tables of R242, R243, R260 and R261: register, instance, highest and lowest bit. -/
def unitTrims (u : Nat) : List (Reg × Nat × Nat × Nat) :=
  match calClass u with
  | some (.interleave, g) =>
    (List.range 4).map (fun k => (.ADC_OFS_TRIM, 4 * g + k, 9, 0)) ++ (List.range 4).map (fun k => (.ADC_GAIN_TRIM, 4 * g + k, 9, 0)) ++
      (List.range 4).map (fun k => (.ADC_SKEW_TAP, 4 * g + k, 7, 0))
  | some (.rfDac, o) =>
    [(.RFO_OFS_TRIM, o, 11, 0), (.RFO_FS_TRIM, o, 11, 0)] ++ (List.range 31).map (fun j => (.RFO_SEG_TRIM, 31 * o + j, 7, 0))
  | some (.bbDac, b) => [(.BBO_OFS_TRIM, b, 11, 0), (.BBO_FS_TRIM, b, 11, 0)]
  | some (.discriminator, t) => [(.TONE_ROT, t, 15, 0), (.TONE_TH0, t, 31, 0), (.TONE_TH1, t, 31, 0), (.TONE_TH2, t, 31, 0)]
  | some (.tile, t) => [(.CLAP_TILE_TAP, t, 8, 0)]
  | some (.tio, l) => [(.TIO_TAP, l, 7, 0)]
  | some (.bias, k) => [(.BIAS_TRIM, k, 11, 0), (.BIAS_TRIM, k, 27, 16)]
  | some (.converter, c) => [(.IC_OFS_CORR, c, 19, 0), (.IC_GAIN_CORR, c, 19, 0)]
  | none => []

/-- The default limits A, B and C of a class as singles (R237). -/
def defaultLimits : CalClass → Nat × Nat × Nat
  | .interleave => (0x42480000, 0x43480000, 0x3F000000)
  | .rfDac | .bbDac => (0x447A0000, 0x3F800000, 0)
  | .discriminator => (0x3C23D70A, 0x3E800000, 0x3F000000)
  | .tile | .tio => (0x40000000, 0, 0)
  | .bias => (0x41A00000, 0x41A00000, 0)
  | .converter => (0x40A00000, 0x41200000, 0)

/-- `CAL_LIMIT_A`, `_B` and `_C` of a unit (R244). -/
def State.calLimits (s : State) (u : Nat) : Nat × Nat × Nat :=
  match calClass u with
  | some (c, _) =>
    let d := defaultLimits c
    (s.servedAt (0x2650 + u / 256) (u % 256) d.1, s.servedAt (0x2660 + u / 256) (u % 256) d.2.1, s.servedAt (0x2670 + u / 256) (u % 256) d.2.2)
  | none => (0, 0, 0)

/-- `CAL_OPT` of a unit. -/
def State.calOpt (s : State) (u : Nat) : Nat := s.servedAt (0x2690 + u / 256) (u % 256) 0x322

/-- MU of a unit. -/
def State.calMu (s : State) (u : Nat) : Nat := s.calOpt u % 16

/-- The unit is in a foreground run. -/
def State.inRun (s : State) (u : Nat) : Bool :=
  match s.cal.run with
  | some r => r.u == u
  | none => false

/-- Background updates of the unit are on, freezing apart (R230). They need Gaffer core 0 or 1. -/
def State.background (s : State) (u : Nat) : Bool :=
  s.active && (s.coreRuns 0 || s.coreRuns 1) && s.servedAt 0x2600 1 1 == 1 && bitOf (s.calOpt u) 9 && !s.inRun u

/-! ### States and residuals (R237, R238) -/

/-- A residual meets its limit; a limit of 0.0 is never checked. -/
def limitMet (resid limit : Nat) : Bool :=
  if limit % 2 ^ 31 = 0 then true else decide (limit < 2 ^ 31) && decide (limit ≤ 0x7F80_0000) && decide (resid ≤ limit)

/-- The unit's source, if it belongs to a region. -/
def State.raiseCal (s : State) (u : Nat) : State :=
  match calCluster u with
  | some g => s.raise (regionSource (g / 4) 13)
  | none => s

/-- The state a unit goes to once an update left it with counts `met` and `missed` (R238). -/
def judged (state met missed n : Nat) : Nat :=
  match state with
  | 3 => if n ≤ missed then 4 else 3
  | 4 => if n ≤ met then 3 else 4
  | _ => if n ≤ met then 3 else 2

/-- An update or run publishes its residuals, and the unit is judged (R237, R238). -/
def State.calPublish (s : State) (u status a b c : Nat) : State :=
  let x := s.calUnit u
  let l := s.calLimits u
  let ok := limitMet a l.1 && limitMet b l.2.1 && limitMet c l.2.2
  let met := if ok then x.met + 1 else 0
  let missed := if ok then 0 else x.missed + 1
  let st := judged x.state met missed (max 1 (s.servedAt 0x2600 4 8))
  let s' := s.setCalUnit u { x with state := st, last := status, updates := x.updates + 1, residA := a, residB := b, residC := c, met, missed }
  if st ≠ x.state ∧ (st = 3 ∨ st = 4) ∧ s.frozen u = false ∧ s.inRun u = false then s'.raiseCal u else s'

/-- The last block or fit carried too little signal (R238). -/
def State.calNoSignal (s : State) (u : Nat) : State := s.setCalUnit u { s.calUnit u with state := 7 }

/-- The first block or fit of a unit is being gathered: ACQUIRING (R238). -/
def State.gathering (s : State) (u : Nat) : Bool :=
  s.background u && (match calClass u with
    | some (.interleave, g) => s.epochRun && s.bit .ADC_STAT_CTRL g 0
    | some (.rfDac, o) => s.fld .MON_CTRL (o / 2) 2 0 == o % 2
    | some (.bbDac, b) => s.fld .MON_CTRL (b / 4) 2 0 == 2 + b % 4
    | some (.discriminator, t) => s.bit .CAL_HIST_EN (t / 16) (t % 16)
    | _ => false)

/-- `CAL_STATE.STATE` (R238). -/
def State.calState (s : State) (u : Nat) : Nat :=
  if s.inRun u then 6
  else if s.frozen u then 5
  else if (s.calUnit u).state = 0 ∧ s.gathering u = true then 1
  else (s.calUnit u).state

/-- `CAL_STATE` (R244). -/
def State.calStateWord (s : State) (u : Nat) : Nat :=
  s.calState u + (s.calUnit u).last % 256 * 2 ^ 8 + (s.calUnit u).updates % 65536 * 2 ^ 16

/-- `CAL_RUN_STATUS` (R244). -/
def State.calRunStatus (s : State) : Nat :=
  match s.cal.run with
  | some r => r.u + 2 ^ 15
  | none => s.cal.lastU + s.cal.lastStatus * 2 ^ 16

/-! ### Trims -/

/-- The Gaffer writes a trim: a value outside the field's range goes to the end of it, and RANGE is recorded (R230). -/
def State.moveTrim (s : State) (u : Nat) (t : Reg × Nat × Nat × Nat) (isSigned : Bool) (d : Int) : Bool × State :=
  let n := t.2.2.1 + 1 - t.2.2.2
  let old : Int := if isSigned then signed n (s.fld t.1 t.2.1 t.2.2.1 t.2.2.2) else (s.fld t.1 t.2.1 t.2.2.1 t.2.2.2 : Nat)
  let v := old + d
  let lo : Int := if isSigned then -(2 ^ (n - 1) : Nat) else 0
  let hi : Int := if isSigned then (2 ^ (n - 1) : Nat) - 1 else (2 ^ n : Nat) - 1
  let w := max lo (min hi v)
  (w != v, (s.setFld t.1 t.2.1 t.2.2.1 t.2.2.2 (wrapTo n w)).trimWritten u)

/-- The Gaffer writes a set of trims, none while the unit is frozen (R239): whether one was limited, and the state. -/
def State.moveTrims (s : State) (u : Nat) (ms : List ((Reg × Nat × Nat × Nat) × Bool × Int)) : Bool × State :=
  if s.frozen u then (false, s)
  else ms.foldl (fun a m => let r := a.2.moveTrim u m.1 m.2.1 m.2.2; (a.1 || r.1, r.2)) (false, s)

/-- The status of an update. -/
def trimStatus (limited : Bool) : Nat := if limited then Code.range else Code.ok

/-- A discriminator is written into the shadow set and committed; a write that R90 discards waits for the next hand-over
(R235). -/
def State.applyFit (s : State) (t rot : Nat) (th : List Int) : State :=
  let g := t / 16
  let k := 20 + t % 16
  if s.frozen (0x200 + t) then s
  else if s.setOpen g k then
    let s := s.setReg .TONE_ROT t (BitVec.ofNat 32 rot)
    let s := (s.setReg .TONE_TH0 t (BitVec.ofInt 32 (th.getD 0 0))).setReg .TONE_TH1 t (BitVec.ofInt 32 (th.getD 1 0))
    ((s.setReg .TONE_TH2 t (BitVec.ofInt 32 (th.getD 2 0))).commitSet false g k).trimWritten (0x200 + t)
  else
    let s := s.setBit .TONE_STATUS t 1 true
    { s with cal := { s.cal with disc := tset s.cal.disc t { (tget {} s.cal.disc t : DiscUnit) with retry := some (rot, th) } } }

/-! ### Foreground runs (R231) -/

/-- The KIND is valid for the class. -/
def kindFits (kind : Nat) : Option (CalClass × Nat) → Bool
  | some (c, _) => kind == 0 || (kind == 1 && c == .interleave) || (kind == 2 && c == .rfDac) || (kind == 3 && c == .discriminator)
  | none => false

/-- The answer to a write of `CAL_RUN`. -/
def State.calRunCode (s : State) (u kind : Nat) : Nat :=
  let clusterBusy := match calCluster u with
    | some g => !s.clusterHalted g
    | none => false
  let asleep := match calCluster u with
    | some g => decide (3 ≤ (s.regionPower (g / 4)).state)
    | none => false
  let locked := match calClass u with
    | some (.bias, k) => s.fld .BIAS_STATUS k 5 4 != 0
    | some (.tio, l) => !s.bit .TIO_CFG l 0
    | _ => false
  (lowestCode [(s.cal.run.isSome || asleep, Code.busy), (clusterBusy || locked, Code.locked),
    (!kindFits kind (calClass u) || !s.hasUnit u, Code.range)]).getD Code.ok

/-- A write of `CAL_RUN` (R231): the answer, and the run started. -/
def State.calRun (s : State) (v : Word) : Nat × State :=
  let u := bits v 11 0
  let kind := bits v 15 12
  let code := s.calRunCode u kind
  if code ≠ Code.ok then (code, s)
  else
    let s := { s with cal := { s.cal with run := some { u, kind } } }
    let s := match calCluster u with
      | some g =>
        let s := s.wakeShallow (g / 4)
        if kind = 1 then s.setBit .CAL_CL_CTRL g 0 true else s
      | none => s
    (code, s)

/-! ### Served objects (R374) -/

/-- A served object takes a value. -/
def State.setServed (s : State) (index sub v : Nat) : State := { s with served := tset s.served (256 * index + sub) v }

/-- A served 32-bit counter counts, saturating or wrapping. -/
def State.countServed (s : State) (index sub : Nat) (saturates : Bool) : State :=
  let n := s.servedAt index sub 0 + 1
  s.setServed index sub (if saturates then min 0xFFFF_FFFF n else n % 2 ^ 32)

/-- A write of a served object completes (R374). -/
def State.servedWrite (s : State) : State := (s.raise 5).countServed 0x1F81 1 false

/-- A write of `CAL_RUN` is served: its answer, and the state. -/
def State.calRunServed (s : State) (v : Word) : Nat × State :=
  let r := s.calRun v
  (r.1, if r.1 = Code.ok then r.2.servedWrite else r.2)

/-- CAL_RUN: the object write and its answer; the Gaffer serves it. -/
def calRunOp (v : Word) (s : State) : State :=
  if s.active && s.coreRuns 0 then
    let r := s.calRunServed v
    r.2.emit (.objectAnswer r.1)
  else s

def execCalRun (v : Word) (s : State) : Result := .next (calRunOp v s)

/-- The run on unit `u` ends with `status`. -/
def State.endRun (s : State) (r : CalRun) (status : Nat) : State :=
  let s := { s with cal := { s.cal with run := none, lastU := r.u, lastStatus := status } }
  let s := s.setCalUnit r.u { s.calUnit r.u with last := status }
  let s := match r.kind, calCluster r.u with
    | 1, some g => s.setBit .CAL_CL_CTRL g 0 false
    | _, _ => s
  s.raiseCal r.u

/-- A result of a run is written to a trim (R231). -/
def State.putTrim (s : State) (u : Nat) (p : Nat × Nat) : State :=
  match (unitTrims u)[p.1]? with
  | some (.CLAP_TILE_TAP, t, _, _) => (clapTapOp (.tile (Fin.ofNat 8 t)) (BitVec.ofNat 32 p.2) s).trimWritten u
  | some (r, i, hi, lo) => (s.setFld r i hi lo p.2).trimWritten u
  | none => s

/-- CAL_RUN_END: what the run measured, applied unless the unit is frozen (R231, R239). A KIND 1 run has made 64 updates, a KIND 3
run its fit. -/
def calRunEndOp (status : Nat) (writes : List (Nat × Nat)) (a b c : Nat) (s : State) : State :=
  match s.cal.run with
  | none => s
  | some r =>
    if (r.kind = 1 ∧ r.steps < 64) ∨ (r.kind = 3 ∧ r.steps = 0) ∨ s.coreRuns 0 = false then s
    else
      let own := r.kind == 1 || r.kind == 3
      let s := if own || s.frozen r.u then s
        else match calClass r.u with
          | some (.discriminator, t) =>
            let th (i : Nat) : Int := signed 32 ((tfind writes i).getD (s.regNat (match i with | 1 => .TONE_TH0 | 2 => .TONE_TH1 | _ => .TONE_TH2) t))
            s.applyFit t ((tfind writes 0).getD (s.fld .TONE_ROT t 15 0)) [th 1, th 2, th 3]
          | _ => State.forEach writes (fun p s => s.putTrim r.u p) s
      let s := s.endRun r status
      if own then s else s.calPublish r.u status a b c

def execCalRunEnd (dt : Nat) (status : BitVec 8) (writes : List (Nat × Nat)) (a b c : Word) (s : State) : Result :=
  .next (calRunEndOp status.toNat writes a.toNat b.toNat c.toNat (s.pass dt))

/-- An update or a fit was made in the run in progress. -/
def State.stepRun (s : State) : State :=
  match s.cal.run with
  | some r => { s with cal := { s.cal with run := some { r with steps := r.steps + 1 } } }
  | none => s

/-! ### Interleave (R232, R233) -/

/-- The sums over a block of 2^SB cc, `xs` its raw samples and the two that follow it, starting with sub-converter 0. -/
structure StatSums where
  s1 : Int × Int × Int × Int := (0, 0, 0, 0)
  s2 : Int × Int × Int × Int := (0, 0, 0, 0)
  c1 : Int × Int × Int × Int := (0, 0, 0, 0)
  c2 : Int := 0
  ovr : Bool := false
  deriving DecidableEq, Repr

/-- Add to component `k` of a quadruple. -/
def addAt (q : Int × Int × Int × Int) (k : Nat) (x : Int) : Int × Int × Int × Int :=
  match k with
  | 0 => (q.1 + x, q.2)
  | 1 => (q.1, q.2.1 + x, q.2.2)
  | 2 => (q.1, q.2.1, q.2.2.1 + x, q.2.2.2)
  | _ => (q.1, q.2.1, q.2.2.1, q.2.2.2 + x)

/-- The components of a quadruple. -/
def quad (q : Int × Int × Int × Int) : List Int := [q.1, q.2.1, q.2.2.1, q.2.2.2]

/-- A raw sample at the overrange code (R121). -/
def overranges (x : Int) : Bool := x == -8192 || x == 8191

/-- The sums of R232 over `n` samples of which the first belongs to sub-converter `k`. -/
def statSums : Nat → Nat → List Int → StatSums → StatSums
  | n + 1, k, x :: xs, a =>
    let x1 := xs.getD 0 0
    let x2 := xs.getD 1 0
    statSums n ((k + 1) % 4) xs
      { s1 := addAt a.s1 k x, s2 := addAt a.s2 k (x * x), c1 := addAt a.c1 k (x * x1), c2 := a.c2 + x * x2, ovr := a.ovr || overranges x }
  | _, _, _, a => a

/-- Store four 64-bit sums. -/
def State.setQuad (s : State) (lo hi : Reg) (g : Nat) (q : Int × Int × Int × Int) : State :=
  State.forEach (quad q).zipIdx (fun p s => s.setPair lo hi (4 * g + p.2) (wrapTo 64 p.1)) s

/-- A block of the receiver's statistics, of exponent SB, ends in this cc (R232). -/
def State.statBlockEnds (s : State) (g : Nat) : Bool :=
  let b := 2 ^ s.fld .ADC_STAT_CTRL g 12 8
  s.bit .ADC_STAT_CTRL g 0 && s.epochRun && s.regionAwake (g / 4) && decide (b ≤ s.ftg) && s.ftg % b == 0 &&
    decide ((tget 0 s.cal.statFrom g) + b ≤ s.now)

/-- A trim of the unit was written in the block that ends. -/
def State.statDirty (s : State) (g : Nat) : Bool :=
  let x := s.calUnit g
  let b := 2 ^ s.fld .ADC_STAT_CTRL g 12 8
  [x.trimAt, x.trimBefore].any (fun t => match t with
    | some c => decide (s.now ≤ c + b) && decide (c < s.now)
    | none => false)

/-- ADC_STAT_BLOCK_END (R232). -/
def statBlockEndOp (g : Nat) (xs : List Int) (s : State) : State :=
  if !s.statBlockEnds g then s
  else
    let a := statSums (2 ^ (s.fld .ADC_STAT_CTRL g 12 8 + 3)) 0 xs {}
    let dirty := s.statDirty g
    let s := if s.bit .ADC_STAT_STATUS g 0 then s.setBit .ADC_STAT_STATUS g 1 true else s
    let s := ((s.setQuad .ADC_S1_LO .ADC_S1_HI g a.s1).setQuad .ADC_S2_LO .ADC_S2_HI g a.s2).setQuad .ADC_C1_LO .ADC_C1_HI g a.c1
    let s := s.setPair .ADC_C2_LO .ADC_C2_HI g (wrapTo 64 a.c2)
    let s := ((s.setBit .ADC_STAT_STATUS g 0 true).setBit .ADC_STAT_STATUS g 2 a.ovr).setBit .ADC_STAT_STATUS g 3 dirty
    s.setFld .ADC_STAT_STATUS g 15 8 (s.fld .ADC_STAT_STATUS g 15 8 + 1)

def execAdcStatBlockEnd (dt g : Nat) (xs : List Int) (s : State) : Result := .next (statBlockEndOp g xs (s.pass dt))

/-- What R233 estimates from a block, with 64 fraction bits: offsets m[k] − mb, √(vb/v[k]), e[k] in ps; `none` where it divides by
zero. -/
structure InterleaveEstimate where
  vb : Int
  dm : List Int
  gain : List (Option Int)
  e : Option (List Int)
  deriving DecidableEq, Repr

/-- The estimates of R233 from the sums of a block of M samples of each sub-converter. -/
def interleaveEstimate (m : Nat) (s1 s2 c1 : List Int) (c2 : Int) : InterleaveEstimate :=
  let f : Int := fixOne
  let mk := s1.map (fun x => x * f / m)
  let at_ (l : List Int) (k : Nat) : Int := l.getD (k % 4) 0
  let vk := (List.range 4).map (fun k => at_ s2 k * f / m - at_ mk k * at_ mk k / f)
  let mb := mean4 mk
  let vb := mean4 vk
  let rk := (List.range 4).map (fun k =>
    (at_ c1 k * f / m - at_ mk k * at_ mk (k + 1) / f) * f / (isqrt (at_ vk k * at_ vk (k + 1)).toNat : Int))
  let rb := mean4 rk
  let r2 := (c2 * f / (4 * m) - mb * mb / f) * f / vb
  let d := (r2 - f) / 250
  let step (j : Nat) : Int := (at_ rk j - rb) * f / d
  let e0 : List Int := [0, step 0, step 0 + step 1, step 0 + step 1 + step 2]
  let e := e0.map (· - mean4 e0)
  let flat := vk.any (fun v => decide (v ≤ 0))
  { vb, dm := mk.map (· - mb), gain := vk.map (fun v => if v ≤ 0 then none else some (fixSqrt (vb * f / v)))
    e := if flat || d == 0 then none else some e }

/-- `n` free values of `w` bits. -/
def State.freeList (s : State) : Nat → Nat → List Nat × State
  | 0, _ => ([], s)
  | n + 1, w =>
    let r := s.free w
    let l := r.2.freeList n w
    (r.1 :: l.1, l.2)

/-- The estimates of the latched block of receiver `g`. -/
def State.latchedEstimate (s : State) (g : Nat) : InterleaveEstimate :=
  let q (lo hi : Reg) : List Int := (List.range 4).map (fun k => signed 64 (s.pair lo hi (4 * g + k)))
  interleaveEstimate (2 ^ (s.fld .ADC_STAT_CTRL g 12 8 + 1)) (q .ADC_S1_LO .ADC_S1_HI) (q .ADC_S2_LO .ADC_S2_HI)
    (q .ADC_C1_LO .ADC_C1_HI) (signed 64 (s.pair .ADC_C2_LO .ADC_C2_HI g))

/-- The residuals R_A, R_B and R_C as singles; one that the estimates do not give is a free value. -/
def State.interleaveResiduals (s : State) (x : InterleaveEstimate) : (Nat × Nat × Nat) × State :=
  let ra := match x.e with
    | some e => (toReal32 (rms4 e * 1000) fixOne, s)
    | none => s.free 32
  let inv (o : Option Int) : Option Int := o.map (fun h => if h = 0 then 0 else (fixOne : Int) * fixOne / h - fixOne)
  let rb := if x.gain.all Option.isSome then (toReal32 (rms4 (x.gain.map (fun o => (inv o).getD 0)) * 1000000) fixOne, ra.2) else ra.2.free 32
  ((ra.1, rb.1, toReal32 (rms4 x.dm) fixOne), rb.2)

/-- The updates of the trims that the estimates make, with gain 2^−MU (R233). -/
def interleaveMoves (g mu : Nat) (x : InterleaveEstimate) (freeTap freeGain : List Nat) : List ((Reg × Nat × Nat × Nat) × Bool × Int) :=
  let den := fixOne * 2 ^ mu
  (List.range 4).map (fun k => ((.ADC_OFS_TRIM, 4 * g + k, 9, 0), true, -(roundAway (x.dm.getD k 0 * 8) den))) ++
  (List.range 4).map (fun k => ((.ADC_GAIN_TRIM, 4 * g + k, 9, 0), true, match x.gain.getD k none with
    | some h => roundAway ((h - fixOne) * 2 ^ 14) den
    | none => signed 10 (freeGain.getD k 0))) ++
  (List.range 4).map (fun k => ((.ADC_SKEW_TAP, 4 * g + k, 7, 0), false, match x.e with
    | some e => -(roundAway (e.getD k 0 * 40) den)
    | none => signed 9 (freeTap.getD k 0)))

/-- The Gaffer may update the unit from its statistics: in background, or in a run of KIND 1 on it (R230, R231). -/
def State.mayUpdate (s : State) (u : Nat) : Bool :=
  s.background u || ((s.coreRuns 0 || s.coreRuns 1) && (match s.cal.run with | some r => r.u == u && r.kind == 1 | none => false))

/-- INTERLEAVE_UPDATE (R230, R233, R237-R239): from a block that is READY and neither DIRTY nor OVR. -/
def interleaveUpdateOp (g : Nat) (s : State) : State :=
  if !s.mayUpdate g || !s.bit .ADC_STAT_STATUS g 0 || s.bit .ADC_STAT_STATUS g 2 || s.bit .ADC_STAT_STATUS g 3 then s
  else
    let x := s.latchedEstimate g
    let s := s.setBit .ADC_STAT_STATUS g 0 false
    let s := if s.inRun g then s.stepRun else s
    if x.vb < 16 * fixOne then s.calNoSignal g
    else
      let ft := if x.e.isSome then ([], s) else s.freeList 4 9
      let fg := if x.gain.all Option.isSome then ([], ft.2) else ft.2.freeList 4 10
      let r := fg.2.interleaveResiduals x
      let t := r.2.moveTrims g (interleaveMoves g (s.calMu g) x ft.1 fg.1)
      t.2.calPublish g (trimStatus t.1) r.1.1 r.1.2.1 r.1.2.2

def execInterleaveUpdate (dt g : Nat) (s : State) : Result := .next (interleaveUpdateOp g (s.pass dt))

/-! ### The output monitor (R234) -/

/-- The DAC unit that selection `sel` of cluster `g` monitors. -/
def monUnit (g sel : Nat) : Nat := if sel < 2 then 0x40 + 2 * g + sel else 0xC0 + 4 * g + (sel - 2)

/-- The selected output is muted (R86, R40). -/
def State.monMuted (s : State) (g sel : Nat) : Bool :=
  (if sel < 2 then s.bit .RFO_CTRL (2 * g + sel) 0 else s.bit .BBO_CTRL (4 * g + (sel - 2)) 0) || bitOf s.clap.pllMuted.toNat (g / 4)

/-- The Gaffer connects the monitor to the next output in background after `sel` (R234). -/
def State.monVisit (s : State) (g sel : Nat) : State :=
  match ((List.range 6).map (fun k => (sel + 1 + k) % 6)).find? (fun x => s.background (monUnit g x)) with
  | some x =>
    let s := s.setFld .MON_CTRL g 2 0 x
    { s with cal := { s.cal with monFrom := tset s.cal.monFrom g s.now } }
  | none => s

/-- MONITOR_BLOCK_END (R234, R230, R237-R239). With the monitor off, the Gaffer's visits begin. -/
def monitorBlockEndOp (g : Nat) (m : MonitorBlock) (s : State) : State :=
  let sel := s.fld .MON_CTRL g 2 0
  if !s.regionAwake (g / 4) then s
  else if 6 ≤ sel then s.monVisit g 5
  else if s.now < tget 0 s.cal.monFrom g + 2 ^ s.fld .MON_CTRL g 12 8 then s
  else
    let u := monUnit g sel
    let s := { s with cal := { s.cal with monFrom := tset s.cal.monFrom g s.now } }
    let s := if s.bit .MON_STATUS g 0 then s.setBit .MON_STATUS g 1 true else s
    let s := (s.setPair .MON_VDC_LO .MON_VDC_HI g (wrapTo 64 m.vdc)).setPair .MON_VMS_LO .MON_VMS_HI g (wrapTo 64 m.vms)
    let s := (s.setPair .MON_CDC_LO .MON_CDC_HI g (wrapTo 64 m.cdc)).setPair .MON_CMS_LO .MON_CMS_HI g (wrapTo 64 m.cms)
    let s := s.setBit .MON_STATUS g 0 true
    let s := if s.background u && !s.monMuted g sel then
        let s := s.setBit .MON_STATUS g 0 false
        let mu := s.calMu u
        let ofs := if sel < 2 then (Reg.RFO_OFS_TRIM, 2 * g + sel, 11, 0) else (.BBO_OFS_TRIM, 4 * g + (sel - 2), 11, 0)
        let fs := if sel < 2 then (Reg.RFO_FS_TRIM, 2 * g + sel, 11, 0) else (.BBO_FS_TRIM, 4 * g + (sel - 2), 11, 0)
        let t := s.moveTrims u [(ofs, true, -(roundAway (m.offset * 16) (2 ^ (16 + mu)))), (fs, true, -(roundAway (m.gain * 2 ^ 16) (2 ^ (32 + mu))))]
        t.2.calPublish u (trimStatus t.1) (toReal32 (m.gain.natAbs * 1000000) (2 ^ 32)) (toReal32 m.offset.natAbs (2 ^ 16)) (t.2.calUnit u).residC
      else s
    s.monVisit g sel

def execMonitorBlockEnd (dt g : Nat) (m : MonitorBlock) (s : State) : Result := .next (monitorBlockEndOp g m (s.pass dt))

/-! ### Discriminators (R235) -/

/-- The discriminator of tone `t`. -/
def State.disc (s : State) (t : Nat) : DiscUnit := tget {} s.cal.disc t

/-- Store it. -/
def State.setDisc (s : State) (t : Nat) (d : DiscUnit) : State := { s with cal := { s.cal with disc := tset s.cal.disc t d } }

/-- CAL_HIST_POP (R235, R242): the oldest entry is claimed; what core 0 or 1 claims goes into the tone's fit. -/
def histPopOp (who : Requester) (g : Nat) (s : State) : BitVec 64 × State :=
  match tget [] s.rd.hist g with
  | [] => (0, s)
  | (t, yi, yq) :: rest =>
    let s := { s with rd := { s.rd with hist := tset s.rd.hist g rest } }
    let s := (s.setReg .CAL_HIST_YI g yi).setReg .CAL_HIST_YQ g yq
    let d := s.disc (16 * g + t)
    let s := if servoCore who then s.setDisc (16 * g + t) { d with fresh := d.fresh + 1, total := d.total + 1 } else s
    (BitVec.ofNat 64 (t + 256), s)

def execCalHistPop (who : Requester) (g : Nat) (s : State) : Result := .next (s.regAccessRead who .CAL_HIST_POP g (histPopOp who g))

/-- The squared distance of two points. -/
def dist2 (a b : Int × Int) : Int := (a.1 - b.1) * (a.1 - b.1) + (a.2 - b.2) * (a.2 - b.2)

/-- The means with that of state 0, the one nearest the previous μ0, in front. -/
def orderMeans (prev : Int × Int) : List (Int × Int) → List (Int × Int)
  | [] => []
  | m :: ms =>
    let best := ms.foldl (fun b x => if dist2 x prev < dist2 b prev then x else b) m
    best :: (m :: ms).erase best

/-- TH0-TH2 from the projections (R235). -/
def fitThresholds (k : Nat) (u0 u1 u2 : Int) : List Int :=
  let d := u1 - u0
  if k = 3 then [(u0 + u1) / 2, (u1 + u2) / 2, u2 + (u2 - u1) / 2] else [(u0 + u1) / 2, u1 + d / 2, u1 + 3 * d / 2]

/-- A fit of tone `t` is due: a quarter of the window has come in since the last, or a KIND 0 or 3 run asks for one. -/
def State.fitDue (s : State) (t : Nat) : Bool :=
  let d := s.disc t
  let w := s.servedAt 0x2600 6 10000
  let inRun := match s.cal.run with
    | some r => r.u == 0x200 + t && (r.kind == 0 || r.kind == 3)
    | none => false
  (s.coreRuns 0 || s.coreRuns 1) && ((s.background (0x200 + t) && decide (w ≤ 4 * d.fresh) && decide (w ≤ d.total)) || inRun)

/-- DISCRIMINATOR_FIT (R235, R237-R239). -/
def discriminatorFitOp (t : Nat) (f : MixtureFit) (s : State) : State :=
  if !s.fitDue t then s
  else
    let u := 0x200 + t
    let old := s.disc t
    let s := (s.setDisc t { old with fresh := 0 })
    let s := if s.inRun u then s.stepRun else s
    if f.weak then s.calNoSignal u
    else
      let k := s.calOpt u / 16 % 4
      let ms := orderMeans (old.mu.getD 0 (0, 0)) f.means
      let m0 := ms.getD 0 (0, 0)
      let m1 := ms.getD 1 (0, 0)
      let m2 := if k = 3 then ms.getD 2 (0, 0) else (0, 0)
      let same := m1 == m0
      let fr := if same then s.free 16 else (rotOf (m1.1 - m0.1) (m1.2 - m0.2), s)
      let rot := fr.1
      let s := fr.2
      let p (m : Int × Int) : Int := rotate m.1 m.2 rot
      let d := (p m1 - p m0).natAbs
      let th := fitThresholds k (p m0) (p m1) (p m2)
      let s := s.setDisc t { s.disc t with rot, th, mu := [m0, m1, m2] }
      let s := if bitOf (s.calOpt u) 8 then s.applyFit t rot th else s
      let ra := if f.sigma = 0 then s.free 32 else (gaussTail (d * 2 ^ 79 / f.sigma), s)
      let rb := if d = 0 then ra.2.free 32 else (toReal32 f.sigma (d * 2 ^ 16), ra.2)
      let rc := if f.sigma = 0 then rb.2.free 32 else (toReal32 ((th.getD 0 0 - old.th.getD 0 0).natAbs * 2 ^ 16) f.sigma, rb.2)
      rc.2.calPublish u Code.ok ra.1 rb.1 rc.1

def execDiscriminatorFit (dt t : Nat) (f : MixtureFit) (s : State) : Result := .next (discriminatorFitOp t f (s.pass dt))

/-! ### Freezing (R239) -/

/-- The register, instance and fields of a freeze register, and the regions whose units it freezes. -/
def freezeHome : FreezeReg → Reg × Nat × Word
  | .cluster g => (.CAL_FRZ, g.val, 0xFFFF_007F)
  | .tiles => (.CAL_TILE_FRZ, 0, 0xFF)
  | .tio j => (.CAL_TIO_FRZ, j.val, 0xFFFF_FFFF)
  | .bias die j => (.CAL_BIAS_FRZ, 4 * die.val + j.val, 0xFFFF_FFFF)
  | .converters die => (.CAL_IC_FRZ, die.val, 0xF)

/-- A bias die takes commands and answers reads: its link is up and its supplies are in limits (R246, R247). -/
def State.dieLive (s : State) (die : Nat) : Bool := s.bit .BIAS_DIE_STATUS die 0 && s.bit .BIAS_DIE_STATUS die 1

/-- The freeze register can be written: one of a bias die needs the die. -/
def State.freezeReach (s : State) : FreezeReg → Bool
  | .bias die _ => s.dieLive die.val
  | .converters die => s.dieLive die.val
  | _ => true

/-- CAL_FREEZE_WRITE (R239, R240, R238): the bits act from the next cc; a take with a frozen unit in its span is marked; a change
in a region raises its source. -/
def freezeWriteOp (r : FreezeReg) (v : Word) (s : State) : State :=
  let h := freezeHome r
  let old := s.frzWord h.1 h.2.1
  let w := v &&& h.2.2
  if !s.freezeReach r then s
  else
    let changed := s.reg h.1 h.2.1 != w
    let mark (s : State) : State := State.forEach ((List.range 16).filter s.calFrozen) (fun n s => s.takeMark n 4) s
    let s := mark s
    let s := s.setReg h.1 h.2.1 w
    let after := mark s
    let s := { after with cal := { after.cal with frzOld := tset after.cal.frzOld (regKey h.1 h.2.1) (s.now, old) } }
    match r with
    | .cluster g => if changed then s.raise (regionSource (g.val / 4) 13) else s
    | _ => s

def execCalFreezeWrite (who : Requester) (r : FreezeReg) (v : Word) (s : State) : Result :=
  .next (s.regAccess who (freezeHome r).1 (freezeHome r).2.1 (freezeWriteOp r v))

/-! ### Resets and Cut (R241) -/

/-- The calibration part of a cluster's reset: a run ends with its current status, the histogram and the copies are emptied. -/
def State.resetCal (s : State) (g : Nat) : State :=
  let s := match s.cal.run with
    | some r => if calCluster r.u = some g then s.endRun r (s.calUnit r.u).last else s
    | none => s
  let s := { s with rd := { s.rd with hist := tdel s.rd.hist g } }
  let s := s.resetRegs [.ADC_STAT_STATUS, .ADC_C2_LO, .ADC_C2_HI, .MON_STATUS, .MON_VDC_LO, .MON_VDC_HI, .MON_VMS_LO, .MON_VMS_HI,
    .MON_CDC_LO, .MON_CDC_HI, .MON_CMS_LO, .MON_CMS_HI] (· == g)
  s.resetRegs [.ADC_S1_LO, .ADC_S1_HI, .ADC_S2_LO, .ADC_S2_HI, .ADC_C1_LO, .ADC_C1_HI] (· / 4 == g)

/-- The part of a Cut or FLR that covers cluster `g`: a run ends with CUT, the noise source and the monitor are disconnected. -/
def State.cutCal (s : State) (g : Nat) : State :=
  let s := match s.cal.run with
    | some r => if calCluster r.u = some g then s.endRun r Code.cut else s
    | none => s
  (s.setBit .CAL_CL_CTRL g 0 false).setFld .MON_CTRL g 2 0 6

/-- The part of a module Cut or FLR that covers the hub's and the bias side's units. -/
def State.cutHubCal (s : State) : State :=
  match s.cal.run with
  | some r => if calCluster r.u = none then s.endRun r Code.cut else s
  | none => s

/-- Writes of `ADC_STAT_CTRL` and `MON_CTRL` (R242): an exponent outside 10-24 is refused; the block begins anew. -/
def adcStatCtrlOp (g : Nat) (v : Word) (s : State) : State :=
  if bits v 12 8 < 10 ∨ 24 < bits v 12 8 then s.rfiResult g Code.range
  else
    let s := (s.setReg .ADC_STAT_CTRL g (v &&& 0x1F01)).rfiResult g Code.ok
    { s with cal := { s.cal with statFrom := tset s.cal.statFrom g s.now } }

def monCtrlOp (g : Nat) (v : Word) (s : State) : State :=
  if bits v 12 8 < 10 ∨ 24 < bits v 12 8 then s.rfiResult g Code.range
  else
    let s := (s.setReg .MON_CTRL g (v &&& 0x1F07)).rfiResult g Code.ok
    { s with cal := { s.cal with monFrom := tset s.cal.monFrom g s.now } }

end Sys2Proof.Machine
end

