-- ==== Sys2Proof/Machine/Bias.lean ====
section
/-!
DEFINITION. The bias side (R245-R262): supplies and isolator links, output switches, ramps, and the integrating converters.
Bias outputs are numbered 0-255 and converters 0-7 over both dies. The ticks of a die are its own (notes/assumptions/59.md): a
step of a ramp and a result are commands, accepted once their time has passed on an oscillator that is 50 ppm fast.
-/

namespace Sys2Proof.Machine

/-! ### Dies -/

/-- A bit of a two-die mask. -/
def dieBit (m : BitVec 2) (die : Nat) : Bool := bitOf m.toNat die

/-- The mask with the bit of a die set or cleared. -/
def dieSet (m : BitVec 2) (die : Nat) (on : Bool) : BitVec 2 :=
  if on then m ||| BitVec.ofNat 2 (1 <<< die) else m &&& ~~~BitVec.ofNat 2 (1 <<< die)

/-- Sources 499 and 500 follow the conditions of both dies (R246, R278). -/
def State.biasLines (s : State) : State := (s.setLine 499 (s.bias.supplyFault != 0)).setLine 500 (s.bias.linkFault != 0)

/-- The registers a die holds. -/
def dieRegs : List (Reg × Nat) :=
  [(.BIAS_MON_SEL, 1), (.BIAS_CTRL, 128), (.BIAS_TGT, 128), (.BIAS_STEP, 128), (.BIAS_LIM_LO, 128), (.BIAS_LIM_HI, 128),
   (.BIAS_ACT, 128), (.BIAS_STATUS, 128), (.BIAS_TRIM, 128), (.IC_CTRL, 4), (.IC_PERIOD, 4), (.IC_SCAN, 4), (.IC_STATUS_CH, 4),
   (.IC_DATA_LO, 4), (.IC_DATA_HI, 4), (.IC_OFS_CORR, 4), (.IC_GAIN_CORR, 4), (.CAL_BIAS_FRZ, 4), (.CAL_IC_FRZ, 1),
   (.CAL_BIAS_FRZ_REJ, 1)]

/-- The contents of a die return to their reset state (R246). -/
def State.resetDie (s : State) (die : Nat) : State :=
  let s := State.forEach dieRegs (fun p s => s.resetRegs [p.1] (fun i => i / p.2 == die)) s
  let other {α : Type} (n : Nat) (t : Table α) : Table α := t.filter (fun e => e.1 / n != die)
  let s := { s with bias := { s.bias with stage := tdel s.bias.stage die, ramp := other 128 s.bias.ramp, conn := other 128 s.bias.conn
                                          ic := other 4 s.bias.ic, extref := other 2 s.bias.extref } }
  State.forEach (List.range 4) (fun c s => s.setLine (8 + (4 * die + c)) false) s

/-- BIAS_SUPPLY_RISE (R246); Machine/Boot.lean loads the saved objects. -/
def biasRiseOp (die : Nat) (extrefOk : Bool) (s : State) : State :=
  let s := s.resetDie die
  let s := { s with bias := { s.bias with supplyUp := dieSet s.bias.supplyUp die true, supplyFault := dieSet s.bias.supplyFault die false
                                          loadDue := dieSet s.bias.loadDue die true } }
  let s := ((s.setBit .BIAS_DIE_STATUS die 1 true).setBit .BIAS_DIE_STATUS die 3 true).setBit .BIAS_DIE_STATUS die 5 extrefOk
  s.biasLines

/-- BIAS_SUPPLY_FAULT (R246): the switches open, the die stops, its contents are lost. -/
def biasFaultOp (die : Nat) (s : State) : State :=
  if !dieBit s.bias.supplyUp die then s
  else
    let s := s.resetDie die
    let s := { s with bias := { s.bias with supplyUp := dieSet s.bias.supplyUp die false, supplyFault := dieSet s.bias.supplyFault die true } }
    ((s.setBit .BIAS_DIE_STATUS die 1 false).setBit .BIAS_DIE_STATUS die 2 true).biasLines

def execBiasSupplyFault (dt die : Nat) (s : State) : Result := .next (biasFaultOp die (s.pass dt))

/-- Output `k` stops (R251, R253). -/
def State.stopRamp (s : State) (code k : Nat) : State :=
  match tfind s.bias.ramp k with
  | some _ =>
    let s := { s with bias := { s.bias with ramp := tdel s.bias.ramp k } }
    ((s.setBit .BIAS_STATUS k 0 false).setBit .BIAS_STATUS k 2 true).setFld .BIAS_STATUS k 15 8 code
  | none => s

/-- Every ramp of a die stops with CUT (R253). -/
def State.cutRamps (s : State) (die : Nat) : State :=
  State.forEach ((List.range 128).map (· + 128 * die)) (fun k s => s.stopRamp Code.cut k) s

/-- ISOLATOR_LINK_DOWN (R246, R253). -/
def linkDownOp (die : Nat) (s : State) : State :=
  if !s.bit .BIAS_DIE_STATUS die 0 then s
  else
    let s := s.cutRamps die
    let s := { s with bias := { s.bias with linkFault := dieSet s.bias.linkFault die true } }
    ((s.setBit .BIAS_DIE_STATUS die 0 false).setBit .BIAS_DIE_STATUS die 4 true).biasLines

def execIsolatorLinkDown (dt die : Nat) (s : State) : Result := .next (linkDownOp die (s.pass dt))

/-- ISOLATOR_LINK_UP (R246, R247): the hub sees the die again; Machine/Boot.lean loads the saved objects. -/
def linkUpOp (die : Nat) (s : State) : State :=
  let s := { s with bias := { s.bias with linkFault := dieSet s.bias.linkFault die false } }
  ((s.setBit .BIAS_DIE_STATUS die 0 true).setBit .BIAS_DIE_STATUS die 1 (dieBit s.bias.supplyUp die)).biasLines

/-- A write by `who` to register `r` of a die: it is discarded while the die is out of reach (R247). -/
def State.dieAccess (s : State) (who : Requester) (r : Reg) (i die : Nat) (op : State → State) : State :=
  s.regAccess who r i (fun s => if s.dieLive die then op s else s)

/-- `BIAS_STATUS.LAST_RESULT`. -/
def State.biasResult (s : State) (k code : Nat) : State := s.setFld .BIAS_STATUS k 15 8 code

/-- The output is ramping. -/
def State.ramping (s : State) (k : Nat) : Bool := (tfind s.bias.ramp k).isSome

/-! ### Switches (R249) -/

/-- BIAS_CONN_WRITE. -/
def biasConnOp (k : Nat) (v : Word) (s : State) : State :=
  let c := bits v 1 0
  if c = 3 then s.biasResult k Code.range
  else if s.ramping k && c != s.fld .BIAS_CTRL k 1 0 then s.biasResult k Code.busy
  else
    let s := (s.setReg .BIAS_CTRL k (BitVec.ofNat 32 c)).biasResult k Code.ok
    { s with bias := { s.bias with conn := tset s.bias.conn k c } }

def execBiasConnWrite (who : Requester) (k : Nat) (v : Word) (s : State) : Result :=
  .next (s.dieAccess who .BIAS_CTRL k (k / 128) (biasConnOp k v))

/-- BIAS_CONN_COMPLETE. -/
def biasConnDoneOp (k : Nat) (s : State) : State :=
  match tfind s.bias.conn k with
  | some c => { s with bias := { s.bias with conn := tdel s.bias.conn k } }.setFld .BIAS_STATUS k 5 4 c
  | none => s

def execBiasConnComplete (dt k : Nat) (s : State) : Result := .next (biasConnDoneOp k (s.pass dt))

/-! ### Ramps (R250, R251) -/

/-- BIAS_GO_STAGE. -/
def biasStageOp (die i : Nat) (mask : Word) (s : State) : State :=
  { s with bias := { s.bias with stage := tset s.bias.stage die (tget 0 s.bias.stage die ||| mask.toNat <<< (32 * i)) } }

def execBiasGoStage (who : Requester) (die i : Nat) (mask : Word) (s : State) : Result :=
  .next (s.dieAccess who .BIAS_GO (4 * die + i) die (biasStageOp die i mask))

/-- A GO reaches output `k`: its target is checked, and TGT, STEP and DIV are read. -/
def State.startRamp (s : State) (k : Nat) : State :=
  let t := signed 20 (s.fld .BIAS_TGT k 19 0)
  if t < signed 20 (s.fld .BIAS_LIM_LO k 19 0) ∨ signed 20 (s.fld .BIAS_LIM_HI k 19 0) < t then
    (s.setBit .BIAS_STATUS k 3 true).biasResult k Code.range
  else
    let r : Ramp := { tgt := t, step := s.fld .BIAS_STEP k 18 0, div := s.fld .BIAS_STEP k 28 24, tick := s.now }
    let s := { s with bias := { s.bias with ramp := tset s.bias.ramp k r } }
    (s.setBit .BIAS_STATUS k 0 true).biasResult k Code.ok

/-- BIAS_DIE_GO: every staged output in one tick, and the stage is cleared. -/
def biasGoOp (die : Nat) (s : State) : State :=
  let m := tget 0 s.bias.stage die
  let s := { s with bias := { s.bias with stage := tdel s.bias.stage die } }
  State.forEach (setBitsOf 128 m) (fun i s => s.startRamp (128 * die + i)) s

def execBiasDieGo (who : Requester) (die : Nat) (s : State) : Result :=
  .next (s.dieAccess who .BIAS_DIE_CMD die die (biasGoOp die))

/-- BIAS_STOP_ALL. -/
def biasStopAllOp (die : Nat) (s : State) : State :=
  State.forEach ((List.range 128).map (· + 128 * die)) (fun k s => (s.stopRamp Code.ok k).biasResult k Code.ok) s

def execBiasStopAll (who : Requester) (die : Nat) (s : State) : Result :=
  .next (s.dieAccess who .BIAS_DIE_CMD die die (biasStopAllOp die))

/-- A write of `BIAS_DIE_CMD`: GO, then STOP_ALL. -/
def biasCmdOp (die : Nat) (v : Word) (s : State) : State :=
  let s := if bits v 0 0 = 1 then biasGoOp die s else s
  if bits v 1 1 = 1 then biasStopAllOp die s else s

/-- BIAS_STOP. -/
def biasStopOp (die i : Nat) (mask : Word) (s : State) : State :=
  State.forEach (setBitsOf 32 mask.toNat) (fun b s =>
    (s.stopRamp Code.ok (128 * die + 32 * i + b)).biasResult (128 * die + 32 * i + b) Code.ok) s

def execBiasStop (who : Requester) (die i : Nat) (mask : Word) (s : State) : Result :=
  .next (s.dieAccess who .BIAS_STOP (4 * die + i) die (biasStopOp die i mask))

/-- The value of a ramp after its next tick (R250). -/
def Ramp.move (r : Ramp) (act : Int) : Int :=
  if r.step = 0 ∨ (r.tgt - act).natAbs ≤ r.step then r.tgt
  else if act < r.tgt then act + r.step else act - r.step

/-- The least cc from a tick of the ramp to its next: 2^DIV µs on an oscillator that is 50 ppm fast. -/
def Ramp.least (r : Ramp) : Nat := if r.step = 0 then 999 else 2 ^ r.div * 1000 * 999950 / 1000000

/-- RAMP_STEP (R250). -/
def rampStepOp (k : Nat) (s : State) : State :=
  match tfind s.bias.ramp k with
  | none => s
  | some r =>
    if s.now < r.tick + r.least then s
    else
      let act := r.move (signed 20 (s.fld .BIAS_ACT k 19 0))
      let s := s.setFld .BIAS_ACT k 19 0 (wrapTo 20 act)
      if act = r.tgt then
        let s := { s with bias := { s.bias with ramp := tdel s.bias.ramp k } }
        (s.setBit .BIAS_STATUS k 0 false).setBit .BIAS_STATUS k 1 true
      else { s with bias := { s.bias with ramp := tset s.bias.ramp k { r with tick := s.now } } }

def execRampStep (dt k : Nat) (s : State) : Result := .next (rampStepOp k (s.pass dt))

/-- A write of `BIAS_STEP`: DIV 21-31 is refused (R260). -/
def biasStepOp (k : Nat) (v : Word) (s : State) : State :=
  if 20 < bits v 28 24 then s.biasResult k Code.range
  else (s.setReg .BIAS_STEP k (v &&& 0x1F07_FFFF)).biasResult k Code.ok

/-- A write of `BIAS_LIM_LO` (`hi` false) or `BIAS_LIM_HI` (R252). -/
def biasLimOp (hi : Bool) (k : Nat) (v : Word) (s : State) : State :=
  let lo' := if hi then s.fld .BIAS_LIM_LO k 19 0 else bits v 19 0
  let hi' := if hi then bits v 19 0 else s.fld .BIAS_LIM_HI k 19 0
  let r := if hi then Reg.BIAS_LIM_HI else .BIAS_LIM_LO
  if s.ramping k then s.biasResult k Code.locked
  else if signed 20 hi' < signed 20 lo' then s.biasResult k Code.range
  else (s.setReg r k (BitVec.ofNat 32 (bits v 19 0))).biasResult k Code.ok

/-- A module Cut or an FLR reaches the dies (R253). -/
def State.cutBias (s : State) : State := (s.cutRamps 0).cutRamps 1

/-! ### Integrating converters (R255-R259) -/

/-- The integration period T in modulator cycles (R256). -/
def State.icPeriod (s : State) (c : Nat) : Nat :=
  if s.bit .IC_CTRL c 8 then s.fld .IC_PERIOD c 30 24 * (if s.bit .IC_CTRL c 9 then 51200 else 61440)
  else (s.fld .IC_PERIOD c 19 0 * 3072 + 500) / 1000

/-- The cycles to the next result: 192 of settling and k periods after an event of R257, else T. -/
def State.icCycles (s : State) (c : Nat) (settling : Bool) : Nat :=
  if settling then 192 + (s.fld .IC_CTRL c 7 6 + 1) * s.icPeriod c else s.icPeriod c

/-- `n` modulator cycles of 1/3.072 MHz have passed since cc `f`, on an oscillator that is 50 ppm fast. -/
def cyclesPassed (n f now : Nat) : Bool := decide (f ≤ now) && decide (n * 125000 * 999950 ≤ (now - f) * 384 * 1000000)

/-- The inputs of a scan. -/
def State.scanInputs (s : State) (c : Nat) : List Nat := setBitsOf 8 (s.fld .IC_SCAN c 7 0)

/-- The converter begins anew (R257). -/
def State.icRestart (s : State) (c : Nat) : State :=
  let s := s.setBit .IC_STATUS_CH c 0 (s.bit .IC_CTRL c 0)
  let s := s.setFld .IC_STATUS_CH c 7 4 (if s.bit .IC_CTRL c 1 then (s.scanInputs c).headD 0 else s.fld .IC_CTRL c 5 2)
  { s with bias := { s.bias with ic := tset s.bias.ic c { since := s.now } } }

/-- The input after `cur` in a scan. -/
def nextInput (ins : List Nat) (cur : Nat) : Nat := (ins.find? (fun i => decide (cur < i))).getD (ins.headD 0)

/-- The Gaffer publishes the difference of VREF_EXT and the internal reference in ppm (R229, R254). -/
def State.publishExtref (s : State) (die : Nat) : State :=
  match tfind s.bias.extref (2 * die), tfind s.bias.extref (2 * die + 1) with
  | some e, some i =>
    if i ≤ 0 ∨ s.coreRuns 0 = false then s
    else { s with served := tset s.served (256 * 0x2601 + 1) (toReal32 ((e - i) * 1000000) i.toNat) }
  | _, _ => s

/-- The corrected code of a raw result (R259), held to 24 bits, and whether it is at a code limit (R255). -/
def icCode (raw ofs gain : Int) : Int × Bool :=
  let v := (raw - ofs) * (2 ^ 24 + gain) / 2 ^ 24
  let c := saturate 24 v
  (c, decide (raw ≤ -8388608) || decide (8388607 ≤ raw) || c != v)

/-- IC_RESULT (R255-R259). -/
def icResultOp (c : Nat) (raw : Int) (extrefOk : Bool) (s : State) : State :=
  let die := c / 4
  let x : Converter := tget {} s.bias.ic c
  if !dieBit s.bias.supplyUp die || !s.bit .IC_CTRL c 0 || !cyclesPassed (s.icCycles c x.settling) x.since s.now then s
  else
    let input := s.fld .IC_STATUS_CH c 7 4
    let r := icCode (saturate 24 raw) (signed 20 (s.fld .IC_OFS_CORR c 19 0)) (signed 20 (s.fld .IC_GAIN_CORR c 19 0))
    let overran := s.bit .IC_DATA_LO c 28
    let lo := wrapTo 24 r.1 + input * 2 ^ 24 + 2 ^ 28 + b2n (overran || s.bit .IC_DATA_LO c 29) * 2 ^ 29 + b2n r.2 * 2 ^ 30
    let s := (s.setReg .IC_DATA_LO c (BitVec.ofNat 32 lo)).setReg .IC_DATA_HI c (BitVec.ofNat 32 ((s.regNat .IC_DATA_HI c + 1) % 65536))
    let s := if r.2 then s.setBit .IC_STATUS_CH c 2 true else s
    let s := if overran then (s.setBit .IC_STATUS_CH c 1 true).raise (16 + c) else s
    let s := s.setLine (8 + c) true
    let scan := s.bit .IC_CTRL c 1
    let s := if scan then s.setFld .IC_STATUS_CH c 7 4 (nextInput (s.scanInputs c) input) else s
    let s := { s with bias := { s.bias with ic := tset s.bias.ic c { since := s.now, settling := scan } } }
    let s := s.setBit .BIAS_DIE_STATUS die 5 extrefOk
    if input = 9 ∨ input = 10 then
      { s with bias := { s.bias with extref := tset s.bias.extref (2 * die + (input - 9)) r.1 } }.publishExtref die
    else s

def execIcResult (dt c : Nat) (raw : Int) (extrefOk : Bool) (s : State) : Result := .next (icResultOp c raw extrefOk (s.pass dt))

/-- IC_DATA_CLAIM (R258, R10): a read of `IC_DATA_LO`; a die out of reach reads 0. -/
def icClaimOp (who : Requester) (c : Nat) (s : State) : BitVec 64 × State :=
  if !s.dieLive (c / 4) then (0, s)
  else
    let w := s.reg .IC_DATA_LO c
    let s := s.capture who .IC_DATA_HI c (s.reg .IC_DATA_HI c)
    (w.zeroExtend 64, (((s.setBit .IC_DATA_LO c 28 false).setBit .IC_DATA_LO c 29 false)).setLine (8 + c) false)

def execIcDataClaim (who : Requester) (c : Nat) (s : State) : Result :=
  .next (s.regAccessRead who .IC_DATA_LO c (icClaimOp who c))

/-- The register of a converter's configuration. -/
def icReg : IcReg → Reg
  | .ctrl => .IC_CTRL
  | .period => .IC_PERIOD
  | .scan => .IC_SCAN

/-- A value that R255, R256 or R261 refuses. -/
def State.icBad (s : State) (c : Nat) : IcReg → Word → Bool
  | .ctrl, v => decide (12 ≤ bits v 5 2) || (bits v 1 1 == 1 && s.fld .IC_SCAN c 7 0 == 0)
  | .period, v => decide (bits v 19 0 < 100) || decide (1000000 < bits v 19 0) || bits v 30 24 == 0 || decide (100 < bits v 30 24)
  | .scan, v => bits v 7 0 == 0 && s.bit .IC_CTRL c 1

/-- IC_CONFIG_WRITE (R255-R257, R261). -/
def icConfigOp (c : Nat) (r : IcReg) (v : Word) (s : State) : State :=
  if s.icBad c r v then s.setFld .IC_STATUS_CH c 15 8 Code.range
  else
    let was := s.bit .IC_CTRL c 0
    let mask : Word := match r with
      | .ctrl => 0x3FF
      | .period => 0x7F0F_FFFF
      | .scan => 0xFF
    let s := (s.setReg (icReg r) c (v &&& mask)).setFld .IC_STATUS_CH c 15 8 Code.ok
    if was || s.bit .IC_CTRL c 0 then s.icRestart c else s

def execIcConfigWrite (who : Requester) (c : Nat) (r : IcReg) (v : Word) (s : State) : Result :=
  .next (s.dieAccess who (icReg r) c (c / 4) (icConfigOp c r v))

/-- The last result in volts at nominal V_REF, as a single: `IC_VOLTS` (R262). -/
def State.icVolts (s : State) (c : Nat) : Nat := toReal32 (signed 24 (s.fld .IC_DATA_LO c 23 0) * 10) (2 ^ 23)

end Sys2Proof.Machine
end

