-- ==== Sys2Proof/Machine/ClusterMem.lean ====
section
/-!
DEFINITION. Writes to the memories of a cluster from outside its engines (R98, R128, R148, R149): what they replace is kept for
what reads in the same cc.
-/

namespace Sys2Proof.Machine

/-- Log `old` under `key` as what a memory held before this cc; entries of earlier cc are dropped. -/
def logOld {α : Type} (t : Table (Nat × α)) (key now : Nat) (old : α) : Table (Nat × α) :=
  let t := t.filter (fun e => e.2.1 == now)
  if (tfind t key).isSome then t else tset t key (now, old)

/-- A word of the Script program is replaced (R98). -/
def State.scriptPut (s : State) (g a : Nat) (w : BitVec 64) : State :=
  let old := BitVec.ofNat 64 (s.le 3 (scriptAddr g a) 8)
  { s with scr := { s.scr with oldWord := logOld s.scr.oldWord (32768 * g + a) s.now old } }.writeLe 3 (scriptAddr g a) 8 w.toNat

/-- A bundle of the kernel program is replaced (R148). -/
def State.bundlePut (s : State) (g a : Nat) (w : BitVec 64) : State :=
  let old := BitVec.ofNat 64 (s.le 3 (clusterBase g + 0x10000 + 8 * a) 8)
  { s with krn := { s.krn with oldBundle := logOld s.krn.oldBundle (8192 * g + a) s.now old } }.writeLe 3 (clusterBase g + 0x10000 + 8 * a) 8 w.toNat

/-- A word of kernel data memory is replaced; the engine's own write in this cc comes after it (R149). -/
def State.dataPut (s : State) (g p : Nat) (w : Word) : State :=
  if tfind s.krn.wrote (65536 * g + p) = some s.now then s
  else
    let old := BitVec.ofNat 32 (s.le 3 (krnDataAddr g p) 4)
    { s with krn := { s.krn with oldData := logOld s.krn.oldData (65536 * g + p) s.now old } }.writeLe 3 (krnDataAddr g p) 4 w.toNat

/-- A weight is replaced; windows that read it in this cc or read it before are given what it was (R128). -/
def State.weightPut (s : State) (g a : Nat) (w : Word) : State :=
  let addr := clusterBase g + 0xC0000 + 4 * a
  let old := BitVec.ofNat 32 (s.le 3 addr 4)
  let open_ := (List.range 16).any (fun t => !(s.windows g t).isEmpty)
  let log := s.rd.weightLog.filter (fun e => !(e.1 / 65536 == g && !open_))
  { s with rd := { s.rd with weightLog := log ++ [(65536 * g + a, s.now, old)] } }.writeLe 3 addr 4 w.toNat

/-- Offset `o` of a cluster window lies in one of its memories, and the memory is live (R28, R359). -/
def State.clusterMemLive (s : State) (o : Nat) : Bool :=
  if 0x10000 ≤ o ∧ o < 0x20000 ∨ 0x80000 ≤ o ∧ o < 0xC0000 then s.feat 2 else s.active

/-- 64 bits are written at offset `o`, a multiple of 8, of the memories of cluster `g`. -/
def State.clusterPut (s : State) (g o : Nat) (w : BitVec 64) : State :=
  if !s.clusterMemLive o then s
  else if o < 0x20000 then s.bundlePut g ((o - 0x10000) / 8) w
  else if o < 0x80000 then s.scriptPut g ((o - 0x40000) / 8) w
  else if o < 0xC0000 then (s.dataPut g ((o - 0x80000) / 4) (w.extractLsb' 0 32)).dataPut g ((o - 0x80000) / 4 + 1) (w.extractLsb' 32 32)
  else (s.weightPut g ((o - 0xC0000) / 4) (w.extractLsb' 0 32)).weightPut g ((o - 0xC0000) / 4 + 1) (w.extractLsb' 32 32)

/-- The number that little-endian bytes spell. -/
def leNat (bs : List Byte) : Nat := bs.foldr (fun b x => b.toNat + 256 * x) 0

/-- Whole 64-bit words are written from offset `o` on. -/
def State.clusterWrite (s : State) (g o : Nat) (bs : List Byte) : State :=
  (List.range (bs.length / 8)).foldl (fun s k => s.clusterPut g (o + 8 * k) (BitVec.ofNat 64 (leNat ((bs.drop (8 * k)).take 8)))) s

/-- The held low half of a requester is kept under 64 · requester + g (R98, R148). -/
def lowKey (who : Requester) (g : Nat) : Nat := 64 * requesterIdx who + g

/-- A 32-bit write to the Script program: a low half is held, a high half lands with the low half held for its word, or alone. -/
def State.scriptPut32 (s : State) (who : Requester) (g o : Nat) (v : Word) : State :=
  let a := (o - 0x40000) / 8
  if o % 8 = 0 then { s with scr := { s.scr with lowHalf := tset s.scr.lowHalf (lowKey who g) (a, v) } }
  else
    match tfind s.scr.lowHalf (lowKey who g) with
    | some (a', lo) =>
      if a' = a then { s with scr := { s.scr with lowHalf := tdel s.scr.lowHalf (lowKey who g) } }.scriptPut g a (v ++ lo)
      else s.scriptPut g a (v ++ (BitVec.ofNat 32 (s.le 3 (scriptAddr g a) 4)))
    | none => s.scriptPut g a (v ++ (BitVec.ofNat 32 (s.le 3 (scriptAddr g a) 4)))

/-- The same for the kernel program. -/
def State.bundlePut32 (s : State) (who : Requester) (g o : Nat) (v : Word) : State :=
  let a := (o - 0x10000) / 8
  let here := BitVec.ofNat 32 (s.le 3 (clusterBase g + 0x10000 + 8 * a) 4)
  if o % 8 = 0 then { s with krn := { s.krn with lowHalf := tset s.krn.lowHalf (lowKey who g) (a, v) } }
  else
    match tfind s.krn.lowHalf (lowKey who g) with
    | some (a', lo) =>
      if a' = a then { s with krn := { s.krn with lowHalf := tdel s.krn.lowHalf (lowKey who g) } }.bundlePut g a (v ++ lo)
      else s.bundlePut g a (v ++ here)
    | none => s.bundlePut g a (v ++ here)

end Sys2Proof.Machine
end

