-- ==== Sys2Proof/Machine/Grip.lean ====
section
/-!
DEFINITION. The Grip (R296-R314, R321-R323): descriptors and their checks, operations, stops, and the dailies ports. Operations
issue as soon as the rules let them (notes/assumptions/60.md); a completion moves the operation's data.
-/

namespace Sys2Proof.Machine

/-! ### Channels -/

/-- Channel `c`. -/
def State.grp (s : State) (c : Nat) : GripChannel := tget {} s.grip.ch c

/-- Store channel `c`. -/
def State.setGrp (s : State) (c : Nat) (x : GripChannel) : State := { s with grip := { s.grip with ch := tset s.grip.ch c x } }

/-- `GRIP_CH_STATUS.STATE`: 0 IDLE, 1 RUN, 2 DRAIN, 3 STOPPED. -/
def State.gripState (s : State) (c : Nat) : Nat := s.fld .GRIP_CH_STATUS c 1 0
def State.setGripState (s : State) (c st : Nat) : State := s.setFld .GRIP_CH_STATUS c 1 0 st

/-- `GRIP_CH_STATUS.LAST_RESULT`. -/
def State.gripResult (s : State) (c code : Nat) : State := s.setFld .GRIP_CH_STATUS c 23 16 code

/-- The channel is not running: its RWL registers can be written (R308). -/
def State.gripIdle (s : State) (c : Nat) : Bool := s.gripState c == 0 || s.gripState c == 3

/-! ### Address spaces (R300) -/

/-- The memory of Machine/Ops.lean that a space code names. -/
def spaceMem : Nat → Nat
  | 0 => 4
  | 1 => 0
  | 2 => 1
  | 3 => 2
  | _ => 3

/-- The cluster an address of space 4 lies in. -/
def spaceCluster (sp a : Nat) : Option Nat :=
  if sp = 4 ∧ 0x0800_0000 ≤ a ∧ 0x100000 ≤ windowOffset a ∧ windowOffset a < 0x500000 then
    some (4 * ((a - 0x0800_0000) / 0x0080_0000) + (windowOffset a - 0x100000) / 0x100000)
  else none

/-- [a, a + len) lies in [lo, hi). -/
def inside (a len lo hi : Nat) : Bool := decide (lo ≤ a) && decide (a + len ≤ hi)

/-- The range lies inside one row of the tables of R300, in a populated region or cluster. -/
def State.spaceRange (s : State) (sp a len : Nat) : Bool :=
  match sp with
  | 0 => decide (a + len ≤ 2 ^ 64)
  | 1 => decide (a + len ≤ s.pair .MEM_CAP_LO .MEM_CAP_HI)
  | 2 => decide (a + len ≤ 2 ^ 24)
  | 3 =>
    let l := a % 2 ^ 26
    s.hasRegion (a / 2 ^ 26) &&
      (inside l len 0 0x1000000 || inside l len 0x1000000 0x1800000 || inside l len 0x2000000 0x2400000)
  | 4 =>
    match spaceCluster 4 a with
    | some g =>
      let o := a - clusterBase g
      s.hasCluster g && (inside o len 0x10000 0x20000 || inside o len 0x40000 0x100000)
    | none => false
  | _ => false

/-- A region or cluster is in P3, P4 or reset. -/
def State.spaceAsleep (s : State) (sp a : Nat) : Bool :=
  (match spaceRegion sp a with
    | some n => s.hasRegion n && (decide (3 ≤ (s.regionPower n).state) || bitOf (s.regNat .PWR_RSTAT) n)
    | none => false) ||
  (match spaceCluster sp a with
    | some g => bitOf (s.pair .PWR_CSTAT_LO .PWR_CSTAT_HI) g
    | none => false)

/-- The errors of an access to a range: RANGE, ACCESS and BUSY (R302). -/
def State.spaceErrors (s : State) (sp a len : Nat) (write : Bool) : List (Bool × Nat) :=
  let l := a % 2 ^ 26
  let wrongWay := sp == 3 && (if write then decide (0x2000000 ≤ l) else decide (0x1000000 ≤ l) && decide (l < 0x1800000))
  [(!(sp == 1 && (s.bit .MEM_CTRL 0 0 || !s.bit .MEM_STATUS 0 0)) && !s.spaceRange sp a len, Code.range),
   (wrongWay || s.spaceAsleep sp a || (sp == 1 && s.bit .MEM_CTRL 0 0), Code.access),
   (sp == 1 && !s.bit .MEM_STATUS 0 0, Code.busy)]

/-! ### Descriptors (R301, R302) -/

/-- A descriptor's fields, its flag RING, and NEXT with its space. -/
def descOf (id space addr : Nat) (bs : List Byte) : GripDesc × Bool × (Nat × Nat) :=
  let w (i n : Nat) : Nat := leNat ((bs.drop i).take n)
  let c := w 20 4
  ({ id, space, addr, src := w 0 8, dst := w 8 8, len := w 16 4, ssp := c % 16, dsp := c / 16 % 16
     bar := bitOf c 12, pace := bitOf c 14, irq := bitOf c 15, evt := bitOf c 16, last := bitOf c 17 },
   bitOf c 13, (c / 256 % 16, w 24 8))

/-- The checks on a descriptor (R302): `next` is where NEXT leads, `head` the channel's head. -/
def State.descErrors (s : State) (d : GripDesc) (ring : Bool) (next head : Nat × Nat) : List (Bool × Nat) :=
  [(d.src % 64 != 0 || d.dst % 64 != 0 || d.len % 64 != 0 || (!d.last && next.2 % 64 != 0), Code.align),
   (!d.last && decide (2 < next.1), Code.range),
   (!d.last && !ring && next == head, Code.loop)] ++
  s.spaceErrors d.ssp d.src d.len false ++ s.spaceErrors d.dsp d.dst d.len true

/-- A descriptor touches a cluster. -/
def GripDesc.touchesCluster (d : GripDesc) (g : Nat) : Bool := spaceCluster d.ssp d.src == some g || spaceCluster d.dsp d.dst == some g

/-- A descriptor touches a space. -/
def GripDesc.touchesSpace (d : GripDesc) (sp : Nat) : Bool := d.ssp == sp || d.dsp == sp

/-! ### Issuing (R296, R297, R349, R354) -/

/-- The length of the next operation of a descriptor: at most 512 bytes, to the next 4 KB boundary of either side, and for host
memory no longer than the sizes in force. -/
def State.opLen (s : State) (d : GripDesc) : Nat :=
  let o := d.issued
  let host := min (if d.ssp = 0 then s.host.mrrs else 512) (if d.dsp = 0 then s.host.mps else 512)
  min (min (min 512 (d.len - o)) (max 64 host)) (min (4096 - (d.src + o) % 4096) (4096 - (d.dst + o) % 4096))

/-- The descriptor of a channel whose next operation may issue: the first that has begun and has bytes left. -/
def GripChannel.ready (x : GripChannel) : Option GripDesc := x.descs.find? (fun d => d.begun && decide (d.issued < d.len))

/-- Operations in flight of the channels that satisfy `p`. -/
def State.inFlight (s : State) (p : Nat → Bool) : Nat :=
  s.grip.ch.foldl (fun n (e : Nat × GripChannel) => if p e.1 then n + e.2.flight.length + e.2.abandoned else n) 0

/-- Reads of host memory in flight (R349). -/
def State.hostReads (s : State) : Nat :=
  s.grip.ch.foldl (fun n (e : Nat × GripChannel) =>
    n + (e.2.flight.filter (fun (o : GripOp) => e.2.descs.any (fun d => d.id == o.id && d.ssp == 0))).length) 0

/-- Channel `c` may issue an operation now. -/
def State.mayIssue (s : State) (c : Nat) : Bool :=
  let x := s.grp c
  match x.ready with
  | none => false
  | some d =>
    s.gripState c == 1 && decide (x.flight.length ≤ s.fld .GRIP_CH_CFG c 11 0) &&
      (if c < 64 then decide (s.inFlight (fun k => decide (k < 64)) < 3072) else decide (x.flight.length + x.abandoned < 64)) &&
      !(d.touchesSpace 0 && s.inD3hot) && (d.ssp != 0 || decide (s.hostReads < 768))

/-- One operation of channel `c` issues. -/
def State.issueOp (s : State) (c : Nat) : State :=
  let x := s.grp c
  match x.ready with
  | none => s
  | some d =>
    let n := s.opLen d
    let s := s.setGrp c { x with
      descs := x.descs.map (fun (e : GripDesc) => if e.id = d.id then { e with issued := e.issued + n } else e)
      flight := x.flight ++ [{ id := d.id, off := d.issued, len := n, at_ := s.now }] }
    let s := if d.touchesSpace 0 then s.leaveL1 else s
    if c < 64 then { s with grip := { s.grip with lastHub := c } } else s

/-- The channel served next: a region channel, else the hub channel after the one served last. -/
def State.nextServed (s : State) : Option Nat :=
  let cs := (s.grip.ch.map Prod.fst).filter s.mayIssue
  match cs.find? (fun c => decide (64 ≤ c)) with
  | some c => some c
  | none => match cs.find? (fun c => decide (s.grip.lastHub < c)) with
    | some c => some c
    | none => cs.head?

/-- Operations issue until none may (R297). -/
def issueAll : Nat → State → State
  | 0, s => s
  | f + 1, s =>
    match s.nextServed with
    | some c => issueAll f (s.issueOp c)
    | none => s

/-- Everything that may issue does. -/
def State.gripIssue (s : State) : State := issueAll 4097 s

/-! ### Starts, completions and stops (R303-R309) -/

/-- The head of the channel. -/
def State.gripHead (s : State) (c : Nat) : Nat × Nat := (s.fld .GRIP_CH_CFG c 15 12, s.pair .GRIP_CH_HEAD_LO .GRIP_CH_HEAD_HI c)

/-- Bytes of the longest completed prefix of a descriptor. -/
def prefixFrom : Nat → List (Nat × Nat) → Nat → Nat
  | 0, _, n => n
  | f + 1, ds, n =>
    match ds.find? (fun p => p.1 == n) with
    | some p => prefixFrom f ds (n + p.2)
    | none => n

/-- The registers of a stop show the reported descriptor (R309). -/
def State.gripReport (s : State) (c : Nat) : State :=
  match (s.grp c).stopped with
  | some d =>
    let s := s.setPair .GRIP_CH_DESC_LO .GRIP_CH_DESC_HI c d.addr
    (s.setReg .GRIP_CH_PREFIX c (BitVec.ofNat 32 (prefixFrom (d.done.length + 1) d.done 0))).setReg .GRIP_CH_MOVED c
      (BitVec.ofNat 32 (d.done.foldl (fun n p => n + p.2) 0))
  | none => s

/-- The channel stops with status `code` (R309): no operation issues any more; `err` for an error stop, which raises source
32 + c; `d` the descriptor to report. -/
def State.gripHalt (s : State) (c code : Nat) (err : Bool) (d : Option GripDesc) : State :=
  let x := s.grp c
  let d := match d with
    | some d => some d
    | none => x.descs.head?
  let s := s.setGrp c { x with nextAt := none, stopped := d }
  let s := s.setGripState c (if x.flight.isEmpty then 3 else 2)
  let s := ((s.setBit .GRIP_CH_STATUS c 3 err).setFld .GRIP_CH_STATUS c 15 8 code).gripReport c
  if err then s.raise (32 + c) else s

/-- The channel starts at its head (R303): by software (`lineage` none) or by an event. -/
def State.gripStart (s : State) (c : Nat) (lineage : Option Nat) : State :=
  let h := s.gripHead c
  let x := s.grp c
  let s := s.setGrp c { descs := [], nextAt := some h, lineage, nextId := x.nextId, flight := [], abandoned := x.abandoned }
  let s := ((s.setGripState c 1).setReg .GRIP_CH_DONE c 0).setReg .GRIP_CH_UNITS c 0
  let s := (s.setReg .GRIP_CH_PREFIX c 0).setReg .GRIP_CH_MOVED c 0
  let s := s.setPair .GRIP_CH_DESC_LO .GRIP_CH_DESC_HI c h.2
  if h.2 % 64 ≠ 0 then s.gripHalt c Code.align true none else s

/-- The channel is in IDLE: a pending start input is consumed and starts it (R303, R268). -/
def State.gripIdleNow (s : State) (c : Nat) : State :=
  let k := gripStartInput c
  match s.taskBit k with
  | some b =>
    if b.clearAt.isSome then s
    else (s.setTask k { b with clearAt := some s.now }).gripStart c (some b.lineage)
  | none => s

/-- The completion of the oldest descriptor (R305). -/
def State.descDone (s : State) (c : Nat) (d : GripDesc) : State :=
  let x := s.grp c
  let s := (s.setGrp c { x with descs := x.descs.tail }).countWrap .GRIP_CH_DONE c
  let s := if d.irq then s.raise (32 + c) else s
  let s := if d.evt && s.bit .GRIP_CH_EVOUT c 8 then
      let l := s.bit .GRIP_CH_EVOUT c 7
      let lin := match x.lineage with
        | some l => l + 1
        | none => 0
      s.emitEvent (if l then .region (c - 64) else .hub) (chanOf (c - 64) (s.fld .GRIP_CH_EVOUT c 6 0) l) s.now lin
    else s
  if d.last && s.gripState c == 1 then
    let y := s.grp c
    ((s.setGrp c { y with descs := [], nextAt := none }).setGripState c 0).gripIdleNow c
  else s

/-- A descriptor's operations have all completed. -/
def GripChannel.finished (x : GripChannel) (d : GripDesc) : Bool :=
  d.begun && decide (d.len ≤ d.issued) && !x.flight.any (fun o => o.id == d.id)

/-- The first descriptor that has not begun may begin: no barrier holds it, and its pace input is pending (R303, R304). -/
def State.beginNext (s : State) (c : Nat) : Option State :=
  let x := s.grp c
  match x.descs.find? (fun d => !d.begun) with
  | none => none
  | some d =>
    let k := gripPaceInput c
    let oldest := match x.descs.head? with
      | some e => e.id == d.id
      | none => false
    let paced := !d.pace || (match s.taskBit k with | some b => b.clearAt.isNone | none => false)
    if s.gripState c ≠ 1 ∨ (d.bar = true ∧ oldest = false) ∨ paced = false then none
    else
      let s := s.setGrp c { x with descs := x.descs.map (fun (e : GripDesc) => if e.id = d.id then { e with begun := true } else e) }
      some (if d.pace then
          match s.taskBit k with
          | some b => s.setTask k { b with clearAt := some s.now }
          | none => s
        else s)

/-- Descriptors complete and begin as far as they can; a drained channel is STOPPED. -/
def gripSettle : Nat → Nat → State → State
  | 0, _, s => s
  | f + 1, c, s =>
    let x := s.grp c
    let done := match x.descs.head? with
      | some d => if x.finished d then some d else none
      | none => none
    match done with
    | some d => if s.gripState c = 1 ∨ s.gripState c = 2 then gripSettle f c (s.descDone c d) else s
    | none =>
      match s.beginNext c with
      | some s' => gripSettle f c s'
      | none => if s.gripState c = 2 ∧ x.flight.isEmpty = true then (s.setGripState c 3).gripReport c else s

/-- The channel goes on as far as it can, and operations issue. -/
def State.gripGoOn (s : State) (c : Nat) : State := (gripSettle 16 c s).gripIssue

/-- GRIP_GO (R303). -/
def gripGoOp (c : Nat) (s : State) : State :=
  if s.gripIdle c then (s.gripStart c none).gripResult c Code.ok else s.gripResult c Code.busy

def execGripGo (who : Requester) (c : Nat) (s : State) : Result := .next (s.regAccess who .GRIP_CH_CTRL c (gripGoOp c))

/-- GRIP_STOP (R309). -/
def gripStopOp (c : Nat) (s : State) : State :=
  let s := s.gripResult c Code.ok
  if s.gripState c = 1 then s.gripHalt c Code.ok false none else s

def execGripStop (who : Requester) (c : Nat) (s : State) : Result := .next (s.regAccess who .GRIP_CH_CTRL c (gripStopOp c))

/-- GRIP_CLR (R309): a stopped channel enters IDLE. -/
def gripClrOp (c : Nat) (s : State) : State :=
  if s.gripState c = 3 then
    let x := s.grp c
    (((s.setGrp c { x with descs := [], nextAt := none }).setGripState c 0).gripResult c Code.ok).gripIdleNow c
  else s.gripResult c (if s.gripState c = 0 then Code.ok else Code.busy)

def execGripClr (who : Requester) (c : Nat) (s : State) : Result := .next (s.regAccess who .GRIP_CH_CTRL c (gripClrOp c))

/-- A write of `GRIP_CH_CTRL`: more than one bit is refused (R309). -/
def gripCtrlOp (c : Nat) (v : Word) (s : State) : State :=
  match bits v 2 0 with
  | 0 => s
  | 1 => gripGoOp c s
  | 2 => gripStopOp c s
  | 4 => gripClrOp c s
  | _ => s.gripResult c Code.range

/-! ### Attached memory errors (R311, R317) -/

/-- A DDR5 module address from a channel and its local address, and back (R316). -/
def moduleAddr (m a : Nat) : Nat := a / 256 * 2048 + m * 256 + a % 256
def ddrChannel (a : Nat) : Nat := a / 256 % 8

/-- The controller corrects, or cannot correct, an error at module address `a` (R317). -/
def State.eccError (s : State) (a : Nat) (ue : Bool) (device : Nat) : State :=
  let m := ddrChannel a
  let s := if ue then (s.count .MEM_UE_CNT m).raise (113 + 2 * m) else (s.count .MEM_CE_CNT m).raise (112 + 2 * m)
  if s.bit .MEM_ERR_INFO m 0 then s
  else
    let s := s.setReg .MEM_ERR_INFO m (BitVec.ofNat 32 (1 + 2 * b2n ue + device % 16 * 256))
    s.setPair .MEM_ERR_ADDR_LO .MEM_ERR_ADDR_HI m a

/-! ### Fetch and operations (R298-R302, R309-R311) -/

/-- The status of a failed read of `sp`, if the answer is a failure of it. -/
def answerError (sp : Nat) : GripAnswer → Option Nat
  | .unsupported => if sp = 0 then some Code.access else none
  | .poisoned => if sp = 0 then some Code.poison else none
  | .uncorrectable _ _ => if sp = 1 then some Code.poison else none
  | _ => none

/-- What a read of DDR5 at `a` reports to the controller. -/
def State.noteEcc (s : State) (sp a : Nat) : GripAnswer → State
  | .corrected l d => if sp = 1 then s.eccError (a + 64 * l) false d else s
  | .uncorrectable l d => if sp = 1 then (s.eccError (a + 64 * l) true d).raise 505 else s
  | _ => s

/-- The bytes a read of `n` bytes at `a` of space `sp` gives: host memory and pre-roll samples are the outside's. -/
def State.gripRead (s : State) (sp a n : Nat) (ans : GripAnswer) : List Byte :=
  let outside := sp == 0 || (sp == 3 && decide (0x2000000 ≤ a % 2 ^ 26))
  if outside then
    match ans with
    | .data bs => (List.range n).map (fun k => bs.getD k 0)
    | _ => List.replicate n 0
  else if sp = 4 ∧ (match spaceCluster 4 a with | some g => s.clusterMemLive (a - clusterBase g) | none => false) = false then List.replicate n 0
  else s.bytes (spaceMem sp) a n

/-- The 16-word blocks of a byte list. -/
def blockWords (bs : List Byte) (k : Nat) : List Word :=
  (List.range 16).map (fun j => BitVec.ofNat 32 (leNat ((bs.drop (64 * k + 4 * j)).take 4)))

/-- Bytes are written at `a` of space `sp`. -/
def State.gripWrite (s : State) (sp a : Nat) (bs : List Byte) : State :=
  if sp = 3 ∧ 0x1000000 ≤ a % 2 ^ 26 then
    (List.range (bs.length / 64)).foldl (fun s k => streamWriteOp (a / 2 ^ 26) ((a % 2 ^ 26 - 0x1000000) / 0x100000) (blockWords bs k) s) s
  else
    match spaceCluster sp a with
    | some g => s.clusterWrite g (a - clusterBase g) bs
    | none => s.writeBytes (spaceMem sp) a bs

/-- A stream port takes the blocks of an operation at once; otherwise it holds the write (R76). -/
def State.portOpen (s : State) (sp a n : Nat) : Bool :=
  let st := (a % 2 ^ 26 - 0x1000000) / 0x100000
  let r := a / 2 ^ 26
  if sp = 3 ∧ 0x1000000 ≤ a % 2 ^ 26 ∧ a % 2 ^ 26 < 0x1800000 then
    !s.streamOn r st || ((s.stream r st).held.isEmpty && decide (s.streamFill r st + n / 4 ≤ s.streamSize r st))
  else true

/-- DESCRIPTOR_FETCH (R302, R307): at most 4 ahead of the oldest that has not completed. -/
def descriptorFetchOp (c : Nat) (ans : GripAnswer) (s : State) : State :=
  let x := s.grp c
  match x.nextAt with
  | none => s
  | some (sp, a) =>
    if s.gripState c ≠ 1 ∨ 5 ≤ x.descs.length ∨ (sp = 0 ∧ s.inD3hot = true) then s
    else
      let at_ : GripDesc := { id := x.nextId, space := sp, addr := a, src := 0, dst := 0, len := 0, ssp := sp, dsp := sp, bar := false
                              pace := false, irq := false, evt := false, last := false }
      match lowestCode ((decide (s.regNat .GRIP_CH_BUDGET c ≤ x.count), Code.budget) :: (a % 64 != 0, Code.align) :: s.spaceErrors sp a 64 false) with
      | some code => s.gripHalt c code true (some at_)
      | none =>
        let s := s.noteEcc sp a ans
        match answerError sp ans with
        | some code => s.gripHalt c code true (some at_)
        | none =>
          let d := descOf x.nextId sp a (s.gripRead sp a 32 ans)
          match lowestCode (s.descErrors d.1 d.2.1 d.2.2 (s.gripHead c)) with
          | some code => s.gripHalt c code true (some d.1)
          | none =>
            let pass := !d.1.last && d.2.1 && d.2.2 == s.gripHead c
            let s := s.setGrp c { x with descs := x.descs ++ [d.1], nextId := x.nextId + 1, count := if pass then 0 else x.count + 1
                                         nextAt := if d.1.last then none else some d.2.2 }
            let s := State.forEach ((List.range 16).filter d.1.touchesRegion) (fun n s => s.wakeShallow n) s
            s.gripGoOn c

def execDescriptorFetch (dt c : Nat) (ans : GripAnswer) (s : State) : Result := .next (descriptorFetchOp c ans (s.pass dt))

/-- Operation `i` of the channel leaves flight. -/
def State.dropOp (s : State) (c i : Nat) : State :=
  let x := s.grp c
  s.setGrp c { x with flight := x.flight.eraseIdx i }

/-- The descriptor `id` and the one to report record a completed operation. -/
def State.noteDone (s : State) (c : Nat) (o : GripOp) : State :=
  let x := s.grp c
  let mark (d : GripDesc) : GripDesc := if d.id = o.id then { d with done := d.done ++ [(o.off, o.len)] } else d
  s.setGrp c { x with descs := x.descs.map mark, stopped := x.stopped.map mark }

/-- GRIP_OPERATION_COMPLETE (R298, R299, R309, R311): operation `i` in flight of the channel. An index past those in flight names
an abandoned read whose completion arrives; its data is discarded (R312). -/
def operationCompleteOp (c i : Nat) (ans : GripAnswer) (s : State) : State :=
  let x := s.grp c
  match x.flight[i]? with
  | none => if x.abandoned = 0 then s else (s.setGrp c { x with abandoned := x.abandoned - 1 }).gripIssue
  | some o =>
    match x.descs.find? (fun d => d.id == o.id) with
    | none => s.dropOp c i
    | some d =>
      if !s.portOpen d.dsp (d.dst + o.off) o.len then s
      else
        let s := s.noteEcc d.ssp (d.src + o.off) ans
        match answerError d.ssp ans with
        | some code =>
          let s := s.dropOp c i
          (if s.gripState c = 1 then s.gripHalt c code true (some d) else s).gripGoOn c
        | none =>
          let s := s.gripWrite d.dsp (d.dst + o.off) (s.gripRead d.ssp (d.src + o.off) o.len ans)
          (((s.dropOp c i).noteDone c o).countWrap .GRIP_CH_UNITS c (o.len / 64)).gripGoOn c

def execGripOperationComplete (dt c i : Nat) (ans : GripAnswer) (s : State) : Result := .next (operationCompleteOp c i ans (s.pass dt))

/-- The PCI Express completion timeout in cc (R310, R348). -/
def State.hostTimeout (s : State) : Nat :=
  match s.host.cto with
  | 1 => 50000
  | 2 => 10000000
  | 5 => 32000000
  | 6 => 64000000
  | _ => 1000000

/-- The port of the dailies of region `n` stops with `code` (R314). -/
def State.dailiesError (s : State) (n code : Nat) : State :=
  ((s.setBit .GRIP_DLY_STATUS n 1 true).setFld .GRIP_DLY_STATUS n 15 8 code).raise (96 + n)

/-- The dailies port of region `n` has a block to write and room for it (R314, R354). -/
def State.dailiesReady (s : State) (n : Nat) : Bool :=
  let sp := s.fld .GRIP_DLY_CFG n 3 0
  s.active && s.hasRegion n && s.bit .DLY_CTRL n 0 && !s.bit .GRIP_DLY_STATUS n 1 && !(s.dailies n).blocks.isEmpty &&
    decide (s.regNat .GRIP_DLY_WR n - s.regNat .GRIP_DLY_RD n < s.fld .GRIP_DLY_SIZE n 23 0) &&
    (if sp = 0 then !s.inD3hot else s.bit .MEM_STATUS 0 0 && !s.bit .MEM_CTRL 0 0)

/-- GRIP_TIMEOUT (R310, R314). An operation to an on-chip target times out after 16 µs and raises source 502; one to host memory
after the completion timeout. A stream port that holds the write lets no timer run. -/
def gripTimeoutOp (c : Nat) (p : GripPort) (s : State) : State :=
  let x := s.grp c
  match p with
  | .fetch =>
    match x.nextAt with
    | some (sp, a) =>
      if s.gripState c ≠ 1 ∨ (sp = 0 ∧ s.inD3hot = true) then s
      else
        let d : GripDesc := { id := x.nextId, space := sp, addr := a, src := 0, dst := 0, len := 0, ssp := sp, dsp := sp, bar := false
                              pace := false, irq := false, evt := false, last := false }
        let s := s.gripHalt c Code.timeout true (some d)
        if sp = 0 then s else s.raise 502
    | none => s
  | .op i =>
    match x.flight[i]? with
    | none => if x.abandoned = 0 then s else (s.setGrp c { x with abandoned := x.abandoned - 1 }).gripIssue
    | some o =>
      match x.descs.find? (fun d => d.id == o.id) with
      | none => s.dropOp c i
      | some d =>
        let host := d.ssp == 0
        if s.now < o.at_ + (if host then s.hostTimeout else 16000) ∨ s.portOpen d.dsp (d.dst + o.off) o.len = false ∨
            (host = true ∧ s.inD3hot = true) then s
        else
          let s := s.dropOp c i
          let s := if host then s else s.raise 502
          (if s.gripState c = 1 then s.gripHalt c Code.timeout true (some d) else s).gripGoOn c
  | .dailies =>
    if 64 ≤ c ∧ s.dailiesReady (c - 64) = true then
      let s := s.dailiesError (c - 64) Code.timeout
      if s.fld .GRIP_DLY_CFG (c - 64) 3 0 = 0 then s else s.raise 502
    else s

def execGripTimeout (dt c : Nat) (p : GripPort) (s : State) : Result := .next (gripTimeoutOp c p (s.pass dt))

/-! ### Dailies ports (R314) -/

/-- DAILIES_BLOCK_WRITE: the oldest block's write completes. -/
def dailiesWriteOp (n : Nat) (s : State) : State :=
  match (s.dailies n).blocks with
  | [] => s
  | b :: rest =>
    if !s.dailiesReady n then s
    else
      let w := s.regNat .GRIP_DLY_WR n
      let a := s.pair .GRIP_DLY_BASE_LO .GRIP_DLY_BASE_HI n + 64 * (w % s.fld .GRIP_DLY_SIZE n 23 0)
      let s := s.writeBytes (spaceMem (s.fld .GRIP_DLY_CFG n 3 0)) a b
      let s := (s.setDailies n { s.dailies n with blocks := rest }).countWrap .GRIP_DLY_WR n
      let s := if s.fld .GRIP_DLY_CFG n 3 0 = 0 then s.leaveL1 else s
      let k := s.fld .GRIP_DLY_CFG n 12 8
      if k ≠ 0 ∧ s.regNat .GRIP_DLY_WR n % 2 ^ (k - 1) = 0 then s.raise (96 + n) else s

def execDailiesBlockWrite (dt n : Nat) (s : State) : Result := .next (dailiesWriteOp n (s.pass dt))

/-- GRIP_DLY_RD_WRITE: a value above WR is refused. -/
def dlyRdOp (n : Nat) (v : Word) (s : State) : State :=
  if s.regNat .GRIP_DLY_WR n < v.toNat then s.gripResult (64 + n) Code.range
  else (s.setReg .GRIP_DLY_RD n v).gripResult (64 + n) Code.ok

def execGripDlyRdWrite (who : Requester) (n : Nat) (v : Word) (s : State) : Result := .next (s.regAccess who .GRIP_DLY_RD n (dlyRdOp n v))

/-! ### Cut, FLR and PERST# (R312, R309) -/

/-- The descriptor in progress of a channel. -/
def GripChannel.current (x : GripChannel) : Option GripDesc := x.descs.head?

/-- The channel is in the scope of a Cut (R312). -/
def State.gripInScope (s : State) (whole : Bool) (regions : List Nat) (clusters : List Nat) (c : Nat) : Bool :=
  whole || (decide (64 ≤ c) && regions.contains (c - 64)) ||
    (decide (c < 64) && (match (s.grp c).current with
      | some d => regions.any d.touchesRegion || clusters.any d.touchesCluster
      | none => false))

/-- A Cut or FLR stops channel `c` with CUT (R309, R312): its operations in flight are abandoned. -/
def State.cutGrip (s : State) (c : Nat) : State :=
  if s.gripState c = 1 ∨ s.gripState c = 2 then
    let x := s.grp c
    let s := s.setGrp c { x with nextAt := none, flight := [], abandoned := x.abandoned + x.flight.length, stopped := x.current, descs := [] }
    (((s.setGripState c 3).setBit .GRIP_CH_STATUS c 3 false).setFld .GRIP_CH_STATUS c 15 8 Code.cut).gripReport c
  else s

/-- A Grip operation addresses the memories of region `n` (R310). -/
def State.gripTouches (s : State) (n : Nat) : Bool := s.grip.ch.any (fun (e : Nat × GripChannel) => e.2.descs.any (·.touchesRegion n))

/-- A Grip operation addresses a space. -/
def State.gripUses (s : State) (sp : Nat) : Bool :=
  s.grip.ch.any (fun (e : Nat × GripChannel) => e.2.descs.any (fun (d : GripDesc) => d.begun && d.touchesSpace sp))

/-! ### RWL registers (R306, R308, R322, R323) -/

/-- A write of a register that only a stopped channel takes: LOCKED when it would change, the code of a bad value otherwise. -/
def gripRwlOp (c : Nat) (r : Reg) (mask v : Word) (bad : Option Nat) (s : State) : State :=
  if !s.gripIdle c then s.gripResult c (if v &&& mask = s.reg r c then Code.ok else Code.locked)
  else match bad with
    | some code => s.gripResult c code
    | none => (s.setReg r c (v &&& mask)).gripResult c Code.ok

/-- CH and L select no channel that the Grip channel can use (R266, R306). -/
def badSelect (c ch : Nat) (l : Bool) : Bool := l && (decide (c < 64) || decide (32 ≤ ch))

def gripEvinOp (c : Nat) (v : Word) (s : State) : State :=
  let bad := badSelect c (bits v 6 0) (bits v 7 7 == 1) || badSelect c (bits v 22 16) (bits v 23 23 == 1)
  gripRwlOp c .GRIP_CH_EVIN 0x01FF_01FF v (if bad then some Code.range else none) s

def gripCfgOp (c : Nat) (v : Word) (s : State) : State :=
  gripRwlOp c .GRIP_CH_CFG 0xFFFF v (if 2 < bits v 15 12 then some Code.range else none) s

def gripBudgetOp (c : Nat) (v : Word) (s : State) : State :=
  let b := bits v 24 0
  gripRwlOp c .GRIP_CH_BUDGET 0x01FF_FFFF v (if b = 0 ∨ 16777216 < b then some Code.range else none) s

def gripEvoutOp (c : Nat) (v : Word) (s : State) : State :=
  if badSelect c (bits v 6 0) (bits v 7 7 == 1) then s.gripResult c Code.range
  else (s.setReg .GRIP_CH_EVOUT c (v &&& 0x1FF)).gripResult c Code.ok

/-- Writes of the ring registers of region `n`, taken while its dailies writer is off. -/
def dlyRingOp (n : Nat) (r : Reg) (mask v : Word) (bad : Option Nat) (s : State) : State :=
  let c := 64 + n
  if s.bit .DLY_CTRL n 0 then s.gripResult c (if v &&& mask = s.reg r n then Code.ok else Code.locked)
  else match bad with
    | some code => s.gripResult c code
    | none => (s.setReg r n (v &&& mask)).gripResult c Code.ok

end Sys2Proof.Machine
end

