-- ==== Sys2Proof/Machine/MemoryTest.lean ====
section
/-!
DEFINITION. Attached DDR5 (R315-R318) and its march self-test (R319, R320).
-/

namespace Sys2Proof.Machine

/-- `MEM_STATUS.LAST_RESULT`. -/
def State.memResult (s : State) (code : Nat) : State := s.setFld .MEM_STATUS 0 15 8 code

/-- A channel that trained: its DIMMs are present and have ECC (R315). -/
def dimmTrained (d : DimmChannel) : Bool := d.ecc && decide (1 ≤ d.ndimm) && decide (d.ndimm ≤ 2) && decide (1 ≤ d.gb)

/-- DDR5_TRAINING_DONE (R315, R316): `speed` is the fastest grade that every DIMM supports (1-4). -/
def trainingOp (speed : Nat) (chs : List DimmChannel) (s : State) : State :=
  if s.bit .MEM_STATUS 0 0 then s
  else
    let cs := (List.range 8).map (fun m => chs.getD m { ndimm := 0, ecc := false, threeDs := false, gb := 0 })
    let s := State.forEach cs.zipIdx (fun (p : DimmChannel × Nat) s =>
      s.setReg .MEM_CH_STATUS p.2 (BitVec.ofNat 32 (p.1.ndimm % 4 + 4 * b2n (dimmTrained p.1) + 8 * b2n p.1.threeDs + p.1.gb % 65536 * 65536))) s
    let caps := cs.map (fun d => if dimmTrained d then d.gb * 2 ^ 30 else 0)
    let least := caps.foldl min (2 ^ 39)
    let err := cs.any (fun d => !dimmTrained d)
    let mismatch := !err && caps.any (fun c => least < c)
    let sp := if cs.any (fun d => decide (2 ≤ d.ndimm)) then min speed 2 else speed
    let s := (s.setPair .MEM_CAP_LO .MEM_CAP_HI 0 (8 * least)).setFld .MEM_STATUS 0 6 4 (max 1 sp)
    ((s.setBit .MEM_STATUS 0 0 true).setBit .MEM_STATUS 0 1 mismatch).setBit .MEM_STATUS 0 2 err

def execDdr5TrainingDone (dt speed : Nat) (chs : List DimmChannel) (s : State) : Result := .next (trainingOp speed chs (s.pass dt))

/-- SCRUB_READ (R317): a line of channel `m`, at a channel-local address. -/
def scrubOp (m a : Nat) (r : EccResult) (s : State) : State :=
  if !s.bit .MEM_SCRUB 0 0 || !s.bit .MEM_STATUS 0 0 || !s.bit .MEM_CH_STATUS m 2 then s
  else match r with
    | .clean => s
    | .corrected d => s.eccError (moduleAddr m a) false d
    | .uncorrectable d => s.eccError (moduleAddr m a) true d

def execScrubRead (dt m a : Nat) (r : EccResult) (s : State) : Result := .next (scrubOp m a r (s.pass dt))

/-- Some user of DDR5 is at work (R318). -/
def State.memInUse (s : State) : Bool :=
  s.gripUses 1 ||
    (List.range 16).any (fun n => s.tkState n == 1 || s.tkState n == 2 || (s.bit .DLY_CTRL n 0 && s.fld .GRIP_DLY_CFG n 3 0 == 1))

/-- MEM_OFFLINE_WRITE: a write of `MEM_CTRL` (R318). -/
def memCtrlOp (v : Word) (s : State) : State :=
  if bits v 0 0 = 1 ∧ s.bit .MEM_CTRL 0 0 = false ∧ s.memInUse = true then s.memResult Code.busy
  else (s.setReg .MEM_CTRL 0 (v &&& 1)).memResult Code.ok

def execMemOfflineWrite (who : Requester) (v : Word) (s : State) : Result := .next (s.regAccess who .MEM_CTRL 0 (memCtrlOp v))

/-- A write of `MEM_SCRUB` (R324). -/
def memScrubOp (v : Word) (s : State) : State :=
  if bits v 15 8 = 0 then s.memResult Code.range else (s.setReg .MEM_SCRUB 0 (v &&& 0xFF01)).memResult Code.ok

/-! ### March self-test (R319, R320) -/

/-- The run's sequence (R113, R319). -/
def State.mtCfg (s : State) (m : Nat) : SweepCfg :=
  { mode := s.fld .MT_CTRL m 2 0, zero := s.bit .MT_CTRL m 5, wb := s.fld .MT_CTRL m 10 6, dirs := s.fld .MT_CTRL m 19 12
    n1 := s.fld .MT_N1 m 23 0 + 1, n2 := s.fld .MT_N2 m 2 0 + 1, poly := s.fld .MT_POLY m 23 0, seed := s.fld .MT_SEED m 23 0 }

/-- The value of an ordinal pair: WIDE = 1. -/
def State.mtValue (s : State) (m : Nat) (xj : Nat × Nat) : Nat :=
  (s.pair .MT_BASE_LO .MT_BASE_HI m + xj.1 * s.pair .MT_STEP_LO .MT_STEP_HI m + xj.2 * s.pair .MT_STEP2_LO .MT_STEP2_HI m) % 2 ^ 48

/-- Lines of a unit. -/
def State.mtLines (s : State) (m : Nat) : Nat := 2 ^ s.fld .MT_CTRL m 23 20

/-- Steps `k` to `k + n - 1` with the LFSR at `v`: each step's element and unit index. -/
def State.mtSteps (s : State) (m : Nat) : Nat → Nat → Nat → List (Nat × Nat)
  | 0, _, _ => []
  | n + 1, k, v =>
    let c := s.mtCfg m
    let xj := c.ordinal k v
    (if c.mode = 5 then xj.2 else 0, s.mtValue m xj) ::
      s.mtSteps m n (k + 1) (if c.zero && k == 0 then v else c.lfsrNext v)

/-- The first `n` steps of the run. -/
def State.mtRun (s : State) (m n : Nat) : List (Nat × Nat) := s.mtSteps m n 0 ((s.mtCfg m).seed % 2 ^ (s.mtCfg m).wb)

/-- The capacity of channel `m` in bytes. -/
def State.channelBytes (s : State) (m : Nat) : Nat := s.fld .MEM_CH_STATUS m 31 16 * 2 ^ 30

/-- `MT_STATUS.LAST_RESULT`. -/
def State.mtResult (s : State) (m code : Nat) : State := s.setFld .MT_STATUS m 15 8 code

/-- The run is in progress. -/
def State.mtRuns (s : State) (m : Nat) : Bool := s.fld .MT_STATUS m 1 0 == 1

/-- MT_START (R319). -/
def mtStartOp (m : Nat) (s : State) : State :=
  let c := s.mtCfg m
  let beyond := (s.mtRun m c.length).any (fun p => decide (s.channelBytes m < (p.2 + 1) * (64 * s.mtLines m)))
  if !s.bit .MEM_CTRL 0 0 || s.mtRuns m then s.mtResult m Code.busy
  else if !c.valid || decide (12 < s.fld .MT_CTRL m 23 20) || beyond then s.mtResult m Code.range
  else (((s.setFld .MT_STATUS m 2 0 1).setReg .MT_FAIL_CNT m 0).setReg .MT_PROG m 0).mtResult m Code.ok

def execMtStart (who : Requester) (m : Nat) (s : State) : Result := .next (s.regAccess who .MT_CMD m (mtStartOp m))

/-- The 64-bit word that operation `op` writes at channel-local address `a` (R320). -/
def State.mtWord (s : State) (m op a : Nat) : BitVec 64 :=
  let p := BitVec.ofNat 64 (s.pair .MT_PAT_LO .MT_PAT_HI m)
  let p := if s.bit .MT_CTRL m 24 then p ^^^ BitVec.ofNat 64 (a / 8) else p
  if op % 2 = 1 then ~~~p else p

/-- The operations of element `e`, in order. -/
def State.mtOps (s : State) (m e : Nat) : List Nat :=
  (List.range (s.fld .MT_ELEM (8 * m + e) 1 0 + 1)).map (fun i => s.fld .MT_ELEM (8 * m + e) (2 * i + 3) (2 * i + 2))

/-- The writes of element `e` to the line at channel-local address `a`. -/
def State.marchLine (s : State) (m e a : Nat) : State :=
  State.forEach ((s.mtOps m e).filter (fun o => decide (2 ≤ o))) (fun o s =>
    State.forEach (List.range 8) (fun w s => s.writeLe 0 (moduleAddr m (a + 8 * w)) 8 (s.mtWord m o (a + 8 * w)).toNat) s) s

/-- The lines of a unit in the order in which element `e` visits them. -/
def State.mtOrder (s : State) (m e : Nat) : List Nat :=
  let l := List.range (s.mtLines m)
  if (s.mtCfg m).mode = 5 ∧ bitOf (s.mtCfg m).dirs e = true then l.reverse else l

/-- What the run has written and found (R320). -/
def State.marchApply (s : State) (m : Nat) (p : MarchOutcome) : State :=
  let step (lines : Option Nat) (q : Nat × Nat) (s : State) : State :=
    let order := s.mtOrder m q.1
    State.forEach (match lines with | some n => order.take n | none => order) (fun l s => s.marchLine m q.1 ((q.2 * s.mtLines m + l) * 64)) s
  let run := s.mtRun m (min (p.steps + 1) (s.mtCfg m).length)
  let s := State.forEach (run.take p.steps) (step none) s
  let s := State.forEach (run.drop p.steps) (step (some p.lines)) s
  let s := State.forEach p.corrected (fun (e : Nat × Nat) s => s.eccError (moduleAddr m e.1) false e.2) s
  let s := State.forEach p.uncorrectable (fun (e : Nat × Nat) s => s.eccError (moduleAddr m e.1) true e.2) s
  let s := s.count .MT_FAIL_CNT m p.mismatches
  let s := if p.mismatches = 0 then s else s.setPair .MT_FAIL_ADDR_LO .MT_FAIL_ADDR_HI m p.firstFail
  s.setReg .MT_PROG m (BitVec.ofNat 32 p.steps)

/-- The run ends (R320). -/
def State.marchEnds (s : State) (m : Nat) (p : MarchOutcome) : State :=
  let s := (s.marchApply m p).setFld .MT_STATUS m 1 0 2
  (s.setBit .MT_STATUS m 2 (decide (p.mismatches ≠ 0) || !p.uncorrectable.isEmpty)).raise (440 + m)

/-- MT_ABORT (R324). -/
def mtAbortOp (m : Nat) (p : MarchOutcome) (s : State) : State :=
  if s.mtRuns m then (s.marchEnds m { p with steps := min p.steps (s.mtCfg m).length }).mtResult m Code.cut else s.mtResult m Code.ok

def execMtAbort (who : Requester) (m : Nat) (p : MarchOutcome) (s : State) : Result := .next (s.regAccess who .MT_CMD m (mtAbortOp m p))

/-- MARCH_RUN_END: every step is done, or STOPF ended the run at its first failure. -/
def marchEndOp (m : Nat) (p : MarchOutcome) (s : State) : State :=
  let failed := decide (p.mismatches ≠ 0) || !p.uncorrectable.isEmpty
  if !s.mtRuns m then s
  else if s.bit .MT_CTRL m 25 && failed then s.marchEnds m { p with steps := min p.steps (s.mtCfg m).length }
  else s.marchEnds m { p with steps := (s.mtCfg m).length, lines := 0 }

def execMarchRunEnd (dt m : Nat) (p : MarchOutcome) (s : State) : Result := .next (marchEndOp m p (s.pass dt))

/-- A write of an RWL register of a march engine: taken in IDLE and DONE. -/
def mtRwlOp (m : Nat) (r : Reg) (i : Nat) (mask v : Word) (s : State) : State :=
  if s.mtRuns m then s.mtResult m (if v &&& mask = s.reg r i then Code.ok else Code.locked)
  else (s.setReg r i (v &&& mask)).mtResult m Code.ok

end Sys2Proof.Machine
end

