-- ==== Sys2Proof/Machine/Delivery.lean ====
section
/-!
DEFINITION. What reaches the consumers of events (R268) and what the TIO lines bring in (R272, R201, R206).
-/

namespace Sys2Proof.Machine

/-- An effect that belongs to the next cc, made now. -/
def State.nextCc (s : State) (op : State → State) : State := { op { s with now := s.now + 1 } with now := s.now }

/-- The consumer of an input takes a delivered event (R205, R270, R303), or remembers it. -/
def State.consume (s : State) (k : Nat) (lineage : Nat) : EventInput → State
  | .script g e l =>
    -- R112: an event that sets the latch a BRE found clear, in the cc between its decision point and its splice, is late
    let s := s.setTask k { lineage }
    match (s.eng g.val e.val).watch with
    | some (l', until_) => if l' = l.val ∧ s.now ≤ until_ then s.engineLate g.val e.val else s
    | none => s
  | .kernel g => (s.setTask k { lineage }).setKrn g.val { s.krn! g.val with latchedAt := s.now }
  | .take n i =>
    (s.setTask k { lineage, clearAt := some (s.now + 1) }).nextCc
      (if s.bit .TK_EVIN (2 * n.val + i.val) 9 then tkForceOp n.val else tkArmOp n.val)
  | .pacingTimer p => (s.setTask k { lineage, clearAt := some (s.now + 1) }).ptBegin p.val (s.now + 2)
  | .gripStart c =>
    let s := s.setTask k { lineage }
    if s.gripState c.val = 0 then (s.gripIdleNow c.val).gripGoOn c.val else s
  | .gripPace c => (s.setTask k { lineage }).gripGoOn c.val
  | .tio l =>
    let w := s.fld .TIO_CFG l.val 24 17
    let s := { s with router := { s.router with tioEnd := tset s.router.tioEnd l.val (s.now + 1 + w) } }
    s.emit (.tioPulse l.val (s.now + 1) w)

/-- A TIO line is no task input: it has no pending bit. -/
def isTio : EventInput → Bool
  | .tio _ => true
  | _ => false

/-- EVENT_DELIVERY (R267, R268, R272, R273): the event of the input's channel that arrives in this cc sets the pending bit, or is
lost to one that was set before this cc. -/
def eventDeliveryOp (i : EventInput) (s : State) : State :=
  let k := inputKey i
  match s.inputChan i with
  | none => s
  | some c =>
    match s.arriving (inputIsland i) c with
    | none => s
    | some w =>
      if tfind s.router.delivered k = some s.now ∨ s.islandHeld (inputIsland i) = true ∨ s.islandAwake (inputIsland i) = false then s
      else
        let s := { s with router := { s.router with delivered := tset s.router.delivered k s.now } }
        if !isTio i && (s.taskBit k).isSome then s.countLost c else s.consume k w.lineage i

def execEventDelivery (dt : Nat) (i : EventInput) (s : State) : Result := .next (eventDeliveryOp i (s.pass dt))

/-- TIO_INPUT_EDGE (R272, R201, R206): line `l` rises in slot `r` of this cc and stays high for `high` slots. -/
def tioInputEdgeOp (l r high : Nat) (s : State) : State :=
  if !s.active || s.bit .TIO_CFG l 0 then s
  else
    let p := 8 * s.ftg + r
    let s := if s.bit .TIO_CFG l 1 then s.emitEvent .hub (s.fld .TIO_CFG l 8 2) (s.now + 8) 0 else s
    if !s.epochRun then s
    else
      let k := tioKey l
      let s := State.forEach ((List.range 16).filter (fun n => s.regionAwake n && !(s.termsOf n k).isEmpty)) (fun n s =>
        let s := s.addInterval n { src := k, a := p, c := some (p + max 1 high) }
        State.forEach (s.termsOf n k) (fun m s => s.sysStamp 1 (64 * n + m) (256 * p) (s.ftg + 16) false) s) s
      s.sysStamp 3 l (256 * p) (s.ftg + 8) false

def execTioInputEdge (dt l r high : Nat) (s : State) : Result := .next (tioInputEdgeOp l r high (s.pass dt))

end Sys2Proof.Machine
end

