-- ==== Sys2Proof/Machine/Links.lean ====
section
/-!
DEFINITION. The Cihisin links (R326-R344): states and partners, superframes with their CRC, the real-time class, clapper words
and the bulk class.
-/

namespace Sys2Proof.Machine

/-! ### States and interrupts (R330) -/

/-- `LNK_STATUS.STATE`: 0 OFF, 1 TRAIN, 2 UP, 3 RT. -/
def State.linkState (s : State) (l : Nat) : Nat := s.fld .LNK_STATUS l 1 0

/-- `LNK_STATUS.LAST_RESULT`. -/
def State.linkResult (s : State) (l code : Nat) : State := s.setFld .LNK_STATUS l 23 16 code

/-- A cause of source 128 + l (R343): 0 STATE, 1 RT, 2 MSG_RX, 3 MSG_TX, 4 CRC. -/
def State.linkCause (s : State) (l b : Nat) : State :=
  let s := s.setBit .LNK_IRQ_CAUSE l b true
  if s.bit .LNK_IRQ_EN l b then s.raise (128 + l) else s

/-- The link enters a state: `LNK_UP` and `LNK_RTMASK` follow, and a change is a cause (R330). -/
def State.setLinkState (s : State) (l st : Nat) : State :=
  if s.linkState l = st then s
  else
    let s := s.setFld .LNK_STATUS l 1 0 st
    let s := (s.setBit .LNK_UP 0 l (2 ≤ st)).setBit .LNK_RTMASK 0 l (st == 3)
    s.linkCause l 0

/-! ### The receive map (R336, R337) -/

/-- The received slots, from 0, that an enabled map entry assigns to link `l` and an entry satisfying `p`. -/
def State.rxSlots (s : State) (l : Nat) (p : Nat → Bool) : List Nat :=
  (List.range 256).filter (fun r => s.bit .LNK_RXMAP r 15 && s.fld .LNK_RXMAP r 4 0 == l && p (s.fld .LNK_RXMAP r 12 5))

/-- A word is read in this cc as received slot 1024 + r. -/
def State.rxWord (s : State) (r : Nat) (w : BitVec 8) : State :=
  let new : HubWord := { slot := 1024 + r, word := w, h := s.now, c := s.now }
  { s with fab := { s.fab with
      linkRx := (s.fab.linkRx.filter (fun (p : HubWord) => decide (s.now ≤ p.h) && !(p.slot == 1024 + r && p.h == s.now))) ++ [new] } }

/-- Substitute words (R336): VALID 0, LATE 1. -/
def State.rxSubstitute (s : State) (l : Nat) (p : Nat → Bool) : State := State.forEach (s.rxSlots l p) (fun r s => s.rxWord r 8) s

/-- HOPS of received slot `r` from the partner's last MAP (R337). -/
def State.setHops (s : State) (r : Nat) : State :=
  match (s.link (s.fld .LNK_RXMAP r 4 0)).hops[s.fld .LNK_RXMAP r 12 5]? with
  | some h => s.setFld .LNK_RXMAP r 14 13 (min 3 (h + 1))
  | none => s.setFld .LNK_RXMAP r 14 13 0

/-- A write of `LNK_RXMAP`. -/
def lnkRxmapOp (r : Nat) (v : Word) (s : State) : State := (s.setReg .LNK_RXMAP r (v &&& 0x9FFF)).setHops r

/-! ### Leaving and entering states (R330, R331, R334) -/

/-- LAT from DCC and XLAT while the class is not locked, and LAT_ERR (R332). -/
def State.setLat (s : State) (l : Nat) : State :=
  if s.linkState l = 3 ∨ (s.link l).measured = false then s
  else
    let lat := 14 + s.fld .LNK_LAT l 13 8 + s.fld .LNK_CTRL l 11 8
    (s.setFld .LNK_LAT l 5 0 (min 63 lat)).setBit .LNK_STATUS l 2 (31 < lat)

/-- The real-time class of a link in RT unlocks and the link goes to `st` (R334). -/
def State.unlockClass (s : State) (l : Nat) (sfn : Bool) (st : Nat) : State :=
  if s.linkState l ≠ 3 then s
  else
    let s := s.setBit .LNK_STATUS l 5 true
    let s := if sfn then s.setBit .LNK_STATUS l 4 true else s
    let s := (s.setLinkState l st).linkCause l 1
    let s := s.setLink l { s.link l with good := 0 }
    (s.rxSubstitute l (fun _ => true)).setLat l

/-- The link leaves UP or RT for TRAIN or OFF: the partner is no longer known and the bulk class begins anew
(notes/assumptions/67.md). -/
def State.linkDrop (s : State) (l st : Nat) : State :=
  let s := (s.unlockClass l false st).setLinkState l st
  let x := s.link l
  let s := s.setLink l { x with locked := false, measured := false, pingOut := false, good := 0, errs := [], mgmt := [], msgLeft := x.msg,
                                unacked := [], resend := none, nextSeq := 0, ackAt := s.now, rxNext := 0, rxLen := 0 }
  s.setBit .LNK_PARTNER l 16 false

/-- A management message waits to be sent (R341). -/
def State.queueMgmt (s : State) (l : Nat) (m : List Nat) : State :=
  let x := s.link l
  let bs := Config.management m
  if bs.isEmpty then s else s.setLink l { x with mgmt := x.mgmt ++ [(false, bs)] }

/-- A write of `LNK_CTRL` (R330-R332, R343). -/
def lnkCtrlOp (l : Nat) (v : Word) (s : State) : State :=
  let was := s.bit .LNK_CTRL l 0
  let locked := s.linkState l == 3 && bits v 11 8 != s.fld .LNK_CTRL l 11 8
  let s := (s.setFld .LNK_CTRL l 2 0 (bits v 2 0)).linkResult l (if locked then Code.locked else Code.ok)
  let s := if s.linkState l = 3 then s else (s.setFld .LNK_CTRL l 11 8 (bits v 11 8)).setLat l
  let on := bits v 0 0 == 1
  if on && !was then (s.setLinkState l 1).setLink l { s.link l with helloAt := s.now, locked := false }
  else if was && !on then
    let s := if 2 ≤ s.linkState l then s.emit (.linkBye l) else s
    s.linkDrop l 0
  else s

def execLinkEnable (who : Requester) (l : Nat) (v : Word) (s : State) : Result :=
  .next (s.regAccess who .LNK_CTRL l (lnkCtrlOp l (v ||| 1)))

def execLinkDisable (who : Requester) (l : Nat) (v : Word) (s : State) : Result :=
  .next (s.regAccess who .LNK_CTRL l (lnkCtrlOp l (v &&& ~~~1)))

/-- LANE_LOSS (R326). -/
def laneLossOp (l : Nat) (s : State) : State :=
  if s.linkState l = 0 then s else (s.linkDrop l 1).setBit .LNK_STATUS l 8 true

def execLaneLoss (dt l : Nat) (s : State) : Result := .next (laneLossOp l (s.pass dt))

/-- LANE_BLOCK_LOCK (R326, R330). -/
def laneLockOp (l : Nat) (s : State) : State := if s.linkState l = 1 then s.setLink l { s.link l with locked := true } else s

def execLaneBlockLock (dt l : Nat) (s : State) : Result := .next (laneLockOp l (s.pass dt))

/-- The link can exchange superframes. -/
def State.linkCarries (s : State) (l : Nat) : Bool := decide (2 ≤ s.linkState l) || (s.linkState l == 1 && (s.link l).locked)

/-- HELLO_SEND (R331): every 1 ms; in TRAIN once the lanes are locked, since UP needs a HELLO (notes/assumptions/66.md). -/
def helloSendOp (l : Nat) (s : State) : State :=
  let x := s.link l
  if !s.linkCarries l || decide (s.now < x.helloAt) then s
  else
    let run := s.clap.state == .running
    let s := s.setLink l { x with helloAt := s.now + 10 ^ 6 }
    (s.queueMgmt l [0, s.fld .LNK_MODID 0 5 0, l, Config.serial.toNat, b2n run]).emit (.linkHello l (s.fld .LNK_MODID 0 5 0) Config.serial run)

def execHelloSend (dt l : Nat) (s : State) : Result := .next (helloSendOp l (s.pass dt))

/-- HELLO_RECEIVE (R331, R332): the partner is recorded, and a link in TRAIN enters UP. -/
def helloReceiveOp (l : Nat) (h : LinkHello) (s : State) : State :=
  if !s.linkCarries l then s
  else
    let s := s.setReg .LNK_PARTNER l (BitVec.ofNat 32 (h.mod.toNat + h.link.val * 2 ^ 8 + 2 ^ 16))
    let s := s.setReg .LNK_PSERIAL l (h.serial.setWidth 32)
    let s := s.setBit .LNK_STATUS l 3 (h.mod.toNat == s.fld .LNK_MODID 0 5 0)
    let s := s.setLink l { s.link l with helloRx := s.now }
    if s.linkState l = 1 then (s.setLink l { s.link l with pingAt := s.now }).setLinkState l 2 else s

def execHelloReceive (dt l : Nat) (h : LinkHello) (s : State) : Result := .next (helloReceiveOp l h (s.pass dt))

/-- HELLO_TIMEOUT (R331). -/
def helloTimeoutOp (l : Nat) (s : State) : State :=
  if 2 ≤ s.linkState l ∧ (s.link l).helloRx + 3 * 10 ^ 6 ≤ s.now then s.linkDrop l 1 else s

def execHelloTimeout (dt l : Nat) (s : State) : Result := .next (helloTimeoutOp l (s.pass dt))

/-- BYE_RECEIVE (R331). -/
def byeReceiveOp (l : Nat) (s : State) : State := if 2 ≤ s.linkState l then s.linkDrop l 1 else s

def execByeReceive (dt l : Nat) (s : State) : Result := .next (byeReceiveOp l (s.pass dt))

/-- PING_SEND (R332): on entry to UP and every 2^20 cc. -/
def pingSendOp (l : Nat) (s : State) : State :=
  let x := s.link l
  if s.linkState l < 2 ∨ s.now < x.pingAt then s
  else ((s.setLink l { x with pingOut := true, pingAt := s.now + 2 ^ 20 }).queueMgmt l [1]).emit (.linkPing l)

def execPingSend (dt l : Nat) (s : State) : Result := .next (pingSendOp l (s.pass dt))

/-- DCC from the round-trip flight in ps: ⌈RT / 2 + 0.125 cc⌉ (R332). -/
def dccOf (rt : Nat) : Nat := (rt + 250 + 1999) / 2000

/-- PONG_RECEIVE (R332): a measured delay; a changed DCC unlocks the class. -/
def pongReceiveOp (l : Nat) (rt : BitVec 24) (s : State) : State :=
  let x := s.link l
  if s.linkState l < 2 ∨ x.pingOut = false then s
  else
    let dcc := min 63 (dccOf rt.toNat)
    let s := (s.setLink l { x with pingOut := false, measured := true }).setFld .LNK_RT l 23 0 rt.toNat
    let s := if dcc = s.fld .LNK_LAT l 13 8 then s else s.unlockClass l false 2
    (s.setFld .LNK_LAT l 13 8 dcc).setLat l

def execPongReceive (dt l : Nat) (rt : BitVec 24) (s : State) : Result := .next (pongReceiveOp l rt (s.pass dt))

/-- MAP_RECEIVE (R337): the partner's hop counts by entry. -/
def mapReceiveOp (l : Nat) (hops : List Nat) (s : State) : State :=
  if s.linkState l < 2 then s
  else
    let s := s.setLink l { s.link l with hops }
    State.forEach ((List.range 256).filter (fun r => s.fld .LNK_RXMAP r 4 0 == l)) (fun r s => s.setHops r) s

def execMapReceive (dt l : Nat) (hops : List (Fin 4)) (s : State) : Result :=
  .next (mapReceiveOp l (hops.map Fin.val) (s.pass dt))

/-! ### Superframes (R327-R329) -/

/-- The grid of the links (R327): footage while an epoch runs, otherwise the free counter. -/
def State.linkGrid (s : State) : Nat := if s.epochRun then s.ftg else s.now

/-- One bit of the CRC of R329. -/
def crcBit (c : Nat) : Nat := if 32768 ≤ c then (c * 2 % 65536) ^^^ 0x1021 else c * 2

/-- One byte, most significant bit first. -/
def crcByte (c : Nat) (b : Byte) : Nat := crcBit (crcBit (crcBit (crcBit (crcBit (crcBit (crcBit (crcBit (c ^^^ (b.toNat * 256)))))))))

/-- CRC-16 with x^16 + x^12 + x^5 + 1 from 0xFFFF (R329). -/
def crc16 (bs : List Byte) : Nat := bs.foldl crcByte 0xFFFF

/-- `n` bytes, filled with zeros. -/
def padTo (n : Nat) (bs : List Byte) : List Byte := (List.range n).map (fun k => bs.getD k 0)

/-- What a superframe carries (R328). -/
structure SuperframeFields where
  mod : Nat
  sfn : Nat
  run : Bool
  clap : Bool := false
  chk : Bool := false
  dly : Nat := 0
  bseq : Nat
  back : Nat
  bulk : Option BulkFrame := none
  dec : List Byte
  evt : List Byte
  ts : List (Nat × Nat)
  deriving DecidableEq, Repr

/-- A timestamp entry: CH and V, the low 32 bits, and a reserved byte (R339). -/
def tsBytes : Option (Nat × Nat) → List Byte
  | some (ch, ts) => BitVec.ofNat 8 (ch % 64 + 64) :: leBytes 4 ts ++ [0]
  | none => leBytes 6 0

/-- The 124 bytes of a superframe (R328). -/
def SuperframeFields.bytes (f : SuperframeFields) : List Byte :=
  let data := padTo 12 (match f.bulk with | some b => b.bytes | none => [])
  let b12 := match f.bulk with
    | some b => b.bytes.length + 16 * b2n b.som + 32 * b2n b.eom + 64 * b2n b.mgmt
    | none => 0
  let body := leBytes 1 (f.mod * 4) ++ leBytes 6 f.sfn ++ leBytes 1 (1 + 4 * b2n f.run + 8 * b2n f.clap + 16 * b2n f.chk) ++
    leBytes 2 f.bseq ++ leBytes 2 f.back ++ leBytes 1 b12 ++ leBytes 1 (f.dly % 64) ++ leBytes 1 2 ++ data.take 6 ++ leBytes 1 3 ++
    data.drop 6 ++ padTo 64 f.dec ++ padTo 16 f.evt ++ tsBytes f.ts[0]? ++ tsBytes f.ts[1]? ++ leBytes 2 0
  body ++ leBytes 2 (crc16 body)

/-! ### Assembly (R335, R338-R341) -/

/-- Entry `k` of the transmit map of link `l`: its slot, if enabled. -/
def State.txSlot (s : State) (l k : Nat) : Option Nat :=
  let lo := 16 * (k % 2)
  if s.bit .LNK_TXMAP (128 * l + k / 2) (lo + 15) then some (s.fld .LNK_TXMAP (128 * l + k / 2) (lo + 10) lo) else none

/-- The words of `slot` whose first superframe of the entry's phase begins in this cc (R335). -/
def State.txWords (s : State) (slot : Nat) : List (BitVec 8) :=
  (s.lnk.reads.filter (fun (p : Nat × BitVec 8 × Nat) => p.1 == slot && decide (p.2.2 + 2 ≤ s.now) && decide (s.now < p.2.2 + 34))).map (·.2.1)

/-- The decision byte of entry `k`, with the effects of sending it (R335, R337). -/
def State.txDecision (s : State) (l k : Nat) : Byte × State :=
  match s.txSlot l k with
  | none => (0, s)
  | some slot =>
    if 1024 ≤ slot ∧ s.fld .LNK_RXMAP (slot - 1024) 14 13 = 3 then (0, s.setBit .LNK_STATUS l 7 true)
    else
      let ws := s.txWords slot
      (ws.getLastD 0, if ws.length ≤ 1 then s else s.count .LNK_TXOVWR_CNT l (ws.length - 1))

/-- The event byte of entry `i`, with the effects of sending it (R338). -/
def State.txEvent (s : State) (l i : Nat) : Byte × State :=
  let lo := 8 * (i % 4)
  if !s.bit .LNK_EVTX (4 * l + i / 4) (lo + 7) then (0, s)
  else
    let ch := s.fld .LNK_EVTX (4 * l + i / 4) (lo + 6) lo
    match s.router.carried.filter (fun (w : EventWord) => w.chan == ch && decide (s.now ≤ w.cc + 9) && decide (w.cc + 2 ≤ s.now)) with
    | [] => (0, s)
    | w :: ws =>
      let lin := ws.foldl (fun m (v : EventWord) => max m v.lineage) w.lineage
      (BitVec.ofNat 8 (1 + 2 * (lin % 8) + 16 * (w.cc + 9 - s.now)), if ws.isEmpty then s else s.count .LNK_EV_MERGE l ws.length)

/-- Bytes of a run of entries. -/
def txRun (f : State → Nat → Byte × State) : List Nat → State → List Byte × State
  | [], s => ([], s)
  | k :: ks, s =>
    let r := f s k
    let t := txRun f ks r.2
    (r.1 :: t.1, t.2)

/-- Timestamps in the order of their arrival at the hub, those of one cc by channel (R339). -/
def insertStamp (k : LinkStamp) : List LinkStamp → List LinkStamp
  | [] => [k]
  | y :: ys => if k.h < y.h ∨ (k.h = y.h ∧ k.ch < y.ch) then k :: y :: ys else y :: insertStamp k ys

/-- Timestamps that reached the hub before this cc join the queue of 8, or are dropped. -/
def admitStamps : List LinkStamp → List LinkStamp → Nat → List LinkStamp × Nat
  | [], q, d => (q, d)
  | k :: ks, q, d => if q.length < 8 then admitStamps ks (q ++ [k]) d else admitStamps ks q (d + 1)

/-- The timestamps of a superframe (R339). -/
def State.txStamps (s : State) (l : Nat) : List (Nat × Nat) × State :=
  let x := s.link l
  let here := (x.coming.filter (fun (k : LinkStamp) => decide (k.h < s.now))).foldl (fun q k => insertStamp k q) []
  let a := admitStamps here x.stamps 0
  let live := a.1.filter (fun (k : LinkStamp) => decide (s.now ≤ k.h + 32))
  let send := (live.filter (fun (k : LinkStamp) => decide (k.h + 2 ≤ s.now))).take 2
  let drop := a.2 + (a.1.length - live.length)
  let s := s.setLink l { x with coming := x.coming.filter (fun (k : LinkStamp) => !decide (k.h < s.now))
                                stamps := live.filter (fun k => !send.contains k) }
  (send.map (fun k => (k.ch, k.ts % 2 ^ 32)), if drop = 0 then s else s.count .LNK_TSDROP l drop)

/-- The next part of a message. -/
def bulkPart (x : LinkState) (begun mgmt : Bool) (bs : List Byte) : BulkFrame :=
  { seq := x.nextSeq, som := !begun, eom := (bs.drop 12).isEmpty, mgmt, bytes := bs.take 12 }

/-- A new numbered superframe. -/
def LinkState.number (x : LinkState) (now : Nat) (f : BulkFrame) : LinkState :=
  { x with unacked := x.unacked ++ [f], nextSeq := (x.nextSeq + 1) % 65536, ackAt := if x.unacked.isEmpty then now else x.ackAt }

/-- The bulk bytes of a superframe (R341): a repeated one, else management first. -/
def LinkState.nextBulk (x : LinkState) (now : Nat) : Option BulkFrame × LinkState :=
  match x.resend with
  | some i => (x.unacked[i]?, { x with resend := if i + 1 < x.unacked.length then some (i + 1) else none })
  | none =>
    if 128 ≤ x.unacked.length then (none, x)
    else match x.mgmt with
      | (begun, bs) :: rest =>
        let f := bulkPart x begun true bs
        (some f, { x.number now f with mgmt := if f.eom then rest else (true, bs.drop 12) :: rest })
      | [] => match x.msgLeft with
        | some bs =>
          let f := bulkPart x (some bs != x.msg) false bs
          (some f, { x.number now f with msgLeft := if f.eom then none else some (bs.drop 12) })
        | none => (none, x)

/-- The clapper word of the superframe that begins in this cc (R340): whether it is a check word, and DLY. -/
def State.txClap (s : State) (l : Nat) : Option (Bool × Nat) :=
  if !s.bit .LNK_CTRL l 2 then none
  else
    match s.clap.regAt with
    | some (c, _) => if c + 2 ≤ s.now ∧ s.now - c < 64 ∧ (s.link l).sentEpoch ≠ some c then some (false, s.now - c) else none
    | none => if s.epochRun && s.ftg % 2 ^ 20 == 2 ^ 20 - 64 then some (true, 0) else none

/-- SUPERFRAME_SEND (R327, R328): a superframe begins in this cc. -/
def superframeSendOp (l : Nat) (s : State) : State :=
  let x := s.link l
  if s.linkState l = 0 ∨ s.linkGrid % 8 ≠ 0 ∨ x.lastSend = some s.now then s
  else
    let j := s.linkGrid / 8
    let dec := txRun (fun s i => s.txDecision l (64 * (j % 4) + i)) (List.range 64) s
    let evt := txRun (fun s i => s.txEvent l i) (List.range 16) dec.2
    let ts := evt.2.txStamps l
    let s := ts.2
    let clap := s.txClap l
    let retx := (s.link l).resend.isSome
    let bulk := (s.link l).nextBulk s.now
    let x := bulk.2
    let s := s.setLink l { x with
      lastSend := some s.now
      sentEpoch := match clap, s.clap.regAt with | some (false, _), some (c, _) => some c | _, _ => x.sentEpoch }
    let s := if retx && bulk.1.isSome then s.count .LNK_RETX_CNT l else s
    let f : SuperframeFields := {
      mod := s.fld .LNK_MODID 0 5 0, sfn := j % 2 ^ 48, run := s.clap.state == .running, clap := clap.isSome
      chk := match clap with | some (b, _) => b | none => false
      dly := match clap with | some (_, d) => d | none => 0
      bseq := match bulk.1 with | some b => b.seq | none => x.nextSeq
      back := x.rxNext, bulk := bulk.1, dec := dec.1, evt := evt.1, ts := ts.1 }
    s.emit (.superframe l s.now f.bytes)

def execSuperframeSend (dt l : Nat) (s : State) : Result := .next (superframeSendOp l (s.pass dt))

/-! ### Reception (R329, R333-R341) -/

/-- Field of `n` bytes at byte `i` of a superframe. -/
def frameField (bs : List Byte) (i n : Nat) : Nat := leNat ((bs.drop i).take n)

/-- The superframe is intact: 124 bytes and its CRC (R329). -/
def frameIntact (bs : List Byte) : Bool := bs.length == 124 && frameField bs 122 2 == crc16 (bs.take 122)

/-- BACK acknowledges superframes (R341). -/
def State.linkAck (s : State) (l back : Nat) : State :=
  let x := s.link l
  match x.unacked with
  | [] => s
  | f :: _ =>
    let n := (back + 65536 - f.seq) % 65536
    if n = 0 ∨ x.unacked.length < n then s
    else
      let rest := x.unacked.drop n
      let whole := (x.unacked.take n).any (fun b => b.eom && !b.mgmt)
      let s := s.setLink l { x with
        unacked := rest, ackAt := s.now, resend := if rest.isEmpty then none else x.resend.map (· - n)
        msg := if whole then none else x.msg }
      if whole then (s.setBit .LNK_MSG_STATUS l 0 false).linkCause l 3 else s

/-- The address of a link's receive buffer. -/
def rxBuffer (l : Nat) : Nat := 0x65800 + 0x100 * l

/-- Bulk bytes of the next BSEQ are accepted (R341); a host message waits at its sender while RXFULL is set. -/
def State.linkBulk (s : State) (l : Nat) (f : BulkFrame) : State :=
  let x := s.link l
  if f.seq ≠ x.rxNext ∨ (f.mgmt = false ∧ s.bit .LNK_MSG_STATUS l 1 = true) then s
  else
    let x := { x with rxNext := (x.rxNext + 1) % 65536 }
    if f.mgmt then s.setLink l x
    else
      let at_ := if f.som then 0 else x.rxLen
      let s := (s.setLink l { x with rxLen := at_ + f.bytes.length }).writeBytes 3 (rxBuffer l + at_) (f.bytes.take (256 - at_))
      if f.eom then ((s.setBit .LNK_MSG_STATUS l 1 true).setFld .LNK_MSG_STATUS l 24 16 (at_ + f.bytes.length)).linkCause l 2 else s

/-- A timestamp's full value from its low 32 bits (R339): the one in (2048 h' − 2^31, 2048 h' + 2^31]. -/
def rebuildStamp (low h : Nat) : Int :=
  let base : Int := 2048 * h - 2 ^ 31
  base + 1 + ((low : Int) - (base + 1)) % 2 ^ 32

/-- The clapper word of a superframe read in this cc, for the link follower (R340). -/
def State.linkClap (s : State) (l : Nat) (chk : Bool) (dly : Nat) : State :=
  let lat := s.fld .LNK_LAT l 5 0
  let c := s.now - lat - dly
  if chk then
    if s.clap.epoch.isNone || s.clap.regAt.isSome then s else (s.setEdgePos 0).judgeEdge (s.ftgOf c) 0
  else if 48 < lat + dly then s.setBit .LNK_STATUS l 6 true
  else if s.clap.state = .armed ∧ s.clap.regAt = none ∧ s.clap.armAt < c then
    { s with clap := { s.clap with regAt := some (c, 0) } }.setEdgePos 0
  else if s.clap.epoch.isNone || s.clap.regAt.isSome then s.setEdgePos 0
  else (s.setEdgePos 0).judgeEdge (s.ftgOf c) 0

/-- The read cc of a superframe lies on the grid LAT after it began (R333). -/
def State.linkAligned (s : State) (l : Nat) : Bool :=
  let lat := s.fld .LNK_LAT l 5 0
  s.epochRun && decide (lat ≤ s.ftg) && (s.ftg - lat) % 8 == 0

/-- The number of the superframe that is read in this cc. -/
def State.linkSfn (s : State) (l : Nat) : Nat := (s.ftg - s.fld .LNK_LAT l 5 0) / 8 % 2 ^ 48

/-- The real-time fields of an intact superframe on a locked link (R336, R338, R339). -/
def State.linkRealTime (s : State) (l : Nat) (bs : List Byte) : State :=
  let phase := s.linkSfn l % 4
  let byte (i : Nat) : Byte := bs.getD i 0
  let s := State.forEach (s.rxSlots l (fun k => k / 64 == phase)) (fun r s =>
    let w := byte (28 + s.fld .LNK_RXMAP r 12 5 % 64)
    if w = 0 then s else s.rxWord r w) s
  let s := State.forEach (List.range 16) (fun i s =>
    let e := (byte (92 + i)).toNat
    let lo := 8 * (i % 4)
    if bitOf e 0 && s.bit .LNK_EVRX (4 * l + i / 4) (lo + 7) then
      s.emitEvent .hub (s.fld .LNK_EVRX (4 * l + i / 4) (lo + 6) lo) (s.now + 1 + e / 16 % 8) (e / 2 % 8 + 1)
    else s) s
  State.forEach [0, 1] (fun t s =>
    let h := (byte (108 + 6 * t)).toNat
    if !bitOf h 6 then s
    else
      let v := rebuildStamp (frameField bs (109 + 6 * t) 4) s.ftg + signed 16 (s.fld .LNK_TS_ADJ l 15 0)
      State.forEach ((List.range 64).filter (fun i =>
          s.bit .LNK_RXTS i 15 && s.fld .LNK_RXTS i 4 0 == l && s.fld .LNK_RXTS i 10 5 == h % 64))
        (fun i s => s.sysStamp 4 i v.toNat s.ftg true) s) s

/-- An errored superframe (R329, R336). -/
def State.linkErrored (s : State) (l : Nat) : State :=
  let s := (s.count .LNK_CRC_CNT l).linkCause l 4
  let s := if s.linkState l = 3 then s.rxSubstitute l (fun k => k / 64 == s.linkSfn l % 4) else s
  let x := s.link l
  let errs := (x.errs.filter (fun c => decide (s.now < c + 10 ^ 6))) ++ [s.now]
  let s := s.setLink l { x with errs, good := if s.linkState l = 3 then x.good else 0 }
  if 16 ≤ errs.length then s.linkDrop l 1 else s

/-- The fields of an intact superframe act. -/
def State.linkIntact (s : State) (l : Nat) (bs : List Byte) : State :=
  let s := s.linkAck l (frameField bs 10 2)
  let b12 := frameField bs 12 1
  let n := min 12 (b12 % 16)
  let data := (bs.drop 15).take 6 ++ (bs.drop 22).take 6
  let s := if n = 0 then s else s.linkBulk l { seq := frameField bs 8 2, som := bitOf b12 4, eom := bitOf b12 5,
                                               mgmt := b12 / 64 != 0, bytes := data.take n }
  let b7 := frameField bs 7 1
  let meets := s.linkAligned l && frameField bs 1 6 == s.linkSfn l
  let s :=
    if s.linkState l = 3 then (if meets then s.linkRealTime l bs else s.unlockClass l true 2)
    else
      let x := s.link l
      s.setLink l { x with good := if meets && x.measured && bitOf b7 2 then x.good + 1 else 0 }
  if bitOf b7 3 && s.role == 3 && s.fld .CLAP_CTRL 0 12 8 == l && decide (2 ≤ s.linkState l) && (s.link l).measured then
    s.linkClap l (bitOf b7 4) (frameField bs 13 1 % 64)
  else s

/-- SUPERFRAME_RECEIVE (R329, R333): `none` for a missing marker block or one that names a lane twice. A link in RT reads only
at 8j + LAT. -/
def superframeReceiveOp (l : Nat) (frame : Option (List Byte)) (s : State) : State :=
  if !s.linkCarries l || (s.linkState l == 3 && !s.linkAligned l) then s
  else match frame with
    | some bs => if frameIntact bs then s.linkIntact l bs else s.linkErrored l
    | none => s.linkErrored l

def execSuperframeReceive (dt l : Nat) (frame : Option (List Byte)) (s : State) : Result :=
  .next (superframeReceiveOp l frame (s.pass dt))

/-! ### The bulk class (R341) -/

/-- BULK_RETRANSMIT: BACK has not advanced for 64 superframes. -/
def bulkRetransmitOp (l : Nat) (s : State) : State :=
  let x := s.link l
  if x.unacked.isEmpty || decide (s.now < x.ackAt + 512) || s.linkState l == 0 then s
  else s.setLink l { x with resend := some 0, ackAt := s.now }

def execBulkRetransmit (dt l : Nat) (s : State) : Result := .next (bulkRetransmitOp l (s.pass dt))

/-- The address of a link's transmit buffer. -/
def txBuffer (l : Nat) : Nat := 0x64000 + 0x100 * l

/-- A length that R343 refuses. -/
def badLen (len : Nat) : Bool := len == 0 || decide (256 < len)

/-- LINK_MSG_SEND (R341): refused while a message is unacknowledged. -/
def linkMsgSendOp (l len : Nat) (s : State) : State :=
  let x := s.link l
  if x.msg.isSome then s.linkResult l Code.busy
  else if badLen len then s.linkResult l Code.range
  else
    let bs := s.bytes 3 (txBuffer l) len
    let s := s.setLink l { x with msg := some bs, msgLeft := some bs }
    ((s.setFld .LNK_MSG_CTRL l 8 0 len).setBit .LNK_MSG_STATUS l 0 true).linkResult l Code.ok

def execLinkMsgSend (who : Requester) (l : Nat) (len : BitVec 9) (s : State) : Result :=
  .next (s.regAccess who .LNK_MSG_CTRL l (linkMsgSendOp l len.toNat))

/-- A write of `LNK_MSG_CTRL`. -/
def lnkMsgCtrlOp (l : Nat) (v : Word) (s : State) : State :=
  if bits v 16 16 = 1 then linkMsgSendOp l (bits v 8 0) s
  else if badLen (bits v 8 0) then s.linkResult l Code.range
  else (s.setFld .LNK_MSG_CTRL l 8 0 (bits v 8 0)).linkResult l Code.ok

/-- LINK_RXFULL_CLEAR (R341). -/
def rxfullClearOp (l : Nat) (s : State) : State := s.setBit .LNK_MSG_STATUS l 1 false

def execLinkRxfullClear (who : Requester) (l : Nat) (s : State) : Result :=
  .next (s.regAccess who .LNK_MSG_STATUS l (rxfullClearOp l))

/-! ### Other registers (R343, R344) -/

/-- A write of `LNK_TXMAP` (R335): a SLOT above 1279 in either half is refused. -/
def lnkTxmapOp (i : Nat) (v : Word) (s : State) : State :=
  if 1279 < bits v 10 0 ∨ 1279 < bits v 26 16 then s.linkResult (i / 128) Code.range
  else (s.setReg .LNK_TXMAP i (v &&& 0x87FF_87FF)).linkResult (i / 128) Code.ok

/-- A write of `LNK_TSTX`: KIND 1-3. -/
def lnkTstxOp (c : Nat) (v : Word) (s : State) : State :=
  if bits v 2 0 = 0 ∨ 3 < bits v 2 0 then s else s.setReg .LNK_TSTX c (v &&& 0x1FFF)

/-- Every link is OFF. -/
def State.linksOff (s : State) : Bool := (List.range 24).all (fun l => s.linkState l == 0)

/-- A write of `LNK_MODID` (R344). -/
def lnkModidOp (v : Word) (s : State) : State := if s.linksOff then s.setReg .LNK_MODID 0 (v &&& 0x3F) else s

/-! ### Epoch, check and reset (R327, R334, R342) -/

/-- A new epoch (R327, R334, R335, R343): every class unlocks, the grid restarts. The substitute words enter after the fabric
was emptied. -/
def State.linkEpoch (s : State) : State :=
  let s := State.forEach (List.range 24) (fun l s =>
    let s := s.unlockClass l false 2
    let s := s.setReg .LNK_TXOVWR_CNT l 0
    match tfind s.lnk.link l with
    | some x => s.setLink l { x with good := 0, coming := [], stamps := [], lastSend := none, sentEpoch := none }
    | none => s) s
  { s with lnk := { s.lnk with reads := [] } }

/-- The link meets R334 at a check, as far as it is a state of this module. -/
def State.linkMeets (s : State) (l : Nat) : Bool :=
  s.linkState l == 2 && s.bit .LNK_CTRL l 1 && !s.bit .LNK_STATUS l 2 && !s.bit .LNK_STATUS l 3 && decide (1024 ≤ (s.link l).good)

/-- A clapper check: classes lock, and those whose buffer occupancy is wrong unlock (R334). -/
def State.linkCheck (s : State) (ready : List Nat) : State :=
  State.forEach (List.range 24) (fun l s =>
    if s.linkState l = 3 then (if ready.contains l then s else s.unlockClass l false 2)
    else if s.linkMeets l && ready.contains l then (s.setLinkState l 3).linkCause l 1
    else s) s

/-- The registers of the links. -/
def linkRegs : List Reg :=
  [.LNK_CTRL, .LNK_STATUS, .LNK_PARTNER, .LNK_PSERIAL, .LNK_RT, .LNK_LAT, .LNK_CRC_CNT, .LNK_RETX_CNT, .LNK_TXOVWR_CNT,
   .LNK_EV_MERGE, .LNK_TSDROP, .LNK_IRQ_CAUSE, .LNK_IRQ_EN, .LNK_TS_ADJ, .LNK_EVTX, .LNK_EVRX, .LNK_MSG_CTRL, .LNK_MSG_STATUS,
   .LNK_TXMAP, .LNK_MODID, .LNK_UP, .LNK_RTMASK, .LNK_RXMAP, .LNK_RXTS, .LNK_TSTX, .LNK_TSTX_LINKS]

/-- PERST#, power-up and loss of the logic-side supplies (R342). -/
def State.resetLinks (s : State) : State :=
  { (s.resetRegs linkRegs (fun _ => true)) with lnk := {} }.eraseMem (flat 3 0x64000) (flat 3 0x67000)

end Sys2Proof.Machine
end

