-- ==== Sys2Proof/Machine/Cut.lean ====
section
/-!
DEFINITION. The Cut (R361-R363) over what each block does at one (R86, R104, R127, R165, R191, R221, R241, R253, R270, R273,
R312). Every part takes effect at time 0, inside the bounds of R362 (notes/assumptions/73.md).
-/

namespace Sys2Proof.Machine

/-- MUTE of every output of cluster `g` is set (R86). -/
def State.muteOutputs (s : State) (g : Nat) : State :=
  let s := (s.setBit .RFO_CTRL (2 * g) 0 true).setBit .RFO_CTRL (2 * g + 1) 0 true
  State.forEach (List.range 4) (fun b s => s.setBit .BBO_CTRL (4 * g + b) 0 true) s

/-- A Cut reaches cluster `g`. -/
def State.cutCluster (s : State) (g : Nat) : State := ((((s.muteOutputs g).cutScripts g).cutKernel g).endWindows g).cutCal g

/-- The task inputs whose consumers a scope covers (R273). -/
def cutInput (whole : Bool) (regions clusters channels : List Nat) (k : Nat) : Bool :=
  whole ||
    (if k < 2048 then clusters.contains (k / 32)
     else if k < 2112 then clusters.contains (k - 2048)
     else if k < 2144 then regions.contains ((k - 2112) / 2)
     else if k < 2176 then false
     else if k < 2256 then channels.contains (k - 2176)
     else if k < 2336 then channels.contains (k - 2256)
     else false)

/-- What a Cut does at time 0 (R362): `regions` whole regions, `clusters` every cluster in scope. -/
def State.cutEffects (s : State) (whole : Bool) (regions clusters : List Nat) : State :=
  let channels := (List.range 80).filter (s.gripInScope whole regions (if whole then [] else clusters))
  let s := State.forEach clusters (fun g s => s.cutCluster g) s
  let s := State.forEach regions (fun n s => s.cutTake n) s
  let s := (s.clearTasks (cutInput whole regions clusters channels)).clearViews (fun g => clusters.contains g)
  let s := State.forEach channels (fun c s => s.cutGrip c) s
  if whole then ((State.forEach (List.range 32) (fun p s => s.ptHalt p) s).cutHubCal).cutBias else s

/-- A Cut completes (R362). -/
def State.cutDone (s : State) (start : Nat) : State :=
  let s := (s.setBit .CUT_STATUS 0 0 false).setBit .CUT_STATUS 0 1 true
  let s := (s.setFld .CUT_STATUS 0 15 8 Code.cut).setReg .CUT_TIME 0 (BitVec.ofNat 32 (s.now - start))
  ({ s with cut := none } : State).raise 501

/-- A Cut of a scope starts, or joins the Cut in progress (R361, R363). -/
def State.startCut (s : State) (whole : Bool) (rmask cmask : Nat) : State :=
  let n := s.variant.regions
  let regions := if whole then List.range n else setBitsOf n rmask
  let clusters := if whole then List.range (4 * n)
    else (List.range (4 * n)).filter (fun g => regions.contains (g / 4) || bitOf cmask g)
  let old := s.cut
  let was : CutState := old.getD { start := s.now }
  let s := (s.cutEffects whole regions clusters).setBit .CUT_STATUS 0 0 true
  let c : CutState := { was with whole := was.whole || whole
                                 regions := was.regions ||| BitVec.ofNat 16 (bitMask regions)
                                 clusters := was.clusters ||| BitVec.ofNat 64 (bitMask clusters) }
  let s := { s with cut := some c }
  if old.isNone && clusters.isEmpty then s.cutDone s.now else s

/-- `CUT_STATUS` notes a Cut of scope `k`: its SCOPE and COUNT. -/
def State.countCut (s : State) (k : Nat) : State :=
  (s.setFld .CUT_STATUS 0 3 2 k).setFld .CUT_STATUS 0 31 16 (s.fld .CUT_STATUS 0 31 16 + 1)

/-- A Cut of the whole module. -/
def State.moduleCut (s : State) : State := (s.countCut 0).startCut true 0 0

/-- A write of `CUT_CMD` (R361). -/
def cutCmdOp (scope : Nat) (s : State) : State :=
  if scope = 3 ∨ (scope ≠ 0 ∧ s.feat 7 = false) then s.setFld .CUT_RESULT 0 7 0 Code.range
  else
    let s := (s.setFld .CUT_RESULT 0 7 0 Code.ok).countCut scope
    match scope with
    | 0 => s.startCut true 0 0
    | 1 => s.startCut false (s.fld .CUT_RMASK 0 15 0) 0
    | _ => s.startCut false 0 (s.pair .CUT_CMASK_LO .CUT_CMASK_HI)

def execCutCmd (who : Requester) (scope : Nat) (s : State) : Result := .next (s.regAccess who .CUT_CMD 0 (cutCmdOp scope))

/-- CUT_COMPLETE (R362, R363). -/
def cutCompleteOp (s : State) : State :=
  match s.cut with
  | some c => s.cutDone c.start
  | none => s

def execCutComplete (dt : Nat) (s : State) : Result := .next (cutCompleteOp (s.pass dt))

end Sys2Proof.Machine
end

