-- ==== Sys2Proof/Machine/Power.lean ====
section
/-!
DEFINITION. Power, reset and health (R412-R426): supplies, region power states, resets, thermal limits, watchdogs and the wear
log. One cc is 1 ns (R16), so times in ns are counts of cc.
-/

namespace Sys2Proof.Machine

/-- `PWR_STATUS.LAST_RESULT`. -/
def State.pwrResult (s : State) (code : Nat) : State := s.setFld .PWR_STATUS 0 15 8 code

/-! ### Region power states (R415-R419) -/

/-- The exit latency, the dwell before entry and the longest entry of states P1-P4, in ns (R415). -/
def exitLatency : Nat → Nat
  | 0 => 0 | 1 => 200 | 2 => 20_000 | 3 => 3_000_000 | _ => 40_000_000
def entryDwell : Nat → Nat
  | 1 => 1_000 | 2 => 100_000 | 3 => 10_000_000 | _ => 200_000_000
def entryTime : Nat → Nat
  | 1 => 10 | 2 => 2_000 | 3 => 10_000 | _ => 1_000_000

/-- The allowed state of region `n`: the deepest whose exit latency is not more than TOL (R417). -/
def State.allowed (s : State) (n : Nat) : Nat :=
  let tol := s.regNat .PWR_TOL n
  if !s.feat 9 then 0
  else if exitLatency 4 ≤ tol then 4
  else if exitLatency 3 ≤ tol then 3
  else if exitLatency 2 ≤ tol then 2
  else if exitLatency 1 ≤ tol then 1
  else 0

/-- The deepest state that region `n` is in or is entering. -/
def RegionPower.depth (p : RegionPower) : Nat := max p.state ((p.going.map Prod.fst).getD 0)

/-- Region `n` is idle as far as states down to `k` ask (R416). -/
def State.idleFor (s : State) (n k : Nat) : Bool := !s.regionBusy n && !(decide (2 ≤ k) && s.regionHoldsLevel n)

/-- A Gaffer core that keeps and restores images runs. -/
def State.gafferServes (s : State) : Bool := s.coreRuns 0 || s.coreRuns 1

/-- POWER_STATE_ENTRY: the next state, once the region has been idle for its dwell (R417). -/
def powerEntryOp (n : Nat) (s : State) : State :=
  let p := s.regionPower n
  let k := p.state + 1
  let since := if k = 1 then p.idleSince else p.deepSince
  if !s.hasRegion n || p.going.isSome || p.wake || decide (s.allowed n < k) || !s.idleFor n k || decide (s.now < since + entryDwell k) then s
  else s.setPower n { p with going := some (k, s.now + entryTime k), imageBy := if k = 4 then some (s.now + entryTime 4) else none }

def execPowerStateEntry (dt n : Nat) (s : State) : Result := .next (powerEntryOp n (s.pass dt))

/-- The registers of a region's clusters that P4 keeps: the trims, the voice, baseband and tone sets with their PENDING, GEN and
HO_SRC (R90, R241), and ERR, HCODE and PC of halted engines (R104, R165). -/
def keptInP4 : List Reg :=
  [.VOICE_CTRL, .VOICE_STATUS, .VOICE_FTW_LO, .VOICE_FTW_HI, .VOICE_POFF, .VOICE_AMP, .VOICE_SEGBASE, .VOICE_ACT_FTW_LO,
   .VOICE_ACT_FTW_HI, .VOICE_ACT_POFF, .VOICE_ACT_AMPSEG, .BBO_CTRL, .BBO_STATUS, .BBO_GAIN, .BBO_OFFSET, .BBO_ACT] ++
  [.TONE_HO, .TONE_STATUS, .TONE_FTW_LO, .TONE_FTW_HI, .TONE_POFF, .TONE_WBASE, .TONE_ROT, .TONE_TH0, .TONE_TH1, .TONE_TH2,
   .TONE_ACT_FTW_LO, .TONE_ACT_FTW_HI, .TONE_ACT_POFF, .TONE_ACT_WBASE, .TONE_ACT_ROT, .TONE_ACT_TH0, .TONE_ACT_TH1, .TONE_ACT_TH2] ++
  [.ADC_OFS_TRIM, .ADC_GAIN_TRIM, .ADC_SKEW_TAP, .RFO_OFS_TRIM, .RFO_FS_TRIM, .RFO_SEG_TRIM, .BBO_OFS_TRIM, .BBO_FS_TRIM,
   .SCR_STATUS, .SCR_PC, .KRN_STATUS]

/-- The instances of a register in one region. -/
def perRegion (r : Reg) : Nat := (regInfo r).dims.foldl (fun a d => a * d.1) 1 / 16

/-- The registers of region windows outside the always-on control block. -/
def sleepRegs : List Reg :=
  allRegs.filter (fun r => decide (0x0801_0000 ≤ (regInfo r).base))

/-- The engines and units of cluster `g` lose their power: an engine that runs halts with ERR 0x00, queues and windows are lost. -/
def State.clusterOff (s : State) (g : Nat) : State :=
  let s := State.forEach (List.range 8) (fun e s => (s.stopEngine g e Code.ok).setEng g e {}) s
  let s := State.forEach (List.range 20) (fun u s => s.stopUnit g u) s
  let s := if s.krnRuns g then s.krnHalt g Code.ok false else s
  let s := ((s.emptyStreams g).endWindows g).resetCal g
  let s := s.setKrn g {}
  State.forEach (List.range 4) (fun b s => s.setBit .BBO_CTRL (4 * g + b) 0 true) s

/-- What P4 takes from region `n` (R65, R78, R98, R104, R127, R135, R165, R221). -/
def State.regionOff (s : State) (n : Nat) : State :=
  let s := State.forEach (List.range 4) (fun c s => s.clusterOff (4 * n + c)) s
  let s := ((State.forEach (List.range 8) (fun i s => s.emptyStream n i) s).resetTake n).padBlock n
  let s := State.forEach (sleepRegs.filter (fun r => !keptInP4.contains r)) (fun r s => s.resetRegs [r] (fun i => i / perRegion r == n)) s
  let s := (s.eraseMem (flat 2 (n * 2 ^ 26)) (flat 2 ((n + 1) * 2 ^ 26))).eraseMem
    (flat 3 (0x0800_0000 + n * 0x0080_0000)) (flat 3 (0x0800_0000 + (n + 1) * 0x0080_0000))
  s.setBit .REEL_STATUS n 0 true

/-- The tile PLL stops once both regions of the tile are in P3 or P4 (R415). -/
def State.tilePllStops (s : State) (n : Nat) : State :=
  if 3 ≤ (s.regionPower (2 * (n / 2))).state ∧ 3 ≤ (s.regionPower (2 * (n / 2) + 1)).state then
    s.setBit .CLK_STATUS 0 (8 + n / 2) false
  else s

/-- POWER_STATE_ENTRY_COMPLETE (R419): P4 waits for the Gaffer to confirm the image. -/
def powerEntryDoneOp (n : Nat) (s : State) : State :=
  let p := s.regionPower n
  match p.going with
  | some (k, t) =>
    if k ≤ p.state ∨ p.wake = true ∨ s.idleFor n k = false then s
    else if k = 4 ∧ (s.gafferServes = false ∨ p.imageBy.any (fun b => decide (b < s.now))) then s
    else if k ≠ 4 ∧ s.now < t then s
    else
      let s := s.setPower n { p with state := k, going := none, imageBy := none }
      match k with
      | 3 => ((s.unlockRegion n).tilePllStops n).countTransition n
      | 4 => (s.regionOff n).countTransition n
      | _ => s
  | none => s

def execPowerStateEntryComplete (dt n : Nat) (s : State) : Result := .next (powerEntryDoneOp n (s.pass dt))

/-- Region `n` waits to reload its footage at a passing check (R50). -/
def State.waitReload (s : State) (n : Nat) : State :=
  if s.epochRun then { s with clap := { s.clap with reloadWait := s.clap.reloadWait ||| BitVec.ofNat 16 (1 <<< n) } } else s

/-- Region `n` begins its exit to state `t` (R417): one that leaves P3 or P4 waits for its footage reload. -/
def State.beginExit (s : State) (n t : Nat) : State :=
  let p := s.regionPower n
  let s := s.setPower n { p with going := some (t, s.now + exitLatency p.depth), imageBy := none }
  if 3 ≤ p.state ∧ t < 3 then (s.unlockRegion n).waitReload n else s

/-- The state that region `n` is to leave for, if it is to leave: P0 once it is woken or, in P2 or above, is no longer idle; the
allowed state once that is above the one in force (R417, R418). -/
def State.exitTarget (s : State) (n : Nat) : Option Nat :=
  let p := s.regionPower n
  let exiting := match p.going with
    | some (t, _) => if t ≤ p.state then some t else none
    | none => none
  let want :=
    if p.wake || decide (p.state < 3) && !s.idleFor n p.depth then some 0
    else if s.allowed n < p.depth then some (s.allowed n)
    else none
  if p.depth = 0 ∨ want = none then none
  else match exiting, want with
    | some t, some w => if w < t then some w else none
    | _, w => w

/-- POWER_STATE_EXIT. -/
def powerExitOp (n : Nat) (s : State) : State :=
  match s.exitTarget n with
  | some t => s.beginExit n t
  | none => s

def execPowerStateExit (dt n : Nat) (s : State) : Result := .next (powerExitOp n (s.pass dt))

/-- Region `n` can be reported running after P3 or P4: its tile PLL has locked, its footage is reloaded and its crossings have
locked (R24, R39, R50). -/
def State.regionReady (s : State) (n : Nat) : Bool :=
  (s.bit .CLK_STATUS 0 (8 + n / 2) || !s.bit .CLK_STATUS 0 1) &&
    (!s.epochRun || (!bitOf s.clap.reloadWait.toNat n &&
      (s.crossings.filter (fun k => keyRegion k == n)).all (fun k =>
        (s.crossing k).locked || (s.crossing k).releaseAt.any (fun t => decide (t ≤ s.now)))))

/-- POWER_STATE_EXIT_COMPLETE (R419). -/
def powerExitDoneOp (n : Nat) (s : State) : State :=
  let p := s.regionPower n
  match p.going with
  | some (t, by_) =>
    if p.state < t then s
    else if 3 ≤ p.state ∧ t < 3 ∧ s.regionReady n = false then s
    else if p.state = 4 ∧ s.gafferServes = false then s
    else
      let s := if p.state = 4 ∧ by_ < s.now then s.setBit .PWR_STATE n 8 true else s
      if t = 0 then s.arriveRun n else s.setPower n { p with state := t, going := none }
  | none => s

def execPowerStateExitComplete (dt n : Nat) (s : State) : Result := .next (powerExitDoneOp n (s.pass dt))

/-- P4_IMAGE_TIMEOUT (R419): the region stays in P3 and tries again after another 200 ms of idle. -/
def imageTimeoutOp (n : Nat) (s : State) : State :=
  let p := s.regionPower n
  if p.imageBy.any (fun b => decide (b ≤ s.now)) then
    s.setPower n { p with going := none, imageBy := none, idleSince := s.now, deepSince := s.now }
  else s

def execP4ImageTimeout (dt n : Nat) (s : State) : Result := .next (imageTimeoutOp n (s.pass dt))

/-- Region `n` is woken (R418). -/
def State.wakeRegion (s : State) (n : Nat) : State :=
  let p := s.regionPower n
  if p.depth = 0 then s else s.setPower n { p with wake := true }

/-- PWR_WAKE. -/
def pwrWakeOp (mask : Nat) (s : State) : State :=
  (State.forEach (setBitsOf s.variant.regions mask) (fun n s => s.wakeRegion n) s).pwrResult Code.ok

def execPwrWake (who : Requester) (mask : BitVec 16) (s : State) : Result :=
  .next (s.regAccess who .PWR_WAKE 0 (pwrWakeOp mask.toNat))

/-- PWR_TOL_WRITE: a TOL below the exit latency of the state in force begins the exit at once (R417). -/
def pwrTolOp (n : Nat) (v : Word) (s : State) : State :=
  powerExitOp n ((s.setReg .PWR_TOL n v).pwrResult Code.ok)

def execPwrTolWrite (who : Requester) (n : Nat) (v : Word) (s : State) : Result :=
  .next (s.regAccess who .PWR_TOL n (pwrTolOp n v))

/-! ### Resets (R420, R421) -/

/-- What a reset does to cluster `g` (R90, R104, R127, R154, R165, R191, R241). -/
def State.resetCluster (s : State) (g : Nat) : State :=
  (((((s.resetScripts g).resetUnits g).resetKernel g).endWindows g).resetCal g).clearViews (· == g)

/-- Cluster `g` is reset, if neither it nor its region is in reset already. -/
def State.clusterReset (s : State) (g : Nat) : State :=
  if !s.hasCluster g || bitOf (s.regNat .PWR_RSTAT) (g / 4) || bitOf (s.pair .PWR_CSTAT_LO .PWR_CSTAT_HI) g then s
  else
    let s := s.resetCluster g
    let s := s.setPair .PWR_CSTAT_LO .PWR_CSTAT_HI 0 (s.pair .PWR_CSTAT_LO .PWR_CSTAT_HI ||| 1 <<< g)
    { s with health := { s.health with resets := tset s.health.resets (16 + g) s.now } }

/-- CLUSTER_RESET: `PWR_CRESET`. -/
def clusterResetOp (mask : Nat) (s : State) : State :=
  (State.forEach (setBitsOf 64 mask) (fun g s => s.clusterReset g) s).pwrResult Code.ok

def execClusterReset (who : Requester) (mask : BitVec 64) (s : State) : Result :=
  .next (s.regAccess who .PWR_CRESET_LO 0 (clusterResetOp mask.toNat))

/-- What a reset does to region `n` beside its clusters (R24, R40, R50, R78, R135, R138, R221, R273). -/
def State.resetNode (s : State) (n : Nat) : State :=
  let s := ((State.forEach (List.range 8) (fun i s => s.emptyStream n i) s).resetTake n).padBlock n
  let s := State.forEach ((s.regs.map Prod.fst).filter (fun k => k % 1024 == Reg.ctorIdx .TRK_CTRL && k / 1024 / 1024 == n)) (fun k s =>
    s.setBit .TRK_CTRL (k / 1024) 0 false) s
  let s := (s.resetRegs [.LEV_WATCH, .LEV_LOOP, .DLY_DROP] (· == n)).resetRegs [.LEV_COINC, .LEV_LOST] (· / 32 == n)
  let s := (s.resetRegs [.STRM_DROP] (· / 8 == n)).clearTasks
    (cutInput false [n] [4 * n, 4 * n + 1, 4 * n + 2, 4 * n + 3] [64 + n])
  let s := (s.unlockRegion n).waitReload n
  if s.bit .CLK_STATUS 0 (8 + n / 2) then
    { s with clap := { s.clap with pllMuted := s.clap.pllMuted &&& ~~~BitVec.ofNat 16 (1 <<< n) } }
  else s

/-- Region `n` and its clusters are reset, if it is not in reset already; a region in P3 or P4 is woken (R418, R421). -/
def State.regionReset (s : State) (n : Nat) : State :=
  if !s.hasRegion n || bitOf (s.regNat .PWR_RSTAT) n then s
  else
    let s := State.forEach (List.range 4) (fun c s => s.resetCluster (4 * n + c)) s
    let s := s.resetNode n
    let s := s.setReg .PWR_RSTAT 0 (BitVec.ofNat 32 (s.regNat .PWR_RSTAT ||| 1 <<< n))
    (({ s with health := { s.health with resets := tset s.health.resets n s.now } } : State).wakeRegion n)

/-- REGION_RESET: `PWR_RRESET`. -/
def regionResetOp (mask : Nat) (s : State) : State :=
  (State.forEach (setBitsOf 16 mask) (fun n s => s.regionReset n) s).pwrResult Code.ok

def execRegionReset (who : Requester) (mask : BitVec 16) (s : State) : Result :=
  .next (s.regAccess who .PWR_RRESET 0 (regionResetOp mask.toNat))

/-- RESET_COMPLETE (R421, R273). A region held by its tile's supply stays in reset (R414). -/
def resetCompleteOp (c : ResetScope) (s : State) : State :=
  match c with
  | .region n =>
    if bitOf s.health.railHold.toNat (2 + n.val / 2) then s
    else
      let s := s.setBit .PWR_RSTAT 0 n.val false
      { s with health := { s.health with resets := tdel s.health.resets n.val } }
  | .cluster g =>
    let s := s.setPair .PWR_CSTAT_LO .PWR_CSTAT_HI 0 (s.pair .PWR_CSTAT_LO .PWR_CSTAT_HI - (s.pair .PWR_CSTAT_LO .PWR_CSTAT_HI &&& 1 <<< g.val))
    { s with health := { s.health with resets := tdel s.health.resets (16 + g.val) } }

def execResetComplete (dt : Nat) (c : ResetScope) (s : State) : Result := .next (resetCompleteOp c (s.pass dt))

/-! ### The logic side as a whole (R365, R414, R420) -/

/-- The write of an image is interrupted: the area it was to go to holds no valid image (R377). -/
def FlashState.interrupted (f : FlashState) : FlashState :=
  match f.saving with
  | some (second, _) => if second then { f with areaB := none, saving := none } else { f with areaA := none, saving := none }
  | none => f

/-- The logic side returns to its power-up state. What stays: the always-on island's wear log, the flash, and the bias dies, which
see their links go down (R246). -/
def State.logicReset (s : State) : State :=
  let s := (s.cutRamps 0).cutRamps 1
  let own := dieRegs.map (fun p => Reg.ctorIdx p.1)
  { State.reset with
      variant := s.variant, now := s.now, freeCtr := s.freeCtr, out := s.out, pending := s.pending, flash := s.flash.interrupted, jtag := s.jtag
      regs := s.regs.filter (fun e => own.contains (e.1 % 1024))
      bias := { s.bias with supplyFault := 0, linkFault := 0, loadDue := 3 }
      time := { segs := [{ cc := s.now }] }
      host := { perst := s.host.perst }
      health := { s.health with warnDies := 0, critDies := 0, expiries := [], sampledAt := none, resets := []
                                wdKick := (List.range 4).map (fun k => (k, s.now)) } }

/-- Every logic-side rail is in its window: `PWR_STATUS.LOGIC_OK`. -/
def State.noteRails (s : State) : State := s.setBit .PWR_STATUS 0 0 (s.health.railBad == 0)

/-- The always-on island starts too (R420): the wear log resumes from its last image, and the power-up is counted (R425). -/
def State.powerOn (s : State) : State :=
  let s := s.logicReset
  let w := s.health.wearImage
  ({ s with host := {}
            health := { wear := { w with cycles := w.cycles + 1 }, wearImage := w, wearAt := s.now, wdKick := s.health.wdKick } } : State).noteRails

/-- A rail is out of its window (R414): rail 0 is VDD_AON, 2-9 those of the tiles. -/
def railFaultOp (rail : Nat) (s : State) : State :=
  let tile := decide (2 ≤ rail) && decide (rail < 10)
  if tile && decide (s.variant.tiles ≤ rail - 2) then s
  else
    let h := s.health
    let bad := h.railBad ||| BitVec.ofNat 16 (1 <<< rail)
    let s := { s with health := { h with railBad := bad, railHold := h.railHold ||| BitVec.ofNat 16 (1 <<< rail)
                                         wear := { h.wear with supflt := h.wear.supflt + 1 } } }
    let s := ((s.setBit .PWR_SUP_FAULT 0 rail true).noteRails).setLine 498 true
    if tile then
      State.forEach [2 * (rail - 2), 2 * (rail - 2) + 1] (fun n s =>
        (State.forEach (List.range 4) (fun c s => s.muteOutputs (4 * n + c)) s).regionReset n) s
    else s.moduleCut.logicReset

def execLogicSupplyFault (dt rail : Nat) (s : State) : Result := .next (railFaultOp rail (s.pass dt))

/-- A rail is back in its window for 10 ms (R414); `true` with the state where the logic side starts as from power-up. -/
def railBack (rail : Nat) (s : State) : Bool × State :=
  let h := s.health
  if !bitOf h.railBad.toNat rail then (false, s)
  else
    let was := s.held
    let bad := h.railBad &&& ~~~BitVec.ofNat 16 (1 <<< rail)
    let hold := if 2 ≤ rail ∧ rail < 10 then h.railHold &&& ~~~BitVec.ofNat 16 (1 <<< rail)
      else if bad &&& 0xFC03 = 0 then h.railHold &&& 0x03FC else h.railHold
    let s := ({ s with health := { h with railBad := bad, railHold := hold } } : State).noteRails
    let s := if bad = 0 then s.setLine 498 false else s
    if rail = 0 then (!s.held, s.powerOn)
    else if was && !s.held then
      let s := s.logicReset
      (true, ({ s with health := { s.health with wear := { s.health.wear with cycles := s.health.wear.cycles + 1 } } } : State).noteRails)
    else (false, s)

/-! ### Thermal limits and wear (R422, R423, R425) -/

/-- The terms of the exponential series of `y`, with 128 fraction bits. -/
def expTerms : Nat → Nat → Int → Int → Int
  | 0, _, _, _ => 0
  | f + 1, n, t, y => t + expTerms f (n + 1) (t * y / (2 ^ 128 * n : Nat)) y

/-- exp(y / 2^128) as a number of 128 fraction bits, for |y| below 64 · 2^128. -/
def expFix (y : Int) : Int :=
  (List.range 8).foldl (fun e _ => e * e / 2 ^ 128) (expTerms 24 1 (2 ^ 128) (y / 256))

/-- AF(T) of R425 with 32 fraction bits, for T in 1/16 °C. -/
def agingFactor (t : Int) : Nat :=
  (expFix (81232 * 2 ^ 128 * 20 / (10 * 7163) - 81232 * 2 ^ 128 * 80 / (10 * (5 * t + 21852))) / 2 ^ 96).toNat

/-- A die reads `t`: one ms of wear (R425). -/
def WearLog.addMs (w : WearLog) (d : Nat) (t : Int) : WearLog :=
  let w := { w with eq := tset w.eq d (tget 0 w.eq d + agingFactor t) }
  if 0 ≤ t ∧ t < 130 * 16 then
    let k := 26 * d + (t / 80).toNat
    { w with hist := tset w.hist k (tget 0 w.hist k + 1) }
  else w

/-- A die exists and is powered. -/
def State.dieSensed (s : State) (d : Nat) : Bool :=
  if d < 8 then decide (d < s.variant.tiles) else if d = 8 then true else dieBit s.bias.supplyUp (d - 9)

/-- A limit with hysteresis: the dies at it before, the die, and whether it is reached and cleared: the dies at it after. -/
def limitDies (m : BitVec 11) (d : Nat) (reached cleared : Bool) : BitVec 11 :=
  if reached then m ||| BitVec.ofNat 11 (1 <<< d) else if cleared then m &&& ~~~BitVec.ofNat 11 (1 <<< d) else m

/-- A die reaches its critical limit (R422). -/
def State.criticalDie (s : State) (d : Nat) : State :=
  if d < 8 then (s.countCut 1).startCut false (3 <<< (2 * d)) 0
  else if d = 8 then s.moduleCut
  else s.cutRamps (d - 9)

/-- A die reaches its shutdown limit (R422): a logic die stops the whole logic side, which is then held as under PERST#. -/
def State.shutdownDie (s : State) (d : Nat) : State :=
  if d < 9 then
    let s := s.logicReset
    { s with health := { s.health with shutdown := true } }
  else biasFaultOp (d - 9) s

/-- The reading `t` of die `d`. -/
def State.readDie (s : State) (d : Nat) (t : Int) : State :=
  let h := s.health
  let warn : Int := s.fld .THERM_WARN 0 7 0 * 16
  let newWarn := decide (warn ≤ t) && !bitOf h.warnDies.toNat d
  let newCrit := decide (115 * 16 ≤ t) && !bitOf h.critDies.toNat d
  let newShut := decide (125 * 16 ≤ t) && !bitOf h.shutDies.toNat d
  let w := h.wear.addMs d t
  let s := { s with health := { h with
    warnDies := limitDies h.warnDies d newWarn (decide (t ≤ warn - 80))
    critDies := limitDies h.critDies d newCrit (decide (t ≤ 105 * 16))
    shutDies := limitDies h.shutDies d newShut (decide (t < 100 * 16))
    wear := { w with warn := w.warn + b2n newWarn, crit := w.crit + b2n newCrit, shdn := w.shdn + b2n newShut } } }
  let s := s.setReg .THERM_TEMP d (BitVec.ofNat 32 (2 ^ 16 + wrapTo 16 t))
  let s := if newWarn then s.setBit .PWR_STATUS 0 2 true else s
  let s := if newCrit then (s.setBit .PWR_STATUS 0 3 true).criticalDie d else s
  if newShut then s.shutdownDie d else s

/-- Sources 496 and 497 and THROTTLE follow the dies (R422, R423). -/
def State.thermalLines (s : State) : State :=
  let s := s.setBit .PWR_STATUS 0 1 (s.health.warnDies != 0)
  (s.setLine 496 (s.health.warnDies != 0)).setLine 497 (s.health.critDies != 0)

/-- THERMAL_SAMPLE, every 1 ms (R422, R425). -/
def thermalOp (temps : List (BitVec 16)) (s : State) : State :=
  if s.health.sampledAt.any (fun t => decide (s.now < t + 1_000_000)) then s
  else
    let h := s.health
    let s := { s with health := { h with sampledAt := some s.now, wear := { h.wear with ms := h.wear.ms + 1 } } }
    let s := State.forEach (List.range 11) (fun d s =>
      match temps[d]? with
      | some t => if s.dieSensed d then s.readDie d t.toInt else s.setReg .THERM_TEMP d 0
      | none => s) s
    s.thermalLines

def execThermalSample (dt : Nat) (temps : List (BitVec 16)) (s : State) : Result := .next (thermalOp temps (s.pass dt))

/-- WEAR_LOG_IMAGE, every hour (R425). -/
def wearImageOp (s : State) : State :=
  if s.now < s.health.wearAt + 3_600_000_000_000 then s
  else { s with health := { s.health with wearImage := s.health.wear, wearAt := s.now } }

def execWearLogImage (dt : Nat) (s : State) : Result := .next (wearImageOp (s.pass dt))

/-- `WEAR_EQH`, `WEAR_HOURS`, `WEAR_CYCLES` and `WEAR_EVENTS`. -/
def State.wearEqh (s : State) (d : Nat) : Nat := tget 0 s.health.wear.eq d / (36_000 * 2 ^ 32) % 2 ^ 32
def State.wearHours (s : State) : Nat := s.health.wear.ms / 3_600_000 % 2 ^ 32
def State.wearCycles (s : State) : Nat := s.health.wear.cycles % 2 ^ 32
def State.wearEvents (s : State) : Nat :=
  let w := s.health.wear
  min 255 w.warn + min 255 w.crit * 2 ^ 8 + min 255 w.shdn * 2 ^ 16 + min 255 w.supflt * 2 ^ 24

/-- THERM_WARN: a limit outside 60-110 °C is refused with RANGE. -/
def thermWarnOp (v : Word) (s : State) : State :=
  let w := bits v 7 0
  if w < 60 ∨ 110 < w then s.pwrResult Code.range else (s.setReg .THERM_WARN 0 (BitVec.ofNat 32 w)).pwrResult Code.ok

/-! ### Gaffer watchdogs (R424) -/

/-- Watchdog `k` runs. -/
def State.wdRuns (s : State) (k : Nat) : Bool := s.coreRuns k && s.bit .GAF_WD_CTRL k 16

/-- Watchdog `k` is restarted. -/
def State.wdKick (s : State) (k : Nat) : State := { s with health := { s.health with wdKick := tset s.health.wdKick k s.now } }

/-- Gaffer core `k` is reset (R292, R424). -/
def State.resetCore (s : State) (k : Nat) : State := (s.irqCoreReset k).wdKick k

/-- WATCHDOG_EXPIRE. -/
def watchdogOp (k : Nat) (s : State) : State :=
  if !s.wdRuns k || decide (s.now < tget 0 s.health.wdKick k + 1_000_000 * s.fld .GAF_WD_CTRL k 15 0) then s
  else
    let s := (s.raise 506).resetCore k
    let s := s.setFld .GAF_WD_STATUS 0 (8 * k + 7) (8 * k) (min 255 (s.fld .GAF_WD_STATUS 0 (8 * k + 7) (8 * k) + 1))
    let h := s.health
    let recent := if k < 2 then s.now :: h.expiries.filter (fun t => decide (s.now < t + 10_000_000_000)) else h.expiries
    let s := { s with health := { h with expiries := recent, wear := { h.wear with wd := h.wear.wd + 1 } } }
    if k < 2 ∧ 3 ≤ recent.length then
      (((s.setBit .PWR_STATUS 0 4 true).irqCoreReset 0).irqCoreReset 1).setBit .WT_STATUS 0 2 true
    else s

def execWatchdogExpire (dt k : Nat) (s : State) : Result := .next (watchdogOp k (s.pass dt))

/-- GAF_WD_KICK. -/
def gafKickOp (k : Nat) (s : State) : State := (s.wdKick k).pwrResult Code.ok

def execGafWdKick (who : Requester) (k : Nat) (s : State) : Result := .next (s.regAccess who .GAF_WD_KICK k (gafKickOp k))

/-- GAF_RESTART: cores 0 and 1 restart, and the hold is released. -/
def gafRestartOp (s : State) : State :=
  let s := { s with health := { s.health with expiries := [] } }
  (((s.setBit .PWR_STATUS 0 4 false).resetCore 0).resetCore 1).pwrResult Code.ok

def execGafRestart (who : Requester) (s : State) : Result := .next (s.regAccess who .GAF_CMD 0 gafRestartOp)

/-- GAF_WD_CTRL: the watchdogs of cores 0 and 1 are fixed; a timeout is 1-65,535 ms. -/
def gafWdCtrlOp (k : Nat) (v : Word) (s : State) : State :=
  if k < 2 then s.pwrResult Code.ok
  else if bits v 15 0 = 0 then s.pwrResult Code.range
  else
    let s := if bits v 16 16 = 1 ∧ s.bit .GAF_WD_CTRL k 16 = false then s.wdKick k else s
    (s.setReg .GAF_WD_CTRL k (v &&& 0x1FFFF)).pwrResult Code.ok

/-- ALERT# (R426). -/
def State.alert (s : State) : Bool :=
  (s.bit .PWR_ALERT_EN 0 0 && s.health.warnDies != 0) || (s.bit .PWR_ALERT_EN 0 1 && s.health.critDies != 0) ||
    (s.bit .PWR_ALERT_EN 0 2 && s.health.railBad != 0) || (s.bit .PWR_ALERT_EN 0 3 && s.bit .PWR_STATUS 0 4)

end Sys2Proof.Machine
end

