-- ==== Sys2Proof/Machine/Mailbox.lean ====
section
/-!
DEFINITION. The object service's transports (R378-R392): Burtis frames, the request queue, sessions with their kept responses and
subscriptions, and the PCIe mailboxes. Machine/Service.lean executes the queued requests.
-/

namespace Sys2Proof.Machine

/-! ### Frames (R382) -/

/-- `n` bytes of a frame from byte `off` on, as a number. -/
def frameNat (f : List Byte) (off n : Nat) : Nat := leNat ((f.drop off).take n)

def frameOpcode (f : List Byte) : Nat := frameNat f 1 1 % 128
def frameSession (f : List Byte) : Nat := frameNat f 2 2
def frameSeq (f : List Byte) : Nat := frameNat f 4 4
def frameIndex (f : List Byte) : Nat := frameNat f 8 2
def frameSub (f : List Byte) : Nat := frameNat f 10 1
def frameLength (f : List Byte) : Nat := frameNat f 12 2
def framePayload (f : List Byte) : List Byte := (f.drop 16).take (frameLength f)

/-- The device's frame in answer to `f`. -/
def answerFrame (f : List Byte) (session status aux : Nat) (payload : List Byte) : List Byte :=
  leBytes 1 1 ++ leBytes 1 (128 + frameOpcode f) ++ leBytes 2 session ++ leBytes 4 (frameSeq f) ++ leBytes 2 (frameIndex f) ++
    leBytes 1 (frameSub f) ++ leBytes 1 status ++ leBytes 2 payload.length ++ leBytes 2 aux ++ payload

/-- The header asks for something the protocol does not have (R382). -/
def headerBad (f : List Byte) : Bool :=
  frameNat f 0 1 != 1 || decide (128 ≤ frameNat f 1 1) || frameOpcode f == 0 || decide (8 < frameOpcode f) || frameNat f 11 1 != 0

/-! ### Sessions (R387-R389) -/

/-- Session `slot`: 1-32 of the network, 0x81 + k of mailbox k. -/
def State.session (s : State) (slot : Nat) : Session := tget {} s.od.sess slot
def State.setSession (s : State) (slot : Nat) (x : Session) : State := { s with od := { s.od with sess := tset s.od.sess slot x } }

/-- The lease of a session, in cc (R388). -/
def leaseCc : Nat := 10_000_000_000

/-- A network session's lease starts again. -/
def State.renew (s : State) (slot : Nat) : State :=
  if 1 ≤ slot ∧ slot ≤ 32 then s.setSession slot { s.session slot with leaseEnd := s.now + leaseCc } else s

/-- A session closes: its subscriptions end and its queued requests are discarded (R388). -/
def State.closeSession (s : State) (slot : Nat) : State :=
  let s := s.setSession slot { gen := (s.session slot).gen }
  { s with od := { s.od with queue := s.od.queue.filter (fun (r : Request) => r.slot != slot || r.mailbox.isSome) } }

/-- The open session that a network frame names, from the address and port it is bound to. -/
def State.namedSession (s : State) (d : Datagram) : Option Nat :=
  let slot := frameSession d.bytes % 256
  let x := s.session slot
  if 1 ≤ slot ∧ slot ≤ 32 ∧ x.isOpen = true ∧ x.gen = frameSession d.bytes / 256 ∧ x.addr = d.addr.toNat ∧ x.port = d.port.toNat then some slot
  else none

/-- The kept response to a SEQ. -/
def Session.keptFor (x : Session) (seq : Nat) : Option (List Byte) := tfind x.kept seq

/-- A session keeps the response to a SEQ, with the last 7 before it (R389). -/
def State.keep (s : State) (slot seq : Nat) (f : List Byte) : State :=
  let x := s.session slot
  s.setSession slot { x with kept := (seq, f) :: (x.kept.filter (fun (e : Nat × List Byte) => e.1 != seq)).take 7 }

/-- SESSION_LEASE_EXPIRE (R388). -/
def leaseExpireOp (slot : Nat) (s : State) : State :=
  let x := s.session slot
  if 1 ≤ slot ∧ slot ≤ 32 ∧ x.isOpen = true ∧ x.leaseEnd ≤ s.now then (s.closeSession slot).countServed 0x1031 5 true else s

def execSessionLeaseExpire (dt slot : Nat) (s : State) : Result := .next (leaseExpireOp slot (s.pass dt))

/-! ### Answers -/

/-- The base of mailbox `k` in BAR0 (R391). -/
def mailboxBase (k : Nat) : Nat := 0xB0000 + 0x1000 * k

/-- `MB_STATUS.READY`, the condition of source 1 + k. -/
def State.setReady (s : State) (k : Nat) (on : Bool) : State := (s.setBit .MB_STATUS k 1 on).setLine (1 + k) on

/-- A response is written into `MB_RSP`: PEND clears and READY is set (R392). -/
def State.mbWrite (s : State) (k : Nat) (f : List Byte) : State :=
  ((s.writeBytes 3 (mailboxBase k + 0x800) f).setBit .MB_STATUS k 0 false).setReady k true

/-- A response of mailbox `k` is ready: it waits while one is unreleased. -/
def State.mbRespond (s : State) (k : Nat) (f : List Byte) : State :=
  if s.bit .MB_STATUS k 1 then { s with od := { s.od with waiting := tset s.od.waiting k f } } else s.mbWrite k f

/-- An answer leaves through the transport its request came in by; every BUSY answer is counted (R393). -/
def State.answer (s : State) (r : Request) (f : List Byte) : State :=
  let s := if frameNat f 11 1 = Code.busy then s.countServed 0x1031 3 true else s
  match r.mailbox with
  | some k => s.mbRespond k f
  | none => s.emit (.burtis r.netB r.addr r.port f)

/-! ### The queue (R378) -/

/-- The retry-after hint in ms. -/
def State.busyHint (s : State) : Nat :=
  min 1000 (max 1 ((s.od.queue.length * s.fld .OD_QUEUE 0 31 16 + 999) / 1000))

/-- The hub answers BUSY: the queue is full, the session holds 16 entries, or cores 0 and 1 are held (R378, R424). -/
def State.queueRefuses (s : State) (slot : Nat) : Bool :=
  decide (256 ≤ s.od.queue.length) || s.bit .PWR_STATUS 0 4 ||
    (slot != 0 && decide (16 ≤ (s.od.queue.filter (fun (r : Request) => r.slot == slot)).length))

/-- The largest depth since `Q_PEAK` was read, and the requests answered BUSY by R378, as GAFFER_LOAD_UPDATE is to publish them
(R380): they stand at subindices that 0x1F80 does not have. -/
def State.peakDepth (s : State) : Nat := s.servedAt 0x1F80 0x14 0
def State.setPeakDepth (s : State) (v : Nat) : State := s.setServed 0x1F80 0x14 v
def State.busyAnswers (s : State) : Nat := s.servedAt 0x1F80 0x15 0

/-- A request enters the queue. -/
def State.enqueue (s : State) (r : Request) : State :=
  let s := { s with od := { s.od with queue := s.od.queue ++ [r] } }
  s.setPeakDepth (max s.peakDepth s.od.queue.length)

/-- A request `r` of a session (0 a network HELLO) arrives with `bad` what is wrong with it: it is answered by the hub, answered
again, discarded as already queued, or queued (R36, R378, R389). -/
def State.submit (s : State) (r : Request) (bad : List (Bool × Nat)) : State :=
  let f := r.frame
  let full := s.queueRefuses r.slot
  let known := !(bad.any Prod.fst)
  let s := if known then (if r.mailbox.isNone then s.countServed 0x1031 1 false else s).renew r.slot else s
  let again := if known && r.slot != 0 then (s.session r.slot).keptFor (frameSeq f) else none
  match again with
  | some k => s.answer r k
  | none =>
    if known && r.slot != 0 && s.od.queue.any (fun (q : Request) => q.slot == r.slot && frameSeq q.frame == frameSeq f) then s
    else
      match lowestCode ((full, Code.busy) :: bad) with
      | some code =>
        let s := if code = Code.busy then s.countServed 0x1F80 0x15 true else s
        s.answer r (answerFrame f (frameSession f) code (if code = Code.busy then s.busyHint else 0) [])
      | none => s.enqueue r

/-- The datagram is no frame, and is discarded: an IP fragment, too short, or of another size (R381). -/
def noFrame (d : Datagram) : Bool :=
  d.fragment || decide (d.bytes.length < 16) || d.bytes.length != 16 + frameLength d.bytes

/-- A frame arrives from the network. -/
def State.receiveFrame (s : State) (d : Datagram) : State :=
  let hello := frameOpcode d.bytes == 1
  let slot := if hello then some 0 else s.namedSession d
  s.submit { slot := slot.getD 0, netB := d.netB, addr := d.addr.toNat, port := d.port.toNat, frame := d.bytes }
    [(slot.isNone, Code.access), (decide (1400 < frameLength d.bytes), Code.type), (headerBad d.bytes, Code.range)]

/-- REQUEST_ENQUEUE. -/
def requestEnqueueOp (d : Datagram) (s : State) : State :=
  if s.held || noFrame d || headerBad d.bytes then s else s.receiveFrame d

def execRequestEnqueue (dt : Nat) (d : Datagram) (s : State) : Result := .next (requestEnqueueOp d (s.pass dt))

/-- BURTIS_BAD_FRAME (R381, R382). -/
def badFrameOp (d : Datagram) (s : State) : State :=
  if s.held || d.fragment then s
  else if noFrame d then s.countServed 0x1031 2 true
  else if headerBad d.bytes then s.receiveFrame d
  else s

def execBurtisBadFrame (dt : Nat) (d : Datagram) (s : State) : Result := .next (badFrameOp d (s.pass dt))

/-! ### Mailboxes (R391, R392) -/

/-- `MB_STATUS.LAST_RESULT`. -/
def State.mbResult (s : State) (k code : Nat) : State := s.setFld .MB_STATUS k 15 8 code

/-- MB_SUBMIT. -/
def mbSubmitOp (k : Nat) (s : State) : State :=
  if s.bit .MB_STATUS k 0 then s.mbResult k Code.busy
  else
    let len := s.le 3 (mailboxBase k + 12) 2
    let f := s.bytes 3 (mailboxBase k) (16 + min 1400 len)
    let slot := 0x81 + k
    let mine := frameSession f == slot || (frameOpcode f == 1 && frameSession f == 0)
    let s := (s.mbResult k Code.ok).setBit .MB_STATUS k 0 true
    s.submit { slot, mailbox := some k, frame := f }
      [(!mine, Code.access), (decide (1400 < len), Code.type), (headerBad f || frameOpcode f == 7, Code.range)]

def execMbSubmit (who : Requester) (k : Nat) (s : State) : Result := .next (s.regAccess who .MB_CTRL k (mbSubmitOp k))

/-- MB_RELEASE. -/
def mbReleaseOp (k : Nat) (s : State) : State :=
  let s := s.mbResult k Code.ok
  match tfind s.od.waiting k with
  | some f => ({ s with od := { s.od with waiting := tdel s.od.waiting k } } : State).mbWrite k f
  | none => if s.bit .MB_STATUS k 1 then s.setReady k false else s

def execMbRelease (who : Requester) (k : Nat) (s : State) : Result := .next (s.regAccess who .MB_CTRL k (mbReleaseOp k))

/-- A write of `MB_CTRL`. -/
def mbCtrlOp (k : Nat) (v : Word) (s : State) : State :=
  match bits v 0 0, bits v 1 1 with
  | 1, 1 => s.mbResult k Code.range
  | 1, _ => mbSubmitOp k s
  | _, 1 => mbReleaseOp k s
  | _, _ => s.mbResult k Code.ok

/-- FLR clears PEND and READY and discards the mailboxes' queued requests (R392). -/
def State.mbFlr (s : State) : State :=
  let s := State.forEach (List.range 4) (fun k s => (s.setBit .MB_STATUS k 0 false).setReady k false) s
  { s with od := { s.od with waiting := [], queue := s.od.queue.filter (fun (r : Request) => r.mailbox.isNone) } }

end Sys2Proof.Machine
end

