-- ==== Sys2Proof/Machine/Host.lean ====
section
/-!
DEFINITION. The host interface (R346-R357, R364, R365): PERST#, Function Level Reset, power management, latency tolerance and the
window of BAR2 into attached DDR5. Feature negotiation stands in Machine/Objects.lean, with the loading of saved objects.
-/

namespace Sys2Proof.Machine

/-- `HIF_STATUS.LAST_RESULT`. -/
def State.hifResult (s : State) (code : Nat) : State := s.setFld .HIF_STATUS 0 7 0 code

/-! ### PERST# and FLR (R364, R365) -/

/-- PERST_ASSERT. A thermal shutdown ends with it once every die is below 100 °C (R422). -/
def perstAssertOp (s : State) : State :=
  let cool := (List.range 11).all (fun d => !s.bit .THERM_TEMP d 16 || decide (signed 16 (s.fld .THERM_TEMP d 15 0) < 100 * 16))
  let s := s.logicReset
  { s with host := { s.host with perst := true }, health := { s.health with shutdown := s.health.shutdown && !cool } }

def execPerstAssert (dt : Nat) (s : State) : Result := .next (perstAssertOp (s.pass dt))

/-- PERST# deasserts: the logic side starts from its power-up state, and the link trains to a speed and width (R347, R365). -/
def perstRelease (speed width : Nat) (s : State) : State :=
  let s := s.logicReset
  let s := ({ s with host := { s.host with perst := false } } : State)
  if s.held then s
  else
    let s := (s.noteRails.setFld .HIF_LINK 0 3 0 speed).setFld .HIF_LINK 0 9 4 width
    if speed < 3 ∨ width < 8 then s.setBit .GLB_STATUS 0 4 true else s

/-- What an FLR does beside feature negotiation (R78, R86, R272, R292, R364, R392). -/
def State.flrReset (s : State) : State :=
  let s := (s.moduleCut.irqFlr).mbFlr
  let s := State.forEach (List.range 128) (fun l s => s.setBit .TIO_CFG l 0 false) s
  let s := State.forEach (List.range (8 * s.variant.regions)) (fun k s => s.emptyStream (k / 8) (k % 8)) s
  let s := s.resetRegs [.HIF_BAR2_BASE_LO, .HIF_BAR2_BASE_HI, .HIF_LTR_BUSY, .HIF_LTR_IDLE, .GLB_STATUS] (fun _ => true)
  let s := (s.setFld .HIF_LINK 0 11 10 0).setBit .HIF_LINK 0 12 false
  let s := State.forEach (List.range s.variant.regions) (fun n s =>
    let p := s.regionPower n
    if p = {} then s else s.setPower n { p with idleSince := s.now, deepSince := s.now }) s
  { s with host := {} }

/-! ### Power management (R354, R355) -/

/-- D3HOT_ENTRY. -/
def d3hotOp (s : State) : State :=
  (s.setFld .HIF_LINK 0 11 10 3).setMsix { s.irq.msix with pmeSignalled := false }

def execD3hotEntry (dt : Nat) (s : State) : Result := .next (d3hotOp (s.pass dt))

/-- D0_RETURN: held operations issue and due messages are sent (R291, R354). -/
def d0Op (s : State) : State :=
  if !s.inD3hot then s
  else
    let s := (s.setFld .HIF_LINK 0 11 10 0).gripIssue
    State.forEach (List.range 32) (fun v s => if s.irq.msix.enable then msixSendOp v s else s) s

def execD0Return (dt : Nat) (s : State) : Result := .next (d0Op (s.pass dt))

/-- L1_ENTRY (R355): no read of host memory is under way and no message is due. -/
def l1Op (s : State) : State :=
  if s.held || s.inD3hot || s.hostReads != 0 || (List.range 32).any (fun v => s.messageDue (v + 4)) then s
  else s.setBit .HIF_LINK 0 12 true

def execL1Entry (dt : Nat) (s : State) : Result := .next (l1Op (s.pass dt))

/-! ### Latency tolerance (R356) -/

/-- The device is busy for LTR. -/
def State.ltrBusy (s : State) : Bool :=
  s.gripUses 0 ||
    (List.range s.variant.regions).any (fun n => s.bit .DLY_CTRL n 0 && s.fld .GRIP_DLY_CFG n 3 0 == 0) ||
    (List.range 36).any (fun t => s.messageHeld t)

/-- The latency to report: VALUE and SCALE of the register in force. -/
def State.ltrValue (s : State) : Nat := if s.ltrBusy then s.fld .HIF_LTR_BUSY 0 12 0 else s.fld .HIF_LTR_IDLE 0 12 0

/-- LTR_SEND: on a change, at most once every 10 µs. -/
def ltrSendOp (s : State) : State :=
  let due := match s.host.ltrSent with
    | none => true
    | some (v, t) => v != s.ltrValue && decide (t + 10_000 ≤ s.now)
  if s.host.ltrEn && due && !s.held && !s.inD3hot then
    let v := s.ltrValue
    (({ s with host := { s.host with ltrSent := some (v, s.now) } } : State).setBit .HIF_LINK 0 12 false).emit (.ltr v)
  else s

def execLtrSend (dt : Nat) (s : State) : Result := .next (ltrSendOp (s.pass dt))

/-- A write of `HIF_LTR_BUSY` or `HIF_LTR_IDLE`; a write to the one in force is reported anew. -/
def hifLtrOp (busy : Bool) (v : Word) (s : State) : State :=
  if 6 ≤ bits v 12 10 then s.hifResult Code.range
  else
    let s := (s.setReg (if busy then .HIF_LTR_BUSY else .HIF_LTR_IDLE) 0 (v &&& 0x1FFF)).hifResult Code.ok
    if s.ltrBusy = busy then
      { s with host := { s.host with ltrSent := s.host.ltrSent.map (fun (e : Nat × Nat) => (2 ^ 32, e.2)) } }
    else s

/-! ### BAR2 (R351, R352) -/

/-- HIF_BAR2_BASE_WRITE. -/
def bar2BaseOp (v : Nat) (s : State) : State :=
  if v % 2 ^ 30 ≠ 0 then s.hifResult Code.align
  else (s.setPair .HIF_BAR2_BASE_LO .HIF_BAR2_BASE_HI 0 (v % 2 ^ 42)).hifResult Code.ok

def execHifBar2BaseWrite (who : Requester) (v : BitVec 64) (s : State) : Result :=
  .next (s.regAccess who .HIF_BAR2_BASE_LO 0 (bar2BaseOp v.toNat))

/-- A BAR2 access at offset `x` reaches DDR5. -/
def State.bar2Open (s : State) (x : Nat) : Bool :=
  s.bit .MEM_STATUS 0 0 && !s.bit .MEM_CTRL 0 0 &&
    decide (s.pair .HIF_BAR2_BASE_LO .HIF_BAR2_BASE_HI + x < s.pair .MEM_CAP_LO .MEM_CAP_HI)

/-- The bytes of a write whose byte enable is set. -/
def State.writeEnabled (s : State) (a : Nat) : List (Option Byte) → State
  | [] => s
  | some b :: bs => (s.writeBytes 0 a [b]).writeEnabled (a + 1) bs
  | none :: bs => s.writeEnabled (a + 1) bs

/-- BAR2_ACCESS. -/
def bar2AccessOp (op : Bar2Op) (s : State) : State :=
  let x := match op with | .read x _ _ => x | .write x _ => x
  let a := s.pair .HIF_BAR2_BASE_LO .HIF_BAR2_BASE_HI + x
  if s.held || decide (2 ^ s.host.bar2Log ≤ x) then s
  else if s.inD3hot then s.emit (.unsupported .host)
  else
    let s := s.setBit .HIF_LINK 0 12 false
    match op with
    | .read _ n ecc =>
      if !s.bar2Open x then (s.setBit .GLB_STATUS 0 3 true).emit (.bar2Data (List.replicate n 0) false)
      else
        let data := s.bytes 0 a n
        match ecc with
        | .clean => s.emit (.bar2Data data false)
        | .corrected d => (s.eccError a false d).emit (.bar2Data data false)
        | .uncorrectable d => (s.eccError a true d).emit (.bar2Data data true)
    | .write _ bs => if !s.bar2Open x then s.setBit .GLB_STATUS 0 3 true else s.writeEnabled a bs

def execBar2Access (op : Bar2Op) (s : State) : Result := .next (bar2AccessOp op s)

end Sys2Proof.Machine
end

