-- ==== Sys2Proof/Machine/Epoch.lean ====
section
/-!
DEFINITION. The start of a clapper epoch (R44, R46) and the clapper check (R47-R50), over what each block does at them.
-/

namespace Sys2Proof.Machine

/-! ### EPOCH_START -/

/-- The router at a new epoch (R270, R273): words, task inputs and counters are cleared, and pacing timers stop. -/
def State.routerEpoch (s : State) : State :=
  let s := { s with router := { s.router with emitted := [], carried := [], task := [], ptRun := [] } }
  s.resetRegs [.EV_COINC, .EV_LOST, .LEV_COINC, .LEV_LOST] (fun _ => true)

/-- The crossings of the regions that run lock to the epoch, whose footage 0 is cc `e` (R23). Those of a region in P3 or P4 wait
for a check. -/
def State.lockToEpoch (s : State) (e : Nat) : State :=
  let asleep (n : Nat) : Bool := decide (3 ≤ (s.regionPower n).state)
  let s := State.forEach (s.crossings.filter (fun k => !asleep (keyRegion k))) (fun k s => (s.setCrossing k {}).releaseAfter e k) s
  { s with clap := { s.clap with reloadWait := BitVec.ofNat 16 (bitMask ((List.range 16).filter (fun n => bitOf s.clap.reloadWait.toNat n && asleep n))) } }

/-- Trigger sources that are asserted stay so from footage 0 on; everything else known of the old footage is gone (R46). -/
def State.triggerEpoch (s : State) : State :=
  let open_ (x : TermInterval) : Option TermInterval := if x.c.isNone then some { x with a := 0 } else none
  { s with take := { s.take with
      eng := s.take.eng.map (fun (e : Nat × TakeEngine) => (e.1, { e.2 with terms := e.2.terms.filterMap open_, marks := [] }))
      sys := { s.take.sys with arriving := [], joined := [] }
      flagged := [] } }

/-- Footage 0 begins, 64 cc after the registration of the epoch's edge. -/
def epochStartOp (s : State) : State :=
  match s.clap.regAt with
  | some (x, pos) =>
    if s.now < x + 64 then s
    else
      let e := x + 64
      let s := { s with clap := { s.clap with state := .running, epoch := some e, s0 := pos, regAt := none, winEdge := none,
                                              winEdges := 0, lastCheck := 0 } }
      let s := (s.setTriple .CLAP_EPOCH_WALL (s.wallAt e)).setFld .CLAP_STATUS 0 31 24 Code.ok
      let s := (s.resetReg .CLAP_SLIPS 0).resetReg .XLOCK_DROPS 0
      ((((s.lockToEpoch e).fabricEpoch).routerEpoch.triggerEpoch).linkEpoch).raise 436
  | none => s

def execEpochStart (dt : Nat) (s : State) : Result := .next (epochStartOp (s.pass dt))

/-! ### CLAPPER_CHECK -/

/-- Δ of the edge of check `k`, in samples (R47). -/
def State.displacement (s : State) (k : Nat) (edge : Nat × Nat) : Int :=
  ((edge.1 : Int) - (k * 2 ^ 20 - 64 : Nat)) * 16 + ((edge.2 : Int) - s.clap.s0)

/-- Check `k` is judged: whether it passes, and the slip it declares otherwise (R47, R48). A standalone module's checks are its
own (R45). -/
def State.judgeCheck (s : State) (k : Nat) : Bool × State :=
  if s.role = 2 then (true, s)
  else match s.clap.winEdge with
    | none => (false, s.slip 1 0 0)
    | some edge =>
      let d := s.displacement k edge
      if s.clap.winEdges ≠ 1 then (false, s)
      else if d.natAbs ≤ s.fld .CLAP_CTRL 0 19 16 then (true, s)
      else (false, s.slip 2 0 (wrapTo 16 d))

/-- A passing check reloads the footage of the regions that wait for it and locks their crossings (R24, R50). -/
def State.reloadRegions (s : State) : State :=
  let ready := (List.range s.variant.regions).filter (fun n =>
    bitOf s.clap.reloadWait.toNat n && (s.bit .CLK_STATUS 0 (8 + n / 2) || !s.bit .CLK_STATUS 0 1))
  let s := State.forEach (s.crossings.filter (fun k => ready.contains (keyRegion k))) (fun k s => s.releaseAfter s.now k) s
  { s with clap := { s.clap with reloadWait := s.clap.reloadWait &&& ~~~BitVec.ofNat 16 (bitMask ready) } }

/-- Check `k` in the hub. -/
def State.checkAt (s : State) (k : Nat) (obs : CheckObservation) : State :=
  let judged := s.clap.regAt.isNone
  let r := if judged then s.judgeCheck k else (false, s)
  let s := { r.2 with clap := { r.2.clap with lastCheck := k, winEdge := none, winEdges := 0 } }
  let s := if judged then State.forEach (obs.counterMismatch.filter (fun n => s.hasRegion n.val)) (fun n s => s.slip 6 n.val 0) s else s
  let s := if r.1 then s.reloadRegions else s
  let s := s.applyDefaults.crossingFindings (obs.occupancyMismatch.map (fun x => (crossingKey x, .occupancy)))
  let s := State.forEach (obs.skews.filter (fun e => decide (e.1.val < s.variant.tiles))) (fun e s =>
    s.setReg .CLAP_TILE_SKEW e.1.val (BitVec.ofNat 32 (2 ^ 16 + e.2.toNat))) s
  s.linkCheck (obs.linksReady.map Fin.val)

/-- CLAPPER_CHECK: footage is k · 2^20 for a k that was not judged yet. -/
def clapperCheckOp (obs : CheckObservation) (s : State) : State :=
  let k := s.ftg / 2 ^ 20
  if s.epochRun && s.ftg % 2 ^ 20 == 0 && decide (s.clap.lastCheck < k) then s.checkAt k obs else s

def execClapperCheck (dt : Nat) (obs : CheckObservation) (s : State) : Result := .next (clapperCheckOp obs (s.pass dt))

end Sys2Proof.Machine
end

