-- ==== Sys2Proof/Machine/Ports.lean ====
section
/-!
DEFINITION. The management ports (R448, R449): PMBus and the SMBus sideband, which the power and health controller answers from
the always-on island, and JTAG.
-/

namespace Sys2Proof.Machine

/-- The always-on island answers (R448): VDD_AON is within its tolerance. -/
def State.aonUp (s : State) : Bool := !bitOf s.health.railBad.toNat 0

/-- A port's answer, when the always-on island can give one. -/
def State.portAnswer (s : State) (o : Out) : State := if s.aonUp then s.emit o else s

/-- A value in 2^-4 units in the PMBus linear format: 5 bits of exponent, 11 of mantissa, the least exponent from -4 on whose
mantissa fits (notes/assumptions/76.md). -/
def linear11From : Nat → Int → Nat → Nat
  | 0, _, _ => 0
  | f + 1, x, n =>
    if -1024 ≤ x ∧ x ≤ 1023 then wrapTo 5 ((n : Int) - 4) * 2048 + wrapTo 11 x else linear11From f (x / 2) (n + 1)

def linear11 (x : Int) : Nat := linear11From 20 x 0

/-- The hottest of the dies with a valid reading. -/
def State.hottest (s : State) (ds : List Nat) : Option Int :=
  (ds.filter (fun d => s.bit .THERM_TEMP d 16)).foldl (fun m d =>
    let t := signed 16 (s.fld .THERM_TEMP d 15 0)
    match m with
    | none => some t
    | some x => some (max x t)) none

/-- STATUS_WORD. -/
def statusWordOp (smb : Bool) (s : State) : State :=
  s.portAnswer (.pmbus smb (leBytes 2 (4 * b2n (s.health.warnDies != 0) + 64 * b2n s.held)))

def execStatusWord (dt : Nat) (smb : Bool) (s : State) : Result := .next (statusWordOp smb (s.pass dt))

/-- The hottest of some dies, or a free value where none has a reading. -/
def temperatureOp (smb : Bool) (ds : List Nat) (s : State) : State :=
  match s.hottest ds with
  | some t => s.portAnswer (.pmbus smb (leBytes 2 (linear11 t)))
  | none => let f := s.free 16; f.2.portAnswer (.pmbus smb (leBytes 2 f.1))

/-- READ_TEMPERATURE_1: the logic-side dies. -/
def execReadTemperature1 (dt : Nat) (smb : Bool) (s : State) : Result := .next (temperatureOp smb (List.range 9) (s.pass dt))

/-- READ_TEMPERATURE_2: the bias dies. -/
def execReadTemperature2 (dt : Nat) (smb : Bool) (s : State) : Result := .next (temperatureOp smb [9, 10] (s.pass dt))

/-- READ_PIN: the module's estimate is the outside's. -/
def readPinOp (smb : Bool) (watts : Nat) (s : State) : State := s.portAnswer (.pmbus smb (leBytes 2 (linear11 (16 * watts))))

def execReadPin (dt : Nat) (smb : Bool) (watts : Nat) (s : State) : Result := .next (readPinOp smb watts (s.pass dt))

/-- PMBUS_REVISION. -/
def revisionOp (smb : Bool) (s : State) : State := s.portAnswer (.pmbus smb [0x33])

def execPmbusRevision (dt : Nat) (smb : Bool) (s : State) : Result := .next (revisionOp smb (s.pass dt))

/-- The read commands of R448. -/
def pmbusReads : List Byte := [0x79, 0x8D, 0x8E, 0x97, 0x98]

/-- PMBUS_UNSUPPORTED: any other command, and every write, is not acknowledged. -/
def unsupportedOp (smb : Bool) (code : Byte) (write : Bool) (s : State) : State :=
  if !write && pmbusReads.contains code then s else s.portAnswer (.pmbusNack smb)

def execPmbusUnsupported (dt : Nat) (smb : Bool) (code : Byte) (write : Bool) (s : State) : Result :=
  .next (unsupportedOp smb code write (s.pass dt))

/-- The IDCODE of a variant (R449). -/
def idcodeWord (v : Variant) : BitVec 32 :=
  let device : BitVec 16 := match v with | .rq512 => 0x0512 | .rq256 => 0x0256 | .rq128 => 0x0128
  (0x1 : BitVec 4) ++ device ++ Config.jedec ++ (0x1 : BitVec 1)

/-- A JTAG instruction selects a register, which captures `bits`. -/
def State.jtagSelect (s : State) (r : JtagRegister) (bits : List Bool) : State :=
  { s with jtag := r }.emit (.jtagCapture bits)

/-- BYPASS: the bypass register captures a 0. -/
def execBypass (dt : Nat) (s : State) : Result := .next ((s.pass dt).jtagSelect .bypass [false])

/-- IDCODE, the least significant bit first. -/
def execIdcode (dt : Nat) (s : State) : Result :=
  .next ((s.pass dt).jtagSelect .idcode ((List.range 32).map (idcodeWord s.variant).getLsbD))

/-- SAMPLE: the boundary-scan register captures the lands, which the outside presents. -/
def execSample (dt : Nat) (lands : List Bool) (s : State) : Result := .next ((s.pass dt).jtagSelect .boundary lands)

end Sys2Proof.Machine
end

