-- ==== Sys2Proof/Machine/Views.lean ====
section
/-!
DEFINITION. What a read of a register returns (R10, R11): the register that lies at an address, the 64-bit pairs, the registers
that show the typed fields of the state, and the reads that claim.
-/

namespace Sys2Proof.Machine

/-! ### The register at an address (R27, R28) -/

/-- The number of instances of a repetition. -/
def dimCount (ds : List (Nat × Nat)) : Nat := (ds.map Prod.fst).foldl (· * ·) 1

/-- The instance that lies `o` bytes after the first one. -/
def instAt : List (Nat × Nat) → Nat → Option Nat
  | [], o => if o = 0 then some 0 else none
  | (n, st) :: ds, o => if o / st < n then (instAt ds (o % st)).map (o / st * dimCount ds + ·) else none

/-- Register `r` lies at address `a`. -/
def regIs (a : Nat) (r : Reg) : Option (Reg × Nat) :=
  if (regInfo r).base ≤ a then (instAt (regInfo r).dims (a - (regInfo r).base)).map (fun i => (r, i)) else none

/-- The register at BAR0 address `a` and its instance. -/
def regAt (a : Nat) : Option (Reg × Nat) := allRegs.findSome? (regIs a)

/-- The register that holds the high word of a 64-bit pair (R10). -/
def pairHigh : Reg → Option Reg
  | .XLOCK_FAULT_FTG_LO => some .XLOCK_FAULT_FTG_HI | .FTG_LO => some .FTG_HI | .CLAP_SLIP_FTG_LO => some .CLAP_SLIP_FTG_HI
  | .VOICE_FTW_LO => some .VOICE_FTW_HI | .VOICE_ACT_FTW_LO => some .VOICE_ACT_FTW_HI | .SCR_T0_LO => some .SCR_T0_HI
  | .SCR_T_LO => some .SCR_T_HI | .SWG_BASE_LO => some .SWG_BASE_HI | .SWG_STEP_LO => some .SWG_STEP_HI
  | .SWG_STEP2_LO => some .SWG_STEP2_HI | .TONE_FTW_LO => some .TONE_FTW_HI | .TONE_ACT_FTW_LO => some .TONE_ACT_FTW_HI
  | .TONE_RES_FTG_LO => some .TONE_RES_FTG_HI | .TRK_FTW_LO => some .TRK_FTW_HI | .KRN_A_I_LO => some .KRN_A_I_HI
  | .KRN_A_Q_LO => some .KRN_A_Q_HI | .FAB_VIEW_FTG_LO => some .FAB_VIEW_FTG_HI | .TK_VAL_LO => some .TK_VAL_HI
  | .TK_CARE_LO => some .TK_CARE_HI | .TK_POST_LO => some .TK_POST_HI | .TK_WIN_START_LO => some .TK_WIN_START_HI
  | .TK_WIN_END_LO => some .TK_WIN_END_HI | .TK_RING_BASE_LO => some .TK_RING_BASE_HI | .TK_TLEN_LO => some .TK_TLEN_HI
  | .STK_WIN_START_LO => some .STK_WIN_START_HI | .STK_WIN_END_LO => some .STK_WIN_END_HI | .STK_RING_BASE_LO => some .STK_RING_BASE_HI
  | .ADC_S1_LO => some .ADC_S1_HI | .ADC_S2_LO => some .ADC_S2_HI | .ADC_C1_LO => some .ADC_C1_HI
  | .ADC_C2_LO => some .ADC_C2_HI | .MON_VDC_LO => some .MON_VDC_HI | .MON_VMS_LO => some .MON_VMS_HI
  | .MON_CDC_LO => some .MON_CDC_HI | .MON_CMS_LO => some .MON_CMS_HI | .IC_DATA_LO => some .IC_DATA_HI
  | .GRIP_CH_HEAD_LO => some .GRIP_CH_HEAD_HI | .GRIP_CH_DESC_LO => some .GRIP_CH_DESC_HI | .GRIP_DLY_BASE_LO => some .GRIP_DLY_BASE_HI
  | .MEM_CAP_LO => some .MEM_CAP_HI | .MEM_ERR_ADDR_LO => some .MEM_ERR_ADDR_HI | .MT_BASE_LO => some .MT_BASE_HI
  | .MT_STEP_LO => some .MT_STEP_HI | .MT_STEP2_LO => some .MT_STEP2_HI | .MT_PAT_LO => some .MT_PAT_HI
  | .MT_FAIL_ADDR_LO => some .MT_FAIL_ADDR_HI | .ID_SERIAL_LO => some .ID_SERIAL_HI | .CUT_CMASK_LO => some .CUT_CMASK_HI
  | .HIF_BAR2_BASE_LO => some .HIF_BAR2_BASE_HI | .WT_NOW_FTG_LO => some .WT_NOW_FTG_HI | .WT_INC_LO => some .WT_INC_HI
  | .WT_EPOCH_FTG_LO => some .WT_EPOCH_FTG_HI | .PTP_MASTER_LO => some .PTP_MASTER_HI | .PTP_OFS_LO => some .PTP_OFS_HI
  | .PPS_IN_TS_LO => some .PPS_IN_TS_HI | .PPS_IN_FTG_LO => some .PPS_IN_FTG_HI | .PWR_CRESET_LO => some .PWR_CRESET_HI
  | .PWR_CSTAT_LO => some .PWR_CSTAT_HI
  | _ => none

/-- Instances of a register in one cluster window, if it lies in one. -/
def perCluster (r : Reg) : Nat := dimCount ((regInfo r).dims.drop 2)

/-- Instances of a register in one bias die. -/
def perDie (r : Reg) : Nat := dimCount ((regInfo r).dims.drop 1)

/-- The die of a register of a bias-die block other than `BIAS_DIE_STATUS`, which the hub holds (R247). -/
def dieOf (r : Reg) (i : Nat) : Option Nat :=
  if 0x90000 ≤ (regInfo r).base ∧ (regInfo r).base < 0xB0000 ∧ r ≠ .BIAS_DIE_STATUS then some (i / perDie r) else none

/-! ### Registers that show typed fields -/

/-- The sources of bitmap word `j` that satisfy `f` (R293). -/
def State.sourceWord (s : State) (j : Nat) (f : IrqSource → Bool) : Word :=
  BitVec.ofNat 32 (bitMask ((List.range 32).filter (fun b => s.srcImpl (32 * j + b) && f (s.source (32 * j + b)))))

/-- `XLOCK_STATUS.LOCKED`, NFAULT and NUNLOCK (R26). -/
def State.xlockView (s : State) : Word :=
  let bad := (s.crossings.filter (fun k => (s.crossing k).faulted)).length
  let open_ := (s.crossings.filter (fun k => !(s.crossing k).locked)).length
  let w := s.reg .XLOCK_STATUS
  putBits (putBits (putBits w 0 0 (b2n (bad == 0 && open_ == 0))) 15 8 bad) 23 16 open_

/-- PLAYING and SEG of a unit's status register (R94). -/
def State.unitView (s : State) (g u : Nat) : Word :=
  let r := unitStatus g u
  let w := s.reg r.1 r.2
  match (s.unit g u).playing with
  | some p => putBits (putBits w 4 4 1) 27 16 p.index
  | none => w

/-- The position of a sweep generator (R116). -/
def State.sweepView (s : State) (i : Nat) : Nat × Nat :=
  let c := s.swgCfg (i / 4) (i % 4)
  let k := (s.sweep (i / 4) (i % 4)).step
  if c.mode = 1 ∨ c.mode = 5 then (k % c.n1, k / c.n1) else (k, 0)

/-- The tones of cluster `g` that are busy (R126). -/
def State.busyTones (s : State) (g : Nat) : List Nat := (List.range 16).filter (fun t => s.toneBusy g t s.ftg)

/-- `IC_SRC_CFG` of source `k` (R294). -/
def State.srcCfgView (s : State) (k : Nat) : Word :=
  let x := s.source k
  BitVec.ofNat 32 (if s.srcImpl k then x.target + b2n x.fast * 64 + b2n (levelSource k) * 256 + 512 + (if x.insvc then x.owner else 0) * 2 ^ 16
    else b2n (levelSource k) * 256)

/-- `IC_TGT_STATUS` of target `t` (R295). -/
def State.targetView (s : State) (t : Nat) : Word :=
  let n := (s.irq.src.filter (fun (e : Nat × IrqSource) => e.2.insvc && e.2.owner == t)).length
  let w := putBits (putBits (s.reg .IC_TGT_STATUS t) 0 0 (b2n (s.bestClaim t false != 0))) 1 1 (b2n (s.bestClaim t true != 0))
  let w := putBits (putBits w 2 2 (b2n (decide (4 ≤ t) && (s.target t).armed))) 3 3 (b2n (s.messageHeld t))
  putBits w 17 8 n

/-- A channel waits for its pace input (R304). -/
def State.paceWaits (s : State) (c : Nat) : Bool :=
  s.gripState c == 1 &&
    (match (s.grp c).descs.find? (fun d => !d.begun) with
     | some d => d.pace && (s.taskBit (gripPaceInput c)).isNone
     | none => false)

/-- `PWR_STATE` of region `n` (R426). -/
def State.powerView (s : State) (n : Nat) : Word :=
  let p := s.regionPower n
  let w := putBits (putBits (s.reg .PWR_STATE n) 2 0 p.state) 5 3 (s.allowed n)
  putBits (putBits w 6 6 (b2n p.going.isSome)) 7 7 (b2n (!s.regionBusy n))

/-- Clock, clapper and voice registers as a read sees them. -/
def State.viewA (s : State) (r : Reg) (i : Nat) : Option Word :=
  match r with
  | .XLOCK_STATUS => some s.xlockView
  | .XLOCK_REGION => some (BitVec.ofNat 32 (bitMask ((List.range 16).filter
      (fun n => s.crossings.any (fun k => keyRegion k == n && (s.crossing k).faulted)))))
  | .CLAP_STATUS => some (putBits (s.reg .CLAP_STATUS) 1 0 (match s.clap.state with | .idle => 0 | .armed => 1 | .running => 2))
  | .FTG_LO => some (BitVec.ofNat 32 s.ftg)
  | .FTG_HI => some (BitVec.ofNat 32 (s.ftg / 2 ^ 32))
  | .CLAP_TAP_IN => some (s.settleTapIn.reg .CLAP_TAP_IN)
  | .RFO_STATUS =>
    let muted := s.bit .RFO_CTRL i 0 || bitOf s.clap.pllMuted.toNat (i / 8)
    let on := (List.range 8).filter (fun v => (s.unit (i / 2) (8 * (i % 2) + v)).playing.isSome)
    some (putBits (putBits (s.reg .RFO_STATUS i) 1 1 (b2n muted)) 15 8 (bitMask on))
  | .VOICE_STATUS => some (s.unitView (i / 16) (i % 16))
  | .BBO_STATUS => some (s.unitView (i / 4) (16 + i % 4))
  | .STRM_STATUS =>
    some (putBits (putBits (s.reg .STRM_STATUS i) 22 0 (s.streamFill (i / 8) (i % 8))) 24 24 (b2n (s.stream (i / 8) (i % 8)).consumer.isSome))
  | .SCR_CL_STATUS => some (putBits (s.reg .SCR_CL_STATUS i) 7 0 (bitMask ((List.range 8).filter (s.engineRuns i))))
  | .SWG_POS_I => some (BitVec.ofNat 32 (s.sweepView i).1)
  | .SWG_POS_J => some (BitVec.ofNat 32 (s.sweepView i).2)
  | _ => none

/-- Receiver, kernel, fabric, take and router registers. -/
def State.viewB (s : State) (r : Reg) (i : Nat) : Option Word :=
  match r with
  | .TONE_BUSY => some (BitVec.ofNat 32 (bitMask (s.busyTones i)))
  | .TONE_STATUS => some (putBits (s.reg .TONE_STATUS i) 2 2 (b2n (s.toneBusy (i / 16) (i % 16) s.ftg)))
  | .TRK_STATUS =>
    let c : Comparator := .tracker (Fin.ofNat 64 (i / 256)) (Fin.ofNat 256 i)
    some (putBits (putBits (s.reg .TRK_STATUS i) 11 0 (trackerBin (s.pair .TRK_FTW_LO .TRK_FTW_HI i))) 12 12 (b2n (s.cmp c).act))
  | .DLY_STATUS => some (putBits (s.reg .DLY_STATUS i) 6 0 (s.dailies i).blocks.length)
  | .KRN_STATUS => some (putBits (putBits (s.reg .KRN_STATUS i) 2 2 (b2n (s.krnStatBit i 4))) 4 4 (b2n (s.krnStatBit i 2)))
  | .KRN_IN_STATUS => some (putBits (s.reg .KRN_IN_STATUS i) 6 0 (s.krnIn (i / 2) (i % 2)).length)
  | .EV_STATUS => some (putBits (s.reg .EV_STATUS) 0 0 (b2n s.epochRun))
  | .PT_STATUS => some (BitVec.ofNat 32 (b2n (tfind s.router.ptRun i).isSome))
  | .IC_PEND => some (s.sourceWord i (·.pend))
  | .IC_EN => some (s.sourceWord i (·.en))
  | .IC_INSVC => some (s.sourceWord i (·.insvc))
  | .IC_LINE => some (s.sourceWord i (·.line))
  | .IC_SRC_CFG => some (s.srcCfgView i)
  | .FAB_DFLT_ACT => some (s.dfltWord i)
  | .IC_TGT_STATUS => some (s.targetView i)
  | .IC_TGT_MOD => if i < 4 then some 0 else none
  | .IC_TGT_IDLE => if i < 4 then some 0 else none
  | .IC_TGT_SENT => if i < 4 then some 0 else none
  | _ => none

/-- Grip, memory, host, time and power registers. -/
def State.viewC (s : State) (r : Reg) (i : Nat) : Option Word :=
  match r with
  | .GRIP_STATUS => some (BitVec.ofNat 32 (s.grip.ch.foldl (fun n (e : Nat × GripChannel) => n + e.2.flight.length) 0))
  | .GRIP_ABANDON => some (BitVec.ofNat 32 (s.grip.ch.foldl (fun n (e : Nat × GripChannel) => n + e.2.abandoned) 0))
  | .GRIP_CH_STATUS =>
    some (putBits (putBits (s.reg .GRIP_CH_STATUS i) 2 2 (b2n (s.paceWaits i))) 4 4 (b2n (s.taskBit (gripStartInput i)).isSome))
  | .GRIP_CH_OPS => some (BitVec.ofNat 32 (s.grp i).flight.length)
  | .GRIP_DLY_STATUS =>
    some (putBits (s.reg .GRIP_DLY_STATUS i) 0 0
      (b2n (s.fld .GRIP_DLY_SIZE i 23 0 ≠ 0 ∧ s.regNat .GRIP_DLY_WR i - s.regNat .GRIP_DLY_RD i = s.fld .GRIP_DLY_SIZE i 23 0)))
  | .MEM_CAP_LO => some (BitVec.ofNat 32 s.memCap)
  | .MEM_CAP_HI => some (BitVec.ofNat 32 (s.memCap / 2 ^ 32))
  | .FEAT_CTRL => some (BitVec.ofNat 32 (b2n s.active * 2))
  | .GLB_STATUS => some (putBits (putBits (s.reg .GLB_STATUS) 5 5 (b2n s.epochRun)) 6 6 (s.fld .MEM_STATUS 0 0 0))
  | .OD_QUEUE => some (putBits (s.reg .OD_QUEUE) 8 0 s.od.queue.length)
  | .WT_NOW => some (BitVec.ofNat 32 (s.wallAt s.now / 2 ^ (32 * i)))
  | .WT_NOW_FTG_LO => some (BitVec.ofNat 32 s.ftg)
  | .WT_NOW_FTG_HI => some (BitVec.ofNat 32 (s.ftg / 2 ^ 32))
  | .PWR_STATE => some (s.powerView i)
  | .WEAR_EQH => some (BitVec.ofNat 32 (s.wearEqh i))
  | .WEAR_HOURS => some (BitVec.ofNat 32 s.wearHours)
  | .WEAR_CYCLES => some (BitVec.ofNat 32 s.wearCycles)
  | .WEAR_EVENTS => some (BitVec.ofNat 32 s.wearEvents)
  | _ => none

/-- What a register shows. -/
def State.view (s : State) (r : Reg) (i : Nat) : Word :=
  ((s.viewA r i).or ((s.viewB r i).or (s.viewC r i))).getD (s.reg r i)

/-- The value of a register as a read returns it, without claiming anything: a bias die out of reach reads 0 (R247). -/
def State.peek (s : State) (r : Reg) (i : Nat) : Word :=
  match dieOf r i with
  | some d => if s.dieLive d then s.view r i else 0
  | none => s.view r i

/-! ### Reads that claim -/

/-- The reads with an effect (R11 RC, R258, R282, R395, R409). -/
def claimRead (who : Requester) (r : Reg) (i : Nat) : Option (State → BitVec 64 × State) :=
  match r with
  | .IC_TGT_CLAIM => some (claimOp i)
  | .IC_TGT_FCLAIM => some (fclaimOp i)
  | .CAL_HIST_POP => some (histPopOp who i)
  | .IC_DATA_LO => some (icClaimOp who i)
  | .WT_NOW => if i = 0 then some (wtNowOp who) else none
  | .PPS_IN_TS_LO => some (ppsClaimOp who)
  | _ => none

/-- A 32-bit read of a register (R10): a captured word is returned once; the low word of a pair captures the high word. -/
def readReg32 (who : Requester) (r : Reg) (i : Nat) (s : State) : BitVec 64 × State :=
  match claimRead who r i with
  | some op => op s
  | none =>
    match tfind s.snap (snapKey who r i) with
    | some w => (w.zeroExtend 64, { s with snap := tdel s.snap (snapKey who r i) })
    | none =>
      let w := s.peek r i
      match pairHigh r with
      | some h => (w.zeroExtend 64, s.capture who h i (s.peek h i))
      | none => (w.zeroExtend 64, s)

/-- A 64-bit read of the pair with low word `r` (R10): both words of one cycle; nothing is captured. -/
def readPair (who : Requester) (r h : Reg) (i : Nat) (s : State) : BitVec 64 × State :=
  let hi := s.peek h i
  match claimRead who r i with
  | some op => let c := op s; (BitVec.ofNat 64 (c.1.toNat % 2 ^ 32 + hi.toNat * 2 ^ 32), { c.2 with snap := s.snap })
  | none => (BitVec.ofNat 64 ((s.peek r i).toNat + hi.toNat * 2 ^ 32), s)

/-! ### The memories that BAR0 maps (R28, R68, R98, R128, R148, R149, R343, R391) -/

/-- What lies at an address. -/
inductive Mapped where
  | segment (n o : Nat)
  | clusterMem (g o : Nat)
  | mailboxRequest
  | mailboxResponse
  | linkTransmit
  | linkReceive
  deriving DecidableEq, Repr

/-- The memory that BAR0 maps at address `a`. -/
def mappedAt (a : Nat) : Option Mapped :=
  if 0x64000 ≤ a ∧ a < 0x65800 then some .linkTransmit
  else if 0x65800 ≤ a ∧ a < 0x67000 then some .linkReceive
  else if 0xB0000 ≤ a ∧ a < 0xB4000 then
    if a % 0x1000 < 0x588 then some .mailboxRequest
    else if 0x800 ≤ a % 0x1000 ∧ a % 0x1000 < 0xD88 then some .mailboxResponse
    else none
  else match windowRegion a with
    | none => none
    | some n =>
      let o := windowOffset a
      if 0x20000 ≤ o ∧ o < 0x30000 then some (.segment n (o - 0x20000))
      else if 0x100000 ≤ o ∧ o < 0x500000 then
        let c := o % 0x100000
        if 0x10000 ≤ c ∧ c < 0x20000 ∨ 0x40000 ≤ c then some (.clusterMem (4 * n + (o - 0x100000) / 0x100000) c) else none
      else none

/-- The accesses of R10: 32 bits at a multiple of 4; 64 bits at a multiple of 8 in a memory, at a pair, or where nothing lies. -/
def accessFits (a bytes : Nat) : Bool :=
  if bytes = 4 then a % 4 == 0
  else if bytes = 8 then
    a % 8 == 0 &&
      ((mappedAt a).isSome ||
        (match regAt a, regAt (a + 4) with
         | some (r, i), some (h, j) => pairHigh r == some h && i == j
         | none, none => true
         | _, _ => false))
  else false

end Sys2Proof.Machine
end

