-- ==== Sys2Proof/Machine/Writes.lean ====
section
/-!
DEFINITION. What a write of a register does (R11): the field rules, the owner that has to be stopped, the values that are
refused, the LAST_RESULT field of each block, and the registers whose writes are commands of their own.
-/

namespace Sys2Proof.Machine

/-! ### Blocks -/

/-- The blocks whose registers share an owner or a LAST_RESULT field. -/
inductive Block where
  | script | output | readout | kernel | calibration | take | system | pacing | events | localEvents | reel | converter | time
  | domain | pps | power | memory | plain
  deriving DecidableEq, Repr

/-- The block of a register, by its place in the map (R27, R28). -/
def blockOf (r : Reg) : Block :=
  let b := (regInfo r).base
  if b < 0x20000 then .plain
  else if b < 0x20800 then .events
  else if b < 0x21000 then .pacing
  else if b < 0x22000 then .events
  else if 0x30100 ≤ b ∧ b < 0x30200 then .time
  else if 0x30200 ≤ b ∧ b < 0x30800 then .domain
  else if 0x30800 ≤ b ∧ b < 0x30900 then .pps
  else if 0x50000 ≤ b ∧ b < 0x51000 then .memory
  else if 0x70000 ≤ b ∧ b < 0x80000 then .system
  else if 0x80000 ≤ b ∧ b < 0x90000 then .power
  else if 0x90100 ≤ b ∧ b < 0x91000 then .converter
  else if b < 0x0800_0000 then .plain
  else if b < 0x0810_0000 then
    let o := b - 0x0800_0000
    if 0x2000 ≤ o ∧ o < 0x3000 then .take
    else if 0x8000 ≤ o ∧ o < 0x9000 then .reel
    else if 0x10000 ≤ o ∧ o < 0x11000 then .localEvents
    else .plain
  else
    let o := b - 0x0810_0000
    if o < 0x1000 then .script
    else if o < 0x4000 then .output
    else if o < 0x6000 ∨ (0x8000 ≤ o ∧ o < 0xC000) then .readout
    else if 0x6000 ≤ o ∧ o < 0x7000 then .kernel
    else if 0xC000 ≤ o ∧ o < 0xD000 then .calibration
    else .plain

/-- The cluster of instance `i` of a register of a cluster window. -/
def regCluster (r : Reg) (i : Nat) : Nat := i / perCluster r

/-- The region, die or domain of instance `i`: its outermost repetition. -/
def regOuter (r : Reg) (i : Nat) : Nat := i / perDie r

/-- The owner of the RWL fields of a register is stopped (R11). -/
def State.ownerStopped (s : State) (r : Reg) (i : Nat) : Bool :=
  match blockOf r with
  | .script => s.clusterHalted (regCluster r i)
  | .output => s.clusterHalted (regCluster r i)
  | .readout => s.clusterHalted (regCluster r i)
  | .calibration => s.clusterHalted (regCluster r i)
  | .kernel => !s.krnRuns (regCluster r i)
  | .take => s.tkState (regOuter r i) == 0 || s.tkState (regOuter r i) == 3
  | .system => !s.stkArmed
  | .pacing => (tfind s.router.ptRun i).isNone
  | _ => true

/-- The LAST_RESULT field that a write of a register reports to: register, instance and bits. -/
def resultHome (r : Reg) (i : Nat) : Option (Reg × Nat × Nat × Nat) :=
  match r with
  | .FEAT_ACCEPT => some (.FEAT_STATUS, 0, 7, 0)
  | .FEAT_CTRL => some (.FEAT_STATUS, 0, 7, 0)
  | .CUT_CMD => some (.CUT_RESULT, 0, 7, 0)
  | .HIF_BAR2_BASE_LO => some (.HIF_STATUS, 0, 7, 0)
  | .HIF_BAR2_BASE_HI => some (.HIF_STATUS, 0, 7, 0)
  | .HIF_LTR_BUSY => some (.HIF_STATUS, 0, 7, 0)
  | .HIF_LTR_IDLE => some (.HIF_STATUS, 0, 7, 0)
  | .CLK_CTRL => some (.CLAP_STATUS, 0, 23, 16)
  | .CLAP_CTRL => some (.CLAP_STATUS, 0, 23, 16)
  | .CLAP_CMD => some (.CLAP_STATUS, 0, 23, 16)
  | .IC_SRC_CFG => some (.IC_STATUS, 0, 15, 8)
  | .LNK_CTRL => some (.LNK_STATUS, i, 23, 16)
  | .LNK_MSG_CTRL => some (.LNK_STATUS, i, 23, 16)
  | .LNK_TXMAP => some (.LNK_STATUS, i / 128, 23, 16)
  | .MB_CTRL => some (.MB_STATUS, i, 15, 8)
  | .DLY_CTRL => some (.GRIP_CH_STATUS, 64 + i, 23, 16)
  | .BIAS_CTRL => some (.BIAS_STATUS, i, 15, 8)
  | .BIAS_STEP => some (.BIAS_STATUS, i, 15, 8)
  | .BIAS_LIM_LO => some (.BIAS_STATUS, i, 15, 8)
  | .BIAS_LIM_HI => some (.BIAS_STATUS, i, 15, 8)
  | _ =>
    let b := (regInfo r).base
    match blockOf r with
    | .script => some (.SCR_CL_STATUS, regCluster r i, 23, 16)
    | .output => some (.SCR_CL_STATUS, regCluster r i, 23, 16)
    | .readout => some (.RFI_STATUS, regCluster r i, 15, 8)
    | .calibration => some (.RFI_STATUS, regCluster r i, 15, 8)
    | .kernel => some (.KRN_STATUS, regCluster r i, 23, 16)
    | .take => some (.TK_STATUS, regOuter r i, 15, 8)
    | .system => some (.STK_STATUS, 0, 15, 8)
    | .pacing => some (.EV_STATUS, 0, 15, 8)
    | .events => some (.EV_STATUS, 0, 15, 8)
    | .localEvents => some (.LEV_STATUS, regOuter r i, 15, 8)
    | .reel => some (.REEL_STATUS, regOuter r i, 15, 8)
    | .converter => some (.IC_STATUS_CH, i, 15, 8)
    | .time => some (.WT_STATUS, 0, 15, 8)
    | .domain => some (.PTP_STATUS, regOuter r i, 15, 8)
    | .pps => some (.PPS_STATUS, 0, 15, 8)
    | .power => some (.PWR_STATUS, 0, 15, 8)
    | .memory => some (.MEM_STATUS, 0, 15, 8)
    | .plain =>
      if 0x41000 ≤ b ∧ b < 0x42400 then some (.GRIP_CH_STATUS, i, 23, 16)
      else if 0x43000 ≤ b ∧ b < 0x44000 then some (.GRIP_CH_STATUS, 64 + i, 23, 16)
      else if 0x51000 ≤ b ∧ b < 0x52000 then some (.MT_STATUS, regOuter r i, 15, 8)
      else none

/-- Report `code` as the status of a write of a register. -/
def State.report (s : State) (r : Reg) (i code : Nat) : State :=
  match resultHome r i with
  | some (q, j, hi, lo) => s.setFld q j hi lo code
  | none => s

/-- A register with an RWL field. -/
def hasRwl (r : Reg) : Bool := (regInfo r).fields.any (fun f => decide (f.acc = .rwl))

/-- A write of the register is reported even when it is carried out: where LAST_RESULT is that of every write of the block, and
for registers with RWL fields. -/
def reportsAlways (r : Reg) : Bool :=
  hasRwl r || r == .RFO_CTRL ||
    (match blockOf r with
     | .events | .pacing | .localEvents | .converter | .time | .domain | .pps | .power | .memory => true
     | _ => false)

/-! ### The field rules (R11) -/

/-- One field of a register under a write of `v`; `stopped` says that the owner is stopped. -/
def writeField (stopped : Bool) (v w : Word) (f : RegField) : Word :=
  match f.acc with
  | .rw => putBits w f.hi f.lo (bits v f.hi f.lo)
  | .rwl => if stopped then putBits w f.hi f.lo (bits v f.hi f.lo) else w
  | .w1c => w &&& ~~~BitVec.ofNat 32 (bits v f.hi f.lo <<< f.lo)
  | .w1s => w ||| BitVec.ofNat 32 (bits v f.hi f.lo <<< f.lo)
  | .ro => w
  | .wo => w
  | .rc => w

/-- A register under a write of `v`. -/
def writeFields (stopped : Bool) (fs : List RegField) (v w : Word) : Word := fs.foldl (writeField stopped v) w

/-- The write would change an RWL field. -/
def changesRwl (fs : List RegField) (v w : Word) : Bool :=
  fs.any (fun f => decide (f.acc = .rwl) && bits v f.hi f.lo != bits w f.hi f.lo)

/-! ### Values that are refused -/

/-- A CH at `lo` with its L above it selects no channel (R266). -/
def badChannel (v : Word) (lo : Nat) : Bool := bits v (lo + 7) (lo + 7) == 1 && decide (32 ≤ bits v (lo + 6) lo)

/-- The value is refused with RANGE. -/
def State.badValue (s : State) (r : Reg) (i : Nat) (v : Word) : Bool :=
  match r with
  | .SCR_CFG => decide (bits v 6 0 < 4) || decide (64 < bits v 6 0)
  | .SCR_EVSEL => badChannel v 0
  | .KRN_EVSEL => badChannel v 0
  | .TK_EVIN => badChannel v 0
  | .EV_WLINE => badChannel v 0
  | .TK_EV => badChannel v 0 || badChannel v 16
  | .STK_EV => bits v 7 7 == 1 || bits v 23 23 == 1
  | .TONE_CFG => bits v 1 1 == 1 && !s.feat 2
  | .TONE_CMP_CFG => decide (20 < bits v 7 3)
  | .TRK_CMP_CFG => decide (20 < bits v 7 3)
  | .TK_TERM => bits v 2 0 == 3 && !s.feat 3
  | .STK_TERM => bits v 31 16 == 0
  | .PT_PERIOD => decide (v.toNat ≤ s.regNat .PT_PHASE i)
  | .PT_PHASE => decide (s.regNat .PT_PERIOD i ≤ v.toNat)
  | .TIO_CFG => bits v 24 17 == 0
  | _ => false

/-! ### What a write of some registers does beside its fields -/

/-- A comparator is enabled or disabled when its EN changes from `was` (R136). -/
def State.cmpEnable (s : State) (c : Comparator) (was on : Bool) : State := if was = on then s else s.restartCmp c on

/-- The tracker and the comparator numbers of instance `i`. -/
def trackerOf (i : Nat) : Comparator := .tracker (Fin.ofNat 64 (i / 256)) (Fin.ofNat 256 i)

/-- The effects of a write that follow from the register's old value `old`. -/
def State.afterWrite (s : State) (r : Reg) (i : Nat) (old : Word) : State :=
  let w := s.reg r i
  let on := bits w 0 0 == 1
  let was := bits old 0 0 == 1
  match r with
  | .TONE_CMP_CFG => s.cmpEnable (.tone (Fin.ofNat 64 (i / 16)) (Fin.ofNat 16 i)) was on
  | .TRK_CMP_CFG => s.cmpEnable (trackerOf i) was on
  | .TK_RAWCMP_CTRL => s.cmpEnable (.raw (Fin.ofNat 16 (i / 4)) (Fin.ofNat 4 i)) was on
  | .TRK_CTRL => if was = on then s else (s.restartCmp (trackerOf i) false).setCmp (trackerOf i) {}
  | .RFI_STATUS => if was && !on then s.setReg .RFI_OVR_CNT i 0 else s
  | .RFO_STATUS => if was && !on then s.setReg .RFO_CLIPS i 0 else s
  | _ => s

/-- A write of a register by the field rules. -/
def plainWrite (r : Reg) (i : Nat) (v : Word) (s : State) : State :=
  let fs := (regInfo r).fields
  let old := s.reg r i
  let stopped := s.ownerStopped r i
  if s.badValue r i v then s.report r i Code.range
  else
    let s := (s.setReg r i (writeFields stopped fs v old)).afterWrite r i old
    if !stopped && changesRwl fs v old then s.report r i Code.locked
    else if reportsAlways r then s.report r i Code.ok else s

/-- A write that clears MUTE of an output of a die at its critical limit is discarded (R421). -/
def State.muteHeld (s : State) (r : Reg) (i : Nat) (v : Word) : Bool :=
  (r == .RFO_CTRL || r == .BBO_CTRL) && s.bit r i 0 && bits v 0 0 == 0 && bitOf s.health.critDies.toNat (regCluster r i / 8)

/-- `DLY_CTRL` (R138, R314, R323): EN is refused while `GRIP_DLY_SIZE` is 0, and clears WR. -/
def dlyCtrlOp (n : Nat) (v : Word) (s : State) : State :=
  let starts := bits v 0 0 == 1 && !s.bit .DLY_CTRL n 0
  if starts && s.fld .GRIP_DLY_SIZE n 23 0 == 0 then s.gripResult (64 + n) Code.range
  else
    let s := if starts then s.setReg .GRIP_DLY_WR n 0 else s
    (s.setReg .DLY_CTRL n (v &&& 0xFFFF_0001)).gripResult (64 + n) Code.ok

/-- `FEAT_ACCEPT` (R358): writable until a GO is accepted. -/
def featAcceptOp (i : Nat) (v : Word) (s : State) : State :=
  if s.goAccepted then s.setFld .FEAT_STATUS 0 7 0 Code.locked
  else (s.setReg .FEAT_ACCEPT i v).setFld .FEAT_STATUS 0 7 0 Code.ok

/-- An outcome of a march run that the write of a register does not carry: free values (notes/assumptions/84.md). -/
def State.freeMarch (s : State) : MarchOutcome × State :=
  let a := s.free 24
  let b := a.2.free 32
  let c := b.2.free 38
  ({ steps := a.1, lines := 0, mismatches := b.1, firstFail := c.1, corrected := [], uncorrectable := [] }, c.2)

/-- `MT_CMD` (R319, R324). -/
def mtCmdOp (m : Nat) (v : Word) (s : State) : State :=
  if bits v 0 0 = 1 then mtStartOp m s
  else if bits v 1 1 = 1 then let f := s.freeMarch; mtAbortOp m f.1 f.2
  else s

/-- A word of a 64-bit quantity written alone: the other word keeps its value. -/
def halfWord (hi : Bool) (old : Nat) (v : Word) : Nat := if hi then old % 2 ^ 32 + v.toNat * 2 ^ 32 else old / 2 ^ 32 * 2 ^ 32 + v.toNat

/-! ### Registers whose writes are commands -/

/-- The shadow register that a register is (R87). -/
def shadowOf (r : Reg) (i : Nat) : Option (Nat × ShadowReg) :=
  match r with
  | .VOICE_FTW_LO => some (i / 16, .voice (Fin.ofNat 16 i) .ftwLo)
  | .VOICE_FTW_HI => some (i / 16, .voice (Fin.ofNat 16 i) .ftwHi)
  | .VOICE_POFF => some (i / 16, .voice (Fin.ofNat 16 i) .poff)
  | .VOICE_AMP => some (i / 16, .voice (Fin.ofNat 16 i) .amp)
  | .VOICE_SEGBASE => some (i / 16, .voice (Fin.ofNat 16 i) .segbase)
  | .BBO_GAIN => some (i / 4, .bbo (Fin.ofNat 4 i) .gain)
  | .BBO_OFFSET => some (i / 4, .bbo (Fin.ofNat 4 i) .offset)
  | .TONE_FTW_LO => some (i / 16, .tone (Fin.ofNat 16 i) .ftwLo)
  | .TONE_FTW_HI => some (i / 16, .tone (Fin.ofNat 16 i) .ftwHi)
  | .TONE_POFF => some (i / 16, .tone (Fin.ofNat 16 i) .poff)
  | .TONE_WBASE => some (i / 16, .tone (Fin.ofNat 16 i) .wbase)
  | .TONE_ROT => some (i / 16, .tone (Fin.ofNat 16 i) .rot)
  | .TONE_TH0 => some (i / 16, .tone (Fin.ofNat 16 i) .th0)
  | .TONE_TH1 => some (i / 16, .tone (Fin.ofNat 16 i) .th1)
  | .TONE_TH2 => some (i / 16, .tone (Fin.ofNat 16 i) .th2)
  | _ => none

/-- The configuration register of a sweep generator that a register is (R116). -/
def sweepOf : Reg → Option SwgReg
  | .SWG_CTRL => some .ctrl
  | .SWG_N1 => some .n1
  | .SWG_N2 => some .n2
  | .SWG_POLY => some .poly
  | .SWG_SEED => some .seed
  | .SWG_BASE_LO => some .baseLo
  | .SWG_BASE_HI => some .baseHi
  | .SWG_STEP_LO => some .stepLo
  | .SWG_STEP_HI => some .stepHi
  | .SWG_STEP2_LO => some .step2Lo
  | .SWG_STEP2_HI => some .step2Hi
  | _ => none

/-- The calibration unit whose trim a register holds (R227, R242, R243, R260, R261). -/
def trimUnit (r : Reg) (i : Nat) : Option Nat :=
  match r with
  | .ADC_OFS_TRIM => some (i / 4)
  | .ADC_GAIN_TRIM => some (i / 4)
  | .ADC_SKEW_TAP => some (i / 4)
  | .RFO_OFS_TRIM => some (0x40 + i)
  | .RFO_FS_TRIM => some (0x40 + i)
  | .RFO_SEG_TRIM => some (0x40 + i / 31)
  | .BBO_OFS_TRIM => some (0xC0 + i)
  | .BBO_FS_TRIM => some (0xC0 + i)
  | .TIO_TAP => some (0x680 + i)
  | .BIAS_TRIM => some (0x700 + i)
  | .IC_OFS_CORR => some (0x800 + i)
  | .IC_GAIN_CORR => some (0x800 + i)
  | _ => none

/-- Commands of the clocks, the voices, the Script engines and the receivers. -/
def writeA (who : Requester) (r : Reg) (i : Nat) (v : Word) : Option (State → State) :=
  match r with
  | .CLK_CTRL => some (clkCtrlOp v)
  | .CLAP_CTRL => some (clapCtrlOp v)
  | .CLAP_CMD => some (clapCmdOp v)
  | .CLAP_TAP_REF => some (clapTapGatedOp who .ref v)
  | .CLAP_TAP_IN => some (clapTapGatedOp who .tapIn v)
  | .CLAP_TAP_OUT => some (clapTapGatedOp who .tapOut v)
  | .CLAP_TILE_TAP => some (clapTapGatedOp who (.tile (Fin.ofNat 8 i)) v)
  | .RFO_MKR => some (markerRouteOp .RFO_MKR i (i / 16) v)
  | .BBO_MKR => some (markerRouteOp .BBO_MKR i (i / 4) v)
  | .VOICE_COMMIT => some (fun s => if bits v 0 0 = 1 then voiceCommitOp (i / 16) (i % 16) s else s)
  | .BBO_COMMIT => some (fun s => if bits v 0 0 = 1 then voiceCommitOp (i / 4) (16 + i % 4) s else s)
  | .CL_COMMIT => some (clCommitOp i v)
  | .STRM_CFG => some (strmCfgOp (i / 8) (i % 8) v)
  | .SCR_START => some (scrStartOp i (bits v 7 0))
  | .SCR_STOP => some (scrStopOp i (bits v 7 0) (bits v 15 8))
  | .SWG_CMD => some (fun s => if bits v 0 0 = 1 then swgRestartOp (i / 4) (i % 4) s else s)
  | .RFI_CTRL => some (rfiCtrlOp (Fin.ofNat 64 i) v)
  | .TONE_COMMIT => some (toneCommitOp i (bits v 15 0))
  | .KRN_CTRL => some (krnCtrlOp i v)
  | .KRN_ATTN_SET => some (fun s => if bits v 0 0 = 1 then krnAttnSetOp i s else s)
  | .KRN_IN_CFG => some (krnInCfgOp (i / 2) (i % 2) v)
  | .FAB_DFLT => some (fabDfltOp i v)
  | .FAB_VIEW_SEL => some (fabViewOp i v)
  | _ => none

/-- Commands of the takes, of calibration, of the bias dies and of the event router. -/
def writeB (r : Reg) (i : Nat) (v : Word) : Option (State → State) :=
  match r with
  | .TK_CMD => some (tkCmdOp i v)
  | .TK_RD => some (tkRdOp i v)
  | .STK_CMD => some (stkCmdOp v)
  | .STK_RD => some (stkRdOp v)
  | .CAL_FRZ => some (freezeWriteOp (.cluster (Fin.ofNat 64 i)) v)
  | .CAL_TILE_FRZ => some (freezeWriteOp .tiles v)
  | .CAL_TIO_FRZ => some (freezeWriteOp (.tio (Fin.ofNat 4 i)) v)
  | .CAL_BIAS_FRZ => some (freezeWriteOp (.bias (Fin.ofNat 2 (i / 4)) (Fin.ofNat 4 i)) v)
  | .CAL_IC_FRZ => some (freezeWriteOp (.converters (Fin.ofNat 2 i)) v)
  | .ADC_STAT_CTRL => some (adcStatCtrlOp i v)
  | .MON_CTRL => some (monCtrlOp i v)
  | .BIAS_DIE_CMD => some (biasCmdOp i v)
  | .BIAS_GO => some (biasStageOp (i / 4) (i % 4) v)
  | .BIAS_STOP => some (biasStopOp (i / 4) (i % 4) v)
  | .BIAS_CTRL => some (biasConnOp i v)
  | .BIAS_STEP => some (biasStepOp i v)
  | .BIAS_LIM_LO => some (biasLimOp false i v)
  | .BIAS_LIM_HI => some (biasLimOp true i v)
  | .IC_CTRL => some (icConfigOp i .ctrl v)
  | .IC_PERIOD => some (icConfigOp i .period v)
  | .IC_SCAN => some (icConfigOp i .scan v)
  | .EV_INJECT => some (evInjectOp i v)
  | .LEV_INJECT => some (levInjectOp i v)
  | .PT_CMD => some (ptCmdOp i v)
  | .IC_PEND_SET => some (icPendSetOp i v)
  | .IC_PEND_CLR => some (icPendClrOp i v)
  | .IC_EN_SET => some (icEnSetOp i v)
  | .IC_EN_CLR => some (icEnClrOp i v)
  | .IC_SRC_CFG => some (icSrcCfgOp i v)
  | .IC_TGT_COMPLETE => some (completeOp i v)
  | .IC_TGT_IDLE => some (icTgtIdleOp i v)
  | .IC_TGT_MOD => if i < 4 then some id else none
  | _ => none

/-- Commands of the Grip, the memory, the links, the host interface, network time and power. -/
def writeC (who : Requester) (r : Reg) (i : Nat) (v : Word) : Option (State → State) :=
  match r with
  | .DLY_CTRL => some (dlyCtrlOp i v)
  | .GRIP_CH_CTRL => some (gripCtrlOp i v)
  | .GRIP_CH_CFG => some (gripCfgOp i v)
  | .GRIP_CH_EVIN => some (gripEvinOp i v)
  | .GRIP_CH_EVOUT => some (gripEvoutOp i v)
  | .GRIP_CH_HEAD_LO => some (gripRwlOp i .GRIP_CH_HEAD_LO 0xFFFF_FFFF v none)
  | .GRIP_CH_HEAD_HI => some (gripRwlOp i .GRIP_CH_HEAD_HI 0xFFFF_FFFF v none)
  | .GRIP_CH_BUDGET => some (gripBudgetOp i v)
  | .GRIP_DLY_BASE_LO => some (dlyRingOp i .GRIP_DLY_BASE_LO 0xFFFF_FFFF v (if v.toNat % 64 = 0 then none else some Code.align))
  | .GRIP_DLY_BASE_HI => some (dlyRingOp i .GRIP_DLY_BASE_HI 0xFFFF_FFFF v none)
  | .GRIP_DLY_CFG => some (dlyRingOp i .GRIP_DLY_CFG 0x1F0F v (if 1 < bits v 3 0 then some Code.range else none))
  | .GRIP_DLY_SIZE => some (dlyRingOp i .GRIP_DLY_SIZE 0x00FF_FFFF v none)
  | .GRIP_DLY_RD => some (dlyRdOp i v)
  | .MEM_CTRL => some (memCtrlOp v)
  | .MEM_SCRUB => some (memScrubOp v)
  | .MT_CMD => some (mtCmdOp i v)
  | .LNK_CTRL => some (lnkCtrlOp i v)
  | .LNK_MSG_CTRL => some (lnkMsgCtrlOp i v)
  | .LNK_TXMAP => some (lnkTxmapOp i v)
  | .LNK_MODID => some (lnkModidOp v)
  | .LNK_RXMAP => some (lnkRxmapOp i v)
  | .LNK_TSTX => some (lnkTstxOp i v)
  | .FEAT_ACCEPT => some (featAcceptOp i v)
  | .FEAT_CTRL => some id
  | .CUT_CMD => some (cutCmdOp (bits v 1 0))
  | .HIF_BAR2_BASE_LO => some (fun s => bar2BaseOp (halfWord false (s.pair .HIF_BAR2_BASE_LO .HIF_BAR2_BASE_HI) v) s)
  | .HIF_BAR2_BASE_HI => some (fun s => bar2BaseOp (halfWord true (s.pair .HIF_BAR2_BASE_LO .HIF_BAR2_BASE_HI) v) s)
  | .HIF_LTR_BUSY => some (hifLtrOp true v)
  | .HIF_LTR_IDLE => some (hifLtrOp false v)
  | .MB_CTRL => some (mbCtrlOp i v)
  | .WT_CTRL => some (wtCtrlOp v)
  | .WT_CMD => some (wtCmdOp v)
  | .WT_INC_LO => some (fun s => wtIncOp who (BitVec.ofNat 64 (halfWord false s.wallInc v)) s)
  | .WT_INC_HI => some (fun s => wtIncOp who (BitVec.ofNat 64 (halfWord true s.wallInc v)) s)
  | .PTP_CFG => some (ptpCfgOp i v)
  | .PPS_CTRL => some (ppsCtrlOp v)
  | .PWR_RRESET => some (regionResetOp (bits v 15 0))
  | .PWR_CRESET_LO => some (clusterResetOp v.toNat)
  | .PWR_CRESET_HI => some (clusterResetOp (v.toNat * 2 ^ 32))
  | .PWR_WAKE => some (pwrWakeOp (bits v 15 0))
  | .PWR_TOL => some (pwrTolOp i v)
  | .THERM_WARN => some (thermWarnOp v)
  | .GAF_WD_CTRL => some (gafWdCtrlOp i v)
  | .GAF_WD_KICK => some (fun s => if bits v 0 0 = 1 then gafKickOp i s else s.pwrResult Code.ok)
  | .GAF_CMD => some (fun s => if bits v 0 0 = 1 then gafRestartOp s else s.pwrResult Code.ok)
  | _ => none

/-- The command that a write of a register is, if it is one. -/
def commandWrite (who : Requester) (r : Reg) (i : Nat) (v : Word) : Option (State → State) :=
  match shadowOf r i, sweepOf r with
  | some (g, q), _ => some (shadowGatedOp who g q v)
  | _, some q => some (swgConfigOp (i / 4) (i % 4) q v)
  | none, none => (writeA who r i v).or ((writeB r i v).or (writeC who r i v))

/-- The registers of the march engines that only a stopped engine takes (R324). -/
def marchMask (r : Reg) : Word :=
  BitVec.ofNat 32 (((regInfo r).fields.filter (fun f => decide (f.acc = .rwl))).foldl (fun m f => m ||| fieldMask f.hi f.lo) 0)

/-- A 32-bit write of a register, past every gate. -/
def writeReg (who : Requester) (r : Reg) (i : Nat) (v : Word) (s : State) : State :=
  let reach := match dieOf r i with
    | some d => s.dieLive d
    | none => true
  if !reach then s
  else if s.muteHeld r i v then s.report r i Code.locked
  else match commandWrite who r i v with
    | some op => op s
    | none =>
      if 0x51000 ≤ (regInfo r).base ∧ (regInfo r).base < 0x52000 then
        (if hasRwl r then mtRwlOp (regOuter r i) r i (marchMask r) v s else s)
      else match trimUnit r i with
        | some u => s.trimGate who u (plainWrite r i v)
        | none => plainWrite r i v s

/-- A 64-bit write of a pair: the words land together, and a refusal of either is reported. -/
def writePair (who : Requester) (r h : Reg) (i : Nat) (v : BitVec 64) (s : State) : State :=
  let lo : Word := v.extractLsb' 0 32
  let hi : Word := v.extractLsb' 32 32
  match r with
  | .WT_INC_LO => wtIncOp who v s
  | .HIF_BAR2_BASE_LO => bar2BaseOp v.toNat s
  | .PWR_CRESET_LO => clusterResetOp v.toNat s
  | _ =>
    let a := writeReg who r i lo s
    let b := writeReg who h i hi a
    match resultHome r i with
    | some (q, j, x, y) => if reportsAlways r && a.fld q j x y != Code.ok then b.setFld q j x y (a.fld q j x y) else b
    | none => b

end Sys2Proof.Machine
end

