-- ==== Sys2Proof/Machine/Bus.lean ====
section
/-!
DEFINITION. Accesses to BAR0 and to the MSI-X structures (R10, R30, R31, R32, R350, R353): reads and writes of registers and of the
mapped memories, accesses that do not fit, and accesses to a region that is asleep.
-/

namespace Sys2Proof.Machine

/-! ### The mapped memories -/

/-- A 32-bit word is written to the segment table: words 0-2 stage, word 3 commits (R69). -/
def segWrite (who : Requester) (n o : Nat) (v : Word) (s : State) : State :=
  if o % 16 / 4 = 3 then segCommitOp who n (o / 16) v s else segStageOp who n (o / 16) (o % 16 / 4) v s

/-- A 32-bit word is written to a memory of a cluster. -/
def clusterWrite32 (who : Requester) (g o : Nat) (v : Word) (s : State) : State :=
  if o < 0x20000 then s.bundlePut32 who g o v
  else if o < 0x80000 then s.scriptPut32 who g o v
  else if o < 0xC0000 then s.dataPut g ((o - 0x80000) / 4) v
  else s.weightPut g ((o - 0xC0000) / 4) v

/-- A write of `n` bytes (4 or 8) to a mapped memory at BAR0 address `a`. -/
def memoryWrite (who : Requester) (m : Mapped) (a n : Nat) (v : BitVec 64) (s : State) : State :=
  let lo : Word := v.extractLsb' 0 32
  let hi : Word := v.extractLsb' 32 32
  match m with
  | .segment r o => let s := segWrite who r o lo s; if n = 8 then segWrite who r (o + 4) hi s else s
  | .clusterMem g o => if n = 8 then s.clusterPut g o v else clusterWrite32 who g o lo s
  | .mailboxRequest => s.writeLe 3 a n v.toNat
  | .linkTransmit => s.writeLe 3 a n v.toNat
  | .mailboxResponse => s
  | .linkReceive => s

/-! ### Reads and writes at an address -/

/-- A read of `n` bytes (4 or 8) at BAR0 address `a`, past every gate; a reserved address reads 0 (R30). -/
def readAt (who : Requester) (a n : Nat) (s : State) : BitVec 64 × State :=
  if (mappedAt a).isSome then (BitVec.ofNat 64 (s.le 3 a n), s)
  else match regAt a with
    | some (r, i) =>
      match pairHigh r with
      | some h => if n = 8 then readPair who r h i s else readReg32 who r i s
      | none => readReg32 who r i s
    | none => (0, s)

/-- A write of `n` bytes at BAR0 address `a`, past every gate; `go` is what a GO does (R358). A write to a reserved address is
discarded (R30). -/
def writeAt (go : State → State) (who : Requester) (a n : Nat) (v : BitVec 64) (s : State) : State :=
  match mappedAt a with
  | some m => memoryWrite who m a n v s
  | none =>
    match regAt a with
    | some (.FEAT_CTRL, _) => if bits (v.extractLsb' 0 32) 0 0 = 1 then go s else s
    | some (r, i) =>
      match pairHigh r with
      | some h => if n = 8 then writePair who r h i v s else writeReg who r i (v.extractLsb' 0 32) s
      | none => writeReg who r i (v.extractLsb' 0 32) s
    | none => s

/-! ### Accesses -/

/-- An access that does not fit: a read returns 0, a write is discarded, BADACC is set; NOGO instead in a block that is not live
(R350). The rules of a region that sleeps apply on top (R31). -/
def badAccess (who : Requester) (a : Nat) (read : Bool) (s : State) : State :=
  if !s.canAccess who then s
  else
    let g := s.gate who a
    let s := s.throughGate who a g
    if g = .unsupported then s
    else
      let s := if g = .notLive then s else s.setBit .GLB_STATUS 0 2 true
      if read then s.emit (.readData who 0) else s

/-- A read of `n` bytes at address `a` by `who`. -/
def busRead (who : Requester) (a n : Nat) (s : State) : State :=
  if accessFits a n then s.accessRead who a (readAt who a n) else badAccess who a true s

/-- A write of `n` bytes at address `a` by `who`. -/
def busWrite (go : State → State) (who : Requester) (a n : Nat) (v : BitVec 64) (s : State) : State :=
  if accessFits a n then s.access who a (writeAt go who a n v) else badAccess who a false s

/-! ### The MSI-X structures (R353) -/

/-- The host's access to BAR4: not while the logic side is held; Unsupported Request in D3hot (R354). -/
def bar4 (s : State) (op : State → State) : State :=
  if s.held then s else if s.inD3hot then s.emit (.unsupported .host) else op s

/-- Word `w` of BAR4: the table, the PBA, and 0 elsewhere. -/
def State.bar4Word (s : State) (w : Nat) : Word :=
  if w < 128 then s.msixWord w else if w = 0x2000 then s.irq.msix.pba else 0

/-- A write of word `w` of BAR4: the PBA is read only; bit 0 of a vector's control word is its mask. -/
def bar4Write (w : Nat) (v : Word) (s : State) : State :=
  if 128 ≤ w then s
  else
    let v := if w % 4 = 3 then v &&& 1 else v
    (s.setMsix { s.irq.msix with table := tset s.irq.msix.table w v }).releasePending (w / 4)

/-- A BAR4 access lies in the table or the PBA. -/
def inMsix (o : Nat) : Bool := decide (o < 0x200) || (decide (0x8000 ≤ o) && decide (o < 0x8008))

/-! ### The commands -/

/-- The requester, if it can reach BAR4: only the host. -/
def hostOnly (who : Requester) (op : State → State) (s : State) : State := if who = .host then bar4 s op else s

/-- REGISTER_WRITE: one access of R10; `go` is what a GO does. -/
def registerOp (go : State → State) (who : Requester) (op : BusOp) (s : State) : State :=
  match op with
  | .read32 a => busRead who a.toNat 4 s
  | .read64 a => busRead who a.toNat 8 s
  | .write32 a v => busWrite go who a.toNat 4 (v.zeroExtend 64) s
  | .write64 a v => busWrite go who a.toNat 8 v s
  | .msixRead w => hostOnly who (fun s => s.emit (.readData who ((s.bar4Word w).zeroExtend 64))) s
  | .msixWrite w v => hostOnly who (bar4Write w v) s

/-- BAR0_BAD_ACCESS (R350, R353): an access of `bytes` bytes at an address that does not fit. An address of 2^28 or more is byte
`addr − 2^28` of BAR4 (notes/assumptions/83.md). -/
def badAccessOp (who : Requester) (addr bytes : Nat) (write : Bool) (s : State) : State :=
  if addr < 2 ^ 28 then (if accessFits addr bytes then s else badAccess who addr (!write) s)
  else
    let o := addr - 2 ^ 28
    let fits := (bytes == 4 && o % 4 == 0) || (bytes == 8 && o % 8 == 0)
    let touches := inMsix o || inMsix (o + bytes - 1)
    if fits || !touches then s
    else hostOnly who (fun s =>
      let s := s.setBit .GLB_STATUS 0 2 true
      if write then s else s.emit (.readData who 0)) s

def execBar0BadAccess (who : Requester) (addr bytes : Nat) (write : Bool) (s : State) : Result :=
  .next (badAccessOp who addr bytes write s)

/-- The address of an access to BAR0. -/
def busAddr : BusOp → Option Nat
  | .read32 a => some a.toNat
  | .read64 a => some a.toNat
  | .write32 a _ => some a.toNat
  | .write64 a _ => some a.toNat
  | .msixRead _ => none
  | .msixWrite _ _ => none

/-- DOZE_ACCESS (R31): an access to a region in P3 or P4, outside its control block. -/
def dozeOp (who : Requester) (op : BusOp) (s : State) : State :=
  match busAddr op with
  | some a => if s.gate who a = .asleep then registerOp id who op s else s
  | none => s

def execDozeAccess (who : Requester) (op : BusOp) (s : State) : Result := .next (dozeOp who op s)

end Sys2Proof.Machine
end

