-- ==== Sys2Proof/Machine/ObjectMap.lean ====
section
/-!
DEFINITION. The object dictionary (R368-R375 and the object tables of each chapter): the families of objects, with the index and
subindex of the first, their types, access codes, saved flags and what they are views of.
-/

namespace Sys2Proof.Machine

/-- The types of R369; a `uint` or `sint` has so many bytes, and FOOTAGE64 is a `uint 8`. -/
inductive ObjType where
  | bool
  | uint (n : Nat)
  | sint (n : Nat)
  | real32
  | time96
  | domain (n : Nat)
  deriving DecidableEq, Repr

/-- The bytes of a type. -/
def ObjType.size : ObjType → Nat
  | .bool => 1
  | .uint n => n
  | .sint n => n
  | .real32 => 4
  | .time96 => 12
  | .domain n => n

/-- The access codes of objects (R12). -/
inductive ObjAccess where
  | ro | rw | rwl | wo | const
  deriving DecidableEq, Repr

/-- The objects with a rule of their own. -/
inductive ObjValue where
  | featGo | save | restore | session | mac | errHist | queuePeak | wallTime | wearLife | wearHist | icVolts
  | calRun | calRunStatus | calState | calOpt | discFit
  | calResid (k : Nat)
  | calLimit (k : Nat)
  deriving DecidableEq, Repr

/-- What an object is a view of (R372) or where a served one's value lies (R374). The position of an object in its family is the
register's instance. -/
inductive ObjHome where
  /-- Bits [hi:lo] of a register. -/
  | field (r : Reg) (hi lo : Nat)
  /-- A 64-bit pair, of so many bits. -/
  | pair (r h : Reg) (bits : Nat)
  /-- Two registers, in bits [31:0] and [63:32]. -/
  | words (r h : Reg)
  /-- Three registers. -/
  | triple (r : Reg)
  /-- One bit of a register of 16. -/
  | member (r : Reg)
  /-- A 16-bit entry of a transmit map. -/
  | entry
  /-- A register with one index for each of 4 and a subindex for each link. -/
  | perLink (r : Reg)
  /-- The freeze bit of a calibration unit. -/
  | freeze
  /-- A served value with its default and its range. -/
  | served (default lo hi : Nat)
  | value (v : ObjValue)
  deriving DecidableEq, Repr

/-- A family of objects: the index of the first, its repetition over indices as (count, stride), the first subindex and the
number of subindices, the type, the access code, whether it is saved, and its home. -/
structure Obj where
  index : Nat
  reps : List (Nat × Nat)
  sub : Nat
  subs : Nat
  type : ObjType
  acc : ObjAccess
  saved : Bool
  home : ObjHome
  deriving DecidableEq, Repr

/-- Identity, features, Cut and this service (R367, R393), part 1. -/
def objsModule1 : List Obj := [
  ⟨0x1000, [], 1, 1, .uint 4, .const, false, .field .ID_DEVICE 31 0⟩,  -- ID_DEVICE
  ⟨0x1000, [], 2, 1, .uint 4, .const, false, .field .ID_VARIANT 31 0⟩,  -- ID_VARIANT
  ⟨0x1000, [], 3, 1, .uint 8, .const, false, .pair .ID_SERIAL_LO .ID_SERIAL_HI 64⟩,  -- ID_SERIAL
  ⟨0x1000, [], 4, 1, .uint 4, .ro, false, .field .ID_FW 31 0⟩,  -- ID_FW
  ⟨0x1010, [], 1, 4, .uint 4, .const, false, .field .FEAT_OFFER 31 0⟩,  -- FEAT_OFFER
  ⟨0x1010, [], 5, 4, .uint 4, .rwl, true, .field .FEAT_ACCEPT 31 0⟩,  -- FEAT_ACCEPT
  ⟨0x1010, [], 9, 1, .bool, .rw, false, .value .featGo⟩,  -- FEAT_GO
  ⟨0x1010, [], 0xA, 1, .bool, .rw, true, .served 0 0 1⟩,  -- FEAT_AUTO
  ⟨0x1011, [], 1, 1, .uint 4, .ro, false, .field .GLB_STATUS 31 0⟩,  -- GLB_STATUS
  ⟨0x1018, [], 1, 1, .uint 4, .wo, false, .value .save⟩,  -- OD_SAVE
  ⟨0x1018, [], 2, 1, .uint 4, .wo, false, .value .restore⟩,  -- OD_RESTORE
  ⟨0x1018, [], 3, 1, .uint 4, .ro, false, .served 0 0 0xFFFFFFFF⟩,  -- OD_SAVE_STATUS
  ⟨0x1020, [], 1, 1, .uint 1, .wo, false, .field .CUT_CMD 7 0⟩,  -- CUT_CMD
  ⟨0x1020, [], 2, 1, .uint 2, .rw, false, .field .CUT_RMASK 15 0⟩,  -- CUT_RMASK
  ⟨0x1020, [], 3, 1, .uint 8, .rw, false, .pair .CUT_CMASK_LO .CUT_CMASK_HI 64⟩,  -- CUT_CMASK
  ⟨0x1020, [], 4, 1, .uint 4, .ro, false, .field .CUT_STATUS 31 0⟩,  -- CUT_STATUS
  ⟨0x1020, [], 5, 1, .uint 4, .ro, false, .field .CUT_TIME 31 0⟩,  -- CUT_TIME
  ⟨0x1020, [], 6, 1, .uint 4, .ro, false, .field .CUT_RESULT 7 0⟩,  -- CUT_RESULT
  ⟨0x1030, [], 1, 0x20, .uint 8, .ro, false, .value .session⟩,  -- OD_SESSION
  ⟨0x1031, [], 1, 5, .uint 4, .ro, false, .served 0 0 0xFFFFFFFF⟩,  -- OD_RXFRAMES, OD_BADFRAME, OD_BUSY, OD_NOTIFY, OD_EXPIRED
  ⟨0x1040, [], 1, 1, .uint 4, .rw, true, .served 0xC0A80A0A 0 0xFFFFFFFF⟩,  -- NET_IP_A
  ⟨0x1040, [], 2, 1, .uint 4, .rw, true, .served 0xFFFFFF00 0 0xFFFFFFFF⟩,  -- NET_MASK_A
  ⟨0x1040, [], 3, 1, .uint 4, .rw, true, .served 0 0 0xFFFFFFFF⟩,  -- NET_GW_A
  ⟨0x1040, [], 4, 1, .bool, .rw, true, .served 0 0 1⟩  -- NET_DHCP_A
  ]

/-- Identity, features, Cut and this service (R367, R393), part 2. -/
def objsModule2 : List Obj := [
  ⟨0x1040, [], 5, 1, .uint 4, .rw, true, .served 0xC0A80B0A 0 0xFFFFFFFF⟩,  -- NET_IP_B
  ⟨0x1040, [], 6, 1, .uint 4, .rw, true, .served 0xFFFFFF00 0 0xFFFFFFFF⟩,  -- NET_MASK_B
  ⟨0x1040, [], 7, 1, .uint 4, .rw, true, .served 0 0 0xFFFFFFFF⟩,  -- NET_GW_B
  ⟨0x1040, [], 8, 1, .bool, .rw, true, .served 0 0 1⟩,  -- NET_DHCP_B
  ⟨0x1040, [], 9, 2, .uint 8, .const, false, .value .mac⟩,  -- NET_MAC_A, NET_MAC_B
  ⟨0x1F00, [], 1, 0x20, .domain 24, .ro, false, .value .errHist⟩,  -- ERR_HIST
  ⟨0x1F01, [], 1, 1, .uint 4, .ro, false, .served 0 0 0xFFFFFFFF⟩,  -- ERR_HIST_CNT
  ⟨0x1F80, [], 1, 2, .real32, .ro, false, .served 0 0 0xFFFFFFFF⟩,  -- LOAD_C0, LOAD_C1
  ⟨0x1F80, [], 3, 1, .uint 2, .ro, false, .served 0 0 0xFFFF⟩,  -- Q_DEPTH
  ⟨0x1F80, [], 4, 1, .uint 2, .ro, false, .value .queuePeak⟩,  -- Q_PEAK
  ⟨0x1F80, [], 5, 1, .uint 4, .ro, false, .served 0 0 0xFFFFFFFF⟩,  -- Q_BUSY_CNT
  ⟨0x1F80, [], 6, 4, .real32, .ro, false, .served 0 0 0xFFFFFFFF⟩,  -- TSVC, SHARE_PTP, SHARE_CAL, SHARE_OD
  ⟨0x1F81, [], 1, 1, .uint 4, .ro, false, .served 0 0 0xFFFFFFFF⟩  -- OD_SRV_WR_CNT
  ]

/-- Clock, clapper, network time (R62, R411), part 1. -/
def objsTime1 : List Obj := [
  ⟨0x2000, [], 1, 1, .uint 1, .rw, true, .field .CLK_CTRL 0 0⟩,  -- CLK_REF_SEL
  ⟨0x2000, [], 2, 1, .uint 1, .rw, true, .field .CLK_CTRL 2 1⟩,  -- CLK_REF_OUT
  ⟨0x2000, [], 3, 1, .uint 4, .ro, false, .field .CLK_STATUS 31 0⟩,  -- CLK_STATUS
  ⟨0x2001, [], 1, 1, .uint 1, .rw, true, .field .CLAP_CTRL 1 0⟩,  -- CLAP_ROLE
  ⟨0x2001, [], 2, 1, .uint 1, .rw, true, .field .CLAP_CTRL 12 8⟩,  -- CLAP_LINK
  ⟨0x2001, [], 3, 1, .uint 1, .rw, true, .field .CLAP_CTRL 19 16⟩,  -- CLAP_CHK_TOL
  ⟨0x2001, [], 4, 1, .uint 1, .wo, false, .field .CLAP_CMD 7 0⟩,  -- CLAP_CMD
  ⟨0x2001, [], 5, 1, .uint 4, .ro, false, .field .CLAP_STATUS 31 0⟩,  -- CLAP_STATUS
  ⟨0x2002, [], 1, 1, .uint 8, .ro, false, .pair .FTG_LO .FTG_HI 64⟩,  -- FOOTAGE
  ⟨0x2002, [], 2, 1, .time96, .ro, false, .triple .CLAP_EPOCH_WALL⟩,  -- CLAP_EPOCH_WALL
  ⟨0x2002, [], 3, 1, .uint 4, .ro, false, .field .CLAP_SLIPS 31 0⟩,  -- CLAP_SLIPS
  ⟨0x2003, [], 1, 1, .uint 2, .rw, true, .field .CLAP_TAP_REF 8 0⟩,  -- CLAP_TAP_REF
  ⟨0x2003, [], 2, 1, .uint 2, .rw, true, .field .CLAP_TAP_IN 8 0⟩,  -- CLAP_TAP_IN
  ⟨0x2003, [], 3, 1, .uint 2, .rw, true, .field .CLAP_TAP_OUT 8 0⟩,  -- CLAP_TAP_OUT
  ⟨0x2003, [], 0x11, 8, .uint 2, .rw, true, .field .CLAP_TILE_TAP 8 0⟩,  -- CLAP_TILE_TAP
  ⟨0x2004, [], 1, 1, .uint 4, .ro, false, .field .CLAP_LOOP_RT 31 0⟩,  -- CLAP_LOOP_RT
  ⟨0x2004, [], 2, 1, .uint 4, .const, false, .field .CLAP_LOOP_INT 31 0⟩,  -- CLAP_LOOP_INT
  ⟨0x2004, [], 3, 1, .uint 2, .ro, false, .field .CLAP_LOOP_SPREAD 15 0⟩,  -- CLAP_LOOP_SPREAD
  ⟨0x2010, [], 1, 1, .uint 4, .rw, true, .field .WT_CTRL 31 0⟩,  -- WT_CTRL
  ⟨0x2010, [], 2, 1, .uint 1, .wo, false, .field .WT_CMD 7 0⟩,  -- WT_CMD
  ⟨0x2010, [], 3, 1, .uint 4, .ro, false, .field .WT_STATUS 31 0⟩,  -- WT_STATUS
  ⟨0x2011, [], 1, 1, .time96, .ro, false, .value .wallTime⟩,  -- WALL_TIME
  ⟨0x2011, [], 2, 1, .uint 8, .rw, false, .pair .WT_INC_LO .WT_INC_HI 64⟩,  -- WT_INC
  ⟨0x2011, [], 3, 1, .domain 12, .rw, false, .triple .WT_STEP⟩  -- WT_STEP
  ]

/-- Clock, clapper, network time (R62, R411), part 2. -/
def objsTime2 : List Obj := [
  ⟨0x2011, [], 4, 1, .uint 8, .ro, false, .pair .WT_EPOCH_FTG_LO .WT_EPOCH_FTG_HI 64⟩,  -- WT_EPOCH_FTG
  ⟨0x2011, [], 5, 1, .time96, .ro, false, .triple .WT_EPOCH_WALL⟩,  -- WT_EPOCH_WALL
  ⟨0x2020, [(2, 1)], 1, 1, .uint 4, .rw, true, .field .PTP_CFG 31 0⟩,  -- PTP_CFG
  ⟨0x2020, [(2, 1)], 2, 1, .uint 4, .ro, false, .field .PTP_STATUS 31 0⟩,  -- PTP_STATUS
  ⟨0x2020, [(2, 1)], 3, 1, .uint 8, .ro, false, .pair .PTP_MASTER_LO .PTP_MASTER_HI 64⟩,  -- PTP_MASTER
  ⟨0x2020, [(2, 1)], 4, 1, .sint 8, .ro, false, .pair .PTP_OFS_LO .PTP_OFS_HI 64⟩,  -- PTP_OFS
  ⟨0x2020, [(2, 1)], 5, 1, .uint 4, .ro, false, .field .PTP_MPD 31 0⟩,  -- PTP_MPD
  ⟨0x2020, [(2, 1)], 6, 1, .sint 4, .ro, false, .field .PTP_RATE 31 0⟩,  -- PTP_RATE
  ⟨0x2020, [(2, 1)], 7, 1, .sint 4, .rw, true, .served 0 0 0xFFFFFFFF⟩,  -- NT_ASYM
  ⟨0x2030, [], 1, 1, .uint 1, .rw, true, .served 3 0 0x1F⟩,  -- NT_KP
  ⟨0x2030, [], 2, 1, .uint 1, .rw, true, .served 7 0 0x1F⟩,  -- NT_KI
  ⟨0x2030, [], 3, 1, .uint 4, .rw, true, .served 0x64 0 0xFFFFFFFF⟩,  -- NT_LOCK_NS
  ⟨0x2030, [], 4, 1, .uint 2, .rw, true, .served 0x10 1 0x400⟩,  -- NT_LOCK_N
  ⟨0x2030, [], 5, 1, .real32, .rw, true, .served 0x42C80000 0x3F800000 0x43480000⟩,  -- NT_SLEW_PPM
  ⟨0x2030, [], 6, 1, .uint 4, .rw, true, .served 0xF4240 0 0xFFFFFFFF⟩,  -- NT_SWITCH_MAX
  ⟨0x2030, [], 7, 1, .uint 4, .rw, true, .served 0x3E8 1 0xF4240⟩,  -- NT_SLEW_NS
  ⟨0x2040, [], 1, 1, .uint 4, .rw, true, .field .PPS_CTRL 31 0⟩,  -- PPS_CTRL
  ⟨0x2040, [], 2, 1, .uint 4, .ro, false, .field .PPS_STATUS 31 0⟩,  -- PPS_STATUS
  ⟨0x2040, [], 3, 1, .uint 8, .ro, false, .pair .PPS_IN_TS_LO .PPS_IN_TS_HI 64⟩  -- PPS_IN_TS
  ]

/-- Power and health (R427). -/
def objsPower : List Obj := [
  ⟨0x2100, [], 1, 1, .uint 4, .ro, false, .field .PWR_STATUS 31 0⟩,  -- PWR_STATUS
  ⟨0x2100, [], 2, 1, .uint 4, .ro, false, .field .PWR_SUP_FAULT 31 0⟩,  -- PWR_SUP_FAULT
  ⟨0x2100, [], 3, 1, .uint 1, .rw, true, .field .PWR_ALERT_EN 7 0⟩,  -- PWR_ALERT_EN
  ⟨0x2101, [], 1, 1, .uint 2, .wo, false, .field .PWR_RRESET 15 0⟩,  -- PWR_RRESET
  ⟨0x2101, [], 2, 1, .uint 8, .wo, false, .pair .PWR_CRESET_LO .PWR_CRESET_HI 64⟩,  -- PWR_CRESET
  ⟨0x2101, [], 3, 1, .uint 2, .wo, false, .field .PWR_WAKE 15 0⟩,  -- PWR_WAKE
  ⟨0x2110, [], 1, 0x10, .uint 4, .rw, true, .field .PWR_TOL 31 0⟩,  -- PWR_TOL
  ⟨0x2111, [], 1, 0x10, .uint 4, .ro, false, .field .PWR_STATE 31 0⟩,  -- PWR_STATE
  ⟨0x2120, [], 1, 0xB, .sint 4, .ro, false, .field .THERM_TEMP 31 0⟩,  -- THERM_TEMP
  ⟨0x2121, [], 1, 1, .uint 1, .rw, true, .field .THERM_WARN 7 0⟩,  -- THERM_WARN
  ⟨0x2130, [], 1, 4, .uint 4, .rw, false, .field .GAF_WD_CTRL 31 0⟩,  -- GAF_WD_CTRL
  ⟨0x2130, [], 5, 1, .uint 4, .ro, false, .field .GAF_WD_STATUS 31 0⟩,  -- GAF_WD_STATUS
  ⟨0x2130, [], 6, 1, .bool, .wo, false, .field .GAF_CMD 0 0⟩,  -- GAF_RESTART
  ⟨0x2140, [], 1, 0xB, .uint 4, .ro, false, .field .WEAR_EQH 31 0⟩,  -- WEAR_EQH
  ⟨0x2140, [], 0xC, 1, .uint 4, .ro, false, .field .WEAR_HOURS 31 0⟩,  -- WEAR_HOURS
  ⟨0x2140, [], 0xD, 1, .uint 4, .ro, false, .field .WEAR_CYCLES 31 0⟩,  -- WEAR_CYCLES
  ⟨0x2140, [], 0xE, 1, .uint 4, .ro, false, .field .WEAR_EVENTS 31 0⟩,  -- WEAR_EVENTS
  ⟨0x2141, [], 1, 1, .real32, .ro, false, .value .wearLife⟩,  -- WEAR_LIFE
  ⟨0x2141, [], 2, 0xB, .domain 104, .ro, false, .value .wearHist⟩  -- WEAR_HIST
  ]

/-- Grip and memory (R325), part 1. -/
def objsGrip1 : List Obj := [
  ⟨0x2200, [], 1, 0x50, .uint 4, .rwl, true, .field .GRIP_CH_CFG 31 0⟩,  -- GRIP_CH_CFG
  ⟨0x2201, [], 1, 0x50, .uint 8, .rwl, true, .pair .GRIP_CH_HEAD_LO .GRIP_CH_HEAD_HI 64⟩,  -- GRIP_CH_HEAD
  ⟨0x2202, [], 1, 0x50, .uint 4, .rwl, true, .field .GRIP_CH_BUDGET 24 0⟩,  -- GRIP_CH_BUDGET
  ⟨0x2203, [], 1, 0x50, .uint 4, .rwl, true, .field .GRIP_CH_EVIN 31 0⟩,  -- GRIP_CH_EVIN
  ⟨0x2204, [], 1, 0x50, .uint 4, .rw, true, .field .GRIP_CH_EVOUT 31 0⟩,  -- GRIP_CH_EVOUT
  ⟨0x2205, [], 1, 0x50, .uint 1, .wo, false, .field .GRIP_CH_CTRL 7 0⟩,  -- GRIP_CH_CTRL
  ⟨0x2206, [], 1, 0x50, .uint 4, .ro, false, .field .GRIP_CH_STATUS 31 0⟩,  -- GRIP_CH_STATUS
  ⟨0x2207, [], 1, 0x50, .uint 4, .ro, false, .field .GRIP_CH_DONE 31 0⟩,  -- GRIP_CH_DONE
  ⟨0x2208, [], 1, 0x50, .uint 8, .ro, false, .pair .GRIP_CH_DESC_LO .GRIP_CH_DESC_HI 64⟩,  -- GRIP_CH_DESC
  ⟨0x2210, [], 1, 0x10, .uint 8, .rwl, true, .pair .GRIP_DLY_BASE_LO .GRIP_DLY_BASE_HI 64⟩,  -- GRIP_DLY_BASE
  ⟨0x2211, [], 1, 0x10, .uint 4, .rwl, true, .field .GRIP_DLY_CFG 31 0⟩,  -- GRIP_DLY_CFG
  ⟨0x2212, [], 1, 0x10, .uint 4, .rwl, true, .field .GRIP_DLY_SIZE 23 0⟩,  -- GRIP_DLY_SIZE
  ⟨0x2213, [], 1, 0x10, .uint 4, .ro, false, .field .GRIP_DLY_WR 31 0⟩,  -- GRIP_DLY_WR
  ⟨0x2214, [], 1, 0x10, .uint 4, .rw, false, .field .GRIP_DLY_RD 31 0⟩,  -- GRIP_DLY_RD
  ⟨0x2215, [], 1, 0x10, .uint 4, .ro, false, .field .GRIP_DLY_STATUS 31 0⟩,  -- GRIP_DLY_STATUS
  ⟨0x2220, [], 1, 1, .uint 4, .ro, false, .field .MEM_STATUS 31 0⟩,  -- MEM_STATUS
  ⟨0x2220, [], 2, 1, .uint 4, .rw, false, .field .MEM_CTRL 0 0⟩,  -- MEM_CTRL
  ⟨0x2220, [], 3, 1, .uint 8, .ro, false, .pair .MEM_CAP_LO .MEM_CAP_HI 64⟩,  -- MEM_CAP
  ⟨0x2220, [], 4, 1, .uint 4, .rw, true, .field .MEM_SCRUB 31 0⟩,  -- MEM_SCRUB
  ⟨0x2221, [], 1, 8, .uint 4, .ro, false, .field .MEM_CH_STATUS 31 0⟩,  -- MEM_CH_STATUS
  ⟨0x2222, [], 1, 8, .uint 4, .ro, false, .field .MEM_CE_CNT 31 0⟩,  -- MEM_CE_CNT
  ⟨0x2223, [], 1, 8, .uint 4, .ro, false, .field .MEM_UE_CNT 31 0⟩,  -- MEM_UE_CNT
  ⟨0x2224, [], 1, 8, .uint 8, .ro, false, .pair .MEM_ERR_ADDR_LO .MEM_ERR_ADDR_HI 64⟩,  -- MEM_ERR_ADDR
  ⟨0x2230, [(8, 1)], 1, 1, .uint 4, .rwl, false, .field .MT_CTRL 31 0⟩  -- MT_CTRL
  ]

/-- Grip and memory (R325), part 2. -/
def objsGrip2 : List Obj := [
  ⟨0x2230, [(8, 1)], 2, 1, .uint 1, .wo, false, .field .MT_CMD 7 0⟩,  -- MT_CMD
  ⟨0x2230, [(8, 1)], 3, 1, .uint 4, .ro, false, .field .MT_STATUS 31 0⟩,  -- MT_STATUS
  ⟨0x2230, [(8, 1)], 4, 1, .uint 4, .rwl, false, .field .MT_N1 23 0⟩,  -- MT_N1
  ⟨0x2230, [(8, 1)], 5, 1, .uint 4, .rwl, false, .field .MT_N2 2 0⟩,  -- MT_N2
  ⟨0x2230, [(8, 1)], 6, 1, .uint 8, .rwl, false, .pair .MT_BASE_LO .MT_BASE_HI 48⟩,  -- MT_BASE
  ⟨0x2230, [(8, 1)], 7, 1, .uint 8, .rwl, false, .pair .MT_STEP_LO .MT_STEP_HI 48⟩,  -- MT_STEP
  ⟨0x2230, [(8, 1)], 8, 1, .uint 8, .rwl, false, .pair .MT_STEP2_LO .MT_STEP2_HI 48⟩,  -- MT_STEP2
  ⟨0x2230, [(8, 1)], 9, 8, .uint 2, .rwl, false, .field .MT_ELEM 15 0⟩,  -- MT_ELEM
  ⟨0x2230, [(8, 1)], 0x11, 1, .uint 8, .rwl, false, .pair .MT_PAT_LO .MT_PAT_HI 64⟩,  -- MT_PAT
  ⟨0x2230, [(8, 1)], 0x12, 1, .uint 4, .rwl, false, .field .MT_POLY 23 0⟩,  -- MT_POLY
  ⟨0x2230, [(8, 1)], 0x13, 1, .uint 4, .rwl, false, .field .MT_SEED 23 0⟩,  -- MT_SEED
  ⟨0x2230, [(8, 1)], 0x14, 1, .uint 4, .ro, false, .field .MT_FAIL_CNT 31 0⟩,  -- MT_FAIL_CNT
  ⟨0x2230, [(8, 1)], 0x15, 1, .uint 8, .ro, false, .pair .MT_FAIL_ADDR_LO .MT_FAIL_ADDR_HI 64⟩  -- MT_FAIL_ADDR
  ]

/-- Links and the hub fabric (R345, R198). -/
def objsLinks : List Obj := [
  ⟨0x2300, [], 1, 0x18, .uint 4, .rw, true, .field .LNK_CTRL 31 0⟩,  -- LNK_CTRL
  ⟨0x2301, [], 1, 0x18, .uint 4, .ro, false, .field .LNK_STATUS 31 0⟩,  -- LNK_STATUS
  ⟨0x2302, [], 1, 0x18, .uint 4, .ro, false, .field .LNK_PARTNER 31 0⟩,  -- LNK_PARTNER
  ⟨0x2303, [], 1, 0x18, .uint 4, .ro, false, .field .LNK_RT 23 0⟩,  -- LNK_RT
  ⟨0x2304, [], 1, 0x18, .uint 4, .ro, false, .field .LNK_LAT 31 0⟩,  -- LNK_LAT
  ⟨0x2305, [], 1, 0x18, .uint 4, .ro, false, .field .LNK_CRC_CNT 31 0⟩,  -- LNK_CRC_CNT
  ⟨0x2306, [], 1, 0x18, .sint 2, .rw, true, .field .LNK_TS_ADJ 15 0⟩,  -- LNK_TS_ADJ
  ⟨0x2307, [], 1, 0x18, .uint 1, .rw, true, .field .LNK_IRQ_EN 4 0⟩,  -- LNK_IRQ_EN
  ⟨0x2310, [(4, 1)], 1, 0x18, .uint 4, .rw, true, .perLink .LNK_EVTX⟩,  -- LNK_EVTX
  ⟨0x2314, [(4, 1)], 1, 0x18, .uint 4, .rw, true, .perLink .LNK_EVRX⟩,  -- LNK_EVRX
  ⟨0x2320, [], 1, 1, .uint 1, .rwl, true, .field .LNK_MODID 5 0⟩,  -- LNK_MODID
  ⟨0x2320, [], 2, 1, .uint 4, .ro, false, .field .LNK_UP 23 0⟩,  -- LNK_UP
  ⟨0x2320, [], 3, 1, .uint 4, .ro, false, .field .LNK_RTMASK 23 0⟩,  -- LNK_RTMASK
  ⟨0x2330, [(2, 1)], 1, 0x80, .uint 2, .rw, true, .field .LNK_RXMAP 15 0⟩,  -- LNK_RXMAP
  ⟨0x2332, [], 1, 0x40, .uint 2, .rw, true, .field .LNK_RXTS 15 0⟩,  -- LNK_RXTS
  ⟨0x2333, [], 1, 0x40, .uint 8, .rw, true, .words .LNK_TSTX .LNK_TSTX_LINKS⟩,  -- LNK_TSTX
  ⟨0x2340, [(48, 1)], 1, 0x80, .uint 2, .rw, true, .entry⟩,  -- LNK_TXMAP
  ⟨0x2380, [], 1, 1, .uint 4, .ro, false, .field .FAB_STATUS 31 0⟩,  -- FAB_STATUS
  ⟨0x2380, [], 2, 1, .uint 4, .ro, false, .field .FAB_OVWR_CNT 31 0⟩,  -- FAB_OVWR_CNT
  ⟨0x2380, [], 3, 1, .uint 4, .ro, false, .field .FAB_LATE_CNT 31 0⟩,  -- FAB_LATE_CNT
  ⟨0x2381, [], 1, 0x50, .uint 4, .rw, true, .field .FAB_DFLT 31 0⟩,  -- FAB_DFLT
  ⟨0x2382, [], 1, 0x50, .uint 4, .ro, false, .field .FAB_DFLT_ACT 31 0⟩  -- FAB_DFLT_ACT
  ]

/-- Bias dies and converters (R262). -/
def objsBias : List Obj := [
  ⟨0x2400, [], 0, 0x100, .uint 1, .rw, false, .field .BIAS_CTRL 1 0⟩,  -- BIAS_CTRL
  ⟨0x2401, [], 0, 0x100, .sint 4, .rw, true, .field .BIAS_TGT 19 0⟩,  -- BIAS_TGT
  ⟨0x2402, [], 0, 0x100, .uint 4, .rw, true, .field .BIAS_STEP 31 0⟩,  -- BIAS_STEP
  ⟨0x2403, [], 0, 0x100, .sint 4, .rwl, true, .field .BIAS_LIM_LO 19 0⟩,  -- BIAS_LIM_LO
  ⟨0x2404, [], 0, 0x100, .sint 4, .rwl, true, .field .BIAS_LIM_HI 19 0⟩,  -- BIAS_LIM_HI
  ⟨0x2405, [], 0, 0x100, .sint 4, .ro, false, .field .BIAS_ACT 19 0⟩,  -- BIAS_ACT
  ⟨0x2406, [], 0, 0x100, .uint 4, .ro, false, .field .BIAS_STATUS 31 0⟩,  -- BIAS_STATUS
  ⟨0x2407, [], 0, 0x100, .uint 4, .rw, true, .field .BIAS_TRIM 31 0⟩,  -- BIAS_TRIM
  ⟨0x2410, [(2, 1)], 1, 1, .uint 4, .ro, false, .field .BIAS_DIE_STATUS 31 0⟩,  -- BIAS_DIE_STATUS
  ⟨0x2410, [(2, 1)], 2, 1, .uint 1, .wo, false, .field .BIAS_DIE_CMD 7 0⟩,  -- BIAS_DIE_CMD
  ⟨0x2410, [(2, 1)], 3, 1, .uint 1, .rw, false, .field .BIAS_MON_SEL 7 0⟩,  -- BIAS_MON_SEL
  ⟨0x2410, [(2, 1)], 4, 4, .uint 4, .wo, false, .field .BIAS_GO 31 0⟩,  -- BIAS_GO
  ⟨0x2410, [(2, 1)], 8, 4, .uint 4, .wo, false, .field .BIAS_STOP 31 0⟩,  -- BIAS_STOP
  ⟨0x2500, [(8, 1)], 1, 1, .uint 4, .rw, true, .field .IC_CTRL 31 0⟩,  -- IC_CTRL
  ⟨0x2500, [(8, 1)], 2, 1, .uint 4, .rw, true, .field .IC_PERIOD 31 0⟩,  -- IC_PERIOD
  ⟨0x2500, [(8, 1)], 3, 1, .uint 1, .rw, true, .field .IC_SCAN 7 0⟩,  -- IC_SCAN
  ⟨0x2500, [(8, 1)], 4, 1, .uint 4, .ro, false, .field .IC_STATUS_CH 31 0⟩,  -- IC_STATUS
  ⟨0x2500, [(8, 1)], 5, 1, .uint 8, .ro, false, .pair .IC_DATA_LO .IC_DATA_HI 48⟩,  -- IC_DATA
  ⟨0x2500, [(8, 1)], 6, 1, .sint 4, .rw, true, .field .IC_OFS_CORR 19 0⟩,  -- IC_OFS_CORR
  ⟨0x2500, [(8, 1)], 7, 1, .sint 4, .rw, true, .field .IC_GAIN_CORR 19 0⟩,  -- IC_GAIN_CORR
  ⟨0x2500, [(8, 1)], 0xA, 1, .real32, .ro, false, .value .icVolts⟩  -- IC_VOLTS
  ]

/-- Calibration (R244). -/
def objsCal : List Obj := [
  ⟨0x2600, [], 1, 1, .bool, .rw, true, .served 1 0 1⟩,  -- CAL_BG_EN
  ⟨0x2600, [], 2, 1, .uint 4, .wo, false, .value .calRun⟩,  -- CAL_RUN
  ⟨0x2600, [], 3, 1, .uint 4, .ro, false, .value .calRunStatus⟩,  -- CAL_RUN_STATUS
  ⟨0x2600, [], 4, 1, .uint 1, .rw, true, .served 8 0 0xFF⟩,  -- CAL_CONV_N
  ⟨0x2600, [], 6, 1, .uint 4, .rw, true, .served 0x2710 0x190 0xF4240⟩,  -- CAL_HIST_W
  ⟨0x2601, [], 1, 1, .real32, .ro, false, .served 0 0 0xFFFFFFFF⟩,  -- CAL_EXTREF_ERR
  ⟨0x2610, [(9, 1)], 0, 0x100, .uint 4, .ro, false, .value .calState⟩,  -- CAL_STATE
  ⟨0x2620, [(9, 1)], 0, 0x100, .real32, .ro, false, .value (.calResid 0)⟩,  -- CAL_RESID_A
  ⟨0x2630, [(9, 1)], 0, 0x100, .real32, .ro, false, .value (.calResid 1)⟩,  -- CAL_RESID_B
  ⟨0x2640, [(9, 1)], 0, 0x100, .real32, .ro, false, .value (.calResid 2)⟩,  -- CAL_RESID_C
  ⟨0x2650, [(9, 1)], 0, 0x100, .real32, .rw, true, .value (.calLimit 0)⟩,  -- CAL_LIMIT_A
  ⟨0x2660, [(9, 1)], 0, 0x100, .real32, .rw, true, .value (.calLimit 1)⟩,  -- CAL_LIMIT_B
  ⟨0x2670, [(9, 1)], 0, 0x100, .real32, .rw, true, .value (.calLimit 2)⟩,  -- CAL_LIMIT_C
  ⟨0x2680, [(9, 1)], 0, 0x100, .bool, .rw, true, .freeze⟩,  -- CAL_FREEZE
  ⟨0x2690, [(9, 1)], 0, 0x100, .uint 4, .rw, true, .value .calOpt⟩,  -- CAL_OPT
  ⟨0x26A2, [(4, 1)], 0, 0x100, .domain 40, .ro, false, .value .discFit⟩  -- CAL_DISC_FIT
  ]

/-- Event router (R276). -/
def objsRouter : List Obj := [
  ⟨0x2700, [], 1, 1, .uint 4, .ro, false, .field .EV_STATUS 31 0⟩,  -- EV_STATUS
  ⟨0x2701, [], 1, 4, .uint 4, .wo, false, .field .EV_INJECT 31 0⟩,  -- EV_INJECT
  ⟨0x2702, [], 1, 4, .uint 4, .rw, false, .field .EV_WATCH 31 0⟩,  -- EV_WATCH
  ⟨0x2703, [], 1, 4, .uint 4, .rw, false, .field .EV_LOOP 31 0⟩,  -- EV_LOOP
  ⟨0x2704, [], 1, 0x80, .uint 4, .ro, false, .field .EV_COINC 31 0⟩,  -- EV_COINC
  ⟨0x2705, [], 1, 0x80, .uint 4, .ro, false, .field .EV_LOST 31 0⟩,  -- EV_LOST
  ⟨0x2710, [], 1, 0x10, .uint 4, .rw, true, .field .EV_WLINE 31 0⟩,  -- EV_WLINE
  ⟨0x2720, [], 1, 0x20, .uint 4, .rw, true, .field .PT_CTRL 31 0⟩,  -- PT_CTRL
  ⟨0x2721, [], 1, 0x20, .uint 4, .rwl, true, .field .PT_PERIOD 31 0⟩,  -- PT_PERIOD
  ⟨0x2722, [], 1, 0x20, .uint 4, .rwl, true, .field .PT_PHASE 31 0⟩,  -- PT_PHASE
  ⟨0x2723, [], 1, 0x20, .uint 4, .rw, true, .field .PT_COUNT 31 0⟩,  -- PT_COUNT
  ⟨0x2724, [], 1, 0x20, .uint 1, .wo, false, .field .PT_CMD 7 0⟩,  -- PT_CMD
  ⟨0x2740, [], 1, 0x80, .uint 4, .rw, true, .field .TIO_CFG 31 0⟩  -- TIO_CFG
  ]

/-- Regions (R96, R142, R198, R276). -/
def objsRegion : List Obj := [
  ⟨0x3010, [(16, 0x100)], 1, 1, .uint 4, .ro, false, .field .REEL_STATUS 31 0⟩,  -- REEL_STATUS
  ⟨0x3010, [(16, 0x100)], 0x11, 8, .uint 4, .rwl, true, .field .STRM_CFG 31 0⟩,  -- STRM_CFG
  ⟨0x3010, [(16, 0x100)], 0x21, 8, .uint 4, .ro, false, .field .STRM_STATUS 31 0⟩,  -- STRM_STATUS
  ⟨0x3020, [(16, 0x100)], 1, 1, .uint 4, .rw, true, .field .DLY_CTRL 31 0⟩,  -- DLY_CTRL
  ⟨0x3020, [(16, 0x100)], 2, 1, .uint 4, .ro, false, .field .DLY_STATUS 31 0⟩,  -- DLY_STATUS
  ⟨0x3020, [(16, 0x100)], 3, 1, .uint 4, .ro, false, .field .DLY_DROP 31 0⟩,  -- DLY_DROP
  ⟨0x3030, [(16, 0x100)], 1, 1, .uint 4, .ro, false, .field .FAB_RG_UP_CNT 31 0⟩,  -- FAB_RG_UP_CNT
  ⟨0x3030, [(16, 0x100)], 2, 1, .uint 4, .ro, false, .field .FAB_RG_DOWN_CNT 31 0⟩,  -- FAB_RG_DOWN_CNT
  ⟨0x3030, [(16, 0x100)], 3, 1, .uint 4, .ro, false, .field .FAB_RG_DISC_CNT 31 0⟩,  -- FAB_RG_DISC_CNT
  ⟨0x3040, [(16, 0x100)], 1, 1, .uint 4, .wo, false, .field .LEV_INJECT 31 0⟩,  -- LEV_INJECT
  ⟨0x3040, [(16, 0x100)], 2, 1, .uint 4, .rw, false, .field .LEV_WATCH 31 0⟩,  -- LEV_WATCH
  ⟨0x3040, [(16, 0x100)], 3, 1, .uint 4, .rw, false, .field .LEV_LOOP 31 0⟩  -- LEV_LOOP
  ]

/-- Clusters (R117, R167, R198), part 1. -/
def objsCluster1 : List Obj := [
  ⟨0x4001, [(64, 0x40)], 1, 1, .uint 1, .wo, false, .field .SCR_START 7 0⟩,  -- SCR_START
  ⟨0x4001, [(64, 0x40)], 2, 1, .uint 2, .wo, false, .field .SCR_STOP 15 0⟩,  -- SCR_STOP
  ⟨0x4001, [(64, 0x40)], 3, 1, .uint 4, .ro, false, .field .SCR_CL_STATUS 31 0⟩,  -- SCR_CL_STATUS
  ⟨0x4001, [(64, 0x40)], 4, 1, .uint 4, .rwl, true, .field .UNIT_OWNER0 23 0⟩,  -- UNIT_OWNER
  ⟨0x4001, [(64, 0x40)], 5, 1, .uint 4, .rwl, true, .field .UNIT_OWNER1 23 0⟩,  -- UNIT_OWNER
  ⟨0x4001, [(64, 0x40)], 6, 1, .uint 4, .rwl, true, .field .UNIT_OWNER2 11 0⟩,  -- UNIT_OWNER
  ⟨0x4001, [(64, 0x40)], 7, 1, .uint 4, .rwl, true, .field .TONE_OWNER0 23 0⟩,  -- TONE_OWNER
  ⟨0x4001, [(64, 0x40)], 8, 1, .uint 4, .rwl, true, .field .TONE_OWNER1 23 0⟩,  -- TONE_OWNER
  ⟨0x4008, [(64, 0x40), (8, 1)], 1, 1, .uint 1, .rwl, true, .field .SCR_CFG 6 0⟩,  -- SCR_DPL
  ⟨0x4008, [(64, 0x40), (8, 1)], 2, 1, .uint 2, .rwl, true, .field .SCR_PC_INIT 14 0⟩,  -- SCR_PC_INIT
  ⟨0x4008, [(64, 0x40), (8, 1)], 3, 1, .uint 8, .rwl, false, .pair .SCR_T0_LO .SCR_T0_HI 64⟩,  -- SCR_T0
  ⟨0x4008, [(64, 0x40), (8, 1)], 4, 1, .uint 4, .ro, false, .field .SCR_STATUS 31 0⟩,  -- SCR_STATUS
  ⟨0x4008, [(64, 0x40), (8, 1)], 5, 1, .uint 2, .ro, false, .field .SCR_PC 14 0⟩,  -- SCR_PC
  ⟨0x4008, [(64, 0x40), (8, 1)], 6, 1, .uint 8, .ro, false, .pair .SCR_T_LO .SCR_T_HI 64⟩,  -- SCR_T
  ⟨0x4008, [(64, 0x40), (8, 1)], 7, 1, .uint 4, .ro, false, .field .SCR_LATE_CNT 31 0⟩,  -- SCR_LATE_CNT
  ⟨0x4008, [(64, 0x40), (8, 1)], 8, 1, .uint 4, .ro, false, .field .SCR_SUBST_CNT 31 0⟩,  -- SCR_SUBST_CNT
  ⟨0x4008, [(64, 0x40), (8, 1)], 0x11, 4, .uint 2, .rwl, true, .field .SCR_EVSEL 15 0⟩,  -- SCR_EVSEL
  ⟨0x4010, [(64, 0x40), (4, 1)], 1, 1, .uint 4, .rwl, true, .field .SWG_CTRL 31 0⟩,  -- SWG_CTRL
  ⟨0x4010, [(64, 0x40), (4, 1)], 2, 1, .uint 4, .rwl, true, .field .SWG_N1 23 0⟩,  -- SWG_N1
  ⟨0x4010, [(64, 0x40), (4, 1)], 3, 1, .uint 2, .rwl, true, .field .SWG_N2 11 0⟩,  -- SWG_N2
  ⟨0x4010, [(64, 0x40), (4, 1)], 4, 1, .uint 4, .rwl, true, .field .SWG_POLY 23 0⟩,  -- SWG_POLY
  ⟨0x4010, [(64, 0x40), (4, 1)], 5, 1, .uint 4, .rwl, true, .field .SWG_SEED 23 0⟩,  -- SWG_SEED
  ⟨0x4010, [(64, 0x40), (4, 1)], 6, 1, .uint 8, .rwl, true, .pair .SWG_BASE_LO .SWG_BASE_HI 48⟩,  -- SWG_BASE
  ⟨0x4010, [(64, 0x40), (4, 1)], 7, 1, .sint 8, .rwl, true, .pair .SWG_STEP_LO .SWG_STEP_HI 48⟩  -- SWG_STEP
  ]

/-- Clusters (R117, R167, R198), part 2. -/
def objsCluster2 : List Obj := [
  ⟨0x4010, [(64, 0x40), (4, 1)], 8, 1, .sint 8, .rwl, true, .pair .SWG_STEP2_LO .SWG_STEP2_HI 48⟩,  -- SWG_STEP2
  ⟨0x4010, [(64, 0x40), (4, 1)], 9, 1, .uint 4, .ro, false, .field .SWG_STATUS 31 0⟩,  -- SWG_STATUS
  ⟨0x4010, [(64, 0x40), (4, 1)], 0xA, 1, .bool, .wo, false, .field .SWG_CMD 0 0⟩,  -- SWG_RESTART
  ⟨0x4018, [(64, 0x40)], 1, 1, .uint 1, .wo, false, .field .KRN_CTRL 7 0⟩,  -- KRN_CTRL
  ⟨0x4018, [(64, 0x40)], 2, 1, .uint 4, .ro, false, .field .KRN_STATUS 31 0⟩,  -- KRN_STATUS
  ⟨0x4018, [(64, 0x40)], 3, 1, .uint 2, .rwl, true, .field .KRN_PC_INIT 12 0⟩,  -- KRN_PC_INIT
  ⟨0x4018, [(64, 0x40)], 4, 1, .uint 2, .rwl, true, .field .KRN_VEC 12 0⟩,  -- KRN_VEC
  ⟨0x4018, [(64, 0x40)], 5, 1, .uint 1, .rw, true, .field .KRN_ATTN_EN 4 0⟩,  -- KRN_ATTN_EN
  ⟨0x4018, [(64, 0x40)], 6, 1, .bool, .wo, false, .field .KRN_ATTN_SET 0 0⟩,  -- KRN_ATTN_SET
  ⟨0x4018, [(64, 0x40)], 7, 1, .uint 2, .rwl, true, .field .KRN_EVSEL 15 0⟩,  -- KRN_EVSEL
  ⟨0x4018, [(64, 0x40)], 8, 1, .uint 1, .rw, true, .field .KRN_IRQ_EN 7 0⟩,  -- KRN_IRQ_EN
  ⟨0x4018, [(64, 0x40)], 9, 2, .uint 4, .rwl, true, .field .KRN_IN_CFG 31 0⟩,  -- KRN_IN_CFG
  ⟨0x4018, [(64, 0x40)], 0xB, 2, .uint 4, .ro, false, .field .KRN_IN_STATUS 31 0⟩,  -- KRN_IN_STATUS
  ⟨0x4018, [(64, 0x40)], 0xD, 1, .uint 4, .ro, false, .field .KRN_MISS_CNT 31 0⟩,  -- KRN_MISS_CNT
  ⟨0x4018, [(64, 0x40)], 0xE, 1, .uint 4, .ro, false, .field .KRN_LATE_CNT 31 0⟩,  -- KRN_LATE_CNT
  ⟨0x4019, [(64, 0x40)], 1, 0x10, .uint 2, .rwl, true, .field .KRN_KDL 9 0⟩,  -- KRN_KDL
  ⟨0x401C, [(64, 0x40)], 1, 1, .uint 4, .ro, false, .field .FAB_CL_STATUS 0 0⟩,  -- FAB_CL_STATUS
  ⟨0x401C, [(64, 0x40)], 2, 1, .uint 4, .ro, false, .field .FAB_CL_LATE_CNT 31 0⟩  -- FAB_CL_LATE_CNT
  ]

/-- Voices, outputs, tones and trackers (R96, R142), part 1. -/
def objsOutput1 : List Obj := [
  ⟨0x6000, [(1024, 1)], 1, 1, .uint 8, .rw, true, .pair .VOICE_FTW_LO .VOICE_FTW_HI 48⟩,  -- VOICE_FTW
  ⟨0x6000, [(1024, 1)], 2, 1, .uint 4, .rw, true, .field .VOICE_POFF 31 0⟩,  -- VOICE_POFF
  ⟨0x6000, [(1024, 1)], 3, 1, .uint 2, .rw, true, .field .VOICE_AMP 15 0⟩,  -- VOICE_AMP
  ⟨0x6000, [(1024, 1)], 4, 1, .uint 2, .rw, true, .field .VOICE_SEGBASE 11 0⟩,  -- VOICE_SEGBASE
  ⟨0x6000, [(1024, 1)], 5, 1, .uint 1, .rwl, true, .field .VOICE_CTRL 0 0⟩,  -- VOICE_HO_SRC
  ⟨0x6000, [(1024, 1)], 6, 1, .bool, .wo, false, .field .VOICE_COMMIT 0 0⟩,  -- VOICE_COMMIT
  ⟨0x6000, [(1024, 1)], 7, 1, .uint 4, .ro, false, .field .VOICE_STATUS 31 0⟩,  -- VOICE_STATUS
  ⟨0x6400, [(256, 1)], 1, 1, .sint 2, .rw, true, .field .BBO_GAIN 15 0⟩,  -- BBO_GAIN
  ⟨0x6400, [(256, 1)], 2, 1, .sint 2, .rw, true, .field .BBO_OFFSET 15 0⟩,  -- BBO_OFFSET
  ⟨0x6400, [(256, 1)], 3, 1, .uint 1, .rwl, true, .field .BBO_CTRL 1 1⟩,  -- BBO_HO_SRC
  ⟨0x6400, [(256, 1)], 4, 1, .bool, .wo, false, .field .BBO_COMMIT 0 0⟩,  -- BBO_COMMIT
  ⟨0x6400, [(256, 1)], 5, 1, .bool, .rw, false, .field .BBO_CTRL 0 0⟩,  -- BBO_MUTE
  ⟨0x6400, [(256, 1)], 6, 1, .uint 4, .ro, false, .field .BBO_STATUS 31 0⟩,  -- BBO_STATUS
  ⟨0x6400, [(256, 1)], 7, 1, .uint 4, .rw, true, .field .BBO_MKR 31 0⟩,  -- BBO_MKR
  ⟨0x6500, [(128, 1)], 1, 1, .uint 1, .rwl, true, .field .RFO_CTRL 1 1⟩,  -- RFO_MODE
  ⟨0x6500, [(128, 1)], 2, 1, .uint 1, .rwl, true, .field .RFO_CTRL 2 2⟩,  -- RFO_ZONE
  ⟨0x6500, [(128, 1)], 3, 1, .uint 1, .rw, true, .field .RFO_CTRL 5 4⟩,  -- RFO_SHIFT
  ⟨0x6500, [(128, 1)], 4, 1, .bool, .rw, false, .field .RFO_CTRL 0 0⟩,  -- RFO_MUTE
  ⟨0x6500, [(128, 1)], 5, 1, .uint 4, .ro, false, .field .RFO_STATUS 31 0⟩,  -- RFO_STATUS
  ⟨0x6500, [(128, 1)], 6, 1, .uint 4, .ro, false, .field .RFO_CLIPS 31 0⟩,  -- RFO_CLIPS
  ⟨0x6500, [(128, 1)], 0x11, 8, .uint 4, .rw, true, .field .RFO_MKR 31 0⟩,  -- RFO_MKR
  ⟨0x6580, [(64, 1)], 1, 1, .uint 1, .rwl, true, .field .RFI_CTRL 0 0⟩,  -- RFI_MODE
  ⟨0x6580, [(64, 1)], 2, 1, .uint 1, .rwl, true, .field .RFI_CTRL 1 1⟩,  -- RFI_ZONE
  ⟨0x6580, [(64, 1)], 3, 1, .uint 4, .ro, false, .field .RFI_STATUS 31 0⟩  -- RFI_STATUS
  ]

/-- Voices, outputs, tones and trackers (R96, R142), part 2. -/
def objsOutput2 : List Obj := [
  ⟨0x6580, [(64, 1)], 4, 1, .uint 4, .ro, false, .field .RFI_OVR_CNT 31 0⟩,  -- RFI_OVR_CNT
  ⟨0x6800, [(1024, 1)], 1, 1, .uint 8, .rw, true, .pair .TONE_FTW_LO .TONE_FTW_HI 48⟩,  -- TONE_FTW
  ⟨0x6800, [(1024, 1)], 2, 1, .uint 4, .rw, true, .field .TONE_POFF 31 0⟩,  -- TONE_POFF
  ⟨0x6800, [(1024, 1)], 3, 1, .uint 2, .rw, true, .field .TONE_WBASE 15 0⟩,  -- TONE_WBASE
  ⟨0x6800, [(1024, 1)], 4, 1, .uint 2, .rw, true, .field .TONE_ROT 15 0⟩,  -- TONE_ROT
  ⟨0x6800, [(1024, 1)], 5, 1, .sint 4, .rw, true, .field .TONE_TH0 31 0⟩,  -- TONE_TH
  ⟨0x6800, [(1024, 1)], 6, 1, .sint 4, .rw, true, .field .TONE_TH1 31 0⟩,  -- TONE_TH
  ⟨0x6800, [(1024, 1)], 7, 1, .sint 4, .rw, true, .field .TONE_TH2 31 0⟩,  -- TONE_TH
  ⟨0x6800, [(1024, 1)], 8, 1, .uint 1, .rwl, true, .member .TONE_HO⟩,  -- TONE_HO_SRC
  ⟨0x6800, [(1024, 1)], 9, 1, .bool, .wo, false, .member .TONE_COMMIT⟩,  -- TONE_COMMIT
  ⟨0x6800, [(1024, 1)], 0xA, 1, .uint 4, .rwl, true, .field .TONE_CFG 31 0⟩,  -- TONE_CFG
  ⟨0x6800, [(1024, 1)], 0xB, 1, .uint 4, .rwl, true, .field .TONE_WOFF 19 0⟩,  -- TONE_WOFF
  ⟨0x6800, [(1024, 1)], 0xC, 1, .uint 4, .rwl, true, .field .TONE_WLEN 23 0⟩,  -- TONE_WLEN
  ⟨0x6800, [(1024, 1)], 0xD, 1, .uint 4, .ro, false, .field .TONE_STATUS 31 0⟩,  -- TONE_STATUS
  ⟨0x6800, [(1024, 1)], 0xE, 1, .uint 4, .rwl, true, .field .TONE_CMP_CFG 31 0⟩,  -- TONE_CMP_CFG
  ⟨0x6800, [(1024, 1)], 0xF, 1, .sint 4, .rw, true, .field .TONE_CMP_TH 31 0⟩,  -- TONE_CMP_TH
  ⟨0x6800, [(1024, 1)], 0x10, 1, .uint 4, .rw, true, .field .TONE_CMP_HYS 31 0⟩,  -- TONE_CMP_HYS
  ⟨0x6C00, [(64, 8)], 0, 0x100, .uint 8, .rwl, true, .pair .TRK_FTW_LO .TRK_FTW_HI 48⟩,  -- TRK_FTW
  ⟨0x6C01, [(64, 8)], 0, 0x100, .uint 4, .rwl, true, .field .TRK_POFF 31 0⟩,  -- TRK_POFF
  ⟨0x6C02, [(64, 8)], 0, 0x100, .uint 2, .rwl, true, .field .TRK_ROT 15 0⟩,  -- TRK_ROT
  ⟨0x6C03, [(64, 8)], 0, 0x100, .uint 4, .rwl, true, .field .TRK_CTRL 31 0⟩,  -- TRK_CTRL
  ⟨0x6C04, [(64, 8)], 0, 0x100, .uint 4, .rwl, true, .field .TRK_CMP_CFG 31 0⟩,  -- TRK_CMP_CFG
  ⟨0x6C05, [(64, 8)], 0, 0x100, .sint 4, .rw, true, .field .TRK_CMP_TH 31 0⟩,  -- TRK_CMP_TH
  ⟨0x6C06, [(64, 8)], 0, 0x100, .uint 4, .rw, true, .field .TRK_CMP_HYS 31 0⟩  -- TRK_CMP_HYS
  ]

/-- Voices, outputs, tones and trackers (R96, R142), part 3. -/
def objsOutput3 : List Obj := [
  ⟨0x6C07, [(64, 8)], 0, 0x100, .uint 4, .ro, false, .field .TRK_STATUS 31 0⟩  -- TRK_STATUS
  ]

/-- Take engines (R226), part 1. -/
def objsTake1 : List Obj := [
  ⟨0x7000, [], 1, 1, .uint 1, .wo, false, .field .STK_CMD 7 0⟩,  -- STK_CMD
  ⟨0x7000, [], 2, 1, .uint 4, .ro, false, .field .STK_STATUS 31 0⟩,  -- STK_STATUS
  ⟨0x7000, [], 3, 1, .uint 2, .rwl, true, .field .STK_HZN 15 0⟩,  -- STK_HZN
  ⟨0x7000, [], 4, 1, .uint 4, .rwl, true, .field .STK_HOLD 19 0⟩,  -- STK_HOLD
  ⟨0x7000, [], 5, 1, .uint 2, .rwl, true, .field .STK_REGMASK 15 0⟩,  -- STK_REGMASK
  ⟨0x7000, [], 6, 1, .uint 1, .rw, true, .field .STK_SNAP 1 0⟩,  -- STK_SNAP
  ⟨0x7000, [], 7, 1, .uint 8, .rwl, false, .pair .STK_WIN_START_LO .STK_WIN_START_HI 64⟩,  -- STK_WIN_START
  ⟨0x7000, [], 8, 1, .uint 8, .rwl, false, .pair .STK_WIN_END_LO .STK_WIN_END_HI 64⟩,  -- STK_WIN_END
  ⟨0x7000, [], 9, 1, .uint 4, .rwl, true, .field .STK_NTAKES 31 0⟩,  -- STK_NTAKES
  ⟨0x7000, [], 0xA, 1, .uint 8, .rwl, true, .pair .STK_RING_BASE_LO .STK_RING_BASE_HI 42⟩,  -- STK_RING_BASE
  ⟨0x7000, [], 0xB, 1, .uint 4, .rwl, true, .field .STK_RING_SIZE 26 0⟩,  -- STK_RING_SIZE
  ⟨0x7000, [], 0xC, 1, .uint 4, .ro, false, .field .STK_WR 31 0⟩,  -- STK_WR
  ⟨0x7000, [], 0xD, 1, .uint 4, .ro, false, .field .STK_TRIG 31 0⟩,  -- STK_TRIG
  ⟨0x7000, [], 0xE, 1, .uint 4, .rw, false, .field .STK_RD 31 0⟩,  -- STK_RD
  ⟨0x7000, [], 0xF, 1, .uint 4, .ro, false, .field .STK_MISSED 31 0⟩,  -- STK_MISSED
  ⟨0x7000, [], 0x10, 8, .uint 4, .rwl, true, .field .STK_VAL 31 0⟩,  -- STK_VAL
  ⟨0x7000, [], 0x18, 8, .uint 4, .rwl, true, .field .STK_CARE 31 0⟩,  -- STK_CARE
  ⟨0x7000, [], 0x20, 1, .uint 4, .ro, false, .field .STK_LATE_CNT 31 0⟩,  -- STK_LATE_CNT
  ⟨0x7000, [], 0x21, 1, .uint 4, .rw, true, .field .STK_EV 31 0⟩,  -- STK_EV
  ⟨0x7001, [(2, 1)], 1, 0x80, .uint 4, .rwl, true, .field .STK_TERM 31 0⟩,  -- STK_TERM
  ⟨0x7010, [(16, 1)], 1, 1, .uint 1, .wo, false, .field .TK_CMD 7 0⟩,  -- TK_CMD
  ⟨0x7010, [(16, 1)], 2, 1, .uint 4, .ro, false, .field .TK_STATUS 31 0⟩,  -- TK_STATUS
  ⟨0x7010, [(16, 1)], 3, 1, .uint 2, .ro, false, .field .TK_LAG 15 0⟩,  -- TK_LAG
  ⟨0x7010, [(16, 1)], 4, 1, .uint 8, .rwl, true, .pair .TK_VAL_LO .TK_VAL_HI 64⟩  -- TK_VAL
  ]

/-- Take engines (R226), part 2. -/
def objsTake2 : List Obj := [
  ⟨0x7010, [(16, 1)], 5, 1, .uint 8, .rwl, true, .pair .TK_CARE_LO .TK_CARE_HI 64⟩,  -- TK_CARE
  ⟨0x7010, [(16, 1)], 6, 1, .uint 4, .rwl, true, .field .TK_PRE 19 0⟩,  -- TK_PRE
  ⟨0x7010, [(16, 1)], 7, 1, .uint 8, .rwl, true, .pair .TK_POST_LO .TK_POST_HI 40⟩,  -- TK_POST
  ⟨0x7010, [(16, 1)], 8, 1, .uint 8, .rwl, false, .pair .TK_WIN_START_LO .TK_WIN_START_HI 64⟩,  -- TK_WIN_START
  ⟨0x7010, [(16, 1)], 9, 1, .uint 8, .rwl, false, .pair .TK_WIN_END_LO .TK_WIN_END_HI 64⟩,  -- TK_WIN_END
  ⟨0x7010, [(16, 1)], 0xA, 1, .uint 4, .rwl, true, .field .TK_NTAKES 31 0⟩,  -- TK_NTAKES
  ⟨0x7010, [(16, 1)], 0xB, 1, .uint 2, .rwl, true, .field .TK_KWMAX 15 0⟩,  -- TK_KWMAX
  ⟨0x7010, [(16, 1)], 0xC, 1, .uint 8, .rwl, true, .pair .TK_RING_BASE_LO .TK_RING_BASE_HI 42⟩,  -- TK_RING_BASE
  ⟨0x7010, [(16, 1)], 0xD, 1, .uint 4, .rwl, true, .field .TK_RING_SIZE 26 0⟩,  -- TK_RING_SIZE
  ⟨0x7010, [(16, 1)], 0xE, 1, .uint 8, .ro, false, .pair .TK_TLEN_LO .TK_TLEN_HI 64⟩,  -- TK_TLEN
  ⟨0x7010, [(16, 1)], 0xF, 1, .uint 4, .ro, false, .field .TK_NSLOT 31 0⟩,  -- TK_NSLOT
  ⟨0x7010, [(16, 1)], 0x10, 1, .uint 4, .ro, false, .field .TK_WR 31 0⟩,  -- TK_WR
  ⟨0x7010, [(16, 1)], 0x11, 1, .uint 4, .ro, false, .field .TK_TRIG 31 0⟩,  -- TK_TRIG
  ⟨0x7010, [(16, 1)], 0x12, 1, .uint 4, .rw, false, .field .TK_RD 31 0⟩,  -- TK_RD
  ⟨0x7010, [(16, 1)], 0x13, 1, .uint 4, .ro, false, .field .TK_MISSED 31 0⟩,  -- TK_MISSED
  ⟨0x7010, [(16, 1)], 0x14, 1, .uint 4, .rw, true, .field .TK_EV 31 0⟩,  -- TK_EV
  ⟨0x7010, [(16, 1)], 0x15, 2, .uint 2, .rwl, true, .field .TK_EVIN 15 0⟩,  -- TK_EVIN
  ⟨0x7010, [(16, 1)], 0x18, 4, .uint 8, .rwl, true, .words .TK_RAWCMP_CTRL .TK_RAWCMP_TH⟩,  -- TK_RAWCMP
  ⟨0x7010, [(16, 1)], 0x20, 0x40, .uint 4, .rwl, true, .field .TK_TERM 31 0⟩,  -- TK_TERM
  ⟨0x7010, [(16, 1)], 0x60, 0x10, .uint 8, .rwl, true, .words .TK_RED_CTRL .TK_RED_SHARE⟩,  -- TK_RED
  ⟨0x7010, [(16, 1)], 0x70, 4, .sint 4, .rwl, true, .field .TK_MASK_CTRL 31 0⟩,  -- TK_MASK
  ⟨0x7010, [(16, 1)], 0x74, 4, .sint 4, .rwl, true, .field .TK_MASK_MS 31 0⟩,  -- TK_MASK
  ⟨0x7010, [(16, 1)], 0x78, 4, .sint 4, .rwl, true, .field .TK_MASK_ME 31 0⟩,  -- TK_MASK
  ⟨0x7010, [(16, 1)], 0x7C, 4, .sint 4, .rwl, true, .field .TK_MASK_LO 31 0⟩  -- TK_MASK
  ]

/-- Take engines (R226), part 3. -/
def objsTake3 : List Obj := [
  ⟨0x7010, [(16, 1)], 0x80, 4, .sint 4, .rwl, true, .field .TK_MASK_HI 31 0⟩,  -- TK_MASK
  ⟨0x7010, [(16, 1)], 0x84, 4, .sint 4, .ro, false, .field .TK_MASK_CNT 31 0⟩  -- TK_MASK
  ]

/-- Every family. -/
def objects : List Obj :=
  objsModule1 ++ objsModule2 ++ objsTime1 ++ objsTime2 ++ objsPower ++ objsGrip1 ++ objsGrip2 ++ objsLinks ++ objsBias ++ objsCal ++ objsRouter ++ objsRegion ++ objsCluster1 ++ objsCluster2 ++ objsOutput1 ++ objsOutput2 ++ objsOutput3 ++ objsTake1 ++ objsTake2 ++ objsTake3

/-- The position of index offset `x` among the indices of a family. -/
def repsPos : List (Nat × Nat) → Nat → Option Nat
  | [], x => if x = 0 then some 0 else none
  | (n, st) :: ds, x => if x / st < n then (repsPos ds (x % st)).map (x / st * dimCount ds + ·) else none

/-- The position of an index in a family. -/
def Obj.indexPos (o : Obj) (index : Nat) : Option Nat := if o.index ≤ index then repsPos o.reps (index - o.index) else none

/-- The families at an index. -/
def objectsAt (index : Nat) : List (Obj × Nat) := objects.filterMap (fun o => (o.indexPos index).map (fun p => (o, p)))

/-- The object at index:subindex and its position in its family. -/
def findObj (index sub : Nat) : Option (Obj × Nat) :=
  ((objectsAt index).find? (fun e => decide (e.1.sub ≤ sub) && decide (sub < e.1.sub + e.1.subs))).map
    (fun e => (e.1, e.2 * e.1.subs + (sub - e.1.sub)))

/-- An index whose elements are numbered from subindex 0, and which has no count (R368). -/
def countless (index : Nat) : Bool :=
  (decide (0x6C00 ≤ index) && decide (index < 0x6E00)) || (decide (0x2400 ≤ index) && decide (index < 0x2408)) ||
    (decide (0x2610 ≤ index) && decide (index < 0x26B0))

/-- The highest subindex implemented at an index, none where the index is not implemented. -/
def highestSub (index : Nat) : Option Nat :=
  match objectsAt index with
  | [] => none
  | es => some (es.foldl (fun m e => max m (e.1.sub + e.1.subs - 1)) 0)

end Sys2Proof.Machine
end

