-- ==== Sys2Proof/Machine/Objects.lean ====
section
/-!
DEFINITION. Objects (R368-R377, R390): what a READ of an object returns and what a WRITE does, saving and loading, and the GO of
feature negotiation (R358, R360).
-/

namespace Sys2Proof.Machine

/-! ### Which objects there are (R3, R358, R359, R368) -/

/-- The transmit map's link register for the position of a `perLink` object: index number, then link. -/
def perLinkInst (pos : Nat) : Nat := 4 * (pos % 24) + pos / 24

/-- What the presence of an object follows: the module, a register, or a calibration unit. -/
inductive ObjPlace where
  | module
  | register (r : Reg) (i : Nat)
  | unit (u : Nat)
  deriving DecidableEq, Repr

/-- The place of the object at a position of its family. -/
def Obj.place (o : Obj) (pos : Nat) : ObjPlace :=
  match o.home with
  | .field r _ _ => .register r pos
  | .pair r _ _ => .register r pos
  | .words r _ => .register r pos
  | .triple r => .register r (3 * pos)
  | .member r => .register r (pos / 16)
  | .entry => .register .LNK_TXMAP (pos / 2)
  | .perLink r => .register r (perLinkInst pos)
  | .freeze => .unit pos
  | .served _ _ _ => if o.index = 0x2020 then .register .PTP_CFG pos else .module
  | .value .icVolts => .register .IC_DATA_LO pos
  | .value .calState => .unit pos
  | .value .calOpt => .unit pos
  | .value (.calResid _) => .unit pos
  | .value (.calLimit _) => .unit pos
  | .value .discFit => .unit (0x200 + pos)
  | .value _ => .module

/-- The register that a place is reached through. -/
def ObjPlace.reg : ObjPlace → Option (Reg × Nat)
  | .module => none
  | .register r i => some (r, i)
  | .unit u => (frzHome u).map (fun h => (h.1, h.2.1))

/-- The object's region, cluster or unit is not populated (R3), or its block is not live (R359). -/
def State.objAbsent (s : State) (p : ObjPlace) : Bool :=
  (match p with
   | .unit u => !s.hasUnit u
   | _ => false) ||
    (match p.reg with
     | some h => let g := s.gate (.gaffer 0) (regAddr h.1 h.2); g == .absent || g == .notLive
     | none => false)

/-- What a request names. -/
inductive ObjRef where
  /-- Subindex 0: the highest subindex of the index. -/
  | count (n : Nat)
  | object (o : Obj) (pos : Nat)
  deriving DecidableEq, Repr

/-- What index:subindex names, or the status it is refused with (R358, R368, R390). -/
def State.findRef (s : State) (index sub : Nat) : Except Nat ObjRef :=
  if (index < 0x1000 ∨ 0x2000 ≤ index) ∧ s.active = false then .error Code.busy
  else if sub = 0 ∧ countless index = false then
    match highestSub index with
    | some n =>
      if (objectsAt index).all (fun e => s.objAbsent (e.1.place (e.2 * e.1.subs))) then .error Code.unknownObject else .ok (.count n)
    | none => .error Code.unknownObject
  else match findObj index sub with
    | some (o, pos) => if s.objAbsent (o.place pos) then .error Code.unknownObject else .ok (.object o pos)
    | none => .error Code.unknownObject

/-! ### Values (R369, R372) -/

/-- The bits of the backing field. -/
def Obj.width (o : Obj) : Nat :=
  match o.home with
  | .field _ hi lo => hi + 1 - lo
  | .pair _ _ n => n
  | .member _ => 1
  | .freeze => 1
  | _ => 8 * o.type.size

/-- The value of a register-backed object over registers as `get` reads them. -/
def Obj.raw (o : Obj) (pos : Nat) (get : Reg → Nat → Word) : Nat :=
  match o.home with
  | .field r hi lo => bits (get r pos) hi lo
  | .pair r h n => ((get r pos).toNat + (get h pos).toNat * 2 ^ 32) % 2 ^ n
  | .words r h => (get r pos).toNat + (get h pos).toNat * 2 ^ 32
  | .triple r => (get r (3 * pos)).toNat + (get r (3 * pos + 1)).toNat * 2 ^ 32 + (get r (3 * pos + 2)).toNat * 2 ^ 64
  | .member r => b2n (bitOf (get r (pos / 16)).toNat (pos % 16))
  | .entry => bits (get .LNK_TXMAP (pos / 2)) (16 * (pos % 2) + 15) (16 * (pos % 2))
  | .perLink r => (get r (perLinkInst pos)).toNat
  | .freeze =>
    match frzHome pos with
    | some (r, i, b) => b2n (bitOf (get r i).toNat b)
    | none => 0
  | .served _ _ _ => 0
  | .value _ => 0

/-- A field's value in the bytes of the type, its sign extended where the type has one. -/
def Obj.encode (o : Obj) (v : Nat) : List Byte :=
  match o.type with
  | .sint n => leBytes n (wrapTo (8 * n) (signed o.width v))
  | t => leBytes t.size v

/-- A session as `OD_SESSION` shows it. -/
def State.sessionWord (s : State) (slot : Nat) : Nat :=
  let x := s.session slot
  if x.isOpen then x.addr + x.port * 2 ^ 32 + x.gen * 2 ^ 48 + 2 ^ 56 else x.gen * 2 ^ 48

/-- An entry of the error history in 24 bytes (R393). -/
def State.errBytes (s : State) (k : Nat) : List Byte :=
  match s.od.errs[k]? with
  | some e => leBytes 12 (s.wallAt e.cc) ++ leBytes 8 e.ftg ++ leBytes 1 e.status ++ leBytes 1 0 ++ leBytes 2 e.source
  | none => List.replicate 24 0

/-- `WEAR_LIFE` (R425): the largest total of equivalent hours as a fraction of 262,980 h; a total is in units of 2^-32 ms. -/
def State.wearLife (s : State) : Nat :=
  toReal32 ((List.range 11).foldl (fun m d => max m (tget 0 s.health.wear.eq d)) 0 : Nat) (262_980 * 3_600_000 * 2 ^ 32)

/-- `WEAR_HIST` of die `d` (R425): whole hours in each band. -/
def State.wearBands (s : State) (d : Nat) : List Byte :=
  (List.range 26).flatMap (fun b => leBytes 4 (tget 0 s.health.wear.hist (26 * d + b) / 3_600_000))

/-- `CAL_DISC_FIT` of tone `t` (R244). -/
def State.discBytes (s : State) (t : Nat) : List Byte :=
  let d : DiscUnit := tget {} s.cal.disc t
  leBytes 2 d.rot ++ leBytes 2 0 ++ d.th.flatMap (fun x => leBytes 4 (wrapTo 32 x)) ++
    d.mu.flatMap (fun p => leBytes 4 (wrapTo 32 p.1) ++ leBytes 4 (wrapTo 32 p.2))

/-- The value of an object with a rule of its own. -/
def State.valueBytes (s : State) (v : ObjValue) (pos : Nat) : List Byte :=
  let x := s.calUnit pos
  match v with
  | .featGo => leBytes 1 (b2n s.active)
  | .session => leBytes 8 (s.sessionWord (pos + 1))
  | .mac => leBytes 8 (if pos = 0 then Config.macA.toNat else Config.macB.toNat)
  | .errHist => s.errBytes pos
  | .queuePeak => leBytes 2 (s.servedAt 0x1F80 4 0)
  | .wallTime => leBytes 12 (s.wallAt s.now)
  | .wearLife => leBytes 4 s.wearLife
  | .wearHist => s.wearBands pos
  | .icVolts => leBytes 4 (s.icVolts pos)
  | .calRunStatus => leBytes 4 s.calRunStatus
  | .calState => leBytes 4 (s.calStateWord pos)
  | .calOpt => leBytes 4 (s.calOpt pos)
  | .calResid k => leBytes 4 (match k with | 0 => x.residA | 1 => x.residB | _ => x.residC)
  | .calLimit k => leBytes 4 (match k with | 0 => (s.calLimits pos).1 | 1 => (s.calLimits pos).2.1 | _ => (s.calLimits pos).2.2)
  | .discFit => s.discBytes pos
  | .save => []
  | .restore => []
  | .calRun => []

/-- The value of an object at a subindex, over registers as `get` reads them. -/
def State.objBytes (s : State) (o : Obj) (index sub pos : Nat) (get : Reg → Nat → Word) : List Byte :=
  match o.home with
  | .served d _ _ => leBytes o.type.size (s.servedAt index sub d)
  | .value v => s.valueBytes v pos
  | _ => o.encode (o.raw pos get)

/-! ### READ -/

/-- An object's access passes the gate of its register (R31, R359). -/
def State.objGate (s : State) (core : Fin 4) (p : ObjPlace) : Gate :=
  match p.reg with
  | some h => s.gate (.gaffer core) (regAddr h.1 h.2)
  | none => .open

/-- The effects of the access to the object's register. -/
def State.objThrough (s : State) (core : Fin 4) (p : ObjPlace) : State :=
  match p.reg with
  | some h => s.throughGate (.gaffer core) (regAddr h.1 h.2) (s.objGate core p)
  | none => s

/-- The registers of a register-backed object are read by a Gaffer core (R372); an RC register is claimed (R373). -/
def State.readHome (s : State) (core : Fin 4) (o : Obj) (index sub pos : Nat) : List Byte × State :=
  match o.home with
  | .pair r h _ =>
    match claimRead (.gaffer core) r pos with
    | some _ => let c := readPair (.gaffer core) r h pos s; (leBytes 8 c.1.toNat, c.2)
    | none => (s.objBytes o index sub pos s.peek, s)
  | .value .queuePeak => (s.objBytes o index sub pos s.peek, s.setPeakDepth s.od.queue.length)
  | _ => (s.objBytes o index sub pos s.peek, s)

/-- The object is register-backed. -/
def Obj.backed (o : Obj) : Bool :=
  match o.home with
  | .served _ _ _ => false
  | .value _ => false
  | _ => true

/-- A READ of an object (R370, R372): status, value and state. -/
def State.objRead (s : State) (core : Fin 4) (index sub : Nat) : Nat × List Byte × State :=
  match s.findRef index sub with
  | .error c => (c, [], s)
  | .ok (.count n) => (Code.ok, leBytes 1 n, s)
  | .ok (.object o pos) =>
    if o.acc = .wo then (Code.access, [], s)
    else if !o.backed then let r := s.readHome core o index sub pos; (Code.ok, r.1, r.2)
    else if s.objGate core (o.place pos) = .open then
      let r := (s.objThrough core (o.place pos)).readHome core o index sub pos
      (Code.ok, r.1, r.2)
    else (Code.ok, s.objBytes o index sub pos (fun _ _ => 0), s.objThrough core (o.place pos))

/-! ### WRITE (R369, R370, R373) -/

/-- The value is outside the range of the type, the backing field or the object. -/
def Obj.outOfRange (o : Obj) (v : Nat) : Bool :=
  (match o.type with
   | .bool => decide (1 < v)
   | .real32 => v / 2 ^ 23 % 256 == 255
   | .sint n => decide (signed (8 * n) v < -(2 ^ (o.width - 1) : Nat)) || decide (((2 ^ (o.width - 1) : Nat) : Int) ≤ signed (8 * n) v)
   | .uint _ => decide (2 ^ o.width ≤ v)
   | _ => false) ||
    (match o.home with
     | .served _ lo hi => decide (v < lo) || decide (hi < v)
     | .value .save => v != 0x6576_6173
     | .value .restore => v != 0x6461_6F6C
     | .value .calOpt => decide (8 < v % 16) || (v / 16 % 4 != 2 && v / 16 % 4 != 3) || v / 64 % 4 != 0 || decide (1024 ≤ v)
     | _ => false)

/-- The owner of an RWL object is not stopped (R11, R12, R325, R367). -/
def State.objLocked (s : State) (p : ObjPlace) : Bool :=
  match p.reg with
  | none => false
  | some (r, i) =>
    let b := (regInfo r).base
    match r with
    | .FEAT_ACCEPT => s.goAccepted
    | .STRM_CFG => !s.regionHalted (i / 8)
    | .LNK_MODID => !s.linksOff
    | .BIAS_LIM_LO => s.ramping i
    | .BIAS_LIM_HI => s.ramping i
    | _ =>
      if 0x41000 ≤ b ∧ b < 0x42400 then !s.gripIdle i
      else if 0x43000 ≤ b ∧ b < 0x44000 then s.bit .DLY_CTRL i 0
      else if 0x51000 ≤ b ∧ b < 0x52000 then s.mtRuns (regOuter r i)
      else !s.ownerStopped r i

/-- A register write and the status its block reports for it (R373): OK where no LAST_RESULT tells. -/
def reported (r : Reg) (i : Nat) (op : State → State) (s : State) : Nat × State :=
  match resultHome r i with
  | some (q, j, hi, lo) =>
    let old := s.fld q j hi lo
    let t := op (s.setFld q j hi lo (2 ^ (hi + 1 - lo) - 1))
    if t.fld q j hi lo = 2 ^ (hi + 1 - lo) - 1 then (Code.ok, t.setFld q j hi lo old) else (t.fld q j hi lo, t)
  | none => (Code.ok, op s)

/-- A write of the object's bits of one register, the others as they are. -/
def putHome (r : Reg) (i hi lo v : Nat) (s : State) : Nat × State :=
  reported r i (fun s => writeReg .host r i (putBits (s.reg r i) hi lo v) s) s

/-- The registers of an object are written in ascending order (R372). The freeze bits do not hold object writes (R239). -/
def Obj.writeHome (o : Obj) (pos v : Nat) (s : State) : Nat × State :=
  match o.home with
  | .field r hi lo => putHome r pos hi lo v s
  | .pair r h _ => reported r pos (writePair .host r h pos (BitVec.ofNat 64 v)) s
  | .words r h =>
    let a := putHome r pos 31 0 v s
    let b := putHome h pos 31 0 (v / 2 ^ 32) a.2
    (if a.1 = Code.ok then b.1 else a.1, b.2)
  | .triple r =>
    let a := putHome r (3 * pos) 31 0 v s
    let b := putHome r (3 * pos + 1) 31 0 (v / 2 ^ 32) a.2
    putHome r (3 * pos + 2) 31 0 (v / 2 ^ 64) b.2
  | .member r => putHome r (pos / 16) (pos % 16) (pos % 16) v s
  | .entry => putHome .LNK_TXMAP (pos / 2) (16 * (pos % 2) + 15) (16 * (pos % 2)) v s
  | .perLink r => putHome r (perLinkInst pos) 31 0 v s
  | .freeze =>
    match frzHome pos with
    | some (r, i, b) => putHome r i b b v s
    | none => (Code.ok, s)
  | .served _ _ _ => (Code.ok, s)
  | .value _ => (Code.ok, s)

/-! ### Saving (R376, R377) -/

/-- The newest valid image. -/
def FlashState.newest (f : FlashState) : Option SavedImage :=
  match f.areaA, f.areaB with
  | some a, some b => if a.writes < b.writes then some b else some a
  | some a, none => some a
  | none, b => b

/-- A new image goes into the second area: the first holds the newest valid one. -/
def FlashState.toSecond (f : FlashState) : Bool := f.areaA.isSome && f.newest == f.areaA

/-- The saved objects in ascending order: index, subindex, family and position. -/
def savedObjects : List (Nat × Nat × Obj × Nat) :=
  (List.range 0x8000).flatMap (fun index =>
    ((objectsAt index).filter (fun e => e.1.saved)).flatMap (fun e =>
      (List.range e.1.subs).map (fun j => (index, e.1.sub + j, e.1, e.2 * e.1.subs + j))))

/-- The object belongs to a populated part of the module. -/
def State.objPopulated (s : State) (p : ObjPlace) : Bool :=
  match p with
  | .module => true
  | .unit u => s.hasUnit u
  | .register r i => match windowRegion (regAddr r i) with
    | some n => s.hasRegion n
    | none => true

/-- `OD_SAVE_STATUS`. -/
def State.saveStatus (s : State) (code : Nat) (busy : Bool) (n : Nat) : State :=
  s.setServed 0x1018 3 (code + b2n busy * 2 ^ 8 + n % 65536 * 2 ^ 16)

/-- The number of objects in the last image written, as `OD_SAVE_STATUS` shows it. -/
def State.saveCount (s : State) : Nat := s.servedAt 0x1018 3 0 / 2 ^ 16

/-- A save command (R376): the snapshot is taken and the write begins; while one is under way it is refused with BUSY. -/
def State.saveCommand (s : State) (values : Option (Table Word × Table Nat)) (objects : Nat) : Nat × State :=
  match s.flash.saving with
  | some _ => (Code.busy, s.saveStatus Code.busy true s.saveCount)
  | none =>
    let image : SavedImage := { values, objects, writes := (s.flash.newest.map SavedImage.writes).getD 0 + 1 }
    let s := { s with flash := { s.flash with saving := some (s.flash.toSecond, image) } }
    (Code.ok, s.saveStatus Code.ok true s.saveCount)

/-- SAVE_IMAGE_COMPLETE: `ok` says that the image could be written. -/
def imageCompleteOp (ok : Bool) (s : State) : State :=
  match s.flash.saving with
  | none => s
  | some (second, image) =>
    let area := if ok then some image else none
    let f := { s.flash with saving := none }
    let s := { s with flash := if second then { f with areaB := area } else { f with areaA := area } }
    let s := if ok then s.saveStatus Code.ok false image.objects else s.saveStatus Code.timeout false s.saveCount
    s.raise 6

def execSaveImageComplete (dt : Nat) (ok : Bool) (s : State) : Result := .next (imageCompleteOp ok (s.pass dt))

/-- What the save commands answer and do. -/
def State.saveObject (s : State) (restore : Bool) : Nat × State :=
  if restore then s.saveCommand none 0
  else s.saveCommand (some (s.regs, s.served)) (savedObjects.filter (fun x => s.objPopulated (x.2.2.1.place x.2.2.2))).length

/-! ### Writes of objects -/

/-- A write of an object with a rule of its own. -/
def State.writeValue (s : State) (go : State → State) (v : ObjValue) (index sub n : Nat) : Nat × State :=
  match v with
  | .featGo => if n = 1 then let t := go s; (t.fld .FEAT_STATUS 0 7 0, t) else (Code.ok, s)
  | .save => s.saveObject false
  | .restore => s.saveObject true
  | .calRun => s.calRun (BitVec.ofNat 32 n)
  | .calOpt => (Code.ok, s.setServed index sub n)
  | .calLimit _ => (Code.ok, s.setServed index sub n)
  | _ => (Code.ok, s)

/-- The Gaffer serves the object (R374): `FEAT_GO` is a view of `FEAT_CTRL`. -/
def Obj.isServed (o : Obj) : Bool :=
  match o.home with
  | .served _ _ _ => true
  | .value .featGo => false
  | .value _ => true
  | _ => false

/-- A value is stored into the object, past every check. -/
def State.objStore (s : State) (go : State → State) (core : Fin 4) (o : Obj) (index sub pos n : Nat) : Nat × State :=
  match o.home with
  | .served _ _ _ => (Code.ok, s.setServed index sub n)
  | .value v => s.writeValue go v index sub n
  | _ =>
    if s.objGate core (o.place pos) = .open then o.writeHome pos n (s.objThrough core (o.place pos))
    else (Code.ok, s.objThrough core (o.place pos))

/-- The checks of a WRITE, in their order (R373): the type, the range, then the access code and the owner. -/
def State.objRefusal (s : State) (o : Obj) (pos : Nat) (bs : List Byte) : Option Nat :=
  if bs.length ≠ o.type.size then some Code.type
  else if o.outOfRange (leNat bs) then some Code.range
  else if o.acc = .ro ∨ o.acc = .const then some Code.access
  else if o.acc = .rwl ∧ s.objLocked (o.place pos) = true then some Code.locked
  else none

/-- A WRITE of an object; `go` is what a GO does. -/
def State.objWrite (s : State) (go : State → State) (core : Fin 4) (index sub : Nat) (bs : List Byte) : Nat × State :=
  match s.findRef index sub with
  | .error c => (c, s)
  | .ok (.count _) => (if bs.length = 1 then Code.access else Code.type, s)
  | .ok (.object o pos) =>
    match s.objRefusal o pos bs with
    | some c => (c, s)
    | none =>
      let r := s.objStore go core o index sub pos (leNat bs)
      (r.1, if o.isServed && r.1 == Code.ok then r.2.servedWrite else r.2)

/-! ### Loading the saved values (R377) -/

/-- A saved value is written into its object; one that the object refuses is skipped, and its status recorded. -/
def State.loadOne (s : State) (img : State) (x : Nat × Nat × Obj × Nat) : State :=
  let o := x.2.2.1
  let pos := x.2.2.2
  if s.objAbsent (o.place pos) then s
  else
    let bs := img.objBytes o x.1 x.2.1 pos (fun r i => img.reg r i)
    match s.objRefusal o pos bs with
    | some c => s.logError c 0
    | none =>
      let r := s.objStore id 0 o x.1 x.2.1 pos (leNat bs)
      if r.1 = Code.ok then r.2 else r.2.logError r.1 0

/-- The saved values of the objects that satisfy `p` are loaded, in ascending order. -/
def State.load (s : State) (p : Nat → ObjPlace → Bool) : State :=
  match s.flash.newest.bind SavedImage.values with
  | none => s
  | some (regs, served) =>
    let img := { s with regs, served }
    State.forEach (savedObjects.filter (fun x => p x.1 (x.2.2.1.place x.2.2.2))) (fun x s => s.loadOne img x) s

/-- The sets of voices, baseband outputs and tones go into both copies (R96, R142). -/
def State.loadActive (s : State) : State :=
  if (s.flash.newest.bind SavedImage.values).isNone then s
  else State.forEach ((List.range 64).filter s.hasCluster) (fun g s => State.forEach (List.range 36) (fun k s => s.copyActive g k) s) s

/-- The object's register lies in a bias die that satisfies `p`. -/
def inDie (p : Nat → Bool) (x : ObjPlace) : Bool :=
  match x.reg with
  | some h => (dieOf h.1 h.2).any p
  | none => false

/-- The saved objects of the bias dies that wait for them are loaded, once the dies are live and in reach (R246). -/
def State.loadDies (s : State) : State :=
  let due := (List.range 2).filter (fun d => dieBit s.bias.loadDue d && s.feat 12 && s.dieLive d)
  if due.isEmpty then s
  else
    let s := s.load (fun _ x => inDie due.contains x)
    { s with bias := { s.bias with loadDue := due.foldl (fun m d => dieSet m d false) s.bias.loadDue } }

/-- The blocks that become live at a GO are loaded. -/
def State.loadLive (s : State) : State :=
  ((s.load (fun index x => decide (0x2000 ≤ index) && !inDie (fun _ => true) x)).loadActive).loadDies

/-! ### Feature negotiation (R358, R360) -/

/-- `FEAT_STATUS.LAST_RESULT`. -/
def State.featResult (s : State) (code : Nat) : State := s.setFld .FEAT_STATUS 0 7 0 code

/-- The accepted set satisfies R358: BASE, and nothing that is not offered. -/
def State.featAcceptable (s : State) : Bool :=
  s.bit .FEAT_ACCEPT 0 0 && (List.range 4).all (fun w => s.reg .FEAT_ACCEPT w &&& ~~~s.reg .FEAT_OFFER w == 0)

/-- The GO is accepted in this cc: the set is in force from the next one on (R358). -/
def State.acceptedNow (s : State) : State := { s with host := { s.host with goAt := some s.now } }

/-- FEAT_GO: the blocks that become live are loaded. -/
def featGoOp (s : State) : State :=
  if s.goAccepted then s.featResult Code.ok
  else if s.featAcceptable then ((s.setBit .FEAT_CTRL 0 1 true).loadLive.featResult Code.ok).acceptedNow
  else s.featResult Code.range

def execFeatGo (who : Requester) (s : State) : Result := .next (s.regAccess who .FEAT_CTRL 0 featGoOp)

/-- REGISTER_WRITE. -/
def execRegisterWrite (who : Requester) (op : BusOp) (s : State) : Result := .next (registerOp featGoOp who op s)

/-! ### The rows of the save commands -/

/-- The object at index:subindex is written with `v`, and the answer presented, while the Gaffer serves requests. -/
def objectCommand (index sub : Nat) (v : Word) (s : State) : State :=
  if s.gafferServes then
    let r := s.objWrite featGoOp 0 index sub (leBytes 4 v.toNat)
    r.2.emit (.objectAnswer r.1)
  else s

/-- OD_SAVE (R376). -/
def execOdSave (v : Word) (s : State) : Result := .next (objectCommand 0x1018 1 v s)

/-- OD_RESTORE (R376). -/
def execOdRestore (v : Word) (s : State) : Result := .next (objectCommand 0x1018 2 v s)

end Sys2Proof.Machine
end

