-- ==== Sys2Proof/Machine/Boot.lean ====
section
/-!
DEFINITION. How the block starts (R246, R360, R364, R365, R377, R414, R420): power-up, the end of a supply fault, PERST#, FLR and
the bias dies, with the saved objects that are loaded and the GO that FEAT_AUTO gives.
-/

namespace Sys2Proof.Machine

/-- The logic side has started: the saved objects of the blocks that are live are loaded, and FEAT_AUTO gives a GO (R360, R377). -/
def State.startUp (s : State) : State :=
  let s := if s.flash.newest.isNone then s.logError Code.poison 0 else s
  let s := s.load (fun index _ => decide (index < 0x2000))
  if s.servedAt 0x1010 0xA 0 = 1 then featGoOp s else s

/-- POWER_UP (R420). -/
def powerUpOp (s : State) : State := s.powerOn.startUp

def execPowerUp (dt : Nat) (s : State) : Result := .next (powerUpOp (s.pass dt))

/-- SUPPLY_RECOVERY (R414). -/
def supplyRecoveryOp (rail : Nat) (s : State) : State :=
  let r := railBack rail s
  if r.1 then r.2.startUp else r.2

def execSupplyRecovery (dt rail : Nat) (s : State) : Result := .next (supplyRecoveryOp rail (s.pass dt))

/-- PERST_DEASSERT (R347, R365). -/
def perstDeassertOp (speed width : Nat) (s : State) : State :=
  if !s.host.perst then s
  else
    let s := perstRelease speed width s
    if s.held then s else s.startUp

def execPerstDeassert (dt speed width : Nat) (s : State) : Result := .next (perstDeassertOp speed width (s.pass dt))

/-- Feature negotiation returns to its power-up state (R360, R364): the saved `FEAT_ACCEPT` is loaded, and FEAT_AUTO gives a GO. The
blocks that become live then are loaded at that GO. -/
def State.featReset (s : State) : State :=
  let s := s.resetRegs [.FEAT_ACCEPT, .FEAT_CTRL, .FEAT_STATUS] (fun _ => true)
  let s : State := { s with bias := { s.bias with loadDue := 3 } }
  let s : State := ((s.resetCore 2).resetCore 3).load (fun _ x => x.reg.any (fun h => h.1 == .FEAT_ACCEPT))
  if s.servedAt 0x1010 0xA 0 = 1 then featGoOp s else s

/-- FLR (R364). -/
def flrOp (s : State) : State := if s.held then s else s.flrReset.featReset

def execFlr (dt : Nat) (s : State) : Result := .next (flrOp (s.pass dt))

/-- BIAS_SUPPLY_RISE (R246, R422): not while the die is at its shutdown limit. -/
def biasSupplyRiseOp (die : Nat) (extrefOk : Bool) (s : State) : State :=
  if bitOf s.health.shutDies.toNat (9 + die) then s else (biasRiseOp die extrefOk s).loadDies

def execBiasSupplyRise (dt die : Nat) (extrefOk : Bool) (s : State) : Result := .next (biasSupplyRiseOp die extrefOk (s.pass dt))

/-- ISOLATOR_LINK_UP (R246, R247). -/
def isolatorUpOp (die : Nat) (s : State) : State := (linkUpOp die s).loadDies

def execIsolatorLinkUp (dt die : Nat) (s : State) : Result := .next (isolatorUpOp die (s.pass dt))

end Sys2Proof.Machine
end

