-- ==== Sys2Proof/Machine/Service.lean ====
section
/-!
DEFINITION. The object service (R379, R380, R383-R390): Gaffer cores 0 and 1 take requests from the queue, oldest first, and execute
them; notifications; and the published load.
-/

namespace Sys2Proof.Machine

/-! ### Answers -/

/-- The answer to a request is kept by its session (R389) and leaves. -/
def State.reply (s : State) (r : Request) (status aux : Nat) (payload : List Byte) : State :=
  let f := answerFrame r.frame (frameSession r.frame) status aux payload
  (s.keep r.slot (frameSeq r.frame) f).answer r f

/-- The core takes the oldest request, if it is one of opcode `op`. -/
def takeRequest (core : Fin 4) (op : Nat) (f : Request → State → State) (s : State) : State :=
  match s.od.queue with
  | r :: rest =>
    if s.coreRuns core && frameOpcode r.frame == op then f r { s with od := { s.od with queue := rest } } else s
  | [] => s

/-- A core of the service as one of the four. -/
def coreOf (core : Nat) : Fin 4 := Fin.ofNat 4 core

/-! ### HELLO and BYE (R386-R388) -/

/-- The HELLO record. -/
def State.helloRecord (s : State) : List Byte :=
  leBytes 8 (s.pair .ID_SERIAL_LO .ID_SERIAL_HI) ++ leBytes 4 (s.regNat .ID_DEVICE) ++ leBytes 4 (s.regNat .ID_FW) ++
    leBytes 2 1400 ++ leBytes 2 10000 ++ leBytes 1 (b2n s.active) ++ leBytes 3 0

/-- A HELLO is answered with the session's number. -/
def State.helloAnswer (s : State) (r : Request) (session status aux : Nat) (payload : List Byte) : State :=
  s.answer r (answerFrame r.frame session status aux payload)

/-- The open session of an address and port. -/
def State.sessionOf (s : State) (addr port : Nat) : Option Nat :=
  (List.range 33).find? (fun k => let x := s.session k; decide (1 ≤ k) && x.isOpen && x.addr == addr && x.port == port)

/-- The lowest free slot. -/
def State.freeSlot (s : State) : Option Nat := (List.range 33).find? (fun k => decide (1 ≤ k) && !(s.session k).isOpen)

/-- The number of a session: slot and generation. -/
def State.sessionNumber (s : State) (slot : Nat) : Nat := slot + 256 * (s.session slot).gen

/-- A HELLO opens a session or finds the one its sender holds. -/
def helloServed (r : Request) (s : State) : State :=
  if 32 < frameLength r.frame then s.helloAnswer r (frameSession r.frame) Code.type 0 []
  else match r.mailbox with
    | some k => s.helloAnswer r (0x81 + k) Code.ok 0 s.helloRecord
    | none =>
      match s.sessionOf r.addr r.port with
      | some slot => (s.renew slot).helloAnswer r (s.sessionNumber slot) Code.ok 0 s.helloRecord
      | none =>
        match s.freeSlot with
        | some slot =>
          let gen := ((s.session slot).gen + 1) % 256
          let s := s.setSession slot { isOpen := true, gen, netB := r.netB, addr := r.addr, port := r.port, leaseEnd := s.now + leaseCc }
          s.helloAnswer r (s.sessionNumber slot) Code.ok 0 s.helloRecord
        | none => s.helloAnswer r (frameSession r.frame) Code.busy 1000 []

def helloOp (core : Nat) (s : State) : State := takeRequest (coreOf core) 1 helloServed s

def execBurtisHello (dt core : Nat) (s : State) : Result := .next (helloOp core (s.pass dt))

/-- A BYE closes a network session. -/
def byeServed (r : Request) (s : State) : State :=
  let f := answerFrame r.frame (frameSession r.frame) Code.ok 0 []
  match r.mailbox with
  | some _ => s.reply r Code.ok 0 []
  | none => (s.closeSession r.slot).answer r f

def byeOp (core : Nat) (s : State) : State := takeRequest (coreOf core) 2 byeServed s

def execBurtisBye (dt core : Nat) (s : State) : Result := .next (byeOp core (s.pass dt))

/-! ### READ and WRITE (R372, R373) -/

def readServed (core : Fin 4) (r : Request) (s : State) : State :=
  let v := s.objRead core (frameIndex r.frame) (frameSub r.frame)
  v.2.2.reply r v.1 0 v.2.1

def readOp (core : Nat) (s : State) : State := takeRequest (coreOf core) 3 (readServed (coreOf core)) s

def execBurtisRead (dt core : Nat) (s : State) : Result := .next (readOp core (s.pass dt))

def writeServed (core : Fin 4) (r : Request) (s : State) : State :=
  let w := s.objWrite featGoOp core (frameIndex r.frame) (frameSub r.frame) (framePayload r.frame)
  w.2.reply r w.1 0 []

def writeOp (core : Nat) (s : State) : State := takeRequest (coreOf core) 4 (writeServed (coreOf core)) s

def execBurtisWrite (dt core : Nat) (s : State) : Result := .next (writeOp core (s.pass dt))

/-! ### Blocks (R384) -/

/-- The entries of a READ_BLOCK from a subindex on that fit in the room left: their bytes, their number, and the state. -/
def readEntries (core : Fin 4) (index : Nat) : Nat → Nat → Nat → State → List Byte × Nat × State
  | 0, _, _, s => ([], 0, s)
  | n + 1, sub, room, s =>
    let v := s.objRead core index sub
    let e := leBytes 1 v.1 ++ leBytes 2 v.2.1.length ++ v.2.1
    if room < e.length then ([], 0, s)
    else
      let rest := readEntries core index n (sub + 1) (room - e.length) v.2.2
      (e ++ rest.1, rest.2.1 + 1, rest.2.2)

/-- N is 1-128 and the range does not extend past subindex 0xFF. -/
def blockFits (f : List Byte) (n : Nat) : Bool := decide (1 ≤ n) && decide (n ≤ 128) && decide (frameSub f + n ≤ 256)

def readBlockServed (core : Fin 4) (r : Request) (s : State) : State :=
  match framePayload r.frame with
  | [b] =>
    if !blockFits r.frame b.toNat then s.reply r Code.range 0 []
    else
      let v := readEntries core (frameIndex r.frame) b.toNat (frameSub r.frame) 1400 s
      v.2.2.reply r Code.ok v.2.1 v.1
  | _ => s.reply r Code.type 0 []

def readBlockOp (core : Nat) (s : State) : State := takeRequest (coreOf core) 5 (readBlockServed (coreOf core)) s

def execBurtisReadBlock (dt core : Nat) (s : State) : Result := .next (readBlockOp core (s.pass dt))

/-- The values of the N entries of a WRITE_BLOCK, none where they do not add up to the payload. -/
def splitEntries : Nat → List Byte → Option (List (List Byte))
  | 0, [] => some []
  | n + 1, a :: b :: rest =>
    let len := a.toNat + 256 * b.toNat
    if rest.length < len then none else (splitEntries n (rest.drop len)).map (rest.take len :: ·)
  | _, _ => none

/-- The entries are applied in order: their statuses, and the state. -/
def writeEntries (core : Fin 4) (index : Nat) : List (List Byte) → Nat → State → List Nat × State
  | [], _, s => ([], s)
  | v :: vs, sub, s =>
    let w := s.objWrite featGoOp core index sub v
    let rest := writeEntries core index vs (sub + 1) w.2
    (w.1 :: rest.1, rest.2)

def writeBlockServed (core : Fin 4) (r : Request) (s : State) : State :=
  match framePayload r.frame with
  | b :: rest =>
    match splitEntries b.toNat rest with
    | none => s.reply r Code.type 0 []
    | some vs =>
      if !blockFits r.frame b.toNat then s.reply r Code.range 0 []
      else
        let w := writeEntries core (frameIndex r.frame) vs (frameSub r.frame) s
        w.2.reply r ((w.1.find? (fun c => c != Code.ok)).getD Code.ok) 0 (w.1.map (BitVec.ofNat 8))
  | [] => s.reply r Code.type 0 []

def writeBlockOp (core : Nat) (s : State) : State := takeRequest (coreOf core) 6 (writeBlockServed (coreOf core)) s

def execBurtisWriteBlock (dt core : Nat) (s : State) : Result := .next (writeBlockOp core (s.pass dt))

/-! ### Subscriptions (R385) -/

/-- The subscription of another object than index:sub. -/
def otherSub (index sub : Nat) (x : Subscription) : Bool := !(x.index == index && x.sub == sub)

/-- The subscriptions of every session. -/
def State.allSubs (s : State) : Nat := s.od.sess.foldl (fun n (e : Nat × Session) => n + e.2.subs.length) 0

/-- What a SUBSCRIBE is refused with: the limits, a WO object, a payload that is not PERIOD and MODE, and their ranges. -/
def State.subscribeCode (s : State) (slot index sub : Nat) (payload : List Byte) : Option Nat :=
  let period := leNat (payload.take 2)
  let mode := leNat (payload.drop 2)
  let mine := (s.session slot).subs
  let kept := mine.filter (otherSub index sub)
  let full := decide (64 ≤ kept.length) || decide (1024 ≤ s.allSubs - (mine.length - kept.length))
  let ref := match s.findRef index sub with
    | .error c => [(true, c)]
    | .ok (.object o _) => [(decide (o.acc = .wo), Code.access)]
    | .ok (.count _) => []
  lowestCode ([(full && mode != 0, Code.busy), (payload.length != 3, Code.type),
    (decide (2 < mode) || (mode != 0 && decide (period < 10)), Code.range)] ++ ref)

def subscribeServed (r : Request) (s : State) : State :=
  let index := frameIndex r.frame
  let sub := frameSub r.frame
  let p := framePayload r.frame
  match s.subscribeCode r.slot index sub p with
  | some c => s.reply r c 0 []
  | none =>
    let x := s.session r.slot
    let kept := x.subs.filter (otherSub index sub)
    let period := leNat (p.take 2)
    let mode := leNat (p.drop 2)
    let new : Subscription := { index, sub, seq := frameSeq r.frame, period, mode, nextAt := s.now + 1_000_000 * period }
    (s.setSession r.slot { x with subs := if mode = 0 then kept else kept ++ [new] }).reply r Code.ok 0 []

def subscribeOp (core : Nat) (s : State) : State := takeRequest (coreOf core) 7 subscribeServed s

def execBurtisSubscribe (dt core : Nat) (s : State) : Result := .next (subscribeOp core (s.pass dt))

/-- The header of the request that a notification answers. -/
def subscribedFrame (session : Nat) (x : Subscription) : List Byte :=
  leBytes 1 1 ++ leBytes 1 7 ++ leBytes 2 session ++ leBytes 4 x.seq ++ leBytes 2 x.index ++ leBytes 1 x.sub ++ leBytes 5 0

/-- A due subscription `x` of session `slot`: the object is read, and the notification sent, with MODE 2 only when the value
differs from the last one sent. -/
def State.notify (s : State) (slot : Nat) (x : Subscription) : State :=
  let v := s.objRead 0 x.index x.sub
  let s := v.2.2
  let value := (v.1, v.2.1)
  let send := x.mode == 1 || x.last != some value
  let y := { x with nextAt := x.nextAt + 1_000_000 * x.period, count := if send then x.count + 1 else x.count,
                    last := if send then some value else x.last }
  let ses := s.session slot
  let s := s.setSession slot { ses with subs := ses.subs.map (fun z => if otherSub x.index x.sub z then z else y) }
  if !send then s
  else
    (s.countServed 0x1031 4 false).emit
      (.burtis ses.netB ses.addr ses.port (answerFrame (subscribedFrame (s.sessionNumber slot) x) (s.sessionNumber slot) v.1 (y.count % 65536) v.2.1))

/-- SUBSCRIPTION_NOTIFY: the period of the subscription has passed. -/
def notifyOp (slot index sub : Nat) (s : State) : State :=
  let x := s.session slot
  match x.subs.find? (fun z => !otherSub index sub z) with
  | some z => if x.isOpen && s.gafferServes && decide (z.nextAt ≤ s.now) then s.notify slot z else s
  | none => s

def execSubscriptionNotify (dt slot : Nat) (index : BitVec 16) (sub : BitVec 8) (s : State) : Result :=
  .next (notifyOp slot index.toNat sub.toNat (s.pass dt))

/-! ### STATUS (R386) -/

/-- A busy fraction as a percentage: the whole percents, and a free bit on top where the fraction is no whole number of them
(notes/assumptions/81.md). -/
def State.percent (s : State) (v : Nat) : Nat × State :=
  let r := real32 v
  let n := r.1.toNat * 100
  let d := 2 ^ r.2.natAbs
  if 0 ≤ r.2 then (min 255 (n * d), s)
  else if n % d = 0 then (min 255 (n / d), s)
  else let f := s.free 1; (min 255 (n / d + f.1), f.2)

/-- The lease that is left in whole ms; a mailbox session has none, and the field is a free value. -/
def State.leaseLeft (s : State) (slot : Nat) : Nat × State :=
  if slot ≤ 32 then (((s.session slot).leaseEnd - s.now) / 1_000_000, s) else s.free 32

/-- The number of `CLAP_STATUS.STATE`. -/
def State.clapNumber (s : State) : Nat := bits (s.view .CLAP_STATUS 0) 1 0

def statusServed (r : Request) (s : State) : State :=
  let lease := s.leaseLeft r.slot
  let a := lease.2.percent (s.servedAt 0x1F80 1 0)
  let b := a.2.percent (s.servedAt 0x1F80 2 0)
  let held := (s.od.queue.filter (fun (q : Request) => q.slot == r.slot)).length
  b.2.reply r Code.ok 0 (leBytes 4 lease.1 ++ leBytes 4 0 ++ leBytes 2 (s.servedAt 0x1F80 3 0) ++ leBytes 2 held ++
    leBytes 1 a.1 ++ leBytes 1 b.1 ++ leBytes 1 (b2n s.active) ++ leBytes 1 s.clapNumber ++
    leBytes 2 (s.session r.slot).subs.length ++ leBytes 2 0)

def statusOp (core : Nat) (s : State) : State := takeRequest (coreOf core) 8 statusServed s

def execBurtisStatus (dt core : Nat) (s : State) : Result := .next (statusOp core (s.pass dt))

/-! ### The published load (R380) -/

/-- GAFFER_LOAD_UPDATE. -/
def loadUpdateOp (g : GafferLoad) (s : State) : State :=
  if !s.gafferServes then s
  else
    let s := ((s.setServed 0x1F80 1 g.core0.toNat).setServed 0x1F80 2 g.core1.toNat).setServed 0x1F80 3 s.od.queue.length
    let s := (s.setServed 0x1F80 4 s.peakDepth).setServed 0x1F80 5 s.busyAnswers
    let s := ((s.setServed 0x1F80 6 g.tsvc.toNat).setServed 0x1F80 7 g.ptp.toNat).setServed 0x1F80 8 g.cal.toNat
    (s.setServed 0x1F80 9 g.od.toNat).setFld .OD_QUEUE 0 31 16 g.tsvcUs.toNat

def execGafferLoadUpdate (dt : Nat) (g : GafferLoad) (s : State) : Result := .next (loadUpdateOp g (s.pass dt))

end Sys2Proof.Machine
end

