-- ==== Sys2Proof/Machine/Dispatch.lean ====
section
/-!
DEFINITION. One arm for each command: the call of its meaning.
-/

namespace Sys2Proof.Machine

/-- What a command does to everything but the queue. -/
def exec (i : Instr) (s : State) : Host.Outcome State Fault Refusal :=
  match i with
  | .registerWrite who op => Sys2Proof.Machine.execRegisterWrite who op s
  | .bar0BadAccess who addr bytes write => Sys2Proof.Machine.execBar0BadAccess who addr bytes write s
  | .dozeAccess who op => Sys2Proof.Machine.execDozeAccess who op s
  | .fabricTimingFault dt found => Sys2Proof.Machine.execFabricTimingFault dt found s
  | .crossingLock dt x => Sys2Proof.Machine.execCrossingLock dt x s
  | .xlockFaultClear who => Sys2Proof.Machine.execXlockFaultClear who s
  | .clkRefSelWrite who v => Sys2Proof.Machine.execClkRefSelWrite who v s
  | .pllLock dt pll refInRange => Sys2Proof.Machine.execPllLock dt pll refInRange s
  | .referenceLost dt => Sys2Proof.Machine.execReferenceLost dt s
  | .tilePllUnlock dt t => Sys2Proof.Machine.execTilePllUnlock dt t s
  | .clapArm who => Sys2Proof.Machine.execClapArm who s
  | .clapDisarm who => Sys2Proof.Machine.execClapDisarm who s
  | .loopMeas who => Sys2Proof.Machine.execLoopMeas who s
  | .loopMeasDone dt roundTrip spread => Sys2Proof.Machine.execLoopMeasDone dt roundTrip spread s
  | .clapperEdge dt pos => Sys2Proof.Machine.execClapperEdge dt pos s
  | .epochPulseEmit dt => Sys2Proof.Machine.execEpochPulseEmit dt s
  | .checkPulseEmit dt => Sys2Proof.Machine.execCheckPulseEmit dt s
  | .epochStart dt => Sys2Proof.Machine.execEpochStart dt s
  | .clapperCheck dt obs => Sys2Proof.Machine.execClapperCheck dt obs s
  | .clapTapWrite who tap v => Sys2Proof.Machine.execClapTapWrite who tap v s
  | .tapSlewStep dt tap => Sys2Proof.Machine.execTapSlewStep dt tap s
  | .segEntryStage who n e w v => Sys2Proof.Machine.execSegEntryStage who n e w v s
  | .segEntryCommit who n e v => Sys2Proof.Machine.execSegEntryCommit who n e v s
  | .spliceDecisionPoint dt g u => Sys2Proof.Machine.execSpliceDecisionPoint dt g u s
  | .splice dt g u => Sys2Proof.Machine.execSplice dt g u s
  | .streamPortWrite dt n st words => Sys2Proof.Machine.execStreamPortWrite dt n st words s
  | .streamHeldWriteAppend dt n st => Sys2Proof.Machine.execStreamHeldWriteAppend dt n st s
  | .underrun dt g u => Sys2Proof.Machine.execUnderrun dt g u s
  | .strmCfgWrite who n st v => Sys2Proof.Machine.execStrmCfgWrite who n st v s
  | .shadowWrite who g r v => Sys2Proof.Machine.execShadowWrite who g r v s
  | .voiceCommit who g u => Sys2Proof.Machine.execVoiceCommit who g u s
  | .clCommit who g mask => Sys2Proof.Machine.execClCommit who g mask s
  | .handOver dt g set => Sys2Proof.Machine.execHandOver dt g set s
  | .markerEdge dt g route => Sys2Proof.Machine.execMarkerEdge dt g route s
  | .scrStart who g mask => Sys2Proof.Machine.execScrStart who g mask s
  | .scrStop who g mask => Sys2Proof.Machine.execScrStop who g mask s
  | .scrStopFlush who g mask => Sys2Proof.Machine.execScrStopFlush who g mask s
  | .nop dt g e => Sys2Proof.Machine.execNop dt g e s
  | .halt dt g e => Sys2Proof.Machine.execHalt dt g e s
  | .play dt g e => Sys2Proof.Machine.execPlay dt g e s
  | .playd dt g e => Sys2Proof.Machine.execPlayd dt g e s
  | .wait dt g e => Sys2Proof.Machine.execWait dt g e s
  | .waitu dt g e => Sys2Proof.Machine.execWaitu dt g e s
  | .clap dt g e => Sys2Proof.Machine.execClap dt g e s
  | .setf dt g e => Sys2Proof.Machine.execSetf dt g e s
  | .setp dt g e => Sys2Proof.Machine.execSetp dt g e s
  | .rotp dt g e => Sys2Proof.Machine.execRotp dt g e s
  | .seta dt g e => Sys2Proof.Machine.execSeta dt g e s
  | .commit dt g e => Sys2Proof.Machine.execCommit dt g e s
  | .acq dt g e => Sys2Proof.Machine.execAcq dt g e s
  | .mark dt g e => Sys2Proof.Machine.execMark dt g e s
  | .br dt g e => Sys2Proof.Machine.execBr dt g e s
  | .brd dt g e => Sys2Proof.Machine.execBrd dt g e s
  | .bre dt g e => Sys2Proof.Machine.execBre dt g e s
  | .branchDecisionPoint dt g e => Sys2Proof.Machine.execBranchDecisionPoint dt g e s
  | .queuedPlayPlace dt g e => Sys2Proof.Machine.execQueuedPlayPlace dt g e s
  | .brc dt g e => Sys2Proof.Machine.execBrc dt g e s
  | .loop dt g e => Sys2Proof.Machine.execLoop dt g e s
  | .endl dt g e => Sys2Proof.Machine.execEndl dt g e s
  | .call dt g e => Sys2Proof.Machine.execCall dt g e s
  | .ret dt g e => Sys2Proof.Machine.execRet dt g e s
  | .swp dt g e => Sys2Proof.Machine.execSwp dt g e s
  | .ldi dt g e => Sys2Proof.Machine.execLdi dt g e s
  | .add dt g e => Sys2Proof.Machine.execAdd dt g e s
  | .sub dt g e => Sys2Proof.Machine.execSub dt g e s
  | .cmp dt g e => Sys2Proof.Machine.execCmp dt g e s
  | .playEntryMature dt g u => Sys2Proof.Machine.execPlayEntryMature dt g u s
  | .shadowWriteEntryMature dt g u => Sys2Proof.Machine.execShadowWriteEntryMature dt g u s
  | .commitEntryMature dt g u => Sys2Proof.Machine.execCommitEntryMature dt g u s
  | .acqEntryMature dt g e => Sys2Proof.Machine.execAcqEntryMature dt g e s
  | .markEntryMature dt g e => Sys2Proof.Machine.execMarkEntryMature dt g e s
  | .spliceRequestMature dt g u => Sys2Proof.Machine.execSpliceRequestMature dt g u s
  | .swgRestart who g k => Sys2Proof.Machine.execSwgRestart who g k s
  | .swgConfigWrite who g k r v => Sys2Proof.Machine.execSwgConfigWrite who g k r v s
  | .toneCommit who g mask => Sys2Proof.Machine.execToneCommit who g mask s
  | .toneResult dt g t zs ovr => Sys2Proof.Machine.execToneResult dt g t zs ovr s
  | .rfiModeWrite who g v => Sys2Proof.Machine.execRfiModeWrite who g v s
  | .comparatorEntry dt c last zs => Sys2Proof.Machine.execComparatorEntry dt c last zs s
  | .trackerRecord dt g k last zs ovr => Sys2Proof.Machine.execTrackerRecord dt g k last zs ovr s
  | .dailiesPad dt n => Sys2Proof.Machine.execDailiesPad dt n s
  | .krnStart who g ie0 => Sys2Proof.Machine.execKrnStart who g ie0 s
  | .krnStop who g ie0 => Sys2Proof.Machine.execKrnStop who g ie0 s
  | .krnAttnSet who g => Sys2Proof.Machine.execKrnAttnSet who g s
  | .attentionDivert dt g => Sys2Proof.Machine.execAttentionDivert dt g s
  | .krnInWord dt g idx w => Sys2Proof.Machine.execKrnInWord dt g idx w s
  | .krnInCfgWrite who g idx v => Sys2Proof.Machine.execKrnInCfgWrite who g idx v s
  | .krnDeadlineMiss dt g t => Sys2Proof.Machine.execKrnDeadlineMiss dt g t s
  | .hardwareLoopEnd dt g => Sys2Proof.Machine.execHardwareLoopEnd dt g s
  | .krnNop dt g => Sys2Proof.Machine.execKrnNop dt g s
  | .cmac dt g => Sys2Proof.Machine.execCmac dt g s
  | .cmsu dt g => Sys2Proof.Machine.execCmsu dt g s
  | .cmul dt g => Sys2Proof.Machine.execCmul dt g s
  | .mag2 dt g => Sys2Proof.Machine.execMag2 dt g s
  | .ald dt g => Sys2Proof.Machine.execAld dt g s
  | .aldw dt g => Sys2Proof.Machine.execAldw dt g s
  | .krnShlAcc dt g => Sys2Proof.Machine.execKrnShlAcc dt g s
  | .krnShrAcc dt g => Sys2Proof.Machine.execKrnShrAcc dt g s
  | .trn dt g => Sys2Proof.Machine.execTrn dt g s
  | .norm dt g => Sys2Proof.Machine.execNorm dt g s
  | .expb dt g => Sys2Proof.Machine.execExpb dt g s
  | .cconj dt g => Sys2Proof.Machine.execCconj dt g s
  | .krnShlCplx dt g => Sys2Proof.Machine.execKrnShlCplx dt g s
  | .krnShrCplx dt g => Sys2Proof.Machine.execKrnShrCplx dt g s
  | .cthr dt g => Sys2Proof.Machine.execCthr dt g s
  | .mov dt g => Sys2Proof.Machine.execMov dt g s
  | .ld dt g => Sys2Proof.Machine.execLd dt g s
  | .st dt g => Sys2Proof.Machine.execSt dt g s
  | .sta dt g => Sys2Proof.Machine.execSta dt g s
  | .ldx dt g => Sys2Proof.Machine.execLdx dt g s
  | .stx dt g => Sys2Proof.Machine.execStx dt g s
  | .rds dt g => Sys2Proof.Machine.execRds dt g s
  | .wrs dt g => Sys2Proof.Machine.execWrs dt g s
  | .ldp dt g => Sys2Proof.Machine.execLdp dt g s
  | .ldm dt g => Sys2Proof.Machine.execLdm dt g s
  | .ldl dt g => Sys2Proof.Machine.execLdl dt g s
  | .ldb dt g => Sys2Proof.Machine.execLdb dt g s
  | .modp dt g => Sys2Proof.Machine.execModp dt g s
  | .krnHalt dt g => Sys2Proof.Machine.execKrnHalt dt g s
  | .krnBr dt g => Sys2Proof.Machine.execKrnBr dt g s
  | .krnBrc dt g => Sys2Proof.Machine.execKrnBrc dt g s
  | .krnLoop dt g => Sys2Proof.Machine.execKrnLoop dt g s
  | .loopr dt g => Sys2Proof.Machine.execLoopr dt g s
  | .rti dt g => Sys2Proof.Machine.execRti dt g s
  | .dec dt g => Sys2Proof.Machine.execDec dt g s
  | .ei dt g => Sys2Proof.Machine.execEi dt g s
  | .di dt g => Sys2Proof.Machine.execDi dt g s
  | .clrgx dt g => Sys2Proof.Machine.execClrgx dt g s
  | .fabricDelivery dt g slot => Sys2Proof.Machine.execFabricDelivery dt g slot s
  | .hubSlotRead dt slot => Sys2Proof.Machine.execHubSlotRead dt slot s
  | .hubBroadcastSend dt slot => Sys2Proof.Machine.execHubBroadcastSend dt slot s
  | .fabDfltWrite who j v => Sys2Proof.Machine.execFabDfltWrite who j v s
  | .fabViewSel who g v => Sys2Proof.Machine.execFabViewSel who g v s
  | .tkArm who n => Sys2Proof.Machine.execTkArm who n s
  | .tkDisarm who n => Sys2Proof.Machine.execTkDisarm who n s
  | .tkForce who n => Sys2Proof.Machine.execTkForce who n s
  | .regionTrigger dt n r => Sys2Proof.Machine.execRegionTrigger dt n r s
  | .captureEnd dt n => Sys2Proof.Machine.execCaptureEnd dt n s
  | .slateWrite dt n samples port => Sys2Proof.Machine.execSlateWrite dt n samples port s
  | .takeOverflow dt n fl => Sys2Proof.Machine.execTakeOverflow dt n fl s
  | .maskViolation dt n idx pos v => Sys2Proof.Machine.execMaskViolation dt n idx pos v s
  | .tkRdWrite who n v => Sys2Proof.Machine.execTkRdWrite who n v s
  | .systemTimestampArrival dt t => Sys2Proof.Machine.execSystemTimestampArrival dt t s
  | .systemTrigger dt u => Sys2Proof.Machine.execSystemTrigger dt u s
  | .systemTriggerAssert dt => Sys2Proof.Machine.execSystemTriggerAssert dt s
  | .systemSlateWrite dt => Sys2Proof.Machine.execSystemSlateWrite dt s
  | .stkArm who => Sys2Proof.Machine.execStkArm who s
  | .stkDisarm who => Sys2Proof.Machine.execStkDisarm who s
  | .stkRdWrite who v => Sys2Proof.Machine.execStkRdWrite who v s
  | .calRun v => Sys2Proof.Machine.execCalRun v s
  | .calRunEnd dt status writes a b c => Sys2Proof.Machine.execCalRunEnd dt status writes a b c s
  | .adcStatBlockEnd dt g xs => Sys2Proof.Machine.execAdcStatBlockEnd dt g xs s
  | .interleaveUpdate dt g => Sys2Proof.Machine.execInterleaveUpdate dt g s
  | .monitorBlockEnd dt g m => Sys2Proof.Machine.execMonitorBlockEnd dt g m s
  | .discriminatorFit dt t f => Sys2Proof.Machine.execDiscriminatorFit dt t f s
  | .calHistPop who g => Sys2Proof.Machine.execCalHistPop who g s
  | .calFreezeWrite who r v => Sys2Proof.Machine.execCalFreezeWrite who r v s
  | .biasSupplyRise dt die extrefOk => Sys2Proof.Machine.execBiasSupplyRise dt die extrefOk s
  | .biasSupplyFault dt die => Sys2Proof.Machine.execBiasSupplyFault dt die s
  | .isolatorLinkDown dt die => Sys2Proof.Machine.execIsolatorLinkDown dt die s
  | .biasConnWrite who k v => Sys2Proof.Machine.execBiasConnWrite who k v s
  | .biasConnComplete dt k => Sys2Proof.Machine.execBiasConnComplete dt k s
  | .biasGoStage who die idx mask => Sys2Proof.Machine.execBiasGoStage who die idx mask s
  | .biasDieGo who die => Sys2Proof.Machine.execBiasDieGo who die s
  | .biasStopAll who die => Sys2Proof.Machine.execBiasStopAll who die s
  | .biasStop who die idx mask => Sys2Proof.Machine.execBiasStop who die idx mask s
  | .rampStep dt k => Sys2Proof.Machine.execRampStep dt k s
  | .icResult dt c raw extrefOk => Sys2Proof.Machine.execIcResult dt c raw extrefOk s
  | .icDataClaim who c => Sys2Proof.Machine.execIcDataClaim who c s
  | .icConfigWrite who c r v => Sys2Proof.Machine.execIcConfigWrite who c r v s
  | .eventCombine dt ch => Sys2Proof.Machine.execEventCombine dt ch s
  | .eventDelivery dt input => Sys2Proof.Machine.execEventDelivery dt input s
  | .ptStart who p => Sys2Proof.Machine.execPtStart who p s
  | .ptStop who p => Sys2Proof.Machine.execPtStop who p s
  | .pacingTimerEmit dt p => Sys2Proof.Machine.execPacingTimerEmit dt p s
  | .evInject who j bits => Sys2Proof.Machine.execEvInject who j bits s
  | .levInject who n bits => Sys2Proof.Machine.execLevInject who n bits s
  | .tioInputEdge dt l slot high => Sys2Proof.Machine.execTioInputEdge dt l slot high s
  | .tioPulseEnd dt l => Sys2Proof.Machine.execTioPulseEnd dt l s
  | .irqEdge dt src => Sys2Proof.Machine.execIrqEdge dt src s
  | .irqLevelChange dt src level => Sys2Proof.Machine.execIrqLevelChange dt src level s
  | .irqClaim who t => Sys2Proof.Machine.execIrqClaim who t s
  | .irqFclaim who t => Sys2Proof.Machine.execIrqFclaim who t s
  | .irqComplete who t v => Sys2Proof.Machine.execIrqComplete who t v s
  | .icPendSet who j bits => Sys2Proof.Machine.execIcPendSet who j bits s
  | .icPendClr who j bits => Sys2Proof.Machine.execIcPendClr who j bits s
  | .icEnSet who j bits => Sys2Proof.Machine.execIcEnSet who j bits s
  | .icEnClr who j bits => Sys2Proof.Machine.execIcEnClr who j bits s
  | .icSrcCfgWrite who src v => Sys2Proof.Machine.execIcSrcCfgWrite who src v s
  | .fastInterruptEntry dt core returned => Sys2Proof.Machine.execFastInterruptEntry dt core returned s
  | .msixMessageSend dt vector => Sys2Proof.Machine.execMsixMessageSend dt vector s
  | .moderationExpire dt vector => Sys2Proof.Machine.execModerationExpire dt vector s
  | .icTgtIdleWrite who t v => Sys2Proof.Machine.execIcTgtIdleWrite who t v s
  | .msixUnmask vector => Sys2Proof.Machine.execMsixUnmask vector s
  | .msixEnable enable funcMask => Sys2Proof.Machine.execMsixEnable enable funcMask s
  | .gripGo who ch => Sys2Proof.Machine.execGripGo who ch s
  | .gripStop who ch => Sys2Proof.Machine.execGripStop who ch s
  | .gripClr who ch => Sys2Proof.Machine.execGripClr who ch s
  | .descriptorFetch dt ch a => Sys2Proof.Machine.execDescriptorFetch dt ch a s
  | .gripOperationComplete dt ch idx a => Sys2Proof.Machine.execGripOperationComplete dt ch idx a s
  | .gripTimeout dt ch p => Sys2Proof.Machine.execGripTimeout dt ch p s
  | .dailiesBlockWrite dt n => Sys2Proof.Machine.execDailiesBlockWrite dt n s
  | .gripDlyRdWrite who n v => Sys2Proof.Machine.execGripDlyRdWrite who n v s
  | .ddr5TrainingDone dt speed chs => Sys2Proof.Machine.execDdr5TrainingDone dt speed chs s
  | .scrubRead dt m addr r => Sys2Proof.Machine.execScrubRead dt m addr r s
  | .memOfflineWrite who v => Sys2Proof.Machine.execMemOfflineWrite who v s
  | .mtStart who m => Sys2Proof.Machine.execMtStart who m s
  | .mtAbort who m p => Sys2Proof.Machine.execMtAbort who m p s
  | .marchRunEnd dt m p => Sys2Proof.Machine.execMarchRunEnd dt m p s
  | .linkEnable who l v => Sys2Proof.Machine.execLinkEnable who l v s
  | .linkDisable who l v => Sys2Proof.Machine.execLinkDisable who l v s
  | .laneLoss dt l => Sys2Proof.Machine.execLaneLoss dt l s
  | .superframeSend dt l => Sys2Proof.Machine.execSuperframeSend dt l s
  | .superframeReceive dt l frame => Sys2Proof.Machine.execSuperframeReceive dt l frame s
  | .helloSend dt l => Sys2Proof.Machine.execHelloSend dt l s
  | .helloReceive dt l h => Sys2Proof.Machine.execHelloReceive dt l h s
  | .helloTimeout dt l => Sys2Proof.Machine.execHelloTimeout dt l s
  | .byeReceive dt l => Sys2Proof.Machine.execByeReceive dt l s
  | .pingSend dt l => Sys2Proof.Machine.execPingSend dt l s
  | .pongReceive dt l rt => Sys2Proof.Machine.execPongReceive dt l rt s
  | .mapReceive dt l hops => Sys2Proof.Machine.execMapReceive dt l hops s
  | .bulkRetransmit dt l => Sys2Proof.Machine.execBulkRetransmit dt l s
  | .linkMsgSend who l len => Sys2Proof.Machine.execLinkMsgSend who l len s
  | .linkRxfullClear who l => Sys2Proof.Machine.execLinkRxfullClear who l s
  | .perstAssert dt => Sys2Proof.Machine.execPerstAssert dt s
  | .perstDeassert dt speed width => Sys2Proof.Machine.execPerstDeassert dt speed width s
  | .flr dt => Sys2Proof.Machine.execFlr dt s
  | .d3hotEntry dt => Sys2Proof.Machine.execD3hotEntry dt s
  | .d0Return dt => Sys2Proof.Machine.execD0Return dt s
  | .l1Entry dt => Sys2Proof.Machine.execL1Entry dt s
  | .ltrSend dt => Sys2Proof.Machine.execLtrSend dt s
  | .featGo who => Sys2Proof.Machine.execFeatGo who s
  | .hifBar2BaseWrite who v => Sys2Proof.Machine.execHifBar2BaseWrite who v s
  | .bar2Access op => Sys2Proof.Machine.execBar2Access op s
  | .cutCmd who scope => Sys2Proof.Machine.execCutCmd who scope s
  | .cutComplete dt => Sys2Proof.Machine.execCutComplete dt s
  | .requestEnqueue dt d => Sys2Proof.Machine.execRequestEnqueue dt d s
  | .burtisBadFrame dt d => Sys2Proof.Machine.execBurtisBadFrame dt d s
  | .burtisHello dt core => Sys2Proof.Machine.execBurtisHello dt core s
  | .burtisBye dt core => Sys2Proof.Machine.execBurtisBye dt core s
  | .burtisRead dt core => Sys2Proof.Machine.execBurtisRead dt core s
  | .burtisWrite dt core => Sys2Proof.Machine.execBurtisWrite dt core s
  | .burtisReadBlock dt core => Sys2Proof.Machine.execBurtisReadBlock dt core s
  | .burtisWriteBlock dt core => Sys2Proof.Machine.execBurtisWriteBlock dt core s
  | .burtisSubscribe dt core => Sys2Proof.Machine.execBurtisSubscribe dt core s
  | .burtisStatus dt core => Sys2Proof.Machine.execBurtisStatus dt core s
  | .subscriptionNotify dt slot index sub => Sys2Proof.Machine.execSubscriptionNotify dt slot index sub s
  | .sessionLeaseExpire dt slot => Sys2Proof.Machine.execSessionLeaseExpire dt slot s
  | .mbSubmit who k => Sys2Proof.Machine.execMbSubmit who k s
  | .mbRelease who k => Sys2Proof.Machine.execMbRelease who k s
  | .odSave v => Sys2Proof.Machine.execOdSave v s
  | .odRestore v => Sys2Proof.Machine.execOdRestore v s
  | .saveImageComplete dt ok => Sys2Proof.Machine.execSaveImageComplete dt ok s
  | .wtIncWrite who v => Sys2Proof.Machine.execWtIncWrite who v s
  | .wtStep who => Sys2Proof.Machine.execWtStep who s
  | .wtNewEpoch who => Sys2Proof.Machine.execWtNewEpoch who s
  | .wtNowSnapshot who => Sys2Proof.Machine.execWtNowSnapshot who s
  | .wtSrcWrite who v => Sys2Proof.Machine.execWtSrcWrite who v s
  | .ptpMessageReceive dt m quarter => Sys2Proof.Machine.execPtpMessageReceive dt m quarter s
  | .delayReqSend dt d quarter => Sys2Proof.Machine.execDelayReqSend dt d quarter s
  | .servoUpdate dt d => Sys2Proof.Machine.execServoUpdate dt d s
  | .announceTimeout dt d => Sys2Proof.Machine.execAnnounceTimeout dt d s
  | .ppsOutRise dt => Sys2Proof.Machine.execPpsOutRise dt s
  | .ppsOutFall dt => Sys2Proof.Machine.execPpsOutFall dt s
  | .ppsInCapture dt quarter => Sys2Proof.Machine.execPpsInCapture dt quarter s
  | .ppsInClaim who => Sys2Proof.Machine.execPpsInClaim who s
  | .powerUp dt => Sys2Proof.Machine.execPowerUp dt s
  | .logicSupplyFault dt rail => Sys2Proof.Machine.execLogicSupplyFault dt rail s
  | .supplyRecovery dt rail => Sys2Proof.Machine.execSupplyRecovery dt rail s
  | .pwrTolWrite who n v => Sys2Proof.Machine.execPwrTolWrite who n v s
  | .powerStateEntry dt n => Sys2Proof.Machine.execPowerStateEntry dt n s
  | .powerStateExit dt n => Sys2Proof.Machine.execPowerStateExit dt n s
  | .powerStateExitComplete dt n => Sys2Proof.Machine.execPowerStateExitComplete dt n s
  | .p4ImageTimeout dt n => Sys2Proof.Machine.execP4ImageTimeout dt n s
  | .pwrWake who mask => Sys2Proof.Machine.execPwrWake who mask s
  | .regionReset who mask => Sys2Proof.Machine.execRegionReset who mask s
  | .clusterReset who mask => Sys2Proof.Machine.execClusterReset who mask s
  | .thermalSample dt temps => Sys2Proof.Machine.execThermalSample dt temps s
  | .wearLogImage dt => Sys2Proof.Machine.execWearLogImage dt s
  | .watchdogExpire dt k => Sys2Proof.Machine.execWatchdogExpire dt k s
  | .gafWdKick who k => Sys2Proof.Machine.execGafWdKick who k s
  | .gafRestart who => Sys2Proof.Machine.execGafRestart who s
  | .statusWord dt smb => Sys2Proof.Machine.execStatusWord dt smb s
  | .readTemperature1 dt smb => Sys2Proof.Machine.execReadTemperature1 dt smb s
  | .readTemperature2 dt smb => Sys2Proof.Machine.execReadTemperature2 dt smb s
  | .readPin dt smb watts => Sys2Proof.Machine.execReadPin dt smb watts s
  | .pmbusRevision dt smb => Sys2Proof.Machine.execPmbusRevision dt smb s
  | .pmbusUnsupported dt smb code write => Sys2Proof.Machine.execPmbusUnsupported dt smb code write s
  | .bypass dt => Sys2Proof.Machine.execBypass dt s
  | .idcode dt => Sys2Proof.Machine.execIdcode dt s
  | .sample dt lands => Sys2Proof.Machine.execSample dt lands s
  | .comparatorActClear dt c last zs => Sys2Proof.Machine.execComparatorActClear dt c last zs s
  | .laneBlockLock dt l => Sys2Proof.Machine.execLaneBlockLock dt l s
  | .isolatorLinkUp dt die => Sys2Proof.Machine.execIsolatorLinkUp dt die s
  | .powerStateEntryComplete dt n => Sys2Proof.Machine.execPowerStateEntryComplete dt n s
  | .resetComplete dt scope => Sys2Proof.Machine.execResetComplete dt scope s
  | .gafferLoadUpdate dt g => Sys2Proof.Machine.execGafferLoadUpdate dt g s

end Sys2Proof.Machine
end

