-- ==== Sys2Proof/Safety.lean ====
section
/-!
DEFINITION. The terms the statements are made of: a command that completes, an access that passes its gate, what a command leaves
as it was, and the invariant that every step keeps.
-/

namespace Sys2Proof.Machine

/-- Command `c` completes from `s`: it answers a next state, and `P` holds of it. -/
def Completes (c : Instr) (s : State) (P : State → Prop) : Prop := ∃ t, exec c s = .next t ∧ P t

/-- `who` can make an access and BAR0 address `a` is open to it (R3, R30, R31, R354, R358, R359). -/
abbrev State.Open (s : State) (who : Requester) (a : Nat) : Prop := s.canAccess who = true ∧ s.gate who a = .open

/-- The same for register `r`, instance `i`. -/
abbrev State.OpenReg (s : State) (who : Requester) (r : Reg) (i : Nat) : Prop := s.Open who (regAddr r i)

/-- Every register outside `rs` reads in `t` what it read in `s`. -/
def SameRegs (rs : List Reg) (s t : State) : Prop := ∀ q j, q ∉ rs → t.reg q j = s.reg q j

/-- Every byte of every memory reads in `t` what it read in `s`. -/
def SameMemory (s t : State) : Prop := ∀ sp a, t.byte sp a = s.byte sp a

/-- Only the registers `rs` can differ, and no memory does. -/
def OnlyRegs (rs : List Reg) (s t : State) : Prop := SameRegs rs s t ∧ SameMemory s t

/-- Only the register instances `l` can differ, and no memory does. -/
def OnlyAt (l : List (Reg × Nat)) (s t : State) : Prop := (∀ q j, (q, j) ∉ l → t.reg q j = s.reg q j) ∧ SameMemory s t

/-- Engine `e` of cluster `g` issues the word `w`, of opcode `op`, in this cc (R98, R100, R105): it runs, waits for nothing, has
not issued in this cc, and its program time is at most 256 cc ahead. -/
abbrev State.ScrReady (s : State) (g e op : Nat) (w : BitVec 64) : Prop :=
  s.engineRuns g e = true ∧ (s.eng g e).wait = none ∧ (s.eng g e).queued = none ∧ (s.eng g e).nextCc ≤ s.now ∧
  s.epochRun = true ∧ s.progTime g e ≤ s.ftg + 256 ∧ s.scriptWord g (s.pc g e) = w ∧ SI.op w = op ∧ scriptReserved op = false

/-- A timed entry of engine `e` for unit `u` is taken (R99, R101): the engine owns the unit, its queue has room, the maturity T is
at least 2 cc ahead and shared by fewer than four entries. -/
abbrev State.QueueTakes (s : State) (g e u : Nat) : Prop :=
  s.unitOwner g u = e ∧ (s.unit g u).queue.length < 64 ∧ s.ftg + 2 ≤ s.progTime g e ∧
  sameMaturity (s.unit g u).queue (s.progTime g e) < 4

/-- The same for the auxiliary queue. -/
abbrev State.AuxTakes (s : State) (g e : Nat) : Prop :=
  (s.eng g e).aux.length < 64 ∧ s.ftg + 2 ≤ s.progTime g e ∧ sameMaturity (s.eng g e).aux (s.progTime g e) < 4

/-- The invariant of the machine: memory is in its canonical form. -/
abbrev State.Inv (s : State) : Prop := Memory.wf s.mem = true

/-- Every byte outside the `n` at flat address `base` reads in `t` what it read in `s`. -/
def SameOutside (base n : Nat) (s t : State) : Prop :=
  ∀ sp a, flat sp a < base ∨ base + n ≤ flat sp a → t.byte sp a = s.byte sp a

/-- The answer `f` to request `r` has left (R381, R392): on the network at once, into `MB_RSP` of the mailbox it came by, or, while
that mailbox holds an unreleased response, into the place where it waits for the release. -/
def Answered (s t : State) (r : Request) (f : List Byte) : Prop :=
  match r.mailbox with
  | none => t.out = s.out ++ [.burtis r.netB r.addr r.port f] ∧ OnlyRegs [] s t
  | some k =>
    t.out = s.out ∧
    if s.bit .MB_STATUS k 1 then tfind t.od.waiting k = some f ∧ OnlyRegs [] s t
    else t.bit .MB_STATUS k 0 = false ∧ t.bit .MB_STATUS k 1 = true ∧ SameRegs [.MB_STATUS] s t ∧
      (s.Inv → t.bytes 3 (mailboxBase k + 0x800) f.length = f) ∧
      SameOutside (flat 3 (mailboxBase k + 0x800)) f.length s t

/-! ### Kernel engines -/

/-- The engine of cluster `g` issues the bundle `w` in this cc (R144, R154, R162, R169): it runs, has not issued in this cc, has no
diversion due, `w` stands at its PC, is not refused, and finds its stream word if it holds an RDS. -/
abbrev State.KrnReady (s : State) (g : Nat) (w : BitVec 64) : Prop :=
  s.krnRuns g = true ∧ (s.krn! g).nextCc ≤ s.now ∧ (s.krnAttention g && decide ((s.krn! g).latchedAt + 2 ≤ s.now)) = false ∧
  s.krnBundle g (s.krnPc g) = w ∧ bundleRefused w (s.krnStatBit g 4) = false ∧
  (KB.aop w = 6 → (s.krnReady g (KB.inp w)).isSome = true)

/-- The M-slot write `x` of the bundle `w` just issued is on its way (R150): it lands two bundles later. -/
def State.MSent (t : State) (g : Nat) (x : KrnWrite) : Prop := ({ left := 1, mslot := true, w := x } : InFlight) ∈ (t.krn! g).flight

/-- An accumulator result of bundle `w`: on its way, or landed if the bundle halts the engine (R165). -/
def State.AccGets (t : State) (g : Nat) (w : BitVec 64) (a : Nat) (i q : Int) : Prop :=
  if KB.cop w = 1 then t.krnAcc g a = (BitVec.ofInt 48 i, BitVec.ofInt 48 q)
  else t.MSent g (.acc a (BitVec.ofInt 48 i) (BitVec.ofInt 48 q))

/-- The same for a complex register. -/
def State.CGets (t : State) (g : Nat) (w : BitVec 64) (d : Nat) (i q : Int) : Prop :=
  if KB.cop w = 1 then t.krnC g d = narrow i q else t.MSent g (.c d (narrow i q))

/-- The same for N. -/
def State.NGets (t : State) (g : Nat) (w : BitVec 64) (b : Bool) : Prop :=
  if KB.cop w = 1 then t.krnStatBit g 0 = b else t.MSent g (.flagN b)

/-- The same for Z. -/
def State.ZGets (t : State) (g : Nat) (w : BitVec 64) (b : Bool) : Prop :=
  if KB.cop w = 1 then t.krnStatBit g 1 = b else t.MSent g (.flagZ b)

/-- GX is set when an exact part lies outside 48 bits (R147). -/
def State.GxGets (t : State) (g : Nat) (w : BitVec 64) (i q : Int) : Prop :=
  (outside48 i || outside48 q) = true → if KB.cop w = 1 then t.krnStatBit g 2 = true else t.MSent g .setGx

/-- The registers a bundle can change. -/
def krnIssueRegs : List Reg :=
  krnStateRegs ++ [.KRN_PC, .KRN_STATUS, .KRN_ATTN_CAUSE, .KRN_OUTT_CNT, .KRN_IN_STALL, .KRN_DEC_STATUS, .KRN_MISS_CNT, .KRN_LATE_CNT]

/-- How many instances of such a register a cluster has. -/
def krnIssuePer : Reg → Nat
  | .KRN_IN_STALL => 2
  | r => krnPerCluster r

/-- Only the kernel registers of cluster `g`, and the count of words its region sent up, can differ. -/
def KrnRegsOnly (g : Nat) (s t : State) : Prop :=
  ∀ q j, (q ∉ krnIssueRegs ∨ j / krnIssuePer q ≠ g) → (q ≠ .FAB_RG_UP_CNT ∨ j ≠ g / 4) → t.reg q j = s.reg q j

/-- The row of a kernel instruction: its engine and the bundles that hold the instruction. -/
def kernelRow : Instr → Option (Nat × Nat × (BitVec 64 → Bool))
  | .krnNop dt g => some (dt, g, hasNop)
  | .cmac dt g => some (dt, g, mIs 0x01)
  | .cmsu dt g => some (dt, g, mIs 0x02)
  | .cmul dt g => some (dt, g, mIs 0x03)
  | .mag2 dt g => some (dt, g, mIs 0x04)
  | .ald dt g => some (dt, g, mIs 0x05)
  | .aldw dt g => some (dt, g, mIs 0x06)
  | .krnShlAcc dt g => some (dt, g, mIs 0x07)
  | .krnShrAcc dt g => some (dt, g, mIs 0x08)
  | .trn dt g => some (dt, g, mIs 0x09)
  | .norm dt g => some (dt, g, mIs 0x0A)
  | .expb dt g => some (dt, g, mIs 0x0B)
  | .cconj dt g => some (dt, g, mIs 0x0C)
  | .krnShlCplx dt g => some (dt, g, mIs 0x0D)
  | .krnShrCplx dt g => some (dt, g, mIs 0x0E)
  | .cthr dt g => some (dt, g, mIs 0x0F)
  | .mov dt g => some (dt, g, mIs 0x10)
  | .ld dt g => some (dt, g, aIs 0x1)
  | .st dt g => some (dt, g, aIs 0x2)
  | .sta dt g => some (dt, g, aIs 0x3)
  | .ldx dt g => some (dt, g, aIs 0x4)
  | .stx dt g => some (dt, g, aIs 0x5)
  | .rds dt g => some (dt, g, aIs 0x6)
  | .wrs dt g => some (dt, g, aIs 0x7)
  | .ldp dt g => some (dt, g, aIs 0x8)
  | .ldm dt g => some (dt, g, aIs 0x9)
  | .ldl dt g => some (dt, g, aIs 0xA)
  | .ldb dt g => some (dt, g, aIs 0xB)
  | .modp dt g => some (dt, g, aIs 0xC)
  | .krnHalt dt g => some (dt, g, cIs 0x01)
  | .krnBr dt g => some (dt, g, cIs 0x02)
  | .krnBrc dt g => some (dt, g, cIs 0x03)
  | .krnLoop dt g => some (dt, g, cIs 0x04)
  | .loopr dt g => some (dt, g, cIs 0x05)
  | .rti dt g => some (dt, g, cIs 0x06)
  | .dec dt g => some (dt, g, cIs 0x07)
  | .ei dt g => some (dt, g, cIs 0x08)
  | .di dt g => some (dt, g, cIs 0x09)
  | .clrgx dt g => some (dt, g, cIs 0x0A)
  | _ => none

/-- The BAR0 address a row of software writes, and who writes it; none for the rows that are not one write of a fixed place. -/
def writeTarget : Instr → Option (Requester × Nat)
  | .xlockFaultClear who => some (who, regAddr .XLOCK_STATUS 0)
  | .clkRefSelWrite who _ => some (who, regAddr .CLK_CTRL 0)
  | .clapArm who => some (who, regAddr .CLAP_CMD 0)
  | .clapDisarm who => some (who, regAddr .CLAP_CMD 0)
  | .loopMeas who => some (who, regAddr .CLAP_CMD 0)
  | .clapTapWrite who tap _ => some (who, regAddr (tapReg tap).1 (tapReg tap).2)
  | .segEntryStage who n e w _ => some (who, segAddr n e w)
  | .segEntryCommit who n e _ => some (who, segAddr n e 3)
  | .strmCfgWrite who n st _ => some (who, regAddr .STRM_CFG (8 * n + st))
  | .shadowWrite who g r _ => some (who, regAddr (shadowHome g r).1 (shadowHome g r).2.1)
  | .voiceCommit who g u => some (who, regAddr (commitReg g u).1 (commitReg g u).2)
  | .clCommit who g _ => some (who, regAddr .CL_COMMIT g)
  | .scrStart who g _ => some (who, regAddr .SCR_START g)
  | .scrStop who g _ => some (who, regAddr .SCR_STOP g)
  | .scrStopFlush who g _ => some (who, regAddr .SCR_STOP g)
  | .swgRestart who g k => some (who, regAddr .SWG_CMD (4 * g + k))
  | .swgConfigWrite who g k r _ => some (who, regAddr (swgReg r).1 (4 * g + k))
  | .toneCommit who g _ => some (who, regAddr .TONE_COMMIT g)
  | .rfiModeWrite who g _ => some (who, regAddr .RFI_CTRL g.val)
  | .krnStart who g _ => some (who, regAddr .KRN_CTRL g)
  | .krnStop who g _ => some (who, regAddr .KRN_CTRL g)
  | .krnAttnSet who g => some (who, regAddr .KRN_ATTN_SET g)
  | .krnInCfgWrite who g i _ => some (who, regAddr .KRN_IN_CFG (2 * g + i))
  | .fabDfltWrite who j _ => some (who, regAddr .FAB_DFLT j)
  | .fabViewSel who g _ => some (who, regAddr .FAB_VIEW_SEL g)
  | .tkArm who n => some (who, regAddr .TK_CMD n)
  | .tkDisarm who n => some (who, regAddr .TK_CMD n)
  | .tkForce who n => some (who, regAddr .TK_CMD n)
  | .tkRdWrite who n _ => some (who, regAddr .TK_RD n)
  | .stkArm who => some (who, regAddr .STK_CMD 0)
  | .stkDisarm who => some (who, regAddr .STK_CMD 0)
  | .stkRdWrite who _ => some (who, regAddr .STK_RD 0)
  | .calFreezeWrite who r _ => some (who, regAddr (freezeHome r).1 (freezeHome r).2.1)
  | .biasConnWrite who k _ => some (who, regAddr .BIAS_CTRL k)
  | .biasGoStage who die i _ => some (who, regAddr .BIAS_GO (4 * die + i))
  | .biasDieGo who die => some (who, regAddr .BIAS_DIE_CMD die)
  | .biasStopAll who die => some (who, regAddr .BIAS_DIE_CMD die)
  | .biasStop who die i _ => some (who, regAddr .BIAS_STOP (4 * die + i))
  | .icConfigWrite who c r _ => some (who, regAddr (icReg r) c)
  | .ptStart who p => some (who, regAddr .PT_CMD p)
  | .ptStop who p => some (who, regAddr .PT_CMD p)
  | .evInject who j _ => some (who, regAddr .EV_INJECT j)
  | .levInject who n _ => some (who, regAddr .LEV_INJECT n)
  | .irqComplete who t _ => some (who, regAddr .IC_TGT_COMPLETE t)
  | .icPendSet who j _ => some (who, regAddr .IC_PEND_SET j)
  | .icPendClr who j _ => some (who, regAddr .IC_PEND_CLR j)
  | .icEnSet who j _ => some (who, regAddr .IC_EN_SET j)
  | .icEnClr who j _ => some (who, regAddr .IC_EN_CLR j)
  | .icSrcCfgWrite who src _ => some (who, regAddr .IC_SRC_CFG src)
  | .icTgtIdleWrite who t _ => some (who, regAddr .IC_TGT_IDLE t)
  | .gripGo who ch => some (who, regAddr .GRIP_CH_CTRL ch)
  | .gripStop who ch => some (who, regAddr .GRIP_CH_CTRL ch)
  | .gripClr who ch => some (who, regAddr .GRIP_CH_CTRL ch)
  | .gripDlyRdWrite who n _ => some (who, regAddr .GRIP_DLY_RD n)
  | .memOfflineWrite who _ => some (who, regAddr .MEM_CTRL 0)
  | .mtStart who m => some (who, regAddr .MT_CMD m)
  | .mtAbort who m _ => some (who, regAddr .MT_CMD m)
  | .linkEnable who l _ => some (who, regAddr .LNK_CTRL l)
  | .linkDisable who l _ => some (who, regAddr .LNK_CTRL l)
  | .linkMsgSend who l _ => some (who, regAddr .LNK_MSG_CTRL l)
  | .linkRxfullClear who l => some (who, regAddr .LNK_MSG_STATUS l)
  | .featGo who => some (who, regAddr .FEAT_CTRL 0)
  | .hifBar2BaseWrite who _ => some (who, regAddr .HIF_BAR2_BASE_LO 0)
  | .cutCmd who _ => some (who, regAddr .CUT_CMD 0)
  | .mbSubmit who k => some (who, regAddr .MB_CTRL k)
  | .mbRelease who k => some (who, regAddr .MB_CTRL k)
  | .wtIncWrite who _ => some (who, regAddr .WT_INC_LO 0)
  | .wtStep who => some (who, regAddr .WT_CMD 0)
  | .wtNewEpoch who => some (who, regAddr .WT_CMD 0)
  | .wtSrcWrite who _ => some (who, regAddr .WT_CTRL 0)
  | .pwrTolWrite who n _ => some (who, regAddr .PWR_TOL n)
  | .pwrWake who _ => some (who, regAddr .PWR_WAKE 0)
  | .regionReset who _ => some (who, regAddr .PWR_RRESET 0)
  | .clusterReset who _ => some (who, regAddr .PWR_CRESET_LO 0)
  | .gafWdKick who k => some (who, regAddr .GAF_WD_KICK k)
  | .gafRestart who => some (who, regAddr .GAF_CMD 0)
  | _ => none

/-- The same for the rows that read. -/
def readTarget : Instr → Option (Requester × Nat)
  | .calHistPop who g => some (who, regAddr .CAL_HIST_POP g)
  | .icDataClaim who c => some (who, regAddr .IC_DATA_LO c)
  | .irqClaim who t => some (who, regAddr .IC_TGT_CLAIM t)
  | .irqFclaim who t => some (who, regAddr .IC_TGT_FCLAIM t)
  | .wtNowSnapshot who => some (who, regAddr .WT_NOW 0)
  | .ppsInClaim who => some (who, regAddr .PPS_IN_TS_LO 0)
  | _ => none

/-- The commands whose own effect can write a memory of the block or lose what one held: bus writes and port writes, segment
entries, slates, dailies, Grip operations, march runs, the stores of kernel code, link messages, requests and answers, and the
resets, supply faults and power states that empty memories, and the commands that save or load objects (a load is a register
write of any kind). -/
def mayStore : Instr → Bool
  | .registerWrite .. | .dozeAccess .. | .segEntryCommit .. | .streamPortWrite .. | .streamHeldWriteAppend .. |
    .hardwareLoopEnd .. | .krnNop .. | .cmac .. | .cmsu .. | .cmul .. | .mag2 .. | .ald .. | .aldw .. | .krnShlAcc .. |
    .krnShrAcc .. | .trn .. | .norm .. | .expb .. | .cconj .. | .krnShlCplx .. | .krnShrCplx .. | .cthr .. | .mov .. |
    .ld .. | .st .. | .sta .. | .ldx .. | .stx .. | .rds .. | .wrs .. | .ldp .. | .ldm .. | .ldl .. | .ldb .. | .modp .. |
    .krnHalt .. | .krnBr .. | .krnBrc .. | .krnLoop .. | .loopr .. | .rti .. | .dec .. | .ei .. | .di .. | .clrgx .. |
    .slateWrite .. | .systemSlateWrite .. | .gripOperationComplete .. | .dailiesBlockWrite .. | .mtAbort .. |
    .marchRunEnd .. | .superframeReceive .. | .perstAssert .. | .perstDeassert .. | .bar2Access .. | .requestEnqueue .. |
    .burtisBadFrame .. | .burtisHello .. | .burtisBye .. | .burtisRead .. | .burtisWrite .. | .burtisReadBlock .. |
    .burtisWriteBlock .. | .burtisSubscribe .. | .burtisStatus .. | .mbSubmit .. | .mbRelease .. | .powerUp .. |
    .logicSupplyFault .. | .supplyRecovery .. | .thermalSample .. | .powerStateEntryComplete .. | .biasSupplyRise .. |
    .featGo .. | .flr .. | .isolatorLinkUp .. | .odRestore .. | .odSave .. => true
  | _ => false

end Sys2Proof.Machine
end

