-- ==== Sys2Proof/WellFormed.lean ====
section
/-!
DEFINITION. Well-formed commands: the operands that the outside can present. Most bounds stand in the operand types (a region is one
of 16); what they do not say is checked here. `exec` gives every command a meaning, well formed or not.
-/

namespace Sys2Proof

/-- An MSI-X access lies in BAR4, of 64 KB (R353). -/
def BusOp.wf : BusOp → Bool
  | .read32 _ => true
  | .read64 _ => true
  | .write32 _ _ => true
  | .write64 _ _ => true
  | .msixRead w => decide (w < 2 ^ 14)
  | .msixWrite w _ => decide (w < 2 ^ 14)

/-- A BAR2 access is one PCI Express transaction: 1 to 4,096 bytes (R351). -/
def Bar2Op.wf : Bar2Op → Bool
  | .read _ n _ => decide (1 ≤ n) && decide (n ≤ 4096)
  | .write _ bytes => decide (1 ≤ bytes.length) && decide (bytes.length ≤ 4096)

/-- A command is well formed: a stream port write carries words (R78), a superframe has its size (R328), a link is in a width
that PCI Express has (R347), a temperature is read from each of the 11 dies (R422), a network session is one of slots 1-32 (R387). -/
def Instr.wf : Instr → Bool
  | .registerWrite _ op => op.wf
  | .bar0BadAccess _ addr bytes _ => decide (1 ≤ bytes) && decide (bytes ≤ 4096) && decide (addr < 2 ^ 28 + 2 ^ 16)
  | .dozeAccess _ op => op.wf
  | .fabricTimingFault _ _ => true
  | .crossingLock _ _ => true
  | .xlockFaultClear _ => true
  | .clkRefSelWrite _ _ => true
  | .pllLock _ _ _ => true
  | .referenceLost _ => true
  | .tilePllUnlock _ _ => true
  | .clapArm _ => true
  | .clapDisarm _ => true
  | .loopMeas _ => true
  | .loopMeasDone _ _ _ => true
  | .clapperEdge _ _ => true
  | .epochPulseEmit _ => true
  | .checkPulseEmit _ => true
  | .epochStart _ => true
  | .clapperCheck _ _ => true
  | .clapTapWrite _ _ _ => true
  | .tapSlewStep _ _ => true
  | .segEntryStage _ _ _ _ _ => true
  | .segEntryCommit _ _ _ _ => true
  | .spliceDecisionPoint _ _ _ => true
  | .splice _ _ _ => true
  | .streamPortWrite _ _ _ words => decide (1 ≤ words.length)
  | .streamHeldWriteAppend _ _ _ => true
  | .underrun _ _ _ => true
  | .strmCfgWrite _ _ _ _ => true
  | .shadowWrite _ _ _ _ => true
  | .voiceCommit _ _ _ => true
  | .clCommit _ _ _ => true
  | .handOver _ _ _ => true
  | .markerEdge _ _ _ => true
  | .scrStart _ _ _ => true
  | .scrStop _ _ _ => true
  | .scrStopFlush _ _ _ => true
  | .nop _ _ _ => true
  | .halt _ _ _ => true
  | .play _ _ _ => true
  | .playd _ _ _ => true
  | .wait _ _ _ => true
  | .waitu _ _ _ => true
  | .clap _ _ _ => true
  | .setf _ _ _ => true
  | .setp _ _ _ => true
  | .rotp _ _ _ => true
  | .seta _ _ _ => true
  | .commit _ _ _ => true
  | .acq _ _ _ => true
  | .mark _ _ _ => true
  | .br _ _ _ => true
  | .brd _ _ _ => true
  | .bre _ _ _ => true
  | .branchDecisionPoint _ _ _ => true
  | .queuedPlayPlace _ _ _ => true
  | .brc _ _ _ => true
  | .loop _ _ _ => true
  | .endl _ _ _ => true
  | .call _ _ _ => true
  | .ret _ _ _ => true
  | .swp _ _ _ => true
  | .ldi _ _ _ => true
  | .add _ _ _ => true
  | .sub _ _ _ => true
  | .cmp _ _ _ => true
  | .playEntryMature _ _ _ => true
  | .shadowWriteEntryMature _ _ _ => true
  | .commitEntryMature _ _ _ => true
  | .acqEntryMature _ _ _ => true
  | .markEntryMature _ _ _ => true
  | .spliceRequestMature _ _ _ => true
  | .swgRestart _ _ _ => true
  | .swgConfigWrite _ _ _ _ _ => true
  | .toneCommit _ _ _ => true
  | .toneResult _ _ _ _ _ => true
  | .rfiModeWrite _ _ _ => true
  | .comparatorEntry _ _ _ _ => true
  | .trackerRecord _ _ _ _ _ _ => true
  | .dailiesPad _ _ => true
  | .krnStart _ _ _ => true
  | .krnStop _ _ _ => true
  | .krnAttnSet _ _ => true
  | .attentionDivert _ _ => true
  | .krnInWord _ _ _ _ => true
  | .krnInCfgWrite _ _ _ _ => true
  | .krnDeadlineMiss _ _ _ => true
  | .hardwareLoopEnd _ _ => true
  | .krnNop _ _ => true
  | .cmac _ _ => true
  | .cmsu _ _ => true
  | .cmul _ _ => true
  | .mag2 _ _ => true
  | .ald _ _ => true
  | .aldw _ _ => true
  | .krnShlAcc _ _ => true
  | .krnShrAcc _ _ => true
  | .trn _ _ => true
  | .norm _ _ => true
  | .expb _ _ => true
  | .cconj _ _ => true
  | .krnShlCplx _ _ => true
  | .krnShrCplx _ _ => true
  | .cthr _ _ => true
  | .mov _ _ => true
  | .ld _ _ => true
  | .st _ _ => true
  | .sta _ _ => true
  | .ldx _ _ => true
  | .stx _ _ => true
  | .rds _ _ => true
  | .wrs _ _ => true
  | .ldp _ _ => true
  | .ldm _ _ => true
  | .ldl _ _ => true
  | .ldb _ _ => true
  | .modp _ _ => true
  | .krnHalt _ _ => true
  | .krnBr _ _ => true
  | .krnBrc _ _ => true
  | .krnLoop _ _ => true
  | .loopr _ _ => true
  | .rti _ _ => true
  | .dec _ _ => true
  | .ei _ _ => true
  | .di _ _ => true
  | .clrgx _ _ => true
  | .fabricDelivery _ _ _ => true
  | .hubSlotRead _ _ => true
  | .hubBroadcastSend _ _ => true
  | .fabDfltWrite _ _ _ => true
  | .fabViewSel _ _ _ => true
  | .tkArm _ _ => true
  | .tkDisarm _ _ => true
  | .tkForce _ _ => true
  | .regionTrigger _ _ _ => true
  | .captureEnd _ _ => true
  | .slateWrite _ _ samples _ => decide (samples.raw.length ≤ 4)
  | .takeOverflow _ _ _ => true
  | .maskViolation _ _ _ _ _ => true
  | .tkRdWrite _ _ _ => true
  | .systemTimestampArrival _ _ => true
  | .systemTrigger _ _ => true
  | .systemTriggerAssert _ => true
  | .systemSlateWrite _ => true
  | .stkArm _ => true
  | .stkDisarm _ => true
  | .stkRdWrite _ _ => true
  | .calRun _ => true
  | .calRunEnd _ _ _ _ _ _ => true
  | .adcStatBlockEnd _ _ _ => true
  | .interleaveUpdate _ _ => true
  | .monitorBlockEnd _ _ _ => true
  | .discriminatorFit _ _ f => decide (f.means.length = 2) || decide (f.means.length = 3)
  | .calHistPop _ _ => true
  | .calFreezeWrite _ _ _ => true
  | .biasSupplyRise _ _ _ => true
  | .biasSupplyFault _ _ => true
  | .isolatorLinkDown _ _ => true
  | .biasConnWrite _ _ _ => true
  | .biasConnComplete _ _ => true
  | .biasGoStage _ _ _ _ => true
  | .biasDieGo _ _ => true
  | .biasStopAll _ _ => true
  | .biasStop _ _ _ _ => true
  | .rampStep _ _ => true
  | .icResult _ _ _ _ => true
  | .icDataClaim _ _ => true
  | .icConfigWrite _ _ _ _ => true
  | .eventCombine _ _ => true
  | .eventDelivery _ _ => true
  | .ptStart _ _ => true
  | .ptStop _ _ => true
  | .pacingTimerEmit _ _ => true
  | .evInject _ _ _ => true
  | .levInject _ _ _ => true
  | .tioInputEdge _ _ _ _ => true
  | .tioPulseEnd _ _ => true
  | .irqEdge _ _ => true
  | .irqLevelChange _ _ _ => true
  | .irqClaim _ _ => true
  | .irqFclaim _ _ => true
  | .irqComplete _ _ _ => true
  | .icPendSet _ _ _ => true
  | .icPendClr _ _ _ => true
  | .icEnSet _ _ _ => true
  | .icEnClr _ _ _ => true
  | .icSrcCfgWrite _ _ _ => true
  | .fastInterruptEntry _ _ _ => true
  | .msixMessageSend _ _ => true
  | .moderationExpire _ _ => true
  | .icTgtIdleWrite _ _ _ => true
  | .msixUnmask _ => true
  | .msixEnable _ _ => true
  | .gripGo _ _ => true
  | .gripStop _ _ => true
  | .gripClr _ _ => true
  | .descriptorFetch _ _ _ => true
  | .gripOperationComplete _ _ _ _ => true
  | .gripTimeout _ _ _ => true
  | .dailiesBlockWrite _ _ => true
  | .gripDlyRdWrite _ _ _ => true
  | .ddr5TrainingDone _ _ chs => decide (chs.length ≤ 8)
  | .scrubRead _ _ _ _ => true
  | .memOfflineWrite _ _ => true
  | .mtStart _ _ => true
  | .mtAbort _ _ _ => true
  | .marchRunEnd _ _ _ => true
  | .linkEnable _ _ _ => true
  | .linkDisable _ _ _ => true
  | .laneLoss _ _ => true
  | .superframeSend _ _ => true
  | .superframeReceive _ _ frame => frame.all (fun b => decide (b.length = 124))
  | .helloSend _ _ => true
  | .helloReceive _ _ _ => true
  | .helloTimeout _ _ => true
  | .byeReceive _ _ => true
  | .pingSend _ _ => true
  | .pongReceive _ _ _ => true
  | .mapReceive _ _ hops => decide (hops.length ≤ 256)
  | .bulkRetransmit _ _ => true
  | .linkMsgSend _ _ _ => true
  | .linkRxfullClear _ _ => true
  | .perstAssert _ => true
  | .perstDeassert _ speed width => decide (1 ≤ speed.val) && [1, 2, 4, 8, 16].contains width.val
  | .flr _ => true
  | .d3hotEntry _ => true
  | .d0Return _ => true
  | .l1Entry _ => true
  | .ltrSend _ => true
  | .featGo _ => true
  | .hifBar2BaseWrite _ _ => true
  | .bar2Access op => op.wf
  | .cutCmd _ _ => true
  | .cutComplete _ => true
  | .requestEnqueue _ d => decide (d.bytes.length ≤ 65507)
  | .burtisBadFrame _ d => decide (d.bytes.length ≤ 65507)
  | .burtisHello _ _ => true
  | .burtisBye _ _ => true
  | .burtisRead _ _ => true
  | .burtisWrite _ _ => true
  | .burtisReadBlock _ _ => true
  | .burtisWriteBlock _ _ => true
  | .burtisSubscribe _ _ => true
  | .burtisStatus _ _ => true
  | .subscriptionNotify _ slot _ _ => decide (1 ≤ slot.val)
  | .sessionLeaseExpire _ slot => decide (1 ≤ slot.val)
  | .mbSubmit _ _ => true
  | .mbRelease _ _ => true
  | .odSave _ => true
  | .odRestore _ => true
  | .saveImageComplete _ _ => true
  | .wtIncWrite _ _ => true
  | .wtStep _ => true
  | .wtNewEpoch _ => true
  | .wtNowSnapshot _ => true
  | .wtSrcWrite _ _ => true
  | .ptpMessageReceive _ _ _ => true
  | .delayReqSend _ _ _ => true
  | .servoUpdate _ _ => true
  | .announceTimeout _ _ => true
  | .ppsOutRise _ => true
  | .ppsOutFall _ => true
  | .ppsInCapture _ _ => true
  | .ppsInClaim _ => true
  | .powerUp _ => true
  | .logicSupplyFault _ _ => true
  | .supplyRecovery _ _ => true
  | .pwrTolWrite _ _ _ => true
  | .powerStateEntry _ _ => true
  | .powerStateExit _ _ => true
  | .powerStateExitComplete _ _ => true
  | .p4ImageTimeout _ _ => true
  | .pwrWake _ _ => true
  | .regionReset _ _ => true
  | .clusterReset _ _ => true
  | .thermalSample _ temps => decide (temps.length = 11)
  | .wearLogImage _ => true
  | .watchdogExpire _ _ => true
  | .gafWdKick _ _ => true
  | .gafRestart _ => true
  | .statusWord _ _ => true
  | .readTemperature1 _ _ => true
  | .readTemperature2 _ _ => true
  | .readPin _ _ _ => true
  | .pmbusRevision _ _ => true
  | .pmbusUnsupported _ _ _ _ => true
  | .bypass _ => true
  | .idcode _ => true
  | .sample _ _ => true
  | .comparatorActClear _ _ _ _ => true
  | .laneBlockLock _ _ => true
  | .isolatorLinkUp _ _ => true
  | .powerStateEntryComplete _ _ => true
  | .resetComplete _ _ => true
  | .gafferLoadUpdate _ _ => true

end Sys2Proof
end

