-- ==== Sys2Proof/Certificates/Slice0/Obligations.lean ====
section
/-!
DEFINITION. The statements for the provers, made from the numbered rules of the spec.
-/

namespace Sys2Proof

open Machine

end Sys2Proof

open Sys2Proof Sys2Proof.Machine

/-- For every command c, queue rest and state s: when s waits with c at the front, a step is exec of c on s with the rest of the queue; and putting c in front of s's queue and stepping is exec of c on s. (98_reader.md) -/
def Obligations.StepRunsFrontCommand : Prop :=
  ∀ (c : Instr) (rest : List Instr) (s : State),
    (s.pending = c :: rest → step s = exec c { s with pending := rest }) ∧ step (s.command c) = exec c s

/-- On an empty queue a step answers the state one cc later: no register, no byte of memory and nothing of the queue changes (the model's choice, notes/assumptions/1.md). (01_architecture.md) -/
def Obligations.IdleStepPassesOneCc : Prop :=
  ∀ s : State, s.pending = [] →
    ∃ t, step s = .next t ∧ t.now = s.now + 1 ∧ t.pending = [] ∧ t.out = s.out ∧ OnlyRegs [] s t

/-- Every command answers a next state in every state: the spec gives each row an effect, and an event whose condition does not hold changes nothing but the time. (98_reader.md) -/
def Obligations.EveryCommandAnswersNext : Prop :=
  ∀ (c : Instr) (s : State), ∃ t, exec c s = .next t

/-- At reset memory lists nothing and is canonical, the queue is empty, and registers of every group read the values the tables of the spec give: the identity of the largest variant, the features offered and none accepted, the clapper IDLE, the wall-clock increment 1.0 ns with STEP_PEND set, WT_CTRL 0x400, the PTP parameters with their domains, and IC_TGT_STATUS.ARMED of the host targets only. It rests on choices and readings of the model: notes/assumptions/4.md, 5.md. (R20, R61, R294, R295, R358, R366, R410) -/
def Obligations.ResetState : Prop :=
  let s := State.reset
  s.mem = [] ∧ s.Inv ∧ s.pending = [] ∧ s.out = [] ∧
  s.reg .FEAT_OFFER = 0x3FFF ∧ s.reg .FEAT_ACCEPT = 0 ∧ s.active = false ∧
  s.clap.state = .idle ∧ s.reg .CLAP_STATUS = 0 ∧ s.epochRun = false ∧
  s.reg .WT_INC_LO = 0 ∧ s.reg .WT_INC_HI = 1 ∧ s.reg .WT_CTRL = 0x400 ∧ s.bit .WT_STATUS 0 3 = true ∧
  s.reg .PTP_CFG 0 = 0x30F00 ∧ s.reg .PTP_CFG 1 = 0x30F01 ∧
  s.reg .IC_TGT_STATUS 3 = 0 ∧ s.reg .IC_TGT_STATUS 4 = 4 ∧ s.reg .IC_SRC_CFG 9 = 0 ∧
  s.reg .CUT_STATUS = 0 ∧ s.reg .ID_VARIANT = 0x0008_FFFF

/-- The memory of the reset state is in its canonical form: addresses strictly rising and no entry equal to what an unlisted address reads as. It rests on choices and readings of the model: notes/assumptions/4.md. (20_ports_and_electrical.md, 19_power_reset_health.md) -/
def Obligations.ResetInvariant : Prop :=
  State.reset.Inv

/-- From every state whose memory is in canonical form, reached by a run or not, a step that answers a next state answers one whose memory is in canonical form: equal memories stay equal data whatever any of the 296 commands writes or forgets. It rests on choices and readings of the model: notes/assumptions/4.md. (R9, R67, R68, R98, R148, R149, R305, R343, R418) -/
def Obligations.EveryStepKeepsCanonicalMemory : Prop :=
  ∀ s t : State, s.Inv → step s = .next t → t.Inv

/-- Whatever command is carried out, the commands that wait are those that waited, in the same order, and the module is the variant it was. (R1, 98_reader.md) -/
def Obligations.NoCommandTouchesQueueOrVariant : Prop :=
  ∀ (c : Instr) (s t : State), exec c s = .next t → t.pending = s.pending ∧ t.variant = s.variant

/-- For every command outside the ones listed by mayStore (the writes of mapped memories, Grip operations, kernel stores, slates, march runs, link messages, the mailbox, saved objects, resets and power changes that lose memory): every byte of every memory reads after it what it read before. It rests on choices and readings of the model: notes/assumptions/86.md. (R67, R68, R98, R305, R418) -/
def Obligations.CommandsThatStoreNothing : Prop :=
  ∀ (c : Instr) (s t : State), mayStore c = false → exec c s = .next t → SameMemory s t

/-- For every row of software that writes or reads one place: a requester that is held does nothing; to a block that is not live a write is discarded, a read returns 0 and GLB_STATUS.NOGO is set; to a region that sleeps the same with DOZE_ACCESS; to an unpopulated region nothing is flagged; in D3hot the host gets Unsupported Request. It rests on choices and readings of the model: notes/assumptions/17.md, 19.md. (R3, R31, R354, R358, R359) -/
def Obligations.ClosedGatesStopAccesses : Prop :=
  ∀ (c : Instr) (who : Requester) (a : Nat) (s : State),
    (writeTarget c = some (who, a) →
      (s.canAccess who = false → exec c s = .next s) ∧
      (s.canAccess who = true →
        (s.gate who a = .notLive → exec c s = .next (s.setBit .GLB_STATUS 0 1 true)) ∧
        (s.gate who a = .asleep → exec c s = .next (s.setBit .GLB_STATUS 0 0 true)) ∧
        (s.gate who a = .absent → exec c s = .next s) ∧
        (s.gate who a = .unsupported → exec c s = .next (s.emit (.unsupported who))))) ∧
    (readTarget c = some (who, a) →
      (s.canAccess who = false → exec c s = .next s) ∧
      (s.canAccess who = true →
        (s.gate who a = .notLive → exec c s = .next ((s.setBit .GLB_STATUS 0 1 true).emit (.readData who 0))) ∧
        (s.gate who a = .asleep → exec c s = .next ((s.setBit .GLB_STATUS 0 0 true).emit (.readData who 0))) ∧
        (s.gate who a = .absent → exec c s = .next (s.emit (.readData who 0))) ∧
        (s.gate who a = .unsupported → exec c s = .next (s.emit (.unsupported who)))))

/-- Before ACTIVE every hub address from 0x200 on but the mailbox is not live and so is every window of a populated region; a window of an unpopulated region is absent; once the features that govern it are in force an address of an awake populated region is open; from P3 on only the control block of the window is. It rests on choices and readings of the model: notes/assumptions/18.md, 19.md. (R3, R31, R358, R359) -/
def Obligations.GateOfAnAddress : Prop :=
  ∀ (who : Requester) (a n : Nat) (s : State), (who = .host → s.inD3hot = false) →
    (s.active = false → 0x200 ≤ a → a < 0xB0000 → s.gate who a = .notLive) ∧
    (s.active = false → a < 0x200 → s.gate who a = .open) ∧
    (0xB0000 ≤ a → a < 0xC0000 → s.gate who a = .open) ∧
    (windowRegion a = some n → s.variant.regions ≤ n → s.gate who a = .absent) ∧
    (windowRegion a = some n → n < s.variant.regions → s.active = false → s.gate who a = .notLive) ∧
    (windowRegion a = some n → n < s.variant.regions → s.active = true → (featuresAt a).all s.feat = true →
      s.gate who a = if 3 ≤ (s.regionPower n).state ∧ 0x10000 ≤ windowOffset a then .asleep else .open)

/-- A 32-bit write of CUT_RMASK stores its 16 mask bits and a read of it returns them; a BAR0 access that does not fit sets BADACC and reads 0, or NOGO in a block that is not live; an access to a sleeping region sets DOZE_ACCESS. A locked crossing of a populated region that finds its FIFO empty becomes faulted, with XLOCK_STATUS.FAULT set and source 503 pending; a released crossing locks once its cc has come; writing the clear frees the latch. No other register and no memory changes. It rests on choices and readings of the model: notes/assumptions/10.md, 17.md, 85.md. (R10, R23, R25, R26, R31, R350, R361) -/
def Obligations.BusAccessesComplete : Prop :=
  ∀ (who : Requester) (v : BitVec 32) (dt : Nat) (s : State),
    (s.Open who 0x104 →
      Completes (.registerWrite who (.write32 0x104 v)) s (fun t =>
        t.reg .CUT_RMASK = putBits (s.reg .CUT_RMASK) 15 0 (bits v 15 0) ∧ OnlyRegs [.CUT_RMASK, .HIF_LINK] s t)) ∧
    (s.Open who 0x104 → tfind s.snap (snapKey who .CUT_RMASK 0) = none →
      Completes (.registerWrite who (.read32 0x104)) s (fun t =>
        t.out = s.out ++ [.readData who ((s.reg .CUT_RMASK).zeroExtend 64)] ∧ OnlyRegs [.HIF_LINK] s t)) ∧
    (∀ (addr bytes : Nat) (w : Bool), addr < 2 ^ 28 → accessFits addr bytes = false → s.Open who addr →
      Completes (.bar0BadAccess who addr bytes w) s (fun t =>
        t = let u := (s.throughOpen who addr).setBit .GLB_STATUS 0 2 true
            if w then u else u.emit (.readData who 0))) ∧
    (∀ a : BitVec 28, s.canAccess who = true → s.gate who a.toNat = .asleep → accessFits a.toNat 4 = true →
      Completes (.dozeAccess who (.write32 a v)) s (fun t => t = s.setBit .GLB_STATUS 0 0 true)) ∧
    (∀ x : Crossing, (s.crossing (crossingKey x)).locked = true → (s.crossing (crossingKey x)).faulted = false →
      s.hasRegion (keyRegion (crossingKey x)) = true →
      Completes (.fabricTimingFault dt [⟨x, .emptyRead⟩]) s (fun t =>
        (t.crossing (crossingKey x)).faulted = true ∧ t.bit .XLOCK_STATUS 0 1 = true ∧
        t.fld .CLAP_STATUS 0 31 24 = Code.clapperSlip ∧
        OnlyRegs [.XLOCK_STATUS, .XLOCK_FAULT0, .XLOCK_FAULT_FTG_LO, .XLOCK_FAULT_FTG_HI, .CLAP_STATUS] s t)) ∧
    (∀ (x : Crossing) (r : Nat), (s.crossing (crossingKey x)).releaseAt = some r → r ≤ s.now + dt →
      Completes (.crossingLock dt x) s (fun t =>
        (t.crossing (crossingKey x)).locked = true ∧ (t.crossing (crossingKey x)).faulted = false ∧ OnlyRegs [] s t)) ∧
    (s.OpenReg who .XLOCK_STATUS 0 →
      Completes (.xlockFaultClear who) s (fun t => t.bit .XLOCK_STATUS 0 1 = false ∧ OnlyRegs [.XLOCK_STATUS, .HIF_LINK] s t))

/-- ARM from IDLE, or from RUNNING with nothing sequencing, makes the clapper ARMED in this cc and answers OK, with a pulse planned 16 cc later for a master or standalone module; from ARMED it answers OK, from RUNNING while something sequences BUSY, the clapper unchanged. DISARM cancels an arm whose edge is not registered, answers BUSY once it is, and OK otherwise. LOOP_MEAS starts a measurement of 2^20 cc, or answers BUSY during one. Only CLAP_STATUS changes, and no memory. It rests on choices and readings of the model: notes/assumptions/11.md, 15.md. (R42, R60) -/
def Obligations.ClapperCommandsComplete : Prop :=
  ∀ (who : Requester) (s : State), s.OpenReg who .CLAP_CMD 0 →
    (s.clap.state = .idle ∨ (s.clap.state = .running ∧ s.sequencing = false) →
      Completes (.clapArm who) s (fun t =>
        t.clap.state = .armed ∧ t.clap.armAt = s.now ∧ t.clap.regAt = none ∧ t.clap.epoch = s.clap.epoch ∧
        t.clap.pulseAt = (if s.role = 1 ∨ s.role = 2 then some (s.now + 16) else none) ∧
        t.fld .CLAP_STATUS 0 23 16 = Code.ok ∧ OnlyRegs [.CLAP_STATUS, .HIF_LINK] s t)) ∧
    (s.clap.state = .armed → Completes (.clapArm who) s (fun t =>
        t.clap = s.clap ∧ t.fld .CLAP_STATUS 0 23 16 = Code.ok ∧ OnlyRegs [.CLAP_STATUS, .HIF_LINK] s t)) ∧
    (s.clap.state = .running → s.sequencing = true → Completes (.clapArm who) s (fun t =>
        t.clap = s.clap ∧ t.fld .CLAP_STATUS 0 23 16 = Code.busy ∧ OnlyRegs [.CLAP_STATUS, .HIF_LINK] s t)) ∧
    (s.clap.state = .armed → s.clap.regAt = none → Completes (.clapDisarm who) s (fun t =>
        t.clap.state = (if s.clap.epoch.isSome then .running else .idle) ∧ t.clap.pulseAt = none ∧
        t.clap.epoch = s.clap.epoch ∧ t.fld .CLAP_STATUS 0 23 16 = Code.ok ∧ OnlyRegs [.CLAP_STATUS, .HIF_LINK] s t)) ∧
    (s.clap.state = .armed → s.clap.regAt.isSome = true → Completes (.clapDisarm who) s (fun t =>
        t.clap = s.clap ∧ t.fld .CLAP_STATUS 0 23 16 = Code.busy ∧ OnlyRegs [.CLAP_STATUS, .HIF_LINK] s t)) ∧
    (s.clap.state ≠ .armed → Completes (.clapDisarm who) s (fun t =>
        t.clap = s.clap ∧ t.fld .CLAP_STATUS 0 23 16 = Code.ok ∧ OnlyRegs [.CLAP_STATUS, .HIF_LINK] s t)) ∧
    (s.clap.loopEnd = none → Completes (.loopMeas who) s (fun t =>
        t.clap.loopEnd = some (s.now + 2 ^ 20) ∧ t.bit .CLAP_STATUS 0 8 = true ∧ t.bit .CLAP_STATUS 0 9 = false ∧
        t.fld .CLAP_STATUS 0 23 16 = Code.ok ∧ OnlyRegs [.CLAP_STATUS, .HIF_LINK] s t)) ∧
    (s.clap.loopEnd.isSome = true → Completes (.loopMeas who) s (fun t =>
        t.clap = s.clap ∧ t.fld .CLAP_STATUS 0 23 16 = Code.busy ∧ OnlyRegs [.CLAP_STATUS, .HIF_LINK] s t))

/-- A follower or master that is ARMED in an earlier cc registers an edge of CLAP_IN with its sample position, which EDGE_POS shows, and sets MARGIN for the outer two positions on either side. A planned epoch pulse is emitted once its cc has come, and a standalone module registers its own edge with it at position 0; every 2^20 cc after it a check pulse is emitted. 64 cc after the registered edge footage 0 begins: the clapper is RUNNING, CLAP_STATUS.STATUS reads OK, CLAP_SLIPS and XLOCK_DROPS restart at 0 and the epoch wall time is stored. It rests on choices and readings of the model: notes/assumptions/10.md. (R41, R43, R44, R45, R46, R58) -/
def Obligations.ClapperEdgesAndPulses : Prop :=
  ∀ (dt : Nat) (pos : Fin 16) (s : State),
    (s.role ≤ 1 → s.clap.ignoreEdge = false → s.clap.state = .armed → s.clap.regAt = none → s.clap.armAt < s.now + dt →
      s.bit .CLAP_CTRL 0 2 = false →
      Completes (.clapperEdge dt pos) s (fun t =>
        t.clap.regAt = some (s.now + dt, pos.val) ∧ t.fld .CLAP_STATUS 0 7 4 = pos.val ∧
        t.bit .CLAP_STATUS 0 3 = (decide (pos.val ≤ 1) || decide (14 ≤ pos.val)) ∧ OnlyRegs [.CLAP_STATUS] s t)) ∧
    (∀ e, s.clap.pulseAt = some e → e ≤ s.now + dt →
      Completes (.epochPulseEmit dt) s (fun t =>
        t.clap.pulseAt = none ∧ t.clap.pulseBase = some e ∧ t.out = s.out ++ [.clapOut e 0] ∧
        (s.role = 2 → t.clap.regAt = some (e, 0)) ∧
        OnlyRegs [.CLAP_TAP_OUT, .CLAP_STATUS] s t)) ∧
    (∀ e, s.clap.pulseBase = some e → e < s.now + dt → (s.now + dt - e) % 2 ^ 20 = 0 →
      Completes (.checkPulseEmit dt) s (fun t =>
        t.out = s.out ++ [.clapOut (s.now + dt) 0] ∧ t.clap = s.clap ∧ OnlyRegs [.CLAP_TAP_OUT] s t)) ∧
    (∀ x p, s.clap.regAt = some (x, p) → x + 64 ≤ s.now + dt →
      Completes (.epochStart dt) s (fun t =>
        t.clap.state = .running ∧ t.clap.epoch = some (x + 64) ∧ t.clap.s0 = p ∧ t.clap.regAt = none ∧
        t.ftg = s.now + dt - (x + 64) ∧ t.fld .CLAP_STATUS 0 31 24 = Code.ok ∧ t.reg .CLAP_SLIPS = 0 ∧ t.reg .XLOCK_DROPS = 0 ∧
        SameMemory s t))

/-- At footage k × 2^20 a check judges the edge of its window: with exactly one edge displaced by at most CHK_TOL samples, and nothing else found, no slip is declared and the regions that waited reload their footage; without an edge a slip of kind 1 is declared: SLIP is set, STATUS reads CLAPPER_SLIP, the free latch takes the kind, CLAP_SLIPS counts and source 437 is raised. It rests on choices and readings of the model: notes/assumptions/24.md. (R47, R48, R49, R50) -/
def Obligations.ClapperCheckJudges : Prop :=
  ∀ (dt k : Nat) (s : State), s.role ≠ 2 → s.epochRun = true → (s.pass dt).ftg = k * 2 ^ 20 → s.clap.lastCheck < k →
    s.clap.regAt = none →
    (∀ edge, s.clap.winEdge = some edge → s.clap.winEdges = 1 → (s.displacement k edge).natAbs ≤ s.fld .CLAP_CTRL 0 19 16 →
      Completes (.clapperCheck dt ⟨[], [], [], []⟩) s (fun t =>
        t.clap.lastCheck = k ∧ t.clap.winEdge = none ∧ t.clap.winEdges = 0 ∧
        t.bit .CLAP_STATUS 0 2 = s.bit .CLAP_STATUS 0 2 ∧ t.reg .CLAP_SLIPS = s.reg .CLAP_SLIPS ∧ SameMemory s t)) ∧
    (s.clap.winEdge = none → s.bit .CLAP_STATUS 0 2 = false →
      Completes (.clapperCheck dt ⟨[], [], [], []⟩) s (fun t =>
        t.clap.lastCheck = k ∧ t.bit .CLAP_STATUS 0 2 = true ∧ t.fld .CLAP_STATUS 0 31 24 = Code.clapperSlip ∧
        t.fld .CLAP_SLIP_INFO 0 2 0 = 1 ∧
        t.regNat .CLAP_SLIPS = min 0xFFFF_FFFF (s.regNat .CLAP_SLIPS + 1) ∧ SameMemory s t))

/-- While IDLE a write of CLK_CTRL stores its three bits, unlocks every PLL and answers OK. A PLL of a populated tile locks with a reference in range, and none does with one outside ±100 ppm, which sets REF_BAD. A lost reference unlocks every PLL, sets REF_LOST and declares a slip; a tile PLL that unlocks sets its UNLOCK bit and declares a slip. A write of a reference or tile tap stores the target; a due slew step moves the tap in force by 1 ps towards it. A measured round trip within 2,000 ns is stored and LOOP_VALID set. It rests on choices and readings of the model: notes/assumptions/10.md, 12.md, 13.md. (R37, R38, R39, R40, R56, R60, R61) -/
def Obligations.ClocksAndTaps : Prop :=
  ∀ (who : Requester) (v : BitVec 32) (dt : Nat) (s : State),
    (s.OpenReg who .CLK_CTRL 0 → s.clap.state = .idle →
      Completes (.clkRefSelWrite who v) s (fun t =>
        t.fld .CLK_CTRL 0 2 0 = bits v 2 0 ∧ t.bit .CLK_STATUS 0 0 = false ∧ t.fld .CLK_STATUS 0 15 8 = 0 ∧
        t.fld .CLAP_STATUS 0 23 16 = Code.ok ∧ OnlyRegs [.CLK_CTRL, .CLK_STATUS, .CLAP_STATUS, .HIF_LINK] s t)) ∧
    (∀ tl : Tile, tl.val < s.variant.tiles →
      Completes (.pllLock dt (.tile tl) true) s (fun t =>
        t.bit .CLK_STATUS 0 (8 + tl.val) = true ∧ t.bit .CLK_STATUS 0 2 = false ∧ OnlyRegs [.CLK_STATUS] s t)) ∧
    (∀ p : Pll, Completes (.pllLock dt p false) s (fun t =>
        t.bit .CLK_STATUS 0 2 = true ∧ t.bit .CLK_STATUS 0 0 = false ∧ t.fld .CLK_STATUS 0 15 8 = 0 ∧ OnlyRegs [.CLK_STATUS] s t)) ∧
    Completes (.referenceLost dt) s (fun t =>
        t.bit .CLK_STATUS 0 3 = true ∧ t.bit .CLK_STATUS 0 0 = false ∧ t.fld .CLK_STATUS 0 15 8 = 0 ∧
        t.bit .CLAP_STATUS 0 2 = true ∧
        OnlyRegs [.CLK_STATUS, .CLAP_STATUS, .CLAP_SLIPS, .CLAP_SLIP_INFO, .CLAP_SLIP_FTG_LO, .CLAP_SLIP_FTG_HI] s t) ∧
    (∀ tl : Tile, tl.val < s.variant.tiles → s.bit .CLK_STATUS 0 (8 + tl.val) = true → s.bit .CLK_STATUS 0 1 = true →
      Completes (.tilePllUnlock dt tl) s (fun t =>
        t.bit .CLK_STATUS 0 (8 + tl.val) = false ∧ t.bit .CLK_STATUS 0 (16 + tl.val) = true ∧ t.bit .CLAP_STATUS 0 2 = true ∧
        bitOf t.clap.pllMuted.toNat (2 * tl.val) = true ∧ bitOf t.clap.pllMuted.toNat (2 * tl.val + 1) = true ∧
        OnlyRegs [.CLK_STATUS, .CLAP_STATUS, .CLAP_SLIPS, .CLAP_SLIP_INFO, .CLAP_SLIP_FTG_LO, .CLAP_SLIP_FTG_HI] s t)) ∧
    (s.OpenReg who .CLAP_TAP_REF 0 → s.clap.tapInAt = none →
      Completes (.clapTapWrite who .ref v) s (fun t =>
        t.fld .CLAP_TAP_REF 0 8 0 = bits v 8 0 ∧ t.fld .CLAP_TAP_REF 0 24 16 = s.fld .CLAP_TAP_REF 0 24 16 ∧
        OnlyRegs [.CLAP_TAP_REF, .HIF_LINK] s t)) ∧
    (∀ e, tfind s.clap.slewAt 8 = some e → e ≤ s.now + dt → s.fld .CLAP_TAP_REF 0 24 16 < s.fld .CLAP_TAP_REF 0 8 0 →
      Completes (.tapSlewStep dt .ref) s (fun t =>
        t.fld .CLAP_TAP_REF 0 24 16 = s.fld .CLAP_TAP_REF 0 24 16 + 1 ∧ t.fld .CLAP_TAP_REF 0 8 0 = s.fld .CLAP_TAP_REF 0 8 0 ∧
        OnlyRegs [.CLAP_TAP_REF] s t)) ∧
    (∀ (e : Nat) (rt : BitVec 32) (sp : BitVec 16), s.clap.loopEnd = some e → e ≤ s.now + dt → rt.toNat ≤ 8000000 →
      Completes (.loopMeasDone dt (some rt) sp) s (fun t =>
        t.clap.loopEnd = none ∧ t.reg .CLAP_LOOP_RT = rt ∧ t.reg .CLAP_LOOP_SPREAD = sp.zeroExtend 32 ∧
        t.bit .CLAP_STATUS 0 9 = true ∧ t.bit .CLAP_STATUS 0 8 = false ∧
        OnlyRegs [.CLAP_STATUS, .CLAP_LOOP_RT, .CLAP_LOOP_SPREAD] s t))

/-- A staged word is kept for its requester; committing word 3 of an entry checks it and reports the result with the entry in SEG_STATUS, and stores nothing outside the entry's 16 bytes, and nothing at all when the check fails. A unit decides its successor at its decision point from a taken branch, a matured request or NEXT; at the end of a segment without successor or request it goes idle. A stream that is off counts every word written to it as dropped; a write that does not fit is held, and the oldest held write is appended once its words are free. It rests on choices and readings of the model: notes/assumptions/10.md, 30.md. (R68, R69, R70, R72, R76, R108) -/
def Obligations.ReelsSegmentsAndStreams : Prop :=
  ∀ (who : Requester) (n : Region) (e : Fin 4096) (v : Word) (dt : Nat) (s : State),
    (∀ w : Fin 3, s.Open who (segAddr n e w) →
      Completes (.segEntryStage who n e w v) s (fun t =>
        let b : Staging := tget {} t.play.staging (requesterIdx who)
        b.region = n.val ∧ b.entry = e.val ∧ (w = 0 → b.w0 = some v) ∧ (w = 1 → b.w1 = some v) ∧ (w = 2 → b.w2 = some v) ∧
        t = { s.throughOpen who (segAddr n e w) with play := t.play })) ∧
    (s.Open who (segAddr n e 3) →
      Completes (.segEntryCommit who n e v) s (fun t =>
        let u := s.throughOpen who (segAddr n e 3)
        let b := u.stagingFor who n e
        let code := segCheck (segDecode (b.w0.getD (u.segWord n e 0)) (b.w1.getD (u.segWord n e 1)) (b.w2.getD (u.segWord n e 2)) v)
        t.fld .SEG_STATUS n 7 0 = code ∧ t.fld .SEG_STATUS n 19 8 = e.val ∧ SameRegs [.SEG_STATUS] u t ∧
        (code = Code.ok → s.Inv → t.segWord n e 0 = BitVec.ofNat 32 (bits (b.w0.getD (u.segWord n e 0)) 21 0)) ∧
        (code ≠ Code.ok → SameMemory s t) ∧
        SameOutside (flat 3 (segAddr n e 0)) 16 s t)) ∧
    (∀ (g : Cluster) (u : UnitId) (p : Playing), (s.unit g u).playing = some p → p.decideAt ≤ s.now + dt → p.decided = false →
      (s.unit g u).branch = none → (s.unit g u).request = none →
      Completes (.spliceDecisionPoint dt g u) s (fun t =>
        (t.unit g u).playing = some { p with decided := true, succ := (if p.entry.nextEn then
          some { index := p.entry.next, entry := s.segEntry (g / 4) p.entry.next, src := .next } else none) } ∧
        OnlyRegs [] s t)) ∧
    (∀ (g : Cluster) (u : UnitId) (p : Playing), (s.unit g u).playing = some p → p.stop ≤ s.now + dt → p.decided = true →
      p.succ = none → (s.unit g u).request = none →
      Completes (.splice dt g u) s (fun t => (t.unit g u).playing = none ∧ OnlyRegs [] s t)) ∧
    (∀ (st : Eighth) (ws : List Word), s.hasRegion n = true → s.streamOn n st = false →
      Completes (.streamPortWrite dt n st ws) s (fun t =>
        t.regNat .STRM_DROP (8 * n + st) = min 0xFFFF_FFFF (s.regNat .STRM_DROP (8 * n + st) + ws.length) ∧
        t.play = s.play ∧ OnlyRegs [.STRM_DROP] s t)) ∧
    (∀ (st : Eighth) (ws : List Word), s.hasRegion n = true → s.streamOn n st = true → (s.stream n st).held ≠ [] →
      Completes (.streamPortWrite dt n st ws) s (fun t =>
        (t.stream n st).held = (s.stream n st).held ++ [ws] ∧ (t.stream n st).written = (s.stream n st).written ∧ OnlyRegs [] s t)) ∧
    (∀ (st : Eighth) (ws : List Word) (rest : List (List Word)), (s.stream n st).held = ws :: rest →
      (s.pass dt).streamFill n st + ws.length ≤ s.streamSize n st →
      Completes (.streamHeldWriteAppend dt n st) s (fun t =>
        (t.stream n st).held = rest ∧ (t.stream n st).written = (s.stream n st).written + ws.length ∧ SameRegs [.STRM_DROP] s t ∧
        SameOutside (flat 2 (n * 2 ^ 26 + s.fld .STRM_CFG (8 * n + st) 7 0 * 65536)) (4 * s.streamSize n st) s t))

/-- In a region whose engines are halted a valid STRM_CFG is stored and answered OK, an overlapping one RANGE. A shadow write of a set that is open is stored; of a pending set it is discarded with WR_REJ. A commit makes the set pending, CL_COMMIT every set it names. In a hand-over cycle after the cc of the commit the active copy of a voice, a baseband output or a tone takes its shadow copy, PENDING clears and GEN counts. A due word of a stream that has not arrived sets UNDERRUN and plays zeros. A rising marker routed to a TIO output drives its line 26 cc later. It rests on choices and readings of the model: notes/assumptions/29.md. (R75, R77, R78, R87, R88, R89, R90, R92) -/
def Obligations.ShadowedSetsAndMarkers : Prop :=
  ∀ (who : Requester) (g : Cluster) (v : Word) (dt : Nat) (s : State),
    (∀ (n : Region) (st : Eighth), s.OpenReg who .STRM_CFG (8 * n + st) →
      let u := s.throughOpen who (regAddr .STRM_CFG (8 * n + st))
      s.regionHalted n = true →
      Completes (.strmCfgWrite who n st v) s (fun t =>
        (streamCfgBad (s.streamCfgs n st (BitVec.ofNat 32 (bits v 15 0))) = true →
          t.fld .REEL_STATUS n 15 8 = Code.range ∧ t.reg .STRM_CFG (8 * n + st) = s.reg .STRM_CFG (8 * n + st)) ∧
        (streamCfgBad (s.streamCfgs n st (BitVec.ofNat 32 (bits v 15 0))) = false →
          t.fld .REEL_STATUS n 15 8 = Code.ok ∧ t.reg .STRM_CFG (8 * n + st) = BitVec.ofNat 32 (bits v 15 0)) ∧
        OnlyRegs [.STRM_CFG, .REEL_STATUS] u t)) ∧
    (∀ (x : Fin 16), s.OpenReg who .VOICE_AMP (16 * g + x) →
      let u := s.throughOpen who (regAddr .VOICE_AMP (16 * g + x))
      Completes (.shadowWrite who g (.voice x .amp) v) s (fun t =>
        (s.setOpen g x = true → t.fld .VOICE_AMP (16 * g + x) 15 0 = bits v 15 0 ∧ OnlyRegs [.VOICE_AMP] u t) ∧
        (s.setOpen g x = false → t.bit .VOICE_STATUS (16 * g + x) 1 = true ∧ OnlyRegs [.VOICE_STATUS] u t))) ∧
    (∀ (x : UnitId), s.OpenReg who (commitReg g x).1 (commitReg g x).2 →
      let u := s.throughOpen who (regAddr (commitReg g x).1 (commitReg g x).2)
      Completes (.voiceCommit who g x) s (fun t =>
        t.setPending g x = true ∧ (t.shadow g x).commitAt = some s.now ∧ OnlyRegs [(setStatus g x).1] u t)) ∧
    (s.OpenReg who .CL_COMMIT g →
      Completes (.clCommit who g v) s (fun t =>
        (∀ x : UnitId, bitOf v.toNat x = true → t.setPending g x = true) ∧
        OnlyRegs [.VOICE_STATUS, .BBO_STATUS] (s.throughOpen who (regAddr .CL_COMMIT g)) t)) ∧
    (∀ x : Fin 16, s.setPending g x = true → (s.shadow g x).pendAt ≠ some (s.now + dt) → (s.pass dt).handOverCycle g x = true →
      Completes (.handOver dt g ⟨x.val, by omega⟩) s (fun t =>
        t.setPending g x = false ∧ t.reg .VOICE_ACT_FTW_LO (16 * g + x) = s.reg .VOICE_FTW_LO (16 * g + x) ∧
        t.reg .VOICE_ACT_POFF (16 * g + x) = s.reg .VOICE_POFF (16 * g + x) ∧
        t.fld .VOICE_ACT_AMPSEG (16 * g + x) 15 0 = s.fld .VOICE_AMP (16 * g + x) 15 0 ∧
        t.fld .VOICE_STATUS (16 * g + x) 15 8 = (s.fld .VOICE_STATUS (16 * g + x) 15 8 + 1) % 256 ∧
        OnlyRegs [.VOICE_ACT_FTW_LO, .VOICE_ACT_FTW_HI, .VOICE_ACT_POFF, .VOICE_ACT_AMPSEG, .VOICE_STATUS] s t)) ∧
    (∀ b : Fin 4, s.setPending g (16 + b) = true → (s.shadow g (16 + b)).pendAt ≠ some (s.now + dt) → (s.pass dt).handOverCycle g (16 + b) = true →
      Completes (.handOver dt g ⟨16 + b.val, by omega⟩) s (fun t =>
        t.setPending g (16 + b) = false ∧ t.fld .BBO_ACT (4 * g + b) 15 0 = s.fld .BBO_GAIN (4 * g + b) 15 0 ∧
        t.fld .BBO_ACT (4 * g + b) 31 16 = s.fld .BBO_OFFSET (4 * g + b) 15 0 ∧
        OnlyAt [(.BBO_ACT, 4 * g + b), (.BBO_STATUS, 4 * g + b)] s t)) ∧
    (∀ x : Fin 16, s.setPending g (20 + x) = true → (s.shadow g (20 + x)).pendAt ≠ some (s.now + dt) → (s.pass dt).handOverCycle g (20 + x) = true →
      Completes (.handOver dt g ⟨20 + x.val, by omega⟩) s (fun t =>
        (∀ q ∈ [(Reg.TONE_FTW_LO, Reg.TONE_ACT_FTW_LO), (.TONE_FTW_HI, .TONE_ACT_FTW_HI), (.TONE_POFF, .TONE_ACT_POFF),
          (.TONE_WBASE, .TONE_ACT_WBASE), (.TONE_ROT, .TONE_ACT_ROT), (.TONE_TH0, .TONE_ACT_TH0), (.TONE_TH1, .TONE_ACT_TH1),
          (.TONE_TH2, .TONE_ACT_TH2)], t.reg q.2 (16 * g + x) = s.reg q.1 (16 * g + x)) ∧
        ((tget {} s.cal.disc (16 * g + x)).retry = none → t.setPending g (20 + x) = false ∧
          SameRegs [.TONE_ACT_FTW_LO, .TONE_ACT_FTW_HI, .TONE_ACT_POFF, .TONE_ACT_WBASE, .TONE_ACT_ROT, .TONE_ACT_TH0, .TONE_ACT_TH1,
            .TONE_ACT_TH2, (setStatus g (20 + x)).1] s t) ∧ SameMemory s t)) ∧
    (∀ (x : UnitId) (p : Playing), (s.unit g x).playing = some p → p.consumes = true → p.zero = false → s.now + dt < p.stop →
      (s.stream (g / 4) p.entry.sid).written <
        (s.stream (g / 4) p.entry.sid).read + min ((p.entry.loop + 1) * p.entry.len) ((s.now + dt + 1 - p.start) * fmtRate p.entry.fmt) →
      Completes (.underrun dt g x) s (fun t =>
        (t.unit g x).playing = some { p with zero := true, underran := true } ∧
        t.bit (unitStatus g x).1 (unitStatus g x).2 2 = true ∧ OnlyRegs [(unitStatus g x).1, .STRM_STATUS] s t)) ∧
    (∀ r : MarkerRoute, (s.pass dt).markerOn g r = true → s.fld (routeReg g r).1 (routeReg g r).2 6 5 = 1 →
      s.bit .TIO_CFG (s.fld (routeReg g r).1 (routeReg g r).2 14 8) 0 = true →
      Completes (.markerEdge dt g r) s (fun t =>
        t.out = s.out ++ [.tioMarker (s.fld (routeReg g r).1 (routeReg g r).2 14 8) (s.now + dt + 26)] ∧ OnlyRegs [] s t))

/-- When no engine named by SCR_START is refused, each runs from its PC_INIT, with program time T0 or, for T0 = 0, footage + 16, flags and counters at 0, and the result is OK; a start refused BUSY leaves the engine as it is. SCR_STOP halts the running engines it names with HSTAT OK and no source; with FLUSH it also empties the queues of their units and their auxiliary queues. A restart returns a generator to step 0 with DONE clear; its configuration is written only while every engine of the cluster is halted, and LOCKED is reported otherwise. It rests on choices and readings of the model: notes/assumptions/26.md, 28.md. (R17, R104, R113, R114) -/
def Obligations.ScriptControlCommands : Prop :=
  ∀ (who : Requester) (g : Cluster) (m : BitVec 8) (k : Fin 4) (r : SwgReg) (v : Word) (s : State),
    (s.OpenReg who .SCR_START g → (∀ e : Eighth, bitOf m.toNat e = true → s.startRefusal g e = none) →
      Completes (.scrStart who g m) s (fun t =>
        (∀ e : Eighth, bitOf m.toNat e = true →
          t.engineRuns g e = true ∧ t.pc g e = s.fld .SCR_PC_INIT (8 * g + e) 14 0 ∧ t.reg .SCR_FLAGS (8 * g + e) = 0 ∧
          t.progTime g e = (if s.pair .SCR_T0_LO .SCR_T0_HI (8 * g + e) = 0 then s.ftg + 16
            else s.pair .SCR_T0_LO .SCR_T0_HI (8 * g + e)) % 2 ^ 64) ∧
        (∀ e : Eighth, bitOf m.toNat e = false → t.engineRuns g e = s.engineRuns g e ∧ t.pc g e = s.pc g e) ∧
        t.fld .SCR_CL_STATUS g 23 16 = Code.ok ∧ SameMemory s t)) ∧
    (s.OpenReg who .SCR_START g → s.epochRun = false →
      Completes (.scrStart who g m) s (fun t =>
        (m ≠ 0 → t.fld .SCR_CL_STATUS g 23 16 = Code.busy) ∧
        OnlyAt [(.SCR_CL_STATUS, g)] (s.throughOpen who (regAddr .SCR_START g)) t)) ∧
    (s.OpenReg who .SCR_STOP g →
      Completes (.scrStop who g m) s (fun t =>
        (∀ e : Eighth, bitOf m.toNat e = true → t.engineRuns g e = false ∧ (t.eng g e).aux = (s.eng g e).aux ∧
          (s.engineRuns g e = true → t.fld .SCR_STATUS (8 * g + e) 15 8 = Code.ok)) ∧
        (∀ e : Eighth, bitOf m.toNat e = false → t.engineRuns g e = s.engineRuns g e) ∧
        OnlyRegs [.SCR_STATUS, .SCR_PC] (s.throughOpen who (regAddr .SCR_STOP g)) t)) ∧
    (s.OpenReg who .SCR_STOP g →
      Completes (.scrStopFlush who g m) s (fun t =>
        (∀ e : Eighth, bitOf m.toNat e = true → t.engineRuns g e = false ∧ (t.eng g e).aux = [] ∧
          ∀ u : UnitId, s.unitOwner g u = e → (t.unit g u).queue = []) ∧
        OnlyRegs [.SCR_STATUS, .SCR_PC] (s.throughOpen who (regAddr .SCR_STOP g)) t)) ∧
    (s.OpenReg who .SWG_CMD (4 * g + k) →
      Completes (.swgRestart who g k) s (fun t =>
        (t.sweep g k).step = 0 ∧ t.bit .SWG_STATUS (4 * g + k) 0 = false ∧
        OnlyAt [(.SWG_STATUS, 4 * g + k)] (s.throughOpen who (regAddr .SWG_CMD (4 * g + k))) t)) ∧
    (s.OpenReg who (swgReg r).1 (4 * g + k) → s.clusterHalted g = true →
      Completes (.swgConfigWrite who g k r v) s (fun t =>
        t.reg (swgReg r).1 (4 * g + k) = v &&& BitVec.ofNat 32 (swgReg r).2 ∧ (t.sweep g k).step = 0 ∧
        t.fld .SCR_CL_STATUS g 23 16 = Code.ok ∧
        OnlyAt [((swgReg r).1, 4 * g + k), (.SWG_STATUS, 4 * g + k), (.SCR_CL_STATUS, g.val)]
          (s.throughOpen who (regAddr (swgReg r).1 (4 * g + k))) t)) ∧
    (s.OpenReg who (swgReg r).1 (4 * g + k) → s.clusterHalted g = false →
      s.reg (swgReg r).1 (4 * g + k) ≠ v &&& BitVec.ofNat 32 (swgReg r).2 →
      Completes (.swgConfigWrite who g k r v) s (fun t =>
        t.fld .SCR_CL_STATUS g 23 16 = Code.locked ∧
        OnlyAt [(.SCR_CL_STATUS, g.val)] (s.throughOpen who (regAddr (swgReg r).1 (4 * g + k))) t))

/-- An engine that issues NOP only advances its PC. LDI writes IMM to S[DST]. ADD and SUB write the 32-bit sum or difference of S[SA] and IMM or S[SB] and set N, Z, C and V of it; CMP only sets the flags of the difference. WAIT adds X to program time, WAITU moves it forward to its target or counts LATE when that has passed, CLAP moves it to the next clapper check. SWP writes the generator's value and sets Z on the last of its sequence. PC advances by 1; nothing else of the registers changes but SCR_STATUS, and no memory. It rests on choices and readings of the model: notes/assumptions/10.md. (R98, R100, R105, R106, R113, R114) -/
def Obligations.ScriptArithmetic : Prop :=
  ∀ (dt : Nat) (g : Cluster) (e : Eighth) (w : BitVec 64) (s : State),
    let i := 8 * g.val + e.val
    let p := s.pass dt
    let pcs := (s.pc g e + 1) % 32768
    let b : Word := if SI.bit47 w then BitVec.ofNat 32 (SI.imm32 w) else s.sreg g e (SI.sb w)
    let a : Word := s.sreg g e (SI.sa w)
    (p.ScrReady g e 0x00 w → Completes (.nop dt g e) s (fun t =>
      t.pc g e = pcs ∧ (t.eng g e).nextCc = s.now + dt + 1 ∧ OnlyAt [(.SCR_PC, i), (.SCR_STATUS, i)] s t)) ∧
    (p.ScrReady g e 0x20 w → Completes (.ldi dt g e) s (fun t =>
      t.sreg g e (SI.dst w) = BitVec.ofNat 32 (SI.imm32 w) ∧ t.pc g e = pcs ∧
      OnlyAt [(.SCR_S, 16 * i + SI.dst w), (.SCR_PC, i), (.SCR_STATUS, i)] s t)) ∧
    (p.ScrReady g e 0x21 w → Completes (.add dt g e) s (fun t =>
      t.sreg g e (SI.dst w) = a + b ∧ t.pc g e = pcs ∧
      t.bit .SCR_FLAGS i 3 = (a + b).msb ∧ t.bit .SCR_FLAGS i 2 = decide (a + b = 0) ∧
      t.bit .SCR_FLAGS i 1 = decide (2 ^ 32 ≤ a.toNat + b.toNat) ∧
      t.bit .SCR_FLAGS i 0 = (decide (a.msb = b.msb) && decide ((a + b).msb ≠ a.msb)) ∧
      t.fld .SCR_FLAGS i 31 4 = s.fld .SCR_FLAGS i 31 4 ∧
      OnlyAt [(.SCR_S, 16 * i + SI.dst w), (.SCR_FLAGS, i), (.SCR_PC, i), (.SCR_STATUS, i)] s t)) ∧
    (p.ScrReady g e 0x22 w → Completes (.sub dt g e) s (fun t =>
      t.sreg g e (SI.dst w) = a - b ∧ t.pc g e = pcs ∧
      t.bit .SCR_FLAGS i 3 = (a - b).msb ∧ t.bit .SCR_FLAGS i 2 = decide (a = b) ∧
      t.bit .SCR_FLAGS i 1 = decide (b.toNat ≤ a.toNat) ∧
      t.bit .SCR_FLAGS i 0 = (decide (a.msb ≠ b.msb) && decide ((a - b).msb ≠ a.msb)) ∧
      OnlyAt [(.SCR_S, 16 * i + SI.dst w), (.SCR_FLAGS, i), (.SCR_PC, i), (.SCR_STATUS, i)] s t)) ∧
    (p.ScrReady g e 0x23 w → Completes (.cmp dt g e) s (fun t =>
      t.pc g e = pcs ∧ t.bit .SCR_FLAGS i 3 = (a - b).msb ∧ t.bit .SCR_FLAGS i 2 = decide (a = b) ∧
      t.bit .SCR_FLAGS i 1 = decide (b.toNat ≤ a.toNat) ∧
      t.bit .SCR_FLAGS i 0 = (decide (a.msb ≠ b.msb) && decide ((a - b).msb ≠ a.msb)) ∧
      OnlyAt [(.SCR_FLAGS, i), (.SCR_PC, i), (.SCR_STATUS, i)] s t)) ∧
    (p.ScrReady g e 0x04 w → Completes (.wait dt g e) s (fun t =>
      t.progTime g e = (s.progTime g e + SI.imm32 w + (if SI.reg w then a.toNat else 0)) % 2 ^ 64 ∧ t.pc g e = pcs ∧
      OnlyAt [(.SCR_T_LO, i), (.SCR_T_HI, i), (.SCR_PC, i), (.SCR_STATUS, i)] s t)) ∧
    (p.ScrReady g e 0x05 w → SI.sa w % 2 = 0 → Completes (.waitu dt g e) s (fun t =>
      let x := (s.sPair g e (SI.sa w) + SI.imm32 w) % 2 ^ 64
      t.pc g e = pcs ∧ (s.progTime g e ≤ x → t.progTime g e = x) ∧
      (x < s.progTime g e → t.progTime g e = s.progTime g e ∧ t.bit .SCR_STATUS i 2 = true ∧
        t.regNat .SCR_LATE_CNT i = min 0xFFFF_FFFF (s.regNat .SCR_LATE_CNT i + 1)) ∧
      OnlyAt [(.SCR_T_LO, i), (.SCR_T_HI, i), (.SCR_PC, i), (.SCR_STATUS, i), (.SCR_LATE_CNT, i)] s t)) ∧
    (p.ScrReady g e 0x06 w → Completes (.clap dt g e) s (fun t =>
      t.progTime g e = (max 1 ((s.progTime g e + 2 ^ 20 - 1) / 2 ^ 20) * 2 ^ 20) % 2 ^ 64 ∧ t.pc g e = pcs ∧
      OnlyAt [(.SCR_T_LO, i), (.SCR_T_HI, i), (.SCR_PC, i), (.SCR_STATUS, i)] s t)) ∧
    (p.ScrReady g e 0x18 w → (s.swgCfg g (SI.gen w)).valid = true → s.bit .SWG_CTRL (4 * g + SI.gen w) 3 = false →
      Completes (.swp dt g e) s (fun t =>
        t.sreg g e (SI.dst w) = BitVec.ofNat 32 (s.swgValue g (SI.gen w)) ∧ t.pc g e = pcs ∧
        t.bit .SCR_FLAGS i 2 = decide ((s.sweep g (SI.gen w)).step + 1 = (s.swgCfg g (SI.gen w)).length) ∧
        ((s.sweep g (SI.gen w)).step + 1 < (s.swgCfg g (SI.gen w)).length →
          (t.sweep g (SI.gen w)).step = (s.sweep g (SI.gen w)).step + 1) ∧
        OnlyAt [(.SCR_S, 16 * i + SI.dst w), (.SCR_FLAGS, i), (.SCR_PC, i), (.SCR_STATUS, i), (.SWG_STATUS, 4 * g + SI.gen w)] s t))

/-- BR goes to TGT, BRC goes there when its condition on N, Z, C, V holds and on to the next instruction otherwise. LOOP with a count pushes its body and count, with count 0 goes past TGT; ENDL repeats or leaves the innermost loop; CALL pushes the return address and RET pops it. A fifth nested LOOP or CALL, an ENDL or RET with nothing to close, and a condition above 7 halt the engine with RANGE, the PC at the instruction. HALT stops it past the instruction with its CODE in HCODE and HALTED set. It rests on choices and readings of the model: notes/assumptions/27.md. (R36, R104, R105, R106) -/
def Obligations.ScriptFlowControl : Prop :=
  ∀ (dt : Nat) (g : Cluster) (e : Eighth) (w : BitVec 64) (s : State),
    let i := 8 * g.val + e.val
    let p := s.pass dt
    let pcs := (s.pc g e + 1) % 32768
    let x := s.eng g e
    let n := if SI.reg w then (s.sreg g e (SI.sa w)).toNat else SI.loopImm w
    (p.ScrReady g e 0x10 w → Completes (.br dt g e) s (fun t =>
      t.pc g e = SI.tgt w ∧ OnlyAt [(.SCR_PC, i), (.SCR_STATUS, i)] s t)) ∧
    (p.ScrReady g e 0x13 w → SI.brcCond w ≤ 7 → Completes (.brc dt g e) s (fun t =>
      t.pc g e = (if brcHolds (SI.brcCond w) (s.fld .SCR_FLAGS i 3 0) then SI.tgt w else pcs) ∧
      OnlyAt [(.SCR_PC, i), (.SCR_STATUS, i)] s t)) ∧
    (p.ScrReady g e 0x14 w → n = 0 → Completes (.loop dt g e) s (fun t =>
      t.pc g e = (SI.tgt w + 1) % 32768 ∧ (t.eng g e).loops = x.loops ∧ OnlyAt [(.SCR_PC, i), (.SCR_STATUS, i)] s t)) ∧
    (p.ScrReady g e 0x14 w → n ≠ 0 → x.loops.length < 4 → Completes (.loop dt g e) s (fun t =>
      t.pc g e = pcs ∧ (t.eng g e).loops = (pcs, n - 1) :: x.loops ∧ OnlyAt [(.SCR_PC, i), (.SCR_STATUS, i)] s t)) ∧
    (∀ start rep rest, p.ScrReady g e 0x15 w → x.loops = (start, rep) :: rest → Completes (.endl dt g e) s (fun t =>
      (0 < rep → t.pc g e = start % 32768 ∧ (t.eng g e).loops = (start, rep - 1) :: rest) ∧
      (rep = 0 → t.pc g e = pcs ∧ (t.eng g e).loops = rest) ∧ OnlyAt [(.SCR_PC, i), (.SCR_STATUS, i)] s t)) ∧
    (p.ScrReady g e 0x16 w → x.calls.length < 4 → Completes (.call dt g e) s (fun t =>
      t.pc g e = SI.tgt w ∧ (t.eng g e).calls = pcs :: x.calls ∧ OnlyAt [(.SCR_PC, i), (.SCR_STATUS, i)] s t)) ∧
    (∀ a rest, p.ScrReady g e 0x17 w → x.calls = a :: rest → Completes (.ret dt g e) s (fun t =>
      t.pc g e = a % 32768 ∧ (t.eng g e).calls = rest ∧ OnlyAt [(.SCR_PC, i), (.SCR_STATUS, i)] s t)) ∧
    (p.ScrReady g e 0x01 w → Completes (.halt dt g e) s (fun t =>
      t.engineRuns g e = false ∧ t.pc g e = pcs ∧ t.fld .SCR_STATUS i 23 16 = SI.code w ∧ t.fld .SCR_STATUS i 15 8 = Code.ok ∧
      t.bit .SCR_CL_STATUS g (8 + e) = true ∧ OnlyAt [(.SCR_PC, i), (.SCR_STATUS, i), (.SCR_CL_STATUS, g.val)] s t)) ∧
    (∀ c : Instr, (p.ScrReady g e 0x17 w ∧ x.calls = [] ∧ c = .ret dt g e) ∨ (p.ScrReady g e 0x15 w ∧ x.loops = [] ∧ c = .endl dt g e) ∨
        (p.ScrReady g e 0x16 w ∧ 4 ≤ x.calls.length ∧ c = .call dt g e) ∨
        (p.ScrReady g e 0x13 w ∧ 7 < SI.brcCond w ∧ c = .brc dt g e) →
      Completes c s (fun t =>
        t.engineRuns g e = false ∧ t.pc g e = s.pc g e ∧ t.fld .SCR_STATUS i 15 8 = Code.range ∧ t.bit .SCR_STATUS i 1 = true ∧
        t.bit .SCR_CL_STATUS g (8 + e) = true ∧ OnlyAt [(.SCR_STATUS, i), (.SCR_CL_STATUS, g.val)] s t))

/-- When the engine owns the unit, the queue has room and program time T is at least 2 cc ahead and shared by fewer than four entries: PLAY places a segment start, or with SPL a splice request, of the entry it names at T; PLAYD the same and adds the duration of the entry to T; SETF, SETP, ROTP and SETA their writes; COMMIT a commit in every queue it names; ACQ and MARK their entries in the auxiliary queue. PC advances by 1. It rests on choices and readings of the model: notes/assumptions/10.md. (R70, R99, R101, R105, R106, R112) -/
def Obligations.ScriptTimedInstructions : Prop :=
  ∀ (dt : Nat) (g : Cluster) (e : Eighth) (w : BitVec 64) (s : State),
    let i := 8 * g.val + e.val
    let p := s.pass dt
    let pcs := (s.pc g e + 1) % 32768
    let u := SI.unit w
    let T := s.progTime g e
    let put (a : UnitAction) (t : State) : Prop :=
      (t.unit g u).queue = queueInsert (s.unit g u).queue T a ∧ t.pc g e = pcs ∧ OnlyAt [(.SCR_PC, i), (.SCR_STATUS, i)] s t
    (p.ScrReady g e 0x02 w → u < 20 → p.QueueTakes g e u → Completes (.play dt g e) s (fun t =>
      put (if SI.bit47 w then .request (s.playIndex g e w) else .play (s.playIndex g e w)) t)) ∧
    (p.ScrReady g e 0x03 w → u < 20 → SI.bit47 w = false → p.QueueTakes g e u → Completes (.playd dt g e) s (fun t =>
      (t.unit g u).queue = queueInsert (s.unit g u).queue T (.play (s.playIndex g e w)) ∧ t.pc g e = pcs ∧
      t.progTime g e = (T + (s.segEntry (g / 4) (p.entryIndex g u (s.playIndex g e w))).duration) % 2 ^ 64 ∧
      OnlyAt [(.SCR_PC, i), (.SCR_STATUS, i), (.SCR_T_LO, i), (.SCR_T_HI, i)] s t)) ∧
    (p.ScrReady g e 0x08 w → u < 16 → SI.sa w % 2 = 0 → p.QueueTakes g e u → Completes (.setf dt g e) s (fun t =>
      put (.setFtw (BitVec.ofNat 48 (SI.imm48 w + (if SI.reg w then s.sPair g e (SI.sa w) else 0)))) t)) ∧
    (p.ScrReady g e 0x09 w → u < 16 → p.QueueTakes g e u → Completes (.setp dt g e) s (fun t =>
      put (.setPoff (BitVec.ofNat 32 (s.opX g e w))) t)) ∧
    (p.ScrReady g e 0x0A w → u < 16 → p.QueueTakes g e u → Completes (.rotp dt g e) s (fun t =>
      put (.addPoff (BitVec.ofNat 32 (s.opX g e w))) t)) ∧
    (p.ScrReady g e 0x0B w → u < 16 → SI.bit47 w = false → p.QueueTakes g e u → Completes (.seta dt g e) s (fun t =>
      put (.setAmp (BitVec.ofNat 16 (SI.imm16 w + s.regTerm g e w))) t)) ∧
    (p.ScrReady g e 0x0C w → (∀ v : UnitId, bitOf (SI.mask w) v = true → p.QueueTakes g e v) → Completes (.commit dt g e) s (fun t =>
      (∀ v : UnitId, (t.unit g v).queue = if bitOf (SI.mask w) v then queueInsert (s.unit g v).queue T .commit else (s.unit g v).queue) ∧
      t.pc g e = pcs ∧ OnlyAt [(.SCR_PC, i), (.SCR_STATUS, i)] s t)) ∧
    (p.ScrReady g e 0x0D w → SI.tones w ≠ 0 → (∀ x : Fin 16, bitOf (SI.tones w) x = true → s.toneOwner g x = e) → p.AuxTakes g e →
      Completes (.acq dt g e) s (fun t =>
        (t.eng g e).aux = queueInsert (s.eng g e).aux T (.acq (BitVec.ofNat 16 (SI.tones w))) ∧ t.pc g e = pcs ∧
        OnlyAt [(.SCR_PC, i), (.SCR_STATUS, i)] s t)) ∧
    (p.ScrReady g e 0x0E w → (SI.markL w = true → SI.markCh w ≤ 31) → p.AuxTakes g e →
      Completes (.mark dt g e) s (fun t =>
        (t.eng g e).aux = queueInsert (s.eng g e).aux T (.mark (chanOf (g / 4) (SI.markCh w) (SI.markL w))
          (if s.bit .SCR_FLAGS i 19 then s.fld .SCR_FLAGS i 18 16 + 1 else 0)) ∧ t.pc g e = pcs ∧
        OnlyAt [(.SCR_PC, i), (.SCR_STATUS, i)] s t))

/-- A BRD or BRE that issues with its decision point D = T − DPL not passed makes the engine wait with its word, T and D. At D a BRD whose slot holds a valid decision goes to TGT when its condition holds and on otherwise; a BRE whose latch is set consumes it, takes its lineage and goes by POL. Behind its decision point BRD uses the slot default, sets LATE and counts a substitution. A play that waited for a queue entry is placed once there is room. It rests on choices and readings of the model: notes/assumptions/10.md. (R107, R108, R110, R111, R112) -/
def Obligations.ScriptBranchesOnDecisions : Prop :=
  ∀ (dt : Nat) (g : Cluster) (e : Eighth) (w : BitVec 64) (s : State),
    let i := 8 * g.val + e.val
    let p := s.pass dt
    let pcs := (s.pc g e + 1) % 32768
    let T := s.progTime g e
    let dpl := s.fld .SCR_CFG i 6 0
    let fits : Prop := SI.unit w = 31 ∨ (SI.unit w < 20 ∧ s.unitOwner g (SI.unit w) = e)
    (p.ScrReady g e 0x11 w → SI.slot w ≤ 1279 → SI.brdCond w ≤ 4 → fits → p.ftg + dpl ≤ T → Completes (.brd dt g e) s (fun t =>
      (t.eng g e).wait = some { word := w, t := T, d := T - dpl } ∧ t.bit .SCR_STATUS i 4 = true ∧ t.pc g e = s.pc g e ∧
      OnlyAt [(.SCR_STATUS, i)] s t)) ∧
    (p.ScrReady g e 0x11 w → SI.slot w ≤ 1279 → SI.brdCond w ≤ 4 → fits → T < p.ftg + dpl → Completes (.brd dt g e) s (fun t =>
      t.pc g e = (if brdHolds (SI.brdCond w) (p.slotDefault (SI.slot w)) (SI.k w) true then SI.tgt w else pcs) ∧
      t.bit .SCR_STATUS i 2 = true ∧
      t.regNat .SCR_SUBST_CNT i = min 0xFFFF_FFFF (s.regNat .SCR_SUBST_CNT i + 1) ∧
      OnlyAt [(.SCR_STATUS, i), (.SCR_PC, i), (.SCR_LATE_CNT, i), (.SCR_SUBST_CNT, i)] s t)) ∧
    (p.ScrReady g e 0x12 w → fits → p.ftg + dpl ≤ T → Completes (.bre dt g e) s (fun t =>
      (t.eng g e).wait = some { word := w, t := T, d := T - dpl } ∧ t.pc g e = s.pc g e ∧ OnlyAt [(.SCR_STATUS, i)] s t)) ∧
    (∀ (b : BranchWait) (st : Nat), (s.eng g e).wait = some b → b.d ≤ p.ftg → SI.op b.word = 0x11 → SI.unit b.word = 31 →
      p.decisionState g (SI.slot b.word) b.d (SI.age b.word) = some st →
      Completes (.branchDecisionPoint dt g e) s (fun t =>
        t.pc g e = (if brdHolds (SI.brdCond b.word) st (SI.k b.word) false then SI.tgt b.word else pcs) ∧
        (t.eng g e).wait = none ∧ OnlyAt [(.SCR_STATUS, i), (.SCR_PC, i)] s t)) ∧
    (∀ (b : BranchWait) (tb : TaskBit), (s.eng g e).wait = some b → b.d ≤ p.ftg → SI.op b.word ≠ 0x11 → SI.unit b.word = 31 →
      p.taskBit (scriptInput g e (SI.latch b.word)) = some tb →
      Completes (.branchDecisionPoint dt g e) s (fun t =>
        t.pc g e = (if SI.pol b.word then pcs else SI.tgt b.word) ∧ (t.eng g e).wait = none ∧
        t.bit .SCR_FLAGS i 19 = true ∧ t.fld .SCR_FLAGS i 18 16 = tb.lineage % 8 ∧
        t.taskBit (scriptInput g e (SI.latch b.word)) = none ∧
        OnlyAt [(.SCR_STATUS, i), (.SCR_PC, i), (.SCR_FLAGS, i)] s t)) ∧
    (∀ u seg T', (s.eng g e).queued = some (u, seg, T') → (s.unit g u).queue.length < 64 → p.ftg + 2 ≤ T' →
      sameMaturity (s.unit g u).queue T' < 4 →
      Completes (.queuedPlayPlace dt g e) s (fun t =>
        (t.eng g e).queued = none ∧ (t.unit g u).queue = queueInsert (s.unit g u).queue T' (.play seg) ∧
        OnlyAt [(.SCR_STATUS, i)] s t))

/-- A matured PLAY entry leaves its queue and starts the segment at entry SEG plus SEGBASE, cutting one that plays; a SETA entry of an open voice writes AMP; a COMMIT entry makes its set pending; an ACQ entry offers the window to its tones: a tone that is not busy, in a cluster outside array mode, opens a window of its length; a MARK entry leaves the auxiliary queue and its event is emitted with its lineage; a splice request of a playing unit without one becomes its pending request. It rests on choices and readings of the model: notes/assumptions/10.md. (R70, R73, R87, R88, R102, R109, R112, R126) -/
def Obligations.ScriptEntriesMature : Prop :=
  ∀ (dt : Nat) (g : Cluster) (u : UnitId) (e : Eighth) (m seg : Nat) (s : State),
    let p := s.pass dt
    s.epochRun = true →
    (∀ rest, (s.unit g u).queue = (m, .play seg) :: rest → m ≤ p.ftg → (s.segEntry (g / 4) (p.entryIndex g u seg)).len ≠ 0 →
      Completes (.playEntryMature dt g u) s (fun t =>
        (t.unit g u).queue = rest ∧ ∃ q, (t.unit g u).playing = some q ∧ q.index = p.entryIndex g u seg ∧ q.start = s.now + dt ∧
          q.entry = s.segEntry (g / 4) (p.entryIndex g u seg) ∧ q.stop = s.now + dt + q.entry.duration ∧ SameMemory s t)) ∧
    (∀ (v : BitVec 16) rest, u.val < 16 → (s.unit g u).queue = (m, .setAmp v) :: rest → m ≤ p.ftg → p.setOpen g u = true →
      Completes (.shadowWriteEntryMature dt g u) s (fun t =>
        (t.unit g u).queue = rest ∧ t.fld .VOICE_AMP (16 * g + u) 15 0 = v.toNat ∧ OnlyAt [(.VOICE_AMP, 16 * g + u)] s t)) ∧
    (∀ (v : BitVec 16) rest, u.val < 16 → (s.unit g u).queue = (m, .setAmp v) :: rest → m ≤ p.ftg → p.setOpen g u = false →
      Completes (.shadowWriteEntryMature dt g u) s (fun t =>
        (t.unit g u).queue = rest ∧ t.bit .VOICE_STATUS (16 * g + u) 1 = true ∧ OnlyAt [(.VOICE_STATUS, 16 * g + u)] s t)) ∧
    (∀ rest, (s.unit g u).queue = (m, .commit) :: rest → m ≤ p.ftg →
      Completes (.commitEntryMature dt g u) s (fun t =>
        (t.unit g u).queue = rest ∧ t.setPending g u = true ∧ (t.shadow g u).scriptCommitAt = some (s.now + dt) ∧
        OnlyAt [setStatus g u] s t)) ∧
    (∀ (x : Fin 16) rest, (s.eng g e).aux = (m, .acq (BitVec.ofNat 16 (2 ^ x.val))) :: rest → m ≤ p.ftg → s.bit .RFI_CTRL g 0 = false →
      s.bit .TONE_CFG (16 * g + x) 0 = true → s.bit .TONE_CFG (16 * g + x) 1 = false → p.toneBusy g x m = false →
      tfind s.rd.offered (16 * g + x) ≠ some m → s.setPending g (20 + x) = false →
      Completes (.acqEntryMature dt g e) s (fun t =>
        (t.eng g e).aux = rest ∧ ∃ w : ToneWindow, t.windows g x = s.windows g x ++ [w] ∧
          w.m0 = (m + s.fld .TONE_WOFF (16 * g + x) 19 0 + 1) / 2 ∧ w.n = s.fld .TONE_WLEN (16 * g + x) 23 0 + 1 ∧ OnlyRegs [] s t)) ∧
    (∀ c lin rest, (s.eng g e).aux = (m, .mark c lin) :: rest → m ≤ p.ftg →
      Completes (.markEntryMature dt g e) s (fun t =>
        (t.eng g e).aux = rest ∧ OnlyRegs [.EV_LOOP, .LEV_LOOP] s t ∧
        (lin < 8 → p.islandAwake (.cluster g) = true → p.pathLocked ((Island.cluster g).pathUp (chanGlobal c)) = true →
          t.router.emitted = s.router.emitted ++ [{ chan := c, cc := s.now + dt + (if c < 128 then 8 else 2), lineage := lin, loose := p.pathFaulted ((Island.cluster g).pathUp (chanGlobal c)) }]))) ∧
    (∀ q rest, (s.unit g u).queue = (m, .request seg) :: rest → m ≤ p.ftg → (s.unit g u).playing = some q → (s.unit g u).request = none →
      s.now + dt ≤ q.decideAt →
      Completes (.spliceRequestMature dt g u) s (fun t =>
        (t.unit g u).queue = rest ∧ (t.unit g u).request = some (seg, m) ∧ (t.unit g u).playing = some q ∧ OnlyRegs [] s t))

/-- TONE_COMMIT makes every tone set it names pending. The oldest window of a tone, 28 cc after its last sample, gives its result: TONE_RES_I and _Q hold the accumulators shifted right by ISHIFT, modulo 2^32, TONE_RES_FTG the footage of its first sample, and the window is gone. A sample that takes a comparator over its threshold sets act, one that takes it back below clears it. RFI_CTRL is written only while the engines of the cluster are halted. A tracker whose block ends stores its means; a dailies block left open is padded FLUSH × 64 cc after its record. It rests on choices and readings of the model: notes/assumptions/10.md, 32.md, 47.md, 49.md, 50.md. (R121, R124, R127, R128, R129, R134, R136, R138, R140, R201) -/
def Obligations.ReadoutReceiversComplete : Prop :=
  ∀ (who : Requester) (dt : Nat) (g : Cluster) (s : State),
    (∀ m : BitVec 16, s.OpenReg who .TONE_COMMIT g →
      Completes (.toneCommit who g m) s (fun t =>
        (∀ x : Fin 16, bitOf m.toNat x = true → t.setPending g (20 + x) = true) ∧
        OnlyRegs [.TONE_STATUS] (s.throughOpen who (regAddr .TONE_COMMIT g)) t)) ∧
    (∀ (x : Fin 16) (w : ToneWindow) rest zs ovr, s.windows g x = w :: rest → s.epochRun = true → 2 * w.m1 + 28 ≤ (s.pass dt).ftg →
      Completes (.toneResult dt g x zs ovr) s (fun t =>
        let acc := ((s.pass dt).setWindows g x rest).integrate g w zs
        t.reg .TONE_RES_I (16 * g + x) = BitVec.ofInt 32 (acc.1 / (2 ^ w.ishift : Nat)) ∧
        t.reg .TONE_RES_Q (16 * g + x) = BitVec.ofInt 32 (acc.2 / (2 ^ w.ishift : Nat)) ∧
        t.pair .TONE_RES_FTG_LO .TONE_RES_FTG_HI (16 * g + x) = 2 * w.m0 % 2 ^ 64 ∧ t.windows g x = rest ∧
        OnlyRegs [.TONE_RES_I, .TONE_RES_Q, .TONE_RES_U, .TONE_RES_FTG_LO, .TONE_RES_FTG_HI, .TONE_STATUS, .RFI_STATUS, .RFI_OVR_CNT,
          .FAB_RG_UP_CNT, .DLY_RSEQ, .DLY_STATUS, .DLY_DROP, .CAL_HIST_DROP] s t)) ∧
    (∀ (n : Region) (c : Fin 4) (last : Nat) (z : Int), (s.pass dt).streamReady (.raw n c) last = true →
      (s.cmp (.raw n c)).act = false → s.bit .TK_RAWCMP_CTRL (4 * n + c) 1 = false →
      signed 16 (s.fld .TK_RAWCMP_TH (4 * n + c) 15 0) ≤ z →
      Completes (.comparatorEntry dt (.raw n c) last [(z, 0)]) s (fun t => (t.cmp (.raw n c)).act = true ∧ SameMemory s t)) ∧
    (∀ (n : Region) (c : Fin 4) (last : Nat) (z : Int), (s.pass dt).streamReady (.raw n c) last = true →
      (s.cmp (.raw n c)).act = true → s.bit .TK_RAWCMP_CTRL (4 * n + c) 1 = false →
      z < signed 16 (s.fld .TK_RAWCMP_TH (4 * n + c) 15 0) - s.fld .TK_RAWCMP_TH (4 * n + c) 31 16 →
      Completes (.comparatorActClear dt (.raw n c) last [(z, 0)]) s (fun t => (t.cmp (.raw n c)).act = false ∧ SameMemory s t)) ∧
    (∀ v : Word, s.OpenReg who .RFI_CTRL g → s.feat 1 = true →
      Completes (.rfiModeWrite who g v) s (fun t =>
        (s.clusterHalted g = true → t.fld .RFI_CTRL g 1 0 = bits v 1 0 ∧ t.fld .RFI_STATUS g 15 8 = Code.ok ∧
          (bits v 0 0 ≠ s.fld .RFI_CTRL g 0 0 → ∀ x : Fin 16, t.windows g x = [])) ∧
        (s.clusterHalted g = false → t.reg .RFI_CTRL g = s.reg .RFI_CTRL g ∧
          t.fld .RFI_STATUS g 15 8 = if bits v 1 0 = s.fld .RFI_CTRL g 1 0 then Code.ok else Code.locked) ∧ SameMemory s t)) ∧
    (∀ (k : Fin 256) (last : Nat) (z : Int × Int), s.epochRun = true → s.regionAwake (g / 4) = true → (s.pass dt).regionAwake (g / 4) = true →
      s.bit .RFI_CTRL g 0 = true → s.bit .TRK_CTRL (256 * g + k) 0 = true → 256 * last + 1047 ≤ (s.pass dt).ftg →
      s.outsideZone g k = false → s.fld .TRK_CTRL (256 * g + k) 5 2 ≤ 4 → (s.cmp (.tracker g k)).blockN = 15 →
      Completes (.trackerRecord dt g k last [z] ⟨0, false⟩) s (fun t =>
        t.reg .TRK_MEAN_I (256 * g + k) = BitVec.ofInt 32 (((s.cmp (.tracker g k)).sumI + z.1) / 16) ∧
        t.reg .TRK_MEAN_Q (256 * g + k) = BitVec.ofInt 32 (((s.cmp (.tracker g k)).sumQ + z.2) / 16) ∧
        (t.cmp (.tracker g k)).blockN = 0 ∧ SameMemory s t)) ∧
    (∀ (n : Region) h f, (s.dailies n).half = some (h, f) → f + 64 * s.fld .DLY_CTRL n 31 16 ≤ s.now + dt →
      Completes (.dailiesPad dt n) s (fun t =>
        (t.dailies n).half = none ∧ (t.dailies n).blocks = (s.dailies n).blocks ++ [h ++ padRecord] ∧ OnlyRegs [] s t))

/-- A word that reaches the view of an awake cluster in this cc replaces what the view held, with the footage, and one with LATE sets the flag and counts. A word the hub reads is stored in FAB_SLOT and waits for its phase; a waiting word whose cc has come is sent and counted. A write of a default before the first epoch is stored and in force from the next cc; during an epoch it waits for a check with DFLT_PEND set. FAB_VIEW_SEL latches the word and footage of the slot it selects. It rests on choices and readings of the model: notes/assumptions/10.md, 87.md. (R186, R187, R188, R189, R190, R191, R192, R193, R197) -/
def Obligations.FabricWordsTravel : Prop :=
  ∀ (who : Requester) (dt : Nat) (g : Cluster) (slot : Fin 1280) (v : Word) (s : State),
    let p := s.pass dt
    (∀ w, p.arrivingWord g slot = some w → s.epochRun = true → p.regionAwake (g / 4) = true → tfind s.fab.clearedAt g ≠ some (s.now + dt) →
      Completes (.fabricDelivery dt g slot) s (fun t =>
        tfind t.fab.view (1280 * g + slot) = some { word := w, cc := s.now + dt, ftg := p.ftg } ∧
        (wordLate w = true → t.bit .FAB_CL_STATUS g 0 = true ∧
          t.regNat .FAB_CL_LATE_CNT g = min 0xFFFF_FFFF (s.regNat .FAB_CL_LATE_CNT g + 1)) ∧
        (wordLate w = false → OnlyRegs [] s t) ∧ OnlyAt [(.FAB_CL_STATUS, g.val), (.FAB_CL_LATE_CNT, g.val)] s t)) ∧
    (∀ w, p.hubArrival slot = some w → s.epochRun = true →
      Completes (.hubSlotRead dt slot) s (fun t =>
        t.regNat .FAB_SLOT slot = w.toNat + 256 ∧
        (∃ q, q ∈ t.fab.waiting ∧ q.slot = slot.val ∧ q.word = w ∧ q.h = s.now + dt ∧ q.c = s.now + dt + hubWait slot p.ftg) ∧
        OnlyAt [(.FAB_SLOT, slot.val), (.FAB_STATUS, 0), (.FAB_OVWR_CNT, 0)] s t)) ∧
    (∀ w, p.fab.waiting.find? (fun q => q.slot == slot.val && decide (q.c ≤ p.now)) = some w → s.epochRun = true →
      Completes (.hubBroadcastSend dt slot) s (fun t =>
        (∃ q, q ∈ t.fab.sent ∧ q.slot = slot.val ∧ q.word = w.word ∧ q.c = s.now + dt) ∧
        (∀ q ∈ t.fab.waiting, ¬ (q.slot = slot.val ∧ q.c ≤ s.now + dt)) ∧
        t.regNat .FAB_BCAST_CNT = (s.regNat .FAB_BCAST_CNT + 1) % 2 ^ 32 ∧
        OnlyRegs [.FAB_BCAST_CNT, .FAB_RG_DOWN_CNT, .FAB_LATE_CNT, .FAB_STATUS] s t)) ∧
    (∀ j : Fin 80, s.OpenReg who .FAB_DFLT j → s.epochRun = false →
      Completes (.fabDfltWrite who j v) s (fun t =>
        t.reg .FAB_DFLT j = v ∧ (t.pass 1).dfltWord j = v ∧ t.dfltWord j = s.dfltWord j ∧
        OnlyAt [(.FAB_DFLT, j.val), (.FAB_DFLT_ACT, j.val), (.HIF_LINK, 0)] s t)) ∧
    (∀ j : Fin 80, s.OpenReg who .FAB_DFLT j → s.epochRun = true →
      Completes (.fabDfltWrite who j v) s (fun t =>
        t.reg .FAB_DFLT j = v ∧ t.dfltWord j = s.dfltWord j ∧ t.bit .FAB_STATUS 0 0 = true ∧ (j.val, v, s.now) ∈ t.fab.dflt ∧
        OnlyAt [(.FAB_DFLT, j.val), (.FAB_STATUS, 0), (.HIF_LINK, 0)] s t)) ∧
    (s.OpenReg who .FAB_VIEW_SEL g →
      let u := s.throughOpen who (regAddr .FAB_VIEW_SEL g)
      Completes (.fabViewSel who g v) s (fun t =>
        t.fld .FAB_VIEW_SEL g 10 0 = bits v 10 0 ∧
        (∀ x, bits v 10 0 < 1280 → tfind u.fab.view (1280 * g + bits v 10 0) = some x →
          t.regNat .FAB_VIEW_WORD g = x.word.toNat + 256 ∧ t.pair .FAB_VIEW_FTG_LO .FAB_VIEW_FTG_HI g = x.ftg % 2 ^ 64) ∧
        (1280 ≤ bits v 10 0 → t.regNat .FAB_VIEW_WORD g = 0) ∧
        OnlyAt [(.FAB_VIEW_SEL, g.val), (.FAB_VIEW_WORD, g.val), (.FAB_VIEW_FTG_LO, g.val), (.FAB_VIEW_FTG_HI, g.val)] u t))

/-- The events at the combining point of a channel become one word with the largest lineage, two or more count as a coincidence, and the watch flag is set. The event that reaches an input sets its pending bit with its lineage, or is counted lost when the bit is set already. PT_START and PT_STOP start and stop a pacing timer; a running timer emits and counts in its cc and stops after COUNT. An injection emits one event a named channel, and is reported BUSY before the first epoch. A rising TIO input that is enabled emits its event 8 cc later; a pulse ends at its cc. It rests on choices and readings of the model: notes/assumptions/10.md, 21.md. (R264, R265, R266, R267, R268, R269, R270, R271, R272) -/
def Obligations.EventRouterCompletes : Prop :=
  ∀ (who : Requester) (dt : Nat) (s : State),
    let p := s.pass dt
    (∀ ch : Channel, s.epochRun = true →
      let here := s.router.emitted.filter (fun w => w.chan == chanKey ch && w.at w.cc (s.now + dt))
      here ≠ [] →
      Completes (.eventCombine dt ch) s (fun t =>
        (∃ w, w ∈ t.router.carried ∧ w.chan = chanKey ch ∧ w.cc = s.now + dt ∧ ∀ x ∈ here, x.lineage ≤ w.lineage) ∧
        (∀ w ∈ t.router.emitted, ¬ (w.chan = chanKey ch ∧ w.at w.cc (s.now + dt) = true)) ∧
        (∀ c : Fin 128, ch = .ev c → t.bit .EV_WATCH (c / 32) (c % 32) = true ∧
          t.regNat .EV_COINC c = if 2 ≤ here.length then min 0xFFFF_FFFF (s.regNat .EV_COINC c + 1) else s.regNat .EV_COINC c) ∧
        OnlyRegs [.EV_COINC, .EV_WATCH, .LEV_COINC, .LEV_WATCH] s t)) ∧
    (∀ (g : Cluster) (e : Eighth) (l : Fin 4) (c : Nat) (w : EventWord),
      s.inputChan (.script g e l) = some c → p.arriving (.cluster g) c = some w → p.islandAwake (.cluster g) = true →
      p.islandHeld (.cluster g) = false → tfind s.router.delivered (scriptInput g e l) ≠ some (s.now + dt) →
      Completes (.eventDelivery dt (.script g e l)) s (fun t =>
        (p.taskBit (scriptInput g e l) = none → t.taskBit (scriptInput g e l) = some { lineage := w.lineage }) ∧
        (p.taskBit (scriptInput g e l) ≠ none → OnlyRegs [.EV_LOST, .LEV_LOST] s t ∧
          (c < 128 → t.regNat .EV_LOST c = min 0xFFFF_FFFF (s.regNat .EV_LOST c + 1))) ∧ SameMemory s t)) ∧
    (∀ x : Fin 32, s.OpenReg who .PT_CMD x →
      Completes (.ptStart who x) s (fun t =>
        (s.epochRun = false → t.fld .EV_STATUS 0 15 8 = Code.busy ∧ t.router = s.router) ∧
        (s.epochRun = true → t.fld .EV_STATUS 0 15 8 = Code.ok ∧ (tfind t.router.ptRun x).isSome = true ∧
          (tfind s.router.ptRun x = none → t.reg .PT_EMITTED x = 0)) ∧ OnlyAt [(.EV_STATUS, 0), (.PT_EMITTED, x.val), (.HIF_LINK, 0)] s t)) ∧
    (∀ x : Fin 32, s.OpenReg who .PT_CMD x →
      Completes (.ptStop who x) s (fun t =>
        tfind t.router.ptRun x = none ∧ t.fld .EV_STATUS 0 15 8 = Code.ok ∧ OnlyAt [(.EV_STATUS, 0), (.HIF_LINK, 0)] s t)) ∧
    (∀ (x : Fin 32) (f : Nat), tfind s.router.ptRun x = some f → f ≤ s.now + dt → s.epochRun = true →
      p.ftg % s.regNat .PT_PERIOD x = s.regNat .PT_PHASE x →
      Completes (.pacingTimerEmit dt x) s (fun t =>
        t.regNat .PT_EMITTED x = (s.regNat .PT_EMITTED x + 1) % 2 ^ 32 ∧
        t.router.emitted = s.router.emitted ++ [{ chan := s.fld .PT_CTRL x 6 0, cc := s.now + dt, lineage := 0 }] ∧
        (s.regNat .PT_COUNT x ≠ 0 → s.regNat .PT_COUNT x ≤ t.regNat .PT_EMITTED x → tfind t.router.ptRun x = none) ∧
        OnlyAt [(.PT_EMITTED, x.val)] s t)) ∧
    (∀ (j : Fin 4) (w : Word), s.OpenReg who .EV_INJECT j →
      Completes (.evInject who j w) s (fun t =>
        (s.epochRun = false → t.router = s.router ∧ t.fld .EV_STATUS 0 15 8 = Code.busy) ∧
        (s.epochRun = true → t.fld .EV_STATUS 0 15 8 = Code.ok ∧
          ∀ b : Fin 32, bitOf w.toNat b = true → ({ chan := 32 * j + b, cc := s.now, lineage := 0 } : EventWord) ∈ t.router.emitted) ∧
        OnlyAt [(.EV_STATUS, 0), (.HIF_LINK, 0)] s t)) ∧
    (∀ (n : Region) (w : Word), s.OpenReg who .LEV_INJECT n → s.epochRun = true →
      let u := s.throughOpen who (regAddr .LEV_INJECT n)
      u.regionAwake n = true →
      Completes (.levInject who n w) s (fun t =>
        t.fld .LEV_STATUS n 15 8 = Code.ok ∧
        (∀ b : Fin 32, bitOf w.toNat b = true → ({ chan := 128 + 32 * n + b, cc := s.now, lineage := 0 } : EventWord) ∈ t.router.emitted) ∧
        OnlyAt [(.LEV_STATUS, n.val)] u t)) ∧
    (∀ (l : Fin 128) (slot : Fin 8) (h : Nat), s.active = true → s.epochRun = true → s.bit .TIO_CFG l 0 = false → s.bit .TIO_CFG l 1 = true →
      Completes (.tioInputEdge dt l slot h) s (fun t =>
        t.router.emitted = s.router.emitted ++ [{ chan := s.fld .TIO_CFG l 8 2, cc := s.now + dt + 8, lineage := 0 }] ∧ SameMemory s t)) ∧
    (∀ (l : Fin 128) (e : Nat), tfind s.router.tioEnd l = some e → e ≤ s.now + dt →
      Completes (.tioPulseEnd dt l) s (fun t => tfind t.router.tioEnd l = none ∧ OnlyRegs [] s t))

/-- The edge of an existing, live source that is neither pending nor in service makes it pending; a level source follows its line. A claim returns the highest claimable source, with WAS_LEVEL, takes it into service under the target and presents it to the reader; 0 when there is none. Only its owner completes a source; any other completion sets BADCMP. Writing EN_SET and EN_CLR sets and clears EN of the existing sources named. A route to a target above 35 is refused RANGE, and one accepted is in force from the next cc. It rests on choices and readings of the model: notes/assumptions/16.md, 22.md, 87.md. (R277, R278, R279, R280, R282, R283, R284, R285, R286, R294, R295) -/
def Obligations.InterruptControllerCompletes : Prop :=
  ∀ (who : Requester) (dt : Nat) (k : Fin 512) (t0 : Fin 36) (v : Word) (s : State),
    let p := s.pass dt
    (¬(464 ≤ k.val ∧ k.val ≤ 495) → p.srcImpl k = true → p.srcLive k = true → levelSource k = false → (s.source k).pend = false → (s.source k).insvc = false →
      Completes (.irqEdge dt k) s (fun t => (t.source k).pend = true ∧ (t.source k).line = false ∧ OnlyRegs [] s t)) ∧
    (∀ b : Bool, s.levelCondition k = none ∨ s.levelCondition k = some b → p.srcImpl k = true → p.srcLive k = true → levelSource k = true → (p.source k).insvc = false →
      Completes (.irqLevelChange dt k b) s (fun t => (t.source k).pend = b ∧ (t.source k).line = b ∧ OnlyRegs [] s t)) ∧
    (s.OpenReg who .IC_TGT_CLAIM t0 →
      Completes (.irqClaim who t0) s (fun t =>
        let b := s.bestClaim t0 false
        t.out = s.out ++ [.readData who (BitVec.ofNat 64 (if b = 0 then 0 else b + (if levelSource b then 512 else 0)))] ∧
        (b ≠ 0 → (t.source b).insvc = true ∧ (t.source b).owner = t0.val ∧ (t.source b).pend = false) ∧
        OnlyRegs [.HIF_LINK] s t)) ∧
    (s.OpenReg who .IC_TGT_FCLAIM t0 → t0.val < 4 →
      Completes (.irqFclaim who t0) s (fun t =>
        let b := s.bestClaim t0 true
        t.out = s.out ++ [.readData who (BitVec.ofNat 64 (if b = 0 then 0 else b + (if levelSource b then 512 else 0)))] ∧
        (b ≠ 0 → (t.source b).insvc = true ∧ (t.source b).owner = t0.val) ∧ OnlyRegs [.HIF_LINK] s t)) ∧
    (s.OpenReg who .IC_TGT_COMPLETE t0 →
      Completes (.irqComplete who t0 v) s (fun t =>
        let b := bits v 8 0
        ((b ≠ 0 ∧ (s.source b).insvc = true ∧ (s.source b).owner = t0.val) → (t.source b).insvc = false ∧ OnlyRegs [.HIF_LINK] s t) ∧
        (¬ (b ≠ 0 ∧ (s.source b).insvc = true ∧ (s.source b).owner = t0.val) → t.bit .IC_TGT_STATUS t0 4 = true ∧
          OnlyAt [(.IC_TGT_STATUS, t0.val), (.HIF_LINK, 0)] s t))) ∧
    (∀ j : Fin 16, s.OpenReg who .IC_EN_SET j →
      Completes (.icEnSet who j v) s (fun t =>
        (∀ b : Fin 32, bitOf v.toNat b = true → s.srcImpl (32 * j + b) = true → (t.source (32 * j + b)).en = true) ∧ OnlyRegs [.HIF_LINK] s t)) ∧
    (∀ j : Fin 16, s.OpenReg who .IC_EN_CLR j →
      Completes (.icEnClr who j v) s (fun t =>
        (∀ b : Fin 32, bitOf v.toNat b = true → s.srcImpl (32 * j + b) = true → (t.source (32 * j + b)).en = false) ∧ OnlyRegs [.HIF_LINK] s t)) ∧
    (s.OpenReg who .IC_SRC_CFG k → s.srcImpl k = true →
      Completes (.icSrcCfgWrite who k v) s (fun t =>
        (36 ≤ bits v 5 0 → t.source k = s.source k ∧ t.fld .IC_STATUS 0 15 8 = Code.range) ∧
        (bits v 5 0 < 36 → (t.source k).target = bits v 5 0 ∧ (t.source k).fast = (bits v 6 6 == 1) ∧
          routeAt s.now (t.source k) = routeAt s.now (s.source k) ∧ routeAt (s.now + 1) (t.source k) = (bits v 5 0, bits v 6 6 == 1) ∧
          t.fld .IC_STATUS 0 15 8 = Code.ok) ∧ OnlyAt [(.IC_STATUS, 0), (.HIF_LINK, 0)] s t))

/-- Writing IC_PEND_SET makes each named existing live source that is not in service pending; IC_PEND_CLR leaves a named existing source pending only where its line or its latch holds, and not in service. A running core without a fast handler takes a claimable fast interrupt: PC saved, PC at the fast vector, fast bank in force. A due message of an unmasked vector leaves: ARMED and IDLE clear, SENT counts; of a masked one its pending bit is set. A timer that expires is cleared and a message it held leaves. IC_TGT_IDLE stores its bit on host targets and is discarded on cores. Unmasking clears the vector's mask bit; a write of MSI-X Enable and the function mask stores both. It rests on choices and readings of the model: notes/assumptions/16.md, 20.md, 22.md. (R279, R280, R285, R287, R288, R289, R290, R295, R353) -/
def Obligations.InterruptLatchesAndMessages : Prop :=
  ∀ (who : Requester) (dt : Nat) (j : Fin 16) (t0 : Fin 36) (k : Fin 4) (vec : Fin 32) (v : Word) (s : State),
    let p := s.pass dt
    (s.OpenReg who .IC_PEND_SET j →
      Completes (.icPendSet who j v) s (fun t =>
        (∀ b : Fin 32, bitOf v.toNat b = true → s.srcImpl (32 * j + b) = true → s.srcLive (32 * j + b) = true →
          (s.source (32 * j + b)).insvc = false → (t.source (32 * j + b)).pend = true) ∧
        (∀ b : Fin 32, bitOf v.toNat b = false → t.source (32 * j + b) = s.source (32 * j + b)) ∧ OnlyRegs [.HIF_LINK] s t)) ∧
    (s.OpenReg who .IC_PEND_CLR j →
      Completes (.icPendClr who j v) s (fun t =>
        (∀ b : Fin 32, bitOf v.toNat b = true → s.srcImpl (32 * j + b) = true →
          (t.source (32 * j + b)).pend = (!(s.source (32 * j + b)).insvc && (s.source (32 * j + b)).line)) ∧
        (∀ b : Fin 32, bitOf v.toNat b = false → t.source (32 * j + b) = s.source (32 * j + b)) ∧ OnlyRegs [.HIF_LINK] s t)) ∧
    (∀ r : Bool, s.coreRuns k = true → (s.core k).fastBank = false → p.bestClaim k true ≠ 0 →
      Completes (.fastInterruptEntry dt k r) s (fun t =>
        (t.core k).savedPc = (s.core k).pc ∧ (t.core k).pc = (s.core k).fastVector ∧ (t.core k).fastBank = true ∧ OnlyRegs [] s t)) ∧
    (p.messageDue (vec + 4) = true → s.inD3hot = false → s.irq.msix.enable = true → s.vectorMasked vec = false →
      Completes (.msixMessageSend dt vec) s (fun t =>
        (t.target (vec + 4)).armed = false ∧ t.bit .IC_TGT_IDLE (vec + 4) 0 = false ∧
        t.regNat .IC_TGT_SENT (vec + 4) = (s.regNat .IC_TGT_SENT (vec + 4) + 1) % 2 ^ 32 ∧
        t.out = s.out ++ [.msix vec (s.msixWord (4 * vec)) (s.msixWord (4 * vec + 1)) (s.msixWord (4 * vec + 2))] ∧
        OnlyAt [(.IC_TGT_IDLE, vec + 4), (.IC_TGT_SENT, vec + 4), (.HIF_LINK, 0)] s t)) ∧
    (p.messageDue (vec + 4) = true → s.inD3hot = false → (s.irq.msix.enable = false ∨ s.vectorMasked vec = true) →
      Completes (.msixMessageSend dt vec) s (fun t =>
        (t.target (vec + 4)).armed = false ∧ bitOf t.irq.msix.pba.toNat vec = true ∧ t.out = s.out ∧ OnlyRegs [] s t)) ∧
    ((s.target (vec + 4)).timerEnd ≠ 0 → (s.target (vec + 4)).timerEnd ≤ s.now + dt → (s.target (vec + 4)).armed = false →
      Completes (.moderationExpire dt vec) s (fun t => (t.target (vec + 4)).timerEnd = 0 ∧ t.out = s.out ∧ OnlyRegs [] s t)) ∧
    ((s.target (vec + 4)).timerEnd ≠ 0 → (s.target (vec + 4)).timerEnd ≤ s.now + dt → p.wantsMessage (vec + 4) = true →
      s.inD3hot = false → s.irq.msix.enable = true → s.vectorMasked vec = false →
      Completes (.moderationExpire dt vec) s (fun t =>
        (t.target (vec + 4)).armed = false ∧
        t.regNat .IC_TGT_SENT (vec + 4) = (s.regNat .IC_TGT_SENT (vec + 4) + 1) % 2 ^ 32 ∧ SameMemory s t)) ∧
    (s.OpenReg who .IC_TGT_IDLE t0 →
      Completes (.icTgtIdleWrite who t0 v) s (fun t =>
        (4 ≤ t0.val → t.bit .IC_TGT_IDLE t0 0 = (bits v 0 0 == 1)) ∧ (t0.val < 4 → t.reg .IC_TGT_IDLE t0 = s.reg .IC_TGT_IDLE t0) ∧
        OnlyAt [(.IC_TGT_IDLE, t0.val), (.HIF_LINK, 0)] s t)) ∧
    (s.inD3hot = false →
      Completes (.msixUnmask vec) s (fun t =>
        bits (t.msixWord (4 * vec + 3)) 0 0 = 0 ∧
        (s.irq.msix.enable = true → s.irq.msix.funcMask = false → bitOf s.irq.msix.pba.toNat vec = true →
          bitOf t.irq.msix.pba.toNat vec = false ∧
          t.regNat .IC_TGT_SENT (vec + 4) = (s.regNat .IC_TGT_SENT (vec + 4) + 1) % 2 ^ 32) ∧
        OnlyAt [(.IC_TGT_IDLE, vec + 4), (.IC_TGT_SENT, vec + 4), (.HIF_LINK, 0)] s t)) ∧
    (∀ en fm : Bool, Completes (.msixEnable en fm) s (fun t =>
        t.irq.msix.enable = en ∧ t.irq.msix.funcMask = fm ∧ OnlyRegs [.IC_TGT_IDLE, .IC_TGT_SENT, .HIF_LINK] s t))

/-- KRN_START of a halted engine in an epoch sets RUN, PC = PC_INIT, KSTAT to IE0 alone, empties the streams, clears the causes and counters and answers OK; of a running one, or without an epoch, it answers BUSY and stores IE0. KRN_STOP of a running engine clears RUN with CODE 0. KRN_ATTN_SET latches the SW cause. A diversion saves PC in IPC and KSTAT in ISTAT, clears IE, sets INATT and goes to KRN_VEC. A stream word of source 3 (footage 8 on) enters its stream unless it holds 64 words, and is counted as dropped then. A bad KRN_IN_CFG answers RANGE. A tone whose deadline passed unreported gets a word without VALID, with LATE, and KRN_MISS_CNT counts. The bundle that ends loop 1 issues and leaves LC1 at 0. It rests on choices and readings of the model: notes/assumptions/39.md, 40.md, 41.md. (R153, R154, R156, R158, R161, R162, R165, R166) -/
def Obligations.KernelEngineCommands : Prop :=
  ∀ (who : Requester) (dt : Nat) (g : Cluster) (i : Fin 2) (v : Word) (s : State),
    let p := s.pass dt
    (∀ ie0 : Bool, s.OpenReg who .KRN_CTRL g →
      let u := s.throughOpen who (regAddr .KRN_CTRL g)
      Completes (.krnStart who g ie0) s (fun t =>
        t.fld .KRN_CTRL g 2 2 = b2n ie0 ∧
        (s.epochRun = true → s.krnRuns g = false →
          t.krnRuns g = true ∧ t.krnPc g = s.fld .KRN_PC_INIT g 12 0 ∧ t.kstat g = 8 * b2n ie0 ∧ t.krnIn g 0 = [] ∧ t.krnIn g 1 = [] ∧
          t.reg .KRN_ATTN_CAUSE g = 0 ∧ t.reg .KRN_MISS_CNT g = 0 ∧ t.reg .KRN_LATE_CNT g = 0 ∧ t.reg .KRN_OUTT_CNT g = 0 ∧
          t.fld .KRN_STATUS g 23 16 = Code.ok) ∧
        ((s.epochRun = false ∨ s.krnRuns g = true) → t.fld .KRN_STATUS g 23 16 = Code.busy ∧ t.krn = s.krn ∧
          OnlyAt [(.KRN_CTRL, g.val), (.KRN_STATUS, g.val)] u t) ∧ SameMemory s t)) ∧
    (∀ ie0 : Bool, s.OpenReg who .KRN_CTRL g → s.krnRuns g = true →
      Completes (.krnStop who g ie0) s (fun t =>
        t.krnRuns g = false ∧ t.fld .KRN_STATUS g 15 8 = Code.ok ∧ t.bit .KRN_STATUS g 3 = false ∧ t.krnPc g = s.krnPc g ∧
        t.bit .KRN_STATUS g 1 = s.bit .KRN_STATUS g 1 ∧ SameMemory s t)) ∧
    (s.OpenReg who .KRN_ATTN_SET g →
      let u := s.throughOpen who (regAddr .KRN_ATTN_SET g)
      Completes (.krnAttnSet who g) s (fun t =>
        t.bit .KRN_ATTN_CAUSE g 0 = true ∧ OnlyAt [(.KRN_ATTN_CAUSE, g.val)] u t)) ∧
    (s.krnRuns g = true → p.krnAttention g = true → (s.krn! g).latchedAt < s.now + dt →
      Completes (.attentionDivert dt g) s (fun t =>
        t.fld .KRN_IPC g 12 0 = s.krnPc g ∧ t.fld .KRN_ISTAT g 4 0 = s.kstat g ∧ t.krnStatBit g 3 = false ∧ t.krnStatBit g 4 = true ∧
        t.krnPc g = s.fld .KRN_VEC g 12 0 ∧ (t.krn! g).nextCc = s.now + dt + 1 ∧
        OnlyAt [(.KRN_IPC, g.val), (.KRN_ISTAT, g.val), (.KRN_KSTAT, g.val), (.KRN_PC, g.val)] s t)) ∧
    (s.epochRun = true → p.regionAwake (g / 4) = true → s.fld .KRN_IN_CFG (2 * g + i) 2 0 = 3 → 8 ≤ p.ftg →
      Completes (.krnInWord dt g i v) s (fun t =>
        ((s.krnIn g i).length < 64 →
          t.krnIn g i = s.krnIn g i ++ [(s.now + dt, narrow (sext14 (bits v 15 0)) (sext14 (bits v 31 16)))] ∧
          OnlyAt [(.KRN_ATTN_CAUSE, g.val)] s t) ∧
        (64 ≤ (s.krnIn g i).length → t.krnIn g i = s.krnIn g i ∧ t.bit .KRN_IN_STATUS (2 * g + i) 7 = true ∧
          t.regNat .KRN_IN_DROP (2 * g + i) = min 0xFFFF_FFFF (s.regNat .KRN_IN_DROP (2 * g + i) + 1) ∧
          OnlyAt [(.KRN_IN_STATUS, 2 * g + i), (.KRN_IN_DROP, 2 * g + i)] s t))) ∧
    (s.OpenReg who .KRN_IN_CFG (2 * g + i) →
      let u := s.throughOpen who (regAddr .KRN_IN_CFG (2 * g + i))
      Completes (.krnInCfgWrite who g i v) s (fun t =>
        ((4 < bits v 2 0 ∨ 64 < bits v 22 16) → t.fld .KRN_STATUS g 23 16 = Code.range ∧ t.krnIn g i = s.krnIn g i ∧
          OnlyAt [(.KRN_STATUS, g.val)] u t) ∧
        (bits v 2 0 = 0 ∨ bits v 2 0 = 3 ∨ bits v 2 0 = 4 → bits v 22 16 ≤ 64 → s.krnRuns g = false →
          t.fld .KRN_STATUS g 23 16 = Code.ok ∧ t.krnIn g i = [] ∧ t.fld .KRN_IN_CFG (2 * g + i) 13 0 = bits v 13 0 ∧
          t.fld .KRN_IN_CFG (2 * g + i) 22 16 = bits v 22 16 ∧
          OnlyAt [(.KRN_STATUS, g.val), (.KRN_IN_CFG, 2 * g + i)] u t))) ∧
    (∀ (x : Fin 16) (w : KrnWindow), tget [] s.krn.pend (16 * g + x) = [w] → w.missed = false → w.at_ + s.fld .KRN_KDL (16 * g + x) 9 0 < p.ftg →
      Completes (.krnDeadlineMiss dt g x) s (fun t =>
        tget [] t.krn.pend (16 * g + x) = [{ w with missed := true }] ∧ t.bit .KRN_DEC_STATUS g 1 = true ∧
        t.regNat .KRN_MISS_CNT g = min 0xFFFF_FFFF (s.regNat .KRN_MISS_CNT g + 1) ∧
        (s.epochRun = true → ∃ f ∈ t.fab.words, f.slot = 16 * g + x ∧ wordValid f.word = false ∧ wordLate f.word = true) ∧
        OnlyAt [(.KRN_DEC_STATUS, g.val), (.KRN_MISS_CNT, g.val), (.FAB_RG_UP_CNT, g.val / 4)] s t)) ∧
    (∀ w : BitVec 64, p.KrnReady g w → (s.krn! g).flight = [] → KB.cop w = 0 → KB.aop w = 0 →
      s.fld .KRN_LC1 g 15 0 = 1 → s.fld .KRN_LE1 g 12 0 = s.krnPc g →
      Completes (.hardwareLoopEnd dt g) s (fun t =>
        t.fld .KRN_LC1 g 15 0 = 0 ∧ t.krnPc g = (s.krnPc g + 1) % 8192 ∧ KrnRegsOnly g s t ∧ SameMemory s t))

/-- For each of the 39 rows of kernel instructions and NOP: when the engine is ready and the bundle at its PC holds the instruction, the bundle issues in this cc and the next one can issue in the next. PC goes to the target the C slot gives, else to the next bundle where neither loop ends. Only kernel registers of this cluster and the count of decision words sent up change; memory changes in the word at the pointer alone, and only for ST, STA and STX, which store the complex register, the half of the accumulator or the special register named. It rests on choices and readings of the model: notes/assumptions/36.md. (R144, R149, R154, R158, R165, R168, R176, R179, R180) -/
def Obligations.KernelBundlesIssue : Prop :=
  ∀ (c : Instr) (dt g : Nat) (h : BitVec 64 → Bool) (w : BitVec 64) (s : State), kernelRow c = some (dt, g, h) → h w = true →
    let p := s.pass dt
    let addr := krnDataAddr g (s.fld .KRN_P (4 * g + KB.i w) 15 0)
    p.KrnReady g w →
    Completes c s (fun t =>
      (t.krn! g).nextCc = s.now + dt + 1 ∧ t.krnRuns g = decide (KB.cop w ≠ 1) ∧
      (∀ tgt, p.cTarget g w (s.krnPc g) = some tgt → t.krnPc g = tgt % 8192) ∧
      (p.cTarget g w (s.krnPc g) = none → t.fld .KRN_LE1 g 12 0 ≠ s.krnPc g → t.fld .KRN_LE0 g 12 0 ≠ s.krnPc g → KB.cop w ≠ 1 →
        t.krnPc g = (s.krnPc g + 1) % 8192) ∧
      KrnRegsOnly g s t ∧
      (KB.aop w ≠ 2 → KB.aop w ≠ 3 → KB.aop w ≠ 5 → SameMemory s t) ∧
      (s.Inv → SameOutside (flat 3 addr) 4 s t ∧
        (KB.aop w = 2 → t.le 3 addr 4 = (s.krnC g (KB.ad w)).toNat) ∧
        (KB.aop w = 3 → t.le 3 addr 4 = (staWord (KB.sel w) (s.krnAcc g (KB.aAcc w)).1 (s.krnAcc g (KB.aAcc w)).2).toNat) ∧
        (KB.aop w = 5 → t.le 3 addr 4 = (s.reg (krnXReg g (KB.x w)).1 (krnXReg g (KB.x w)).2).toNat)))

/-- For each M-slot instruction, the result the table of R171 gives is on its way to land two bundles later (or has landed, when the same bundle halts the engine): the products and sums of CMAC, CMSU, CMUL and MAG2 with the conjugations and the newest accumulator, the loads of ALD and ALDW, the shifts of accumulators and complex registers, the narrowing of TRN with N and Z, the counts of NORM and EXPB, the conjugate, the thresholds of CTHR, MOV; and GX where CMAC, CMSU or SHL leaves 48 bits. It rests on choices and readings of the model: notes/assumptions/36.md. (R146, R147, R150, R151, R171, R172, R173, R174) -/
def Obligations.KernelMSlotResults : Prop :=
  ∀ (dt : Nat) (g : Cluster) (w : BitVec 64) (s : State),
    let p := s.pass dt
    let S := s.krnC g (KB.s w)
    let T := s.krnC g (KB.t w)
    let sq := if KB.cjs w then -partQ S else partQ S
    let tq := if KB.cjt w then -partQ T else partQ T
    let re := partI S * partI T - sq * tq
    let im := partI S * tq + sq * partI T
    let a := KB.acc w
    let N := s.accNewest g a
    let A := s.krnAcc g a
    let B := s.krnAcc g (KB.accN w)
    let k := if KB.var w then bits S 5 0 else KB.k6 w
    let r := min (redundantSignBits 48 B.1.toNat) (redundantSignBits 48 B.2.toNat)
    let e := min (redundantSignBits 16 (bits S 15 0)) (redundantSignBits 16 (bits S 31 16))
    p.KrnReady g w →
    (KB.mop w = 0x01 → Completes (.cmac dt g) s (fun t =>
      t.AccGets g w a (N.1.toInt + re) (N.2.toInt + im) ∧ t.GxGets g w (N.1.toInt + re) (N.2.toInt + im))) ∧
    (KB.mop w = 0x02 → Completes (.cmsu dt g) s (fun t =>
      t.AccGets g w a (N.1.toInt - re) (N.2.toInt - im) ∧ t.GxGets g w (N.1.toInt - re) (N.2.toInt - im))) ∧
    (KB.mop w = 0x03 → Completes (.cmul dt g) s (fun t => t.AccGets g w a re im)) ∧
    (KB.mop w = 0x04 → Completes (.mag2 dt g) s (fun t => t.AccGets g w a (partI S * partI S + partQ S * partQ S) 0)) ∧
    (KB.mop w = 0x05 → Completes (.ald dt g) s (fun t => t.AccGets g w a (partI S * (2 ^ KB.t w : Nat)) (partQ S * (2 ^ KB.t w : Nat)))) ∧
    (KB.mop w = 0x06 → Completes (.aldw dt g) s (fun t => t.AccGets g w a S.toInt T.toInt)) ∧
    (KB.mop w = 0x07 → Completes (.krnShlAcc dt g) s (fun t =>
      t.AccGets g w a (A.1.toInt * (2 ^ k : Nat)) (A.2.toInt * (2 ^ k : Nat)) ∧
      t.GxGets g w (A.1.toInt * (2 ^ k : Nat)) (A.2.toInt * (2 ^ k : Nat)))) ∧
    (KB.mop w = 0x08 → Completes (.krnShrAcc dt g) s (fun t => t.AccGets g w a (A.1.toInt / (2 ^ k : Nat)) (A.2.toInt / (2 ^ k : Nat)))) ∧
    (KB.mop w = 0x09 → Completes (.trn dt g) s (fun t =>
      let x := B.1.toInt / (2 ^ KB.k6 w : Nat)
      let y := B.2.toInt / (2 ^ KB.k6 w : Nat)
      t.CGets g w (KB.d w) x y ∧ t.NGets g w (decide (partI (narrow x y) < 0)) ∧ t.ZGets g w (decide (narrow x y = 0)))) ∧
    (KB.mop w = 0x0A → Completes (.norm dt g) s (fun t =>
      t.CGets g w (KB.d w) r (8 - r : Nat) ∧ t.NGets g w false ∧ t.ZGets g w (decide (B.1 = 0 ∧ B.2 = 0)))) ∧
    (KB.mop w = 0x0B → Completes (.expb dt g) s (fun t =>
      t.CGets g w (KB.d w) (min (if KB.first w then 15 else partI (s.cNewest g (KB.d w))) e) 0)) ∧
    (KB.mop w = 0x0C → Completes (.cconj dt g) s (fun t => t.CGets g w (KB.d w) (partI S) (-partQ S))) ∧
    (KB.mop w = 0x0D → Completes (.krnShlCplx dt g) s (fun t =>
      t.CGets g w (KB.d w) (partI S * (2 ^ bits T 3 0 : Nat)) (partQ S * (2 ^ bits T 3 0 : Nat)))) ∧
    (KB.mop w = 0x0E → Completes (.krnShrCplx dt g) s (fun t =>
      t.CGets g w (KB.d w) (partI S / (2 ^ bits T 3 0 : Nat)) (partQ S / (2 ^ bits T 3 0 : Nat)))) ∧
    (KB.mop w = 0x0F → Completes (.cthr dt g) s (fun t =>
      let st := b2n (decide (partI T ≤ partI S)) + b2n (decide (partQ T ≤ partI S)) +
        b2n (decide (partI (s.krnC g (KB.t w + 1)) ≤ partI S))
      t.CGets g w (KB.d w) st 0 ∧ t.NGets g w false ∧ t.ZGets g w (decide (st = 0)))) ∧
    (KB.mop w = 0x10 → Completes (.mov dt g) s (fun t => t.CGets g w (KB.d w) (partI S) (partQ S)))

/-- LD and LDX bring the data word at the pointer one bundle later, RDS the oldest stream word; ST, STA and STX leave it to KernelBundlesIssue; WRS counts OUTT; LDP, LDM and MODP write their register at the end of the bundle, LDL and LDB that of a pointer without a circular buffer; the pointer steps by M with PM = 1. HALT stops the engine with HALTED and CODE 0; BR, BRC on its condition and RTI go to their target, RTI returning KSTAT with GX kept; LOOP and LOOPR load the loop registers and skip the body for a count of 0; DEC on a tone that the kernel does not serve sets its error bit; EI, DI and CLRGX write their bit. It rests on choices and readings of the model: notes/assumptions/36.md. (R150, R154, R155, R157, R158, R159, R160, R165, R176, R179, R180, R181) -/
def Obligations.KernelACSlotResults : Prop :=
  ∀ (dt : Nat) (g : Cluster) (w : BitVec 64) (s : State),
    let p := s.pass dt
    let i := 4 * g + KB.i w
    let pc := s.krnPc g
    let data := p.krnData g (s.fld .KRN_P i 15 0)
    let stepped (t : State) : Prop := KB.pm w = true → s.fld .KRN_L i 15 0 = 0 → KB.cop w ≠ 1 →
      t.fld .KRN_P i 15 0 = (s.fld .KRN_P i 15 0 + s.fld .KRN_M i 15 0) % 65536
    let sent (t : State) (x : KrnWrite) : Prop := KB.cop w ≠ 1 → ({ left := 0, mslot := false, w := x } : InFlight) ∈ (t.krn! g).flight
    p.KrnReady g w → (s.krn! g).flight = [] →
    (KB.aop w = 1 → Completes (.ld dt g) s (fun t => sent t (.c (KB.ad w) data) ∧ stepped t)) ∧
    (KB.aop w = 2 → Completes (.st dt g) s stepped) ∧
    (KB.aop w = 3 → Completes (.sta dt g) s stepped) ∧
    (KB.aop w = 4 → Completes (.ldx dt g) s (fun t => sent t (.x (KB.x w) data) ∧ stepped t)) ∧
    (KB.aop w = 5 → Completes (.stx dt g) s stepped) ∧
    (∀ cc v rest, KB.aop w = 6 → s.krnIn g (KB.inp w) = (cc, v) :: rest →
      Completes (.rds dt g) s (fun t => sent t (.c (KB.ad w) v) ∧ t.krnIn g (KB.inp w) = rest)) ∧
    (KB.aop w = 7 → Completes (.wrs dt g) s (fun t => t.regNat .KRN_OUTT_CNT g = (s.regNat .KRN_OUTT_CNT g + 1) % 2 ^ 32)) ∧
    (KB.aop w = 8 → Completes (.ldp dt g) s (fun t => t.fld .KRN_P (4 * g + KB.j w) 15 0 = KB.imm w)) ∧
    (KB.aop w = 9 → Completes (.ldm dt g) s (fun t => t.fld .KRN_M (4 * g + KB.j w) 15 0 = KB.imm w)) ∧
    (KB.aop w = 0xA → Completes (.ldl dt g) s (fun t =>
      (s.fld .KRN_L (4 * g + KB.j w) 15 0 = 0 ∨ KB.imm w = 0 →
        t.fld .KRN_L (4 * g + KB.j w) 15 0 = KB.imm w ∧ t.bit .KRN_LPEND g (KB.j w) = false) ∧
      (s.fld .KRN_L (4 * g + KB.j w) 15 0 ≠ 0 → KB.imm w ≠ 0 → t.fld .KRN_L (4 * g + KB.j w) 15 0 = s.fld .KRN_L (4 * g + KB.j w) 15 0 ∧
        t.fld .KRN_LSH (4 * g + KB.j w) 15 0 = KB.imm w ∧ t.bit .KRN_LPEND g (KB.j w) = true))) ∧
    (KB.aop w = 0xB → Completes (.ldb dt g) s (fun t =>
      (s.fld .KRN_L (4 * g + KB.j w) 15 0 = 0 → t.fld .KRN_B (4 * g + KB.j w) 15 0 = KB.imm w) ∧
      (s.fld .KRN_L (4 * g + KB.j w) 15 0 ≠ 0 → t.fld .KRN_B (4 * g + KB.j w) 15 0 = s.fld .KRN_B (4 * g + KB.j w) 15 0 ∧
        t.fld .KRN_BSH (4 * g + KB.j w) 15 0 = KB.imm w ∧ t.bit .KRN_LPEND g (KB.j w) = true))) ∧
    (KB.aop w = 0xC → Completes (.modp dt g) s (fun t => s.fld .KRN_L i 15 0 = 0 →
      t.fld .KRN_P i 15 0 = (s.fld .KRN_P i 15 0 + s.fld .KRN_M i 15 0) % 65536)) ∧
    (KB.cop w = 1 → Completes (.krnHalt dt g) s (fun t =>
      t.krnRuns g = false ∧ t.bit .KRN_STATUS g 1 = true ∧ t.bit .KRN_STATUS g 3 = false ∧ t.fld .KRN_STATUS g 15 8 = Code.ok ∧
      (t.krn! g).flight = [])) ∧
    (KB.cop w = 2 → Completes (.krnBr dt g) s (fun t => t.krnPc g = KB.tgt w)) ∧
    (KB.cop w = 3 → Completes (.krnBrc dt g) s (fun t =>
      ((KB.cond w = 0 ∧ s.krnStatBit g 1 = true) ∨ (KB.cond w = 1 ∧ s.krnStatBit g 1 = false) ∨
       (KB.cond w = 2 ∧ s.krnStatBit g 0 = true) ∨ (KB.cond w = 3 ∧ s.krnStatBit g 0 = false) → t.krnPc g = KB.tgt w))) ∧
    (∀ c, (c = Instr.krnLoop dt g ∧ KB.cop w = 4) ∨ (c = Instr.loopr dt g ∧ KB.cop w = 5) →
      let n := if KB.cop w = 4 then KB.cnt w else s.fld .KRN_P (4 * g + KB.lp w) 15 0
      let x := 16 + 3 * KB.li w
      Completes c s (fun t =>
        t.reg (krnXReg g x).1 g = BitVec.ofNat 32 n ∧ t.reg (krnXReg g (x + 1)).1 g = BitVec.ofNat 32 ((pc + 1) % 8192) ∧
        t.reg (krnXReg g (x + 2)).1 g = BitVec.ofNat 32 ((pc + 1 + KB.blm1 w) % 8192) ∧
        (n = 0 → t.krnPc g = (pc + KB.blm1 w + 2) % 8192))) ∧
    (KB.cop w = 6 → Completes (.rti dt g) s (fun t =>
      t.krnPc g = s.fld .KRN_IPC g 12 0 ∧ t.kstat g = s.fld .KRN_ISTAT g 4 0 ||| (s.kstat g &&& 4))) ∧
    (KB.cop w = 7 → s.bit .TONE_CFG (16 * g + KB.tone w) 1 = false → Completes (.dec dt g) s (fun t =>
      t.bit .KRN_DEC_STATUS g 0 = true ∧ t.fab = s.fab)) ∧
    (KB.cop w = 7 → s.bit .TONE_CFG (16 * g + KB.tone w) 1 = true → s.epochRun = true → tget [] s.krn.pend (16 * g + KB.tone w) = [] →
      Completes (.dec dt g) s (fun t => ∃ f ∈ t.fab.words, f.slot = 16 * g + KB.tone w ∧ f.x = s.now + dt + 1 ∧
        wordState f.word = (if KB.im w then KB.st w else bits (s.krnC g (KB.cs w)) 1 0) ∧ wordValid f.word = true ∧ wordLate f.word = false)) ∧
    (KB.cop w = 8 → Completes (.ei dt g) s (fun t => t.krnStatBit g 3 = true)) ∧
    (KB.cop w = 9 → Completes (.di dt g) s (fun t => t.krnStatBit g 3 = false)) ∧
    (KB.cop w = 0xA → Completes (.clrgx dt g) s (fun t => t.krnStatBit g 2 = false))

/-- For a pointer inside a buffer [B, B + L) that ends below 65,536, a signed modifier of at most L in size and no shadow pending, the post-modified pointer is B + ((P - B + M) mod L): inside the buffer again. Without a buffer it is P + M modulo 65,536. It rests on choices and readings of the model: notes/assumptions/38.md. (R159) -/
def Obligations.CircularAddressing : Prop :=
  ∀ (g i : Nat) (s : State),
    let P := s.fld .KRN_P (4 * g + i) 15 0
    let M := signed 16 (s.fld .KRN_M (4 * g + i) 15 0)
    let L := s.fld .KRN_L (4 * g + i) 15 0
    let B := s.fld .KRN_B (4 * g + i) 15 0
    (0 < L → B ≤ P → P < B + L → B + L + M.natAbs < 65536 → M.natAbs ≤ B → M.natAbs ≤ L → s.bit .KRN_LPEND g i = false →
      ((s.postModify g i).1 : Int) = B + ((P : Int) - B + M) % L ∧ (s.postModify g i).2 = none) ∧
    (L = 0 → ((s.postModify g i).1 : Int) = ((P : Int) + M) % 65536 ∧ (s.postModify g i).2 = none)

/-- TK_ARM of an engine at rest that meets no status of the arm checks arms it: state ARMED, the counters of the ring at 0, LAG computed, OK; a check that fails answers its code and changes nothing else. TK_DISARM returns an ARMED engine to IDLE and lets a capture end first. TK_FORCE is kept where an arm is in force. A forced position that the engine accepts starts a take: TRIG counts, state CAPTURE; one it does not accept counts as MISSED. At the end of a span the engine is ARMED again, or IDLE when disarming. A read pointer beyond TRIG is RANGE, any other is stored. It rests on choices and readings of the model: notes/assumptions/10.md, 45.md. (R203, R204, R214, R215, R216, R217) -/
def Obligations.TakeEnginesComplete : Prop :=
  ∀ (who : Requester) (dt : Nat) (n : Region) (v : Word) (s : State),
    let p := s.pass dt
    let u := s.throughOpen who (regAddr .TK_CMD n)
    (s.OpenReg who .TK_CMD n →
      Completes (.tkArm who n) s (fun t =>
        (u.tkState n = 1 ∨ u.tkState n = 2 → OnlyAt [(.TK_STATUS, n.val)] u t ∧ t.tkState n = u.tkState n ∧
          t.fld .TK_STATUS n 15 8 = (if u.epochRun then Code.ok else Code.busy)) ∧
        (u.tkState n ≠ 1 → u.tkState n ≠ 2 → ∀ c, lowestCode (u.armChecks n (u.lagOf n)) = some c →
          t.fld .TK_STATUS n 15 8 = c ∧ t.tkState n = u.tkState n ∧ t.take = u.take ∧ OnlyAt [(.TK_STATUS, n.val)] u t) ∧
        (u.tkState n ≠ 1 → u.tkState n ≠ 2 → lowestCode (u.armChecks n (u.lagOf n)) = none →
          t.fld .TK_STATUS n 15 8 = Code.ok ∧ t.tkState n = 1 ∧ t.reg .TK_TRIG n = 0 ∧ t.reg .TK_WR n = 0 ∧ t.reg .TK_RD n = 0 ∧
          t.reg .TK_MISSED n = 0 ∧ t.reg .TK_LAG n = BitVec.ofNat 32 (u.lagOf n) ∧ (t.takeEngine n).armAt = u.ftg + 1 ∧
          OnlyRegs [.TK_STATUS, .TK_TRIG, .TK_WR, .TK_RD, .TK_MISSED, .TK_MASK_CNT, .TK_LAG, .TK_TLEN_LO, .TK_TLEN_HI, .TK_NSLOT] u t))) ∧
    (s.OpenReg who .TK_CMD n →
      Completes (.tkDisarm who n) s (fun t =>
        (u.tkState n = 1 → t.tkState n = 0 ∧ (t.takeEngine n).forces = []) ∧
        (u.tkState n = 2 → t.tkState n = 2 ∧ (t.takeEngine n).disarming = true) ∧
        (u.tkState n = 0 ∨ u.tkState n = 3 → t.tkState n = u.tkState n ∧ t.take = u.take) ∧
        t.fld .TK_STATUS n 15 8 = Code.ok ∧ OnlyRegs [.TK_STATUS, .TK_RED_CNT] u t)) ∧
    (s.OpenReg who .TK_CMD n →
      Completes (.tkForce who n) s (fun t =>
        (u.epochRun = true → u.tkState n = 1 ∨ u.tkState n = 2 →
          (t.takeEngine n).forces = (u.takeEngine n).forces ++ [u.ftg] ∧ t.fld .TK_STATUS n 15 8 = Code.ok ∧
          OnlyAt [(.TK_STATUS, n.val)] u t) ∧
        (u.epochRun = false ∨ (u.tkState n ≠ 1 ∧ u.tkState n ≠ 2) → t = u))) ∧
    (s.epochRun = true → s.tkState n = 1 ∨ s.tkState n = 2 → s.fld .TK_LAG n 15 0 ≤ p.ftg →
      (s.takeEngine n).armAt ≤ p.ftg - s.fld .TK_LAG n 15 0 → p.ftg - s.fld .TK_LAG n 15 0 ∈ (s.takeEngine n).forces →
      Completes (.regionTrigger dt n 0) s (fun t =>
        (s.accepting n (p.ftg - s.fld .TK_LAG n 15 0) = true →
          t.regNat .TK_TRIG n = (s.regNat .TK_TRIG n + 1) % 2 ^ 32 ∧ t.tkState n = 2 ∧
          (t.takeEngine n).lastEnd = p.ftg - s.fld .TK_LAG n 15 0 + s.tkPost n ∧
          (∃ k, (t.takeEngine n).takes = (s.takeEngine n).takes ++ [k] ∧ k.q = s.regNat .TK_TRIG n ∧
            k.ft = p.ftg - s.fld .TK_LAG n 15 0 ∧ k.closed = false) ∧ OnlyRegs [.TK_TRIG, .TK_STATUS, .EV_LOOP, .LEV_LOOP] s t) ∧
        (s.accepting n (p.ftg - s.fld .TK_LAG n 15 0) = false →
          t.regNat .TK_MISSED n = min 0xFFFF_FFFF (s.regNat .TK_MISSED n + 1) ∧ (t.takeEngine n).takes = (s.takeEngine n).takes ∧
          OnlyAt [(.TK_MISSED, n.val)] s t))) ∧
    (s.tkState n = 2 → (s.takeEngine n).lastEnd ≤ p.ftg →
      Completes (.captureEnd dt n) s (fun t =>
        t.tkState n = (if (s.takeEngine n).disarming then 0 else 1) ∧
        (∀ k ∈ (t.takeEngine n).takes, k.closed = true) ∧ OnlyRegs [.TK_STATUS, .TK_RED_CNT] s t)) ∧
    (s.OpenReg who .TK_RD n →
      let u := s.throughOpen who (regAddr .TK_RD n)
      Completes (.tkRdWrite who n v) s (fun t =>
        (u.regNat .TK_TRIG n < v.toNat → t.fld .TK_STATUS n 15 8 = Code.range ∧ OnlyAt [(.TK_STATUS, n.val)] u t) ∧
        (v.toNat ≤ u.regNat .TK_TRIG n → t.fld .TK_STATUS n 15 8 = Code.ok ∧ t.reg .TK_RD n = v ∧
          OnlyAt [(.TK_STATUS, n.val), (.TK_RD, n.val)] u t)))

/-- A slate write of the oldest closed take stores the data of each reduction behind the slot's first 64 bytes and the slate in those, counts WR and leaves every other byte as it was; one whose data and slate writes both timed out stores nothing and stops the engine with TIMEOUT. A lost post-trigger sample ends its take: OVERFLOW, STOPPED, and STOP_CODE of the take it alone ended. A violation of an enabled mask test counts, and with STOP set ends the take it fell into with MASK_STOP. It rests on choices and readings of the model: notes/assumptions/10.md, 45.md. (R210, R216, R218, R219, R220, R221, R222) -/
def Obligations.SlatesAndEarlyEnds : Prop :=
  ∀ (dt : Nat) (n : Region) (k : Take) (rest : List Take) (smp : TakeSamples) (s : State),
    let p := s.pass dt
    ((s.takeEngine n).takes = k :: rest → k.closed = true →
      Completes (.slateWrite dt n smp .completed) s (fun t =>
        (t.takeEngine n).takes = rest ∧ (t.takeEngine n).missed = 0 ∧ t.regNat .TK_WR n = (s.regNat .TK_WR n + 1) % 2 ^ 32 ∧
        SameRegs [.TK_WR, .EV_LOOP, .LEV_LOOP] s t ∧
        (s.Inv → (t.le 0 (s.slotBase n k) 4 = k.q % 2 ^ 32 ∧ t.le 0 (s.slotBase n k + 4) 1 = n.val ∧
            t.le 0 (s.slotBase n k + 5) 1 = k.status % 256 ∧ t.le 0 (s.slotBase n k + 20) 8 = k.ft % 2 ^ 64) ∧
          (∀ sp a, (∀ q ∈ (s.slotBase n k, List.replicate 64 (0 : Byte)) :: p.slateParts n k smp,
              flat sp a < flat 0 q.1 ∨ flat 0 q.1 + q.2.length ≤ flat sp a) → t.byte sp a = s.byte sp a)))) ∧
    ((s.takeEngine n).takes = k :: rest → k.closed = true → k.status = 0 →
      Completes (.slateWrite dt n smp (.timeout false)) s (fun t =>
        t.tkState n = 3 ∧ t.fld .TK_STATUS n 23 16 = Code.timeout ∧ t.regNat .TK_WR n = s.regNat .TK_WR n ∧
        OnlyRegs [.TK_STATUS, .TK_RED_CNT] s t)) ∧
    (∀ fl : Nat, (s.takeEngine n).takes = [k] → k.fstop = none → k.ft ≤ fl → fl < k.ft + s.tkPost n → fl ≤ p.ftg →
      Completes (.takeOverflow dt n fl) s (fun t =>
        t.tkState n = 3 ∧ t.bit .TK_STATUS n 3 = true ∧ t.fld .TK_STATUS n 23 16 = Code.overflow ∧
        (∃ k', (t.takeEngine n).takes = [k'] ∧ k'.fstop = some fl ∧ k'.status = Code.overflow ∧ k'.closed = true) ∧
        OnlyRegs [.TK_STATUS, .TK_RED_CNT] s t)) ∧
    (∀ (i : Fin 4) (pos : Nat) (r : Reduction) (x : OutputSample), (s.takeEngine n).takes = [k] → k.fstop = none → k.flags &&& 2 = 0 →
      (s.reductions n).find? (fun r => r.i == s.fld .TK_MASK_CTRL (4 * n + i) 5 2) = some r → s.bit .TK_MASK_CTRL (4 * n + i) 0 = true →
      s.violates (4 * n + i) r.kind x = true → s.coveredEnd n r pos + 9 ≤ p.ftg →
      k.ft + (s.reg .TK_MASK_MS (4 * n + i)).toInt ≤ (pos / 8 : Nat) → ((pos / 8 : Nat) : Int) < k.ft + (s.reg .TK_MASK_ME (4 * n + i)).toInt →
      k.ft ≤ pos / 8 + s.tkPre n → pos / 8 < k.ft + s.tkPost n →
      Completes (.maskViolation dt n i pos x) s (fun t =>
        t.regNat .TK_MASK_CNT (4 * n + i) = min 0xFFFF_FFFF (s.regNat .TK_MASK_CNT (4 * n + i) + 1) ∧
        (s.bit .TK_MASK_CTRL (4 * n + i) 1 = true → t.tkState n = 3 ∧ t.bit .TK_STATUS n 4 = true ∧ t.fld .TK_STATUS n 23 16 = Code.maskStop) ∧
        (s.bit .TK_MASK_CTRL (4 * n + i) 1 = false → t.tkState n = s.tkState n) ∧
        OnlyRegs [.TK_MASK_CNT, .TK_STATUS, .TK_RED_CNT] s t))

/-- STK_ARM of an engine at rest that passes its checks arms it from the next cc with its counters at 0 and OK; STK_DISARM returns it to IDLE. A timestamp that arrives in time joins its term, one beyond the horizon counts in STK_LATE_CNT. A rising edge of the system pattern inside the hold-off or with the ring full counts as MISSED, else, inside the window, it takes the next system take, asserted six cc later. Assertion marks the due takes. A system take whose regions are done gets its slate: 64 bytes at its place in the ring and nothing else, and STK_WR counts. A read pointer beyond TRIG is RANGE. It rests on choices and readings of the model: notes/assumptions/10.md, 45.md. (R206, R207, R208, R209, R217, R222, R225) -/
def Obligations.SystemTakesComplete : Prop :=
  ∀ (who : Requester) (dt : Nat) (v : Word) (s : State),
    let p := s.pass dt
    (s.OpenReg who .STK_CMD 0 →
      let base := s.regNat .STK_RING_BASE_LO + s.fld .STK_RING_BASE_HI 0 9 0 * 2 ^ 32
      Completes (.stkArm who) s (fun t =>
        (s.stkArmed = false → base % 65536 = 0 → s.epochRun = true → base + s.fld .STK_RING_SIZE 0 26 0 * 65536 ≤ s.memCap →
          t.stkArmed = true ∧ t.reg .STK_TRIG = 0 ∧ t.reg .STK_WR = 0 ∧ t.reg .STK_RD = 0 ∧ t.reg .STK_MISSED = 0 ∧
          t.reg .STK_LATE_CNT = 0 ∧ t.take.sys.armAt = s.ftg + 1 ∧ t.fld .STK_STATUS 0 15 8 = Code.ok) ∧
        (s.stkArmed = false → base % 65536 ≠ 0 → t.fld .STK_STATUS 0 15 8 = Code.align ∧ t.stkArmed = false) ∧
        (s.stkArmed = true → t.fld .STK_STATUS 0 15 8 = Code.ok ∧ t.take = s.take) ∧
        OnlyRegs [.STK_STATUS, .STK_TRIG, .STK_WR, .STK_RD, .STK_MISSED, .STK_LATE_CNT, .HIF_LINK] s t)) ∧
    (s.OpenReg who .STK_CMD 0 →
      Completes (.stkDisarm who) s (fun t =>
        t.fld .STK_STATUS 0 1 0 = 0 ∧ t.fld .STK_STATUS 0 15 8 = Code.ok ∧ t.take = s.take ∧ OnlyRegs [.STK_STATUS, .HIF_LINK] s t)) ∧
    (∀ (x : Fin 256) (k : SysStamp), s.take.sys.arriving = [k] → k.t = x.val → k.at_ ≤ p.ftg →
      Completes (.systemTimestampArrival dt x) s (fun t =>
        t.take.sys.arriving = [] ∧
        (k.ts / 2048 + s.fld .STK_HZN 0 15 0 < k.at_ → t.regNat .STK_LATE_CNT = min 0xFFFF_FFFF (s.regNat .STK_LATE_CNT + 1) ∧
          t.take.sys.joined = s.take.sys.joined ∧ OnlyRegs [.STK_LATE_CNT] s t) ∧
        (k.at_ ≤ k.ts / 2048 + s.fld .STK_HZN 0 15 0 → k ∈ t.take.sys.joined ∧ OnlyRegs [] s t))) ∧
    (∀ u : Fin 2048,
      let f := p.ftg - s.fld .STK_HZN 0 15 0
      let x := 2048 * f + u.val
      s.epochRun = true → s.stkArmed = true → s.fld .STK_HZN 0 15 0 ≤ p.ftg → s.take.sys.armAt ≤ f → s.sysPatternAt x = true →
      (x = 0 ∨ s.sysPatternAt (x - 1) = false) →
      Completes (.systemTrigger dt u) s (fun t =>
        (x < s.take.sys.holdEnd ∨ s.stkFull = true → t.regNat .STK_MISSED = min 0xFFFF_FFFF (s.regNat .STK_MISSED + 1) ∧
          t.take.sys.takes = s.take.sys.takes ∧ OnlyRegs [.STK_MISSED] s t) ∧
        (s.take.sys.holdEnd ≤ x → s.stkFull = false → s.pair .STK_WIN_START_LO .STK_WIN_START_HI ≤ f →
          (s.pair .STK_WIN_END_LO .STK_WIN_END_HI = 0 ∨ f < s.pair .STK_WIN_END_LO .STK_WIN_END_HI) →
          t.regNat .STK_TRIG = (s.regNat .STK_TRIG + 1) % 2 ^ 32 ∧ t.take.sys.holdEnd = x + 2048 * s.fld .STK_HOLD 0 19 0 ∧
          (∃ k, t.take.sys.takes = s.take.sys.takes ++ [k] ∧ k.q = s.regNat .STK_TRIG ∧ k.x = x ∧ k.assertAt = p.ftg + 6) ∧
          OnlyRegs [.STK_TRIG, .STK_STATUS, .EV_LOOP, .LEV_LOOP] s t))) ∧
    Completes (.systemTriggerAssert dt) s (fun t =>
      (∀ k ∈ t.take.sys.takes, k.assertAt ≤ p.ftg → k.asserted = true) ∧ t.take.sys.takes.length = s.take.sys.takes.length ∧ OnlyRegs [] s t) ∧
    (∀ (k : SysTake) (rest : List SysTake), s.take.sys.takes = k :: rest → k.asserted = true →
      (∀ n ∈ setBitsOf 16 k.mask, p.regionDone n k = true) →
      let base := s.regNat .STK_RING_BASE_LO + s.fld .STK_RING_BASE_HI 0 9 0 * 2 ^ 32 + 64 * (k.q % max 1 s.stkSlots)
      Completes (.systemSlateWrite dt) s (fun t =>
        t.take.sys.takes = rest ∧ t.regNat .STK_WR = (s.regNat .STK_WR + 1) % 2 ^ 32 ∧ SameRegs [.STK_WR, .EV_LOOP, .LEV_LOOP] s t ∧
        (s.Inv → t.le 0 base 4 = k.q % 2 ^ 32 ∧ t.le 0 (base + 4) 1 = 0xFF ∧ t.le 0 (base + 28) 2 = k.x % 2048 ∧
          SameOutside (flat 0 base) 64 s t))) ∧
    (s.OpenReg who .STK_RD 0 →
      Completes (.stkRdWrite who v) s (fun t =>
        (s.regNat .STK_TRIG < v.toNat → t.fld .STK_STATUS 0 15 8 = Code.range ∧ OnlyRegs [.STK_STATUS, .HIF_LINK] s t) ∧
        (v.toNat ≤ s.regNat .STK_TRIG → t.fld .STK_STATUS 0 15 8 = Code.ok ∧ t.reg .STK_RD = v ∧
          OnlyRegs [.STK_STATUS, .STK_RD, .HIF_LINK] s t)))

/-- A served CAL_RUN write answers its code; on OK the run is in progress, on any other code no state changes. A run that has made what its KIND asks ends with the given status: no run is in progress and CAL_RUN_STATUS holds unit and status; while its unit is frozen no trim changes, and a result for the offset of an RF DAC that is not frozen is stored. A read of CAL_HIST_POP returns the oldest entry with VALID and its tone, YI and YQ following, and 0 when there is none. A freeze register stores its bits, which act from the next cc. It rests on choices and readings of the model: notes/assumptions/54.md. (R231, R235, R239, R240, R244) -/
def Obligations.CalibrationRuns : Prop :=
  ∀ (who : Requester) (dt : Nat) (v : Word) (g : Cluster) (s : State),
    let p := s.pass dt
    (s.active = true → s.coreRuns 0 = true →
      Completes (.calRun v) s (fun t =>
        t.out = s.out ++ [.objectAnswer (s.calRunCode (bits v 11 0) (bits v 15 12))] ∧
        (s.calRunCode (bits v 11 0) (bits v 15 12) = Code.ok → t.cal.run = some { u := bits v 11 0, kind := bits v 15 12 } ∧
          OnlyRegs [.CAL_CL_CTRL, .PWR_STATE] s t) ∧
        (s.calRunCode (bits v 11 0) (bits v 15 12) ≠ Code.ok → t = s.emit (.objectAnswer (s.calRunCode (bits v 11 0) (bits v 15 12)))))) ∧
    (∀ (st : BitVec 8) (ws : List (Nat × Nat)) (a b c : Word) (r : CalRun), s.cal.run = some r → s.coreRuns 0 = true →
      (r.kind = 1 → 64 ≤ r.steps) → (r.kind = 3 → 0 < r.steps) →
      Completes (.calRunEnd dt st ws a b c) s (fun t =>
        t.cal.run = none ∧ t.cal.lastU = r.u ∧ t.cal.lastStatus = st.toNat ∧ SameMemory s t ∧
        (p.frozen r.u = true → SameRegs [.CAL_CL_CTRL] s t) ∧
        (∀ x, ws = [(0, x)] → 0x40 ≤ r.u → r.u < 0xC0 → r.kind ≠ 1 → r.kind ≠ 3 → p.frozen r.u = false →
          t.fld .RFO_OFS_TRIM (r.u - 0x40) 11 0 = x % 4096 ∧ SameRegs [.RFO_OFS_TRIM] s t))) ∧
    (s.OpenReg who .CAL_HIST_POP g →
      let u := s.throughOpen who (regAddr .CAL_HIST_POP g)
      Completes (.calHistPop who g) s (fun t =>
        (tget [] s.rd.hist g = [] → t = u.emit (.readData who 0)) ∧
        (∀ x yi yq rest, tget [] s.rd.hist g = (x, yi, yq) :: rest →
          t.out = u.out ++ [.readData who (BitVec.ofNat 64 (x + 256))] ∧ tget [] t.rd.hist g = rest ∧
          t.reg .CAL_HIST_YI g = yi ∧ t.reg .CAL_HIST_YQ g = yq ∧ OnlyAt [(.CAL_HIST_YI, g.val), (.CAL_HIST_YQ, g.val)] u t))) ∧
    (∀ r : FreezeReg, s.OpenReg who (freezeHome r).1 (freezeHome r).2.1 →
      let u := s.throughOpen who (regAddr (freezeHome r).1 (freezeHome r).2.1)
      Completes (.calFreezeWrite who r v) s (fun t =>
        (u.freezeReach r = true → t.reg (freezeHome r).1 (freezeHome r).2.1 = v &&& (freezeHome r).2.2 ∧
          t.frzWord (freezeHome r).1 (freezeHome r).2.1 = u.frzWord (freezeHome r).1 (freezeHome r).2.1 ∧
          OnlyAt [((freezeHome r).1, (freezeHome r).2.1)] u t) ∧
        (u.freezeReach r = false → t = u)))

/-- A block of receiver statistics that ends stores its sums, sets READY, OVR and DIRTY as found and counts; one that finds READY set has lost a block. An update from a READY block without OVR or DIRTY clears READY, takes the unit to NO_SIGNAL below a variance of 16, and changes no trim of a frozen unit. A monitor block stores its four sums and sets READY or leaves it to the Gaffer. A fit with a weak component takes the unit to NO_SIGNAL and leaves the tone set; with AUTO off a good fit is kept for reading and the tone set stays. It rests on choices and readings of the model: notes/assumptions/52.md, 53.md, 55.md. (R230, R232, R233, R234, R235, R237, R238, R239) -/
def Obligations.CalibrationUpdates : Prop :=
  ∀ (dt : Nat) (g : Cluster) (x : Fin 1024) (s : State),
    let p := s.pass dt
    (∀ xs : List Int, p.statBlockEnds g = true →
      let a := statSums (2 ^ (s.fld .ADC_STAT_CTRL g 12 8 + 3)) 0 xs {}
      Completes (.adcStatBlockEnd dt g xs) s (fun t =>
        t.pair .ADC_C2_LO .ADC_C2_HI g = wrapTo 64 a.c2 ∧
        (∀ k : Fin 4, t.pair .ADC_S1_LO .ADC_S1_HI (4 * g + k) = wrapTo 64 ((quad a.s1).getD k 0) ∧
          t.pair .ADC_S2_LO .ADC_S2_HI (4 * g + k) = wrapTo 64 ((quad a.s2).getD k 0) ∧
          t.pair .ADC_C1_LO .ADC_C1_HI (4 * g + k) = wrapTo 64 ((quad a.c1).getD k 0)) ∧
        t.bit .ADC_STAT_STATUS g 0 = true ∧ t.bit .ADC_STAT_STATUS g 2 = a.ovr ∧ t.bit .ADC_STAT_STATUS g 3 = p.statDirty g ∧
        (s.bit .ADC_STAT_STATUS g 0 = true → t.bit .ADC_STAT_STATUS g 1 = true) ∧
        t.fld .ADC_STAT_STATUS g 15 8 = (s.fld .ADC_STAT_STATUS g 15 8 + 1) % 256 ∧
        OnlyRegs [.ADC_STAT_STATUS, .ADC_S1_LO, .ADC_S1_HI, .ADC_S2_LO, .ADC_S2_HI, .ADC_C1_LO, .ADC_C1_HI, .ADC_C2_LO, .ADC_C2_HI] s t)) ∧
    (s.mayUpdate g = true → s.bit .ADC_STAT_STATUS g 0 = true → s.bit .ADC_STAT_STATUS g 2 = false → s.bit .ADC_STAT_STATUS g 3 = false →
      Completes (.interleaveUpdate dt g) s (fun t =>
        t.bit .ADC_STAT_STATUS g 0 = false ∧
        ((s.latchedEstimate g).vb < 16 * 2 ^ 64 → (t.calUnit g).state = 7 ∧ OnlyAt [(.ADC_STAT_STATUS, g.val)] s t) ∧
        (16 * 2 ^ 64 ≤ (s.latchedEstimate g).vb → (t.calUnit g).updates = (s.calUnit g).updates + 1) ∧
        (p.frozen g = true → OnlyAt [(.ADC_STAT_STATUS, g.val)] s t) ∧
        OnlyRegs [.ADC_STAT_STATUS, .ADC_OFS_TRIM, .ADC_GAIN_TRIM, .ADC_SKEW_TAP] s t)) ∧
    (∀ m : MonitorBlock, p.regionAwake (g / 4) = true → s.fld .MON_CTRL g 2 0 < 6 →
      tget 0 s.cal.monFrom g + 2 ^ s.fld .MON_CTRL g 12 8 ≤ s.now + dt →
      Completes (.monitorBlockEnd dt g m) s (fun t =>
        t.pair .MON_VDC_LO .MON_VDC_HI g = wrapTo 64 m.vdc ∧ t.pair .MON_VMS_LO .MON_VMS_HI g = wrapTo 64 m.vms ∧
        t.pair .MON_CDC_LO .MON_CDC_HI g = wrapTo 64 m.cdc ∧ t.pair .MON_CMS_LO .MON_CMS_HI g = wrapTo 64 m.cms ∧
        (s.bit .MON_STATUS g 0 = true → t.bit .MON_STATUS g 1 = true) ∧
        (p.background (monUnit g (s.fld .MON_CTRL g 2 0)) = false → t.bit .MON_STATUS g 0 = true) ∧
        OnlyRegs [.MON_STATUS, .MON_CTRL, .MON_VDC_LO, .MON_VDC_HI, .MON_VMS_LO, .MON_VMS_HI, .MON_CDC_LO, .MON_CDC_HI, .MON_CMS_LO,
          .MON_CMS_HI, .RFO_OFS_TRIM, .RFO_FS_TRIM, .BBO_OFS_TRIM, .BBO_FS_TRIM] s t)) ∧
    (∀ f : MixtureFit, s.fitDue x = true →
      Completes (.discriminatorFit dt x f) s (fun t =>
        (t.disc x).fresh = 0 ∧
        (f.weak = true → (t.calUnit (0x200 + x)).state = 7 ∧ OnlyRegs [] s t) ∧
        (f.weak = false → bitOf (s.calOpt (0x200 + x)) 8 = false →
          (t.calUnit (0x200 + x)).updates = (s.calUnit (0x200 + x)).updates + 1 ∧ (t.disc x).mu.length = 3 ∧ OnlyRegs [] s t) ∧
        OnlyRegs [.TONE_ROT, .TONE_TH0, .TONE_TH1, .TONE_TH2, .TONE_STATUS] s t))

/-- A supply rise (not of a die at its shutdown limit) marks the die up, with SUP_OK, LOST and the external reference as seen; a supply fault clears SUP_OK, latches the fault and returns every register of the die to its reset value; a link that goes down latches LINK_FAULT and leaves no output of the die ramping; one that comes up shows the die and its supply state again. Nothing else changes where no image is saved. It rests on choices and readings of the model: notes/assumptions/59.md, 86.md. (R246, R247, R251, R253) -/
def Obligations.BiasDiesComplete : Prop :=
  ∀ (dt : Nat) (die : Fin 2) (s : State),
    (∀ b : Bool, bitOf s.health.shutDies.toNat (9 + die) = false → s.flash.newest = none →
      Completes (.biasSupplyRise dt die b) s (fun t =>
        dieBit t.bias.supplyUp die = true ∧ dieBit t.bias.supplyFault die = false ∧
        t.bit .BIAS_DIE_STATUS die 1 = true ∧ t.bit .BIAS_DIE_STATUS die 3 = true ∧ t.bit .BIAS_DIE_STATUS die 5 = b ∧
        (∀ k : Fin 128, (tfind t.bias.ramp (128 * die + k)) = none ∧ t.fld .BIAS_STATUS (128 * die + k) 5 4 = 0) ∧
        OnlyRegs (.BIAS_DIE_STATUS :: dieRegs.map Prod.fst) s t)) ∧
    (dieBit s.bias.supplyUp die = true →
      Completes (.biasSupplyFault dt die) s (fun t =>
        dieBit t.bias.supplyUp die = false ∧ dieBit t.bias.supplyFault die = true ∧
        t.bit .BIAS_DIE_STATUS die 1 = false ∧ t.bit .BIAS_DIE_STATUS die 2 = true ∧
        (∀ q n, (q, n) ∈ dieRegs → ∀ j < n, t.reg q (n * die + j) = resetWord s.variant q (n * die + j)) ∧
        (∀ q n, (q, n) ∈ dieRegs → ∀ j, j / n ≠ die.val → t.reg q j = s.reg q j) ∧
        OnlyRegs (.BIAS_DIE_STATUS :: dieRegs.map Prod.fst) s t)) ∧
    (s.bit .BIAS_DIE_STATUS die 0 = true →
      Completes (.isolatorLinkDown dt die) s (fun t =>
        t.bit .BIAS_DIE_STATUS die 0 = false ∧ t.bit .BIAS_DIE_STATUS die 4 = true ∧ dieBit t.bias.linkFault die = true ∧
        (∀ k : Fin 128, tfind t.bias.ramp (128 * die + k) = none ∧ t.reg .BIAS_ACT (128 * die + k) = s.reg .BIAS_ACT (128 * die + k) ∧
          ((tfind s.bias.ramp (128 * die + k)).isSome = true → t.bit .BIAS_STATUS (128 * die + k) 0 = false ∧
            t.bit .BIAS_STATUS (128 * die + k) 2 = true ∧ t.fld .BIAS_STATUS (128 * die + k) 15 8 = Code.cut)) ∧
        OnlyRegs [.BIAS_DIE_STATUS, .BIAS_STATUS] s t)) ∧
    (s.flash.newest = none →
      Completes (.isolatorLinkUp dt die) s (fun t =>
        t.bit .BIAS_DIE_STATUS die 0 = true ∧ t.bit .BIAS_DIE_STATUS die 1 = dieBit s.bias.supplyUp die ∧
        dieBit t.bias.linkFault die = false ∧ OnlyAt [(.BIAS_DIE_STATUS, die.val)] s t))

/-- On a live die: a CONN of 3 is RANGE, a change while ramping BUSY, any other is stored and shown once the switch has moved. GO bits are staged; DIE GO starts every staged output whose target lies in its limits, refuses the others with LIM and RANGE, and clears the stage. STOP and STOP_ALL end the ramps of the outputs they name, ACT staying where it is. A due step moves ACT towards TGT by STEP, or onto it when STEP is 0 or no more is left, which ends the ramp with DONE. On a die out of reach each of these writes is discarded. It rests on choices and readings of the model: notes/assumptions/59.md. (R247, R249, R250, R251, R252) -/
def Obligations.BiasOutputsComplete : Prop :=
  ∀ (who : Requester) (dt : Nat) (k : Fin 256) (die : Fin 2) (i : Fin 4) (v : Word) (s : State),
    (s.OpenReg who .BIAS_CTRL k →
      Completes (.biasConnWrite who k v) s (fun t =>
        (s.dieLive (k / 128) = false → OnlyRegs [.HIF_LINK] s t) ∧
        (s.dieLive (k / 128) = true → bits v 1 0 = 3 → t.fld .BIAS_STATUS k 15 8 = Code.range ∧ OnlyAt [(.BIAS_STATUS, k.val), (.HIF_LINK, 0)] s t) ∧
        (s.dieLive (k / 128) = true → bits v 1 0 ≠ 3 → s.ramping k = true → bits v 1 0 ≠ s.fld .BIAS_CTRL k 1 0 →
          t.fld .BIAS_STATUS k 15 8 = Code.busy ∧ OnlyAt [(.BIAS_STATUS, k.val), (.HIF_LINK, 0)] s t) ∧
        (s.dieLive (k / 128) = true → bits v 1 0 ≠ 3 → s.ramping k = false →
          t.fld .BIAS_CTRL k 1 0 = bits v 1 0 ∧ tfind t.bias.conn k = some (bits v 1 0) ∧ t.fld .BIAS_STATUS k 15 8 = Code.ok ∧
          t.fld .BIAS_STATUS k 5 4 = s.fld .BIAS_STATUS k 5 4 ∧ OnlyAt [(.BIAS_STATUS, k.val), (.BIAS_CTRL, k.val), (.HIF_LINK, 0)] s t))) ∧
    (∀ c, tfind s.bias.conn k = some c →
      Completes (.biasConnComplete dt k) s (fun t => t.fld .BIAS_STATUS k 5 4 = c % 4 ∧ OnlyAt [(.BIAS_STATUS, k.val)] s t)) ∧
    (s.OpenReg who .BIAS_GO (4 * die + i) →
      Completes (.biasGoStage who die i v) s (fun t =>
        (s.dieLive die = true → tget 0 t.bias.stage die = tget 0 s.bias.stage die ||| v.toNat <<< (32 * i.val)) ∧
        (s.dieLive die = false → t.bias = s.bias) ∧ OnlyRegs [.HIF_LINK] s t)) ∧
    (s.OpenReg who .BIAS_DIE_CMD die →
      Completes (.biasDieGo who die) s (fun t =>
        (s.dieLive die = false → OnlyRegs [.HIF_LINK] s t ∧ t.bias = s.bias) ∧
        (s.dieLive die = true → tget 0 t.bias.stage die = 0 ∧
          (∀ x : Fin 128, bitOf (tget 0 s.bias.stage die) x = true →
            let o := 128 * die + x.val
            let tgt := signed 20 (s.fld .BIAS_TGT o 19 0)
            (tgt < signed 20 (s.fld .BIAS_LIM_LO o 19 0) ∨ signed 20 (s.fld .BIAS_LIM_HI o 19 0) < tgt →
              t.bit .BIAS_STATUS o 3 = true ∧ t.fld .BIAS_STATUS o 15 8 = Code.range ∧ tfind t.bias.ramp o = tfind s.bias.ramp o) ∧
            (signed 20 (s.fld .BIAS_LIM_LO o 19 0) ≤ tgt → tgt ≤ signed 20 (s.fld .BIAS_LIM_HI o 19 0) →
              t.bit .BIAS_STATUS o 0 = true ∧ t.fld .BIAS_STATUS o 15 8 = Code.ok ∧
              tfind t.bias.ramp o = some { tgt, step := s.fld .BIAS_STEP o 18 0, div := s.fld .BIAS_STEP o 28 24, tick := s.now })) ∧
          OnlyRegs [.BIAS_STATUS, .HIF_LINK] s t))) ∧
    (s.OpenReg who .BIAS_DIE_CMD die → s.dieLive die = true →
      Completes (.biasStopAll who die) s (fun t =>
        (∀ x : Fin 128, tfind t.bias.ramp (128 * die + x) = none ∧ t.fld .BIAS_STATUS (128 * die + x) 15 8 = Code.ok) ∧
        OnlyRegs [.BIAS_STATUS, .HIF_LINK] s t)) ∧
    (s.OpenReg who .BIAS_STOP (4 * die + i) → s.dieLive die = true →
      Completes (.biasStop who die i v) s (fun t =>
        (∀ x : Fin 32, bitOf v.toNat x = true →
          tfind t.bias.ramp (128 * die + 32 * i + x) = none ∧ t.fld .BIAS_STATUS (128 * die + 32 * i + x) 15 8 = Code.ok ∧
          (s.ramping (128 * die + 32 * i + x) = true → t.bit .BIAS_STATUS (128 * die + 32 * i + x) 2 = true)) ∧
        OnlyRegs [.BIAS_STATUS, .HIF_LINK] s t)) ∧
    (∀ r : Ramp, tfind s.bias.ramp k = some r → r.tick + r.least ≤ s.now + dt →
      let act := signed 20 (s.fld .BIAS_ACT k 19 0)
      let new := if r.step = 0 ∨ (r.tgt - act).natAbs ≤ r.step then r.tgt else if act < r.tgt then act + r.step else act - r.step
      Completes (.rampStep dt k) s (fun t =>
        t.fld .BIAS_ACT k 19 0 = wrapTo 20 new ∧
        (new = r.tgt → tfind t.bias.ramp k = none ∧ t.bit .BIAS_STATUS k 0 = false ∧ t.bit .BIAS_STATUS k 1 = true) ∧
        (new ≠ r.tgt → tfind t.bias.ramp k = some { r with tick := s.now + dt } ∧ t.reg .BIAS_STATUS k = s.reg .BIAS_STATUS k) ∧
        OnlyAt [(.BIAS_ACT, k.val), (.BIAS_STATUS, k.val)] s t))

/-- A converter that runs gives, once its cycles have passed, the corrected code with its input, VALID, OVERRUN if the last result was not read, and CLIP at a code limit, counts it, and holds its level source high. A read of IC_DATA_LO on a live die returns the word, takes VALID and OVERRUN and the level away, and shows the high word that belongs to it next; on a die out of reach it reads 0. A configuration write answers RANGE for a bad value and stores the others, and restarts a converter that runs. It rests on choices and readings of the model: notes/assumptions/59.md. (R255, R256, R257, R258, R259, R261) -/
def Obligations.ConvertersComplete : Prop :=
  ∀ (who : Requester) (dt : Nat) (c : Fin 8) (v : Word) (s : State),
    let p := s.pass dt
    (∀ (raw : Int) (b : Bool), dieBit s.bias.supplyUp (c / 4) = true → s.bit .IC_CTRL c 0 = true →
      cyclesPassed (s.icCycles c (tget {} s.bias.ic c).settling) (tget {} s.bias.ic c).since (s.now + dt) = true →
      let r := icCode (saturate 24 raw) (signed 20 (s.fld .IC_OFS_CORR c 19 0)) (signed 20 (s.fld .IC_GAIN_CORR c 19 0))
      Completes (.icResult dt c raw b) s (fun t =>
        t.fld .IC_DATA_LO c 23 0 = wrapTo 24 r.1 ∧ t.fld .IC_DATA_LO c 27 24 = s.fld .IC_STATUS_CH c 7 4 ∧ t.bit .IC_DATA_LO c 28 = true ∧
        t.bit .IC_DATA_LO c 29 = (s.bit .IC_DATA_LO c 28 || s.bit .IC_DATA_LO c 29) ∧ t.bit .IC_DATA_LO c 30 = r.2 ∧
        t.regNat .IC_DATA_HI c = (s.regNat .IC_DATA_HI c + 1) % 65536 ∧
        (p.srcLive (8 + c) = true → (t.source (8 + c)).line = true) ∧
        OnlyAt [(.IC_DATA_LO, c.val), (.IC_DATA_HI, c.val), (.IC_STATUS_CH, c.val), (.BIAS_DIE_STATUS, c.val / 4)] s t)) ∧
    (s.OpenReg who .IC_DATA_LO c →
      Completes (.icDataClaim who c) s (fun t =>
        (s.dieLive (c / 4) = false → t.out = s.out ++ [.readData who 0] ∧ OnlyRegs [.HIF_LINK] s t) ∧
        (s.dieLive (c / 4) = true → t.out = s.out ++ [.readData who ((s.reg .IC_DATA_LO c).zeroExtend 64)] ∧
          t.bit .IC_DATA_LO c 28 = false ∧ t.bit .IC_DATA_LO c 29 = false ∧ (t.source (8 + c)).line = false ∧
          tfind t.snap (snapKey who .IC_DATA_HI c) = some (s.reg .IC_DATA_HI c) ∧ OnlyAt [(.IC_DATA_LO, c.val), (.HIF_LINK, 0)] s t))) ∧
    (∀ r : IcReg, s.OpenReg who (icReg r) c → s.dieLive (c / 4) = true →
      Completes (.icConfigWrite who c r v) s (fun t =>
        (s.icBad c r v = true → t.fld .IC_STATUS_CH c 15 8 = Code.range ∧ t.reg (icReg r) c = s.reg (icReg r) c ∧ t.bias = s.bias) ∧
        (s.icBad c r v = false → t.fld .IC_STATUS_CH c 15 8 = Code.ok ∧
          t.reg (icReg r) c = v &&& (match r with | .ctrl => 0x3FF | .period => 0x7F0F_FFFF | .scan => 0xFF) ∧
          (s.bit .IC_CTRL c 0 = true → (tget {} t.bias.ic c).since = s.now ∧ (tget {} t.bias.ic c).settling = true)) ∧
        OnlyAt [(icReg r, c.val), (.IC_STATUS_CH, c.val), (.HIF_LINK, 0)] s t))

/-- GRIP_GO of a stopped channel with an aligned head starts it there, with DONE, UNITS, PREFIX and MOVED at 0 and OK; an unaligned head stops it with ALIGN, and GO of a running one is BUSY. STOP of a channel with nothing in flight makes it STOPPED with no error. CLR returns a STOPPED channel to IDLE. A descriptor whose fetch exceeds the budget stops its channel with BUDGET and raises its source. A fetched descriptor that passes its checks joins the channel, and behind a barrier waits there. A completed operation stores its bytes at the destination and nowhere else, counts its units, and the descriptor records it; an operation without an answer in 16 µs stops the channel with TIMEOUT, as does a fetch. It rests on choices and readings of the model: notes/assumptions/60.md. (R298, R301, R302, R303, R305, R307, R309, R310) -/
def Obligations.GripCommandsComplete : Prop :=
  ∀ (who : Requester) (dt : Nat) (c : Fin 80) (s : State),
    let p := s.pass dt
    let u := s.throughOpen who (regAddr .GRIP_CH_CTRL c)
    (s.OpenReg who .GRIP_CH_CTRL c →
      Completes (.gripGo who c) s (fun t =>
        (s.gripState c = 1 ∨ s.gripState c = 2 → t.fld .GRIP_CH_STATUS c 23 16 = Code.busy ∧ t.grip = s.grip ∧ OnlyAt [(.GRIP_CH_STATUS, c.val)] u t) ∧
        (s.gripState c = 0 ∨ s.gripState c = 3 → (s.gripHead c).2 % 64 = 0 →
          t.gripState c = 1 ∧ (t.grp c).nextAt = some (s.gripHead c) ∧ t.reg .GRIP_CH_DONE c = 0 ∧ t.reg .GRIP_CH_UNITS c = 0 ∧
          t.reg .GRIP_CH_PREFIX c = 0 ∧ t.reg .GRIP_CH_MOVED c = 0 ∧ t.fld .GRIP_CH_STATUS c 23 16 = Code.ok) ∧
        (s.gripState c = 0 ∨ s.gripState c = 3 → (s.gripHead c).2 % 64 ≠ 0 →
          t.gripState c = 3 ∧ t.fld .GRIP_CH_STATUS c 15 8 = Code.align ∧ t.bit .GRIP_CH_STATUS c 3 = true) ∧
        OnlyRegs [.GRIP_CH_STATUS, .GRIP_CH_DONE, .GRIP_CH_UNITS, .GRIP_CH_PREFIX, .GRIP_CH_MOVED, .GRIP_CH_DESC_LO, .GRIP_CH_DESC_HI] u t)) ∧
    (s.OpenReg who .GRIP_CH_CTRL c → s.gripState c = 1 → (s.grp c).flight = [] →
      Completes (.gripStop who c) s (fun t =>
        t.gripState c = 3 ∧ t.bit .GRIP_CH_STATUS c 3 = false ∧ t.fld .GRIP_CH_STATUS c 15 8 = Code.ok ∧ t.fld .GRIP_CH_STATUS c 23 16 = Code.ok ∧
        (t.grp c).nextAt = none ∧ OnlyRegs [.GRIP_CH_STATUS, .GRIP_CH_PREFIX, .GRIP_CH_MOVED, .GRIP_CH_DESC_LO, .GRIP_CH_DESC_HI] u t)) ∧
    (s.OpenReg who .GRIP_CH_CTRL c → s.gripState c = 3 → s.taskBit (gripStartInput c) = none →
      Completes (.gripClr who c) s (fun t =>
        t.gripState c = 0 ∧ t.fld .GRIP_CH_STATUS c 23 16 = Code.ok ∧ (t.grp c).descs = [] ∧ OnlyAt [(.GRIP_CH_STATUS, c.val)] u t)) ∧
    (∀ (ans : GripAnswer) (sp a : Nat), (s.grp c).nextAt = some (sp, a) → s.gripState c = 1 → (s.grp c).descs = [] → (s.grp c).flight = [] →
      ¬(sp = 0 ∧ s.inD3hot = true) → s.regNat .GRIP_CH_BUDGET c ≤ (s.grp c).count → a % 64 = 0 →
      lowestCode (s.spaceErrors sp a 64 false) = none →
      Completes (.descriptorFetch dt c ans) s (fun t =>
        t.gripState c = 3 ∧ t.fld .GRIP_CH_STATUS c 15 8 = Code.budget ∧ t.bit .GRIP_CH_STATUS c 3 = true ∧
        t.pair .GRIP_CH_DESC_LO .GRIP_CH_DESC_HI c = a % 2 ^ 64 ∧
        OnlyRegs [.GRIP_CH_STATUS, .GRIP_CH_PREFIX, .GRIP_CH_MOVED, .GRIP_CH_DESC_LO, .GRIP_CH_DESC_HI] s t)) ∧
    (∀ (ans : GripAnswer) (sp a : Nat), (s.grp c).nextAt = some (sp, a) → s.gripState c = 1 → (s.grp c).descs.length < 5 →
      ¬(sp = 0 ∧ s.inD3hot = true) → (s.grp c).count < s.regNat .GRIP_CH_BUDGET c → a % 64 = 0 →
      lowestCode (p.spaceErrors sp a 64 false) = none → answerError sp ans = none →
      let f := descOf (s.grp c).nextId sp a (p.gripRead sp a 32 ans)
      lowestCode (p.descErrors f.1 f.2.1 f.2.2 (s.gripHead c)) = none →
      Completes (.descriptorFetch dt c ans) s (fun t => (t.grp c).nextId = (s.grp c).nextId + 1 ∧
        (∀ (e : GripDesc) (o : GripOp), (s.grp c).descs = [e] → (s.grp c).flight = [o] → o.id = e.id → e.id ≠ (s.grp c).nextId →
          e.begun = true → e.issued = e.len → f.1.bar = true →
          (t.grp c).descs = [e, f.1] ∧ (t.grp c).flight = [o] ∧ (t.grp c).nextAt = if f.1.last then none else some f.2.2))) ∧
    (∀ (bs : List Byte) (d : GripDesc) (o o2 : GripOp), (s.grp c).descs = [d] → (s.grp c).flight = [o, o2] → o.id = d.id → o2.id = d.id → d.dsp = 1 → d.ssp = 0 →
      d.begun = true → d.issued = d.len → s.gripState c = 1 →
      Completes (.gripOperationComplete dt c 0 (.data bs)) s (fun t =>
        t.regNat .GRIP_CH_UNITS c = (s.regNat .GRIP_CH_UNITS c + o.len / 64) % 2 ^ 32 ∧
        (s.Inv → (∀ k < o.len, t.byte 0 (d.dst + o.off + k) = bs.getD k 0) ∧
          SameOutside (flat 0 (d.dst + o.off)) o.len s t))) ∧
    (∀ sp a, (s.grp c).nextAt = some (sp, a) → s.gripState c = 1 → ¬(sp = 0 ∧ s.inD3hot = true) → (s.grp c).flight = [] →
      Completes (.gripTimeout dt c .fetch) s (fun t =>
        t.gripState c = 3 ∧ t.fld .GRIP_CH_STATUS c 15 8 = Code.timeout ∧ t.bit .GRIP_CH_STATUS c 3 = true ∧
        OnlyRegs [.GRIP_CH_STATUS, .GRIP_CH_PREFIX, .GRIP_CH_MOVED, .GRIP_CH_DESC_LO, .GRIP_CH_DESC_HI] s t))

/-- A block of a dailies ring that is ready is stored in its 64 bytes of the ring and nowhere else, and WR counts; a read pointer beyond WR is RANGE. Training records every channel, the capacity as eight times the least one, the grade and what is wrong. A scrub read that found an error counts it for its channel and records the first. OFFLINE is refused BUSY while a user of DDR5 works. A march run starts only on a module that is offline, counts what failed, is DONE with FAIL as found, and an abort reports CUT; with no march in progress an abort is OK and stores nothing. It rests on choices and readings of the model: notes/assumptions/61.md, 62.md, 64.md. (R314, R315, R316, R317, R318, R319, R320, R322) -/
def Obligations.DailiesAndMemoryComplete : Prop :=
  ∀ (who : Requester) (dt : Nat) (n : Region) (m : Fin 8) (v : Word) (s : State),
    let p := s.pass dt
    (∀ b rest, (s.dailies n).blocks = b :: rest → p.dailiesReady n = true →
      let sp := spaceMem (s.fld .GRIP_DLY_CFG n 3 0)
      let a0 := s.pair .GRIP_DLY_BASE_LO .GRIP_DLY_BASE_HI n + 64 * (s.regNat .GRIP_DLY_WR n % s.fld .GRIP_DLY_SIZE n 23 0)
      Completes (.dailiesBlockWrite dt n) s (fun t =>
        (t.dailies n).blocks = rest ∧ t.regNat .GRIP_DLY_WR n = (s.regNat .GRIP_DLY_WR n + 1) % 2 ^ 32 ∧
        SameRegs [.GRIP_DLY_WR, .HIF_LINK] s t ∧
        (s.Inv → (∀ k < b.length, t.byte sp (a0 + k) = b.getD k 0) ∧
          SameOutside (flat sp a0) b.length s t))) ∧
    (s.OpenReg who .GRIP_DLY_RD n →
      let u := s.throughOpen who (regAddr .GRIP_DLY_RD n)
      Completes (.gripDlyRdWrite who n v) s (fun t =>
        (s.regNat .GRIP_DLY_WR n < v.toNat → t.fld .GRIP_CH_STATUS (64 + n) 23 16 = Code.range ∧ t.reg .GRIP_DLY_RD n = s.reg .GRIP_DLY_RD n) ∧
        (v.toNat ≤ s.regNat .GRIP_DLY_WR n → t.fld .GRIP_CH_STATUS (64 + n) 23 16 = Code.ok ∧ t.reg .GRIP_DLY_RD n = v) ∧
        OnlyAt [(.GRIP_CH_STATUS, 64 + n.val), (.GRIP_DLY_RD, n.val)] u t)) ∧
    (∀ (speed : Fin 5) (chs : List DimmChannel), s.bit .MEM_STATUS 0 0 = false →
      Completes (.ddr5TrainingDone dt speed chs) s (fun t =>
        t.bit .MEM_STATUS 0 0 = true ∧ 1 ≤ t.fld .MEM_STATUS 0 6 4 ∧
        (∀ d : DimmChannel, chs = List.replicate 8 d → dimmTrained d = true → d.gb < 512 →
          t.pair .MEM_CAP_LO .MEM_CAP_HI = 8 * (d.gb * 2 ^ 30) ∧ t.bit .MEM_STATUS 0 1 = false ∧ t.bit .MEM_STATUS 0 2 = false) ∧
        OnlyRegs [.MEM_STATUS, .MEM_CH_STATUS, .MEM_CAP_LO, .MEM_CAP_HI] s t)) ∧
    (∀ a dev : Nat, s.bit .MEM_SCRUB 0 0 = true → s.bit .MEM_STATUS 0 0 = true → s.bit .MEM_CH_STATUS m 2 = true →
      Completes (.scrubRead dt m a (.corrected dev)) s (fun t =>
        t.regNat .MEM_CE_CNT m = min 0xFFFF_FFFF (s.regNat .MEM_CE_CNT m + 1) ∧ t.bit .MEM_ERR_INFO m 0 = true ∧
        OnlyAt [(.MEM_CE_CNT, m.val), (.MEM_ERR_INFO, m.val), (.MEM_ERR_ADDR_LO, m.val), (.MEM_ERR_ADDR_HI, m.val)] s t)) ∧
    (s.OpenReg who .MEM_CTRL 0 →
      Completes (.memOfflineWrite who v) s (fun t =>
        (bits v 0 0 = 1 → s.bit .MEM_CTRL 0 0 = false → s.memInUse = true → t.fld .MEM_STATUS 0 15 8 = Code.busy ∧ t.reg .MEM_CTRL = s.reg .MEM_CTRL) ∧
        (bits v 0 0 = 0 ∨ s.memInUse = false → t.fld .MEM_STATUS 0 15 8 = Code.ok ∧ t.reg .MEM_CTRL = v &&& 1) ∧
        OnlyRegs [.MEM_CTRL, .MEM_STATUS, .HIF_LINK] s t)) ∧
    (s.OpenReg who .MT_CMD m →
      Completes (.mtStart who m) s (fun t =>
        (s.bit .MEM_CTRL 0 0 = false ∨ s.mtRuns m = true → t.fld .MT_STATUS m 15 8 = Code.busy ∧ OnlyAt [(.MT_STATUS, m.val), (.HIF_LINK, 0)] s t) ∧
        (s.bit .MEM_CTRL 0 0 = true → s.mtRuns m = false → (s.mtCfg m).valid = true → s.fld .MT_CTRL m 23 20 ≤ 12 →
          (∀ q ∈ s.mtRun m (s.mtCfg m).length, (q.2 + 1) * (64 * s.mtLines m) ≤ s.channelBytes m) →
          t.mtRuns m = true ∧ t.bit .MT_STATUS m 2 = false ∧ t.reg .MT_FAIL_CNT m = 0 ∧ t.reg .MT_PROG m = 0 ∧ t.fld .MT_STATUS m 15 8 = Code.ok) ∧
        OnlyAt [(.MT_STATUS, m.val), (.MT_FAIL_CNT, m.val), (.MT_PROG, m.val), (.HIF_LINK, 0)] s t)) ∧
    (∀ o : MarchOutcome, s.OpenReg who .MT_CMD m →
      Completes (.mtAbort who m o) s (fun t =>
        (s.mtRuns m = false → t.fld .MT_STATUS m 15 8 = Code.ok ∧ OnlyAt [(.MT_STATUS, m.val), (.HIF_LINK, 0)] s t) ∧
        (s.mtRuns m = true → t.fld .MT_STATUS m 1 0 = 2 ∧ t.fld .MT_STATUS m 15 8 = Code.cut))) ∧
    (∀ o : MarchOutcome, s.mtRuns m = true → o.corrected = [] → o.uncorrectable = [] → o.mismatches = 0 →
      Completes (.marchRunEnd dt m o) s (fun t =>
        t.fld .MT_STATUS m 1 0 = 2 ∧ t.bit .MT_STATUS m 2 = false ∧ t.reg .MT_FAIL_CNT m = s.reg .MT_FAIL_CNT m ∧
        t.reg .MT_PROG m = BitVec.ofNat 32 (s.mtCfg m).length ∧ SameRegs [.MT_STATUS, .MT_FAIL_CNT, .MT_PROG] s t))

/-- Enabling a link in OFF takes it to TRAIN; disabling one in TRAIN takes it to OFF. A loss of lanes takes any other state to TRAIN with LANE_LOSS set; so do a BYE and a HELLO that stays away for 3 ms. A HELLO in TRAIN records the partner and enters UP. A due HELLO and a due PING are sent. A PONG in UP stores the round trip and DCC = ceil(RT / 2 + 0.125 cc), and LAT = 14 + DCC + XLAT. A MAP is kept. A superframe begins on the grid, once per cc. One that is not intact counts in CRC_CNT and sets its cause. Bulk frames unacknowledged for 64 superframes are sent again. A message of 1 to 256 bytes is taken unless one is under way; the clear frees the receive buffer. It rests on choices and readings of the model: notes/assumptions/10.md, 66.md, 67.md, 71.md. (R326, R327, R328, R329, R330, R331, R332, R337, R341, R343) -/
def Obligations.LinksComplete : Prop :=
  ∀ (who : Requester) (dt : Nat) (l : Link) (v : Word) (s : State),
    (s.OpenReg who .LNK_CTRL l → s.linkState l = 0 → s.bit .LNK_CTRL l 0 = false →
      Completes (.linkEnable who l v) s (fun t =>
        t.linkState l = 1 ∧ t.bit .LNK_CTRL l 0 = true ∧ t.fld .LNK_CTRL l 11 8 = bits v 11 8 ∧ t.fld .LNK_STATUS l 23 16 = Code.ok ∧
        OnlyRegs [.LNK_CTRL, .LNK_STATUS, .LNK_LAT, .LNK_UP, .LNK_RTMASK, .LNK_IRQ_CAUSE, .HIF_LINK] s t)) ∧
    (s.OpenReg who .LNK_CTRL l → s.linkState l = 1 → s.bit .LNK_CTRL l 0 = true →
      Completes (.linkDisable who l v) s (fun t =>
        t.linkState l = 0 ∧ t.bit .LNK_CTRL l 0 = false ∧ t.out = s.out ∧
        OnlyRegs [.LNK_CTRL, .LNK_STATUS, .LNK_LAT, .LNK_PARTNER, .LNK_UP, .LNK_RTMASK, .LNK_IRQ_CAUSE, .HIF_LINK] s t)) ∧
    (s.linkState l ≠ 0 →
      Completes (.laneLoss dt l) s (fun t =>
        t.linkState l = 1 ∧ t.bit .LNK_STATUS l 8 = true ∧ t.bit .LNK_PARTNER l 16 = false ∧ (t.link l).locked = false ∧
        OnlyRegs [.LNK_STATUS, .LNK_LAT, .LNK_PARTNER, .LNK_UP, .LNK_RTMASK, .LNK_IRQ_CAUSE] s t)) ∧
    (s.linkState l = 1 → Completes (.laneBlockLock dt l) s (fun t => (t.link l).locked = true ∧ OnlyRegs [] s t)) ∧
    (2 ≤ s.linkState l → (s.link l).helloAt ≤ s.now + dt →
      Completes (.helloSend dt l) s (fun t =>
        t.out = s.out ++ [.linkHello l (s.fld .LNK_MODID 0 5 0) Config.serial (s.clap.state == .running)] ∧
        (t.link l).helloAt = s.now + dt + 10 ^ 6 ∧ OnlyRegs [] s t)) ∧
    (∀ h : LinkHello, s.linkState l = 1 → (s.link l).locked = true →
      Completes (.helloReceive dt l h) s (fun t =>
        t.linkState l = 2 ∧ t.fld .LNK_PARTNER l 5 0 = h.mod.toNat ∧ t.fld .LNK_PARTNER l 12 8 = h.link.val ∧ t.bit .LNK_PARTNER l 16 = true ∧
        t.reg .LNK_PSERIAL l = h.serial.setWidth 32 ∧ t.bit .LNK_STATUS l 3 = (h.mod.toNat == s.fld .LNK_MODID 0 5 0) ∧
        OnlyRegs [.LNK_STATUS, .LNK_PARTNER, .LNK_PSERIAL, .LNK_UP, .LNK_RTMASK, .LNK_IRQ_CAUSE] s t)) ∧
    (2 ≤ s.linkState l → (s.link l).helloRx + 3 * 10 ^ 6 ≤ s.now + dt →
      Completes (.helloTimeout dt l) s (fun t => t.linkState l = 1 ∧ t.bit .LNK_PARTNER l 16 = false ∧ SameMemory s t)) ∧
    (2 ≤ s.linkState l → Completes (.byeReceive dt l) s (fun t => t.linkState l = 1 ∧ t.bit .LNK_PARTNER l 16 = false ∧ SameMemory s t)) ∧
    (2 ≤ s.linkState l → (s.link l).pingAt ≤ s.now + dt →
      Completes (.pingSend dt l) s (fun t =>
        t.out = s.out ++ [.linkPing l] ∧ (t.link l).pingOut = true ∧ (t.link l).pingAt = s.now + dt + 2 ^ 20 ∧ OnlyRegs [] s t)) ∧
    (∀ rt : BitVec 24, s.linkState l = 2 → (s.link l).pingOut = true → rt.toNat ≤ 125750 →
      Completes (.pongReceive dt l rt) s (fun t =>
        let dcc := (rt.toNat + 250 + 1999) / 2000
        t.fld .LNK_RT l 23 0 = rt.toNat ∧ t.fld .LNK_LAT l 13 8 = dcc ∧ (t.link l).measured = true ∧ (t.link l).pingOut = false ∧
        t.fld .LNK_LAT l 5 0 = min 63 (14 + dcc + s.fld .LNK_CTRL l 11 8) ∧
        t.bit .LNK_STATUS l 2 = decide (31 < 14 + dcc + s.fld .LNK_CTRL l 11 8) ∧
        OnlyAt [(.LNK_RT, l.val), (.LNK_LAT, l.val), (.LNK_STATUS, l.val)] s t)) ∧
    (∀ hs : List (Fin 4), 2 ≤ s.linkState l →
      Completes (.mapReceive dt l hs) s (fun t => (t.link l).hops = hs.map Fin.val ∧
        (∀ r : Fin 256, s.fld .LNK_RXMAP r 4 0 = l.val → ∀ h, (hs.map Fin.val)[s.fld .LNK_RXMAP r 12 5]? = some h →
          t.fld .LNK_RXMAP r 14 13 = min 3 (h + 1)) ∧ OnlyRegs [.LNK_RXMAP] s t)) ∧
    (s.linkState l ≠ 0 → (s.pass dt).linkGrid % 8 = 0 → (s.link l).lastSend ≠ some (s.now + dt) →
      Completes (.superframeSend dt l) s (fun t => (t.link l).lastSend = some (s.now + dt) ∧
        (∃ bs, t.out = s.out ++ [.superframe l (s.now + dt) bs] ∧ bs.length = 124 ∧ frameIntact bs = true) ∧
        OnlyRegs [.LNK_STATUS, .LNK_TXOVWR_CNT, .LNK_EV_MERGE, .LNK_TSDROP, .LNK_RETX_CNT] s t)) ∧
    (s.linkState l = 2 → (s.link l).errs = [] →
      Completes (.superframeReceive dt l none) s (fun t =>
        t.regNat .LNK_CRC_CNT l = min 0xFFFF_FFFF (s.regNat .LNK_CRC_CNT l + 1) ∧ t.bit .LNK_IRQ_CAUSE l 4 = true ∧ t.linkState l = 2 ∧
        (t.link l).good = 0 ∧ OnlyAt [(.LNK_CRC_CNT, l.val), (.LNK_IRQ_CAUSE, l.val)] s t)) ∧
    ((s.link l).unacked ≠ [] → (s.link l).ackAt + 512 ≤ s.now + dt → s.linkState l ≠ 0 →
      Completes (.bulkRetransmit dt l) s (fun t => (t.link l).resend = some 0 ∧ (t.link l).ackAt = s.now + dt ∧ OnlyRegs [] s t)) ∧
    (∀ n : BitVec 9, s.OpenReg who .LNK_MSG_CTRL l →
      Completes (.linkMsgSend who l n) s (fun t =>
        ((s.link l).msg.isSome = true → t.fld .LNK_STATUS l 23 16 = Code.busy ∧ t.lnk = s.lnk) ∧
        ((s.link l).msg = none → (n = 0 ∨ 256 < n.toNat) → t.fld .LNK_STATUS l 23 16 = Code.range ∧ t.lnk = s.lnk) ∧
        ((s.link l).msg = none → n ≠ 0 → n.toNat ≤ 256 → t.fld .LNK_STATUS l 23 16 = Code.ok ∧ t.bit .LNK_MSG_STATUS l 0 = true ∧
          (t.link l).msg = some (s.bytes 3 (0x64000 + 0x100 * l) n.toNat)) ∧
        OnlyRegs [.LNK_STATUS, .LNK_MSG_CTRL, .LNK_MSG_STATUS, .HIF_LINK] s t)) ∧
    (s.OpenReg who .LNK_MSG_STATUS l →
      Completes (.linkRxfullClear who l) s (fun t => t.bit .LNK_MSG_STATUS l 1 = false ∧ OnlyRegs [.LNK_MSG_STATUS, .HIF_LINK] s t))

/-- A write of CUT_CMD with scope 3, or with 1 or 2 without CUT_SCOPE, is refused RANGE and cuts nothing. Scope 0 reports OK, counts, and at time 0 mutes every output of every cluster, halts every Script and kernel engine, and leaves no take engine armed or capturing and no Grip channel running; memory stays. On completion ACTIVE clears, DONE is set with CODE CUT, CUT_TIME holds the cc since the start, and source 501 is raised. It rests on choices and readings of the model: notes/assumptions/73.md. (R86, R361, R362, R363) -/
def Obligations.CutCommands : Prop :=
  ∀ (who : Requester) (dt : Nat) (k : Fin 4) (s : State),
    (s.OpenReg who .CUT_CMD 0 → (k = 3 ∨ (k ≠ 0 ∧ s.feat 7 = false)) →
      Completes (.cutCmd who k) s (fun t =>
        t.fld .CUT_RESULT 0 7 0 = Code.range ∧ t.cut = s.cut ∧ OnlyRegs [.CUT_RESULT, .HIF_LINK] s t)) ∧
    (s.OpenReg who .CUT_CMD 0 →
      Completes (.cutCmd who 0) s (fun t =>
        t.fld .CUT_RESULT 0 7 0 = Code.ok ∧ t.fld .CUT_STATUS 0 3 2 = 0 ∧ t.fld .CUT_STATUS 0 31 16 = (s.fld .CUT_STATUS 0 31 16 + 1) % 65536 ∧
        t.bit .CUT_STATUS 0 0 = true ∧ t.cut.isSome = true ∧
        (∀ g < 4 * s.variant.regions, t.bit .RFO_CTRL (2 * g) 0 = true ∧ t.bit .RFO_CTRL (2 * g + 1) 0 = true ∧ t.krnRuns g = false ∧
          (∀ b < 4, t.bit .BBO_CTRL (4 * g + b) 0 = true) ∧ (∀ e < 8, t.engineRuns g e = false)) ∧
        (∀ n < s.variant.regions, t.tkState n ≠ 1 ∧ t.tkState n ≠ 2) ∧
        (∀ c < 80, t.gripState c ≠ 1 ∧ t.gripState c ≠ 2) ∧ SameMemory s t)) ∧
    (∀ c : CutState, s.cut = some c →
      Completes (.cutComplete dt) s (fun t =>
        t.cut = none ∧ t.bit .CUT_STATUS 0 0 = false ∧ t.bit .CUT_STATUS 0 1 = true ∧ t.fld .CUT_STATUS 0 15 8 = Code.cut ∧
        t.reg .CUT_TIME = BitVec.ofNat 32 (s.now + dt - c.start) ∧ OnlyRegs [.CUT_STATUS, .CUT_TIME] s t))

/-- PERST# returns every register of the logic side, the bias dies' own apart, to its power-up value, loses the memories and holds the block; a release while held elsewhere keeps it held. FLR returns feature negotiation: ACTIVE is 0, the BAR2 base and the LTR values are at reset and the function is in D0. D3HOT_ENTRY shows D3hot, D0_RETURN shows D0 again. L1 is entered when nothing is under way. A due LTR message carries the value in force and leaves L1. It rests on choices and readings of the model: notes/assumptions/79.md, 82.md. (R346, R347, R354, R355, R356, R364, R365) -/
def Obligations.HostPowerAndResets : Prop :=
  ∀ (dt : Nat) (s : State),
    Completes (.perstAssert dt) s (fun t =>
      t.host.perst = true ∧ t.held = true ∧ t.active = false ∧ t.mem = [] ∧ t.flash = (s.flash.interrupted) ∧ t.variant = s.variant ∧
      (∀ q i, (∀ n, (q, n) ∉ dieRegs) → t.reg q i = resetWord s.variant q i)) ∧
    (∀ (sp : Fin 6) (w : Fin 33), s.host.perst = false → Completes (.perstDeassert dt sp w) s (fun t => OnlyRegs [] s t ∧ t.host = s.host)) ∧
    (∀ (sp : Fin 6) (w : Fin 33), s.host.perst = true → s.health.shutdown = false → s.health.railHold &&& 0xFC03 ≠ 0 →
      Completes (.perstDeassert dt sp w) s (fun t => t.host.perst = false ∧ t.held = true ∧ t.mem = [])) ∧
    (∀ (sp : Fin 6) (w : Fin 33), s.host.perst = true → s.health.shutdown = false → s.health.railHold = 0 → s.flash.newest = none →
      Completes (.perstDeassert dt sp w) s (fun t => t.host.perst = false ∧ t.held = false ∧ t.mem = [] ∧ t.fld .HIF_LINK 0 3 0 = sp.val ∧
        t.fld .HIF_LINK 0 9 4 = w.val ∧ t.bit .GLB_STATUS 0 4 = (decide (sp.val < 3) || decide (w.val < 8)))) ∧
    (s.held = false → s.flash.newest = none → s.servedAt 0x1010 0xA 0 ≠ 1 →
      Completes (.flr dt) s (fun t =>
        t.active = false ∧ t.reg .FEAT_ACCEPT = 0 ∧ t.reg .HIF_BAR2_BASE_LO = 0 ∧ t.reg .HIF_BAR2_BASE_HI = 0 ∧ t.inD3hot = false ∧
        t.host = {} ∧ SameMemory s t)) ∧
    Completes (.d3hotEntry dt) s (fun t => t.inD3hot = true ∧ t.irq.msix.pmeSignalled = false ∧ OnlyRegs [.HIF_LINK] s t) ∧
    (s.inD3hot = true →
      Completes (.d0Return dt) s (fun t => t.inD3hot = false ∧ OnlyRegs [.HIF_LINK, .IC_TGT_IDLE, .IC_TGT_SENT] s t)) ∧
    (s.held = false → s.inD3hot = false → s.hostReads = 0 → (∀ v < 32, (s.pass dt).messageDue (v + 4) = false) →
      Completes (.l1Entry dt) s (fun t => t.bit .HIF_LINK 0 12 = true ∧ OnlyRegs [.HIF_LINK] s t)) ∧
    (s.host.ltrEn = true → s.host.ltrSent = none → s.held = false → s.inD3hot = false →
      Completes (.ltrSend dt) s (fun t =>
        t.out = s.out ++ [.ltr (if (s.pass dt).ltrBusy then s.fld .HIF_LTR_BUSY 0 12 0 else s.fld .HIF_LTR_IDLE 0 12 0)] ∧
        t.bit .HIF_LINK 0 12 = false ∧ OnlyRegs [.HIF_LINK] s t))

/-- A GO after an accepted one reports OK and changes nothing else; a set without BASE or with a feature that is not offered is RANGE and is not accepted; any other is accepted, and ACTIVE holds from the next cc on. A BAR2 base that is no multiple of 1 GB is ALIGN, any other is stored. A BAR2 write in reach stores the enabled bytes at the base plus the offset and no other byte; a read in reach returns the bytes there; one out of reach sets BAR2_BAD and reads zeros. It rests on choices and readings of the model: notes/assumptions/85.md. (R351, R352, R358, R359) -/
def Obligations.FeaturesAndTheBar2Window : Prop :=
  ∀ (who : Requester) (v : BitVec 64) (s : State),
    let base := s.pair .HIF_BAR2_BASE_LO .HIF_BAR2_BASE_HI
    (s.OpenReg who .FEAT_CTRL 0 →
      Completes (.featGo who) s (fun t =>
        (s.goAccepted = true → t.fld .FEAT_STATUS 0 7 0 = Code.ok ∧ OnlyRegs [.FEAT_STATUS, .HIF_LINK] s t) ∧
        (s.goAccepted = false → s.featAcceptable = false → t.fld .FEAT_STATUS 0 7 0 = Code.range ∧ t.goAccepted = false ∧
          OnlyRegs [.FEAT_STATUS, .HIF_LINK] s t) ∧
        (s.goAccepted = false → s.featAcceptable = true → s.flash.newest = none → t.fld .FEAT_STATUS 0 7 0 = Code.ok ∧ t.goAccepted = true ∧
          t.active = false ∧ ({ t with now := t.now + 1 } : State).active = true ∧ OnlyRegs [.FEAT_STATUS, .FEAT_CTRL, .HIF_LINK] s t))) ∧
    (s.OpenReg who .HIF_BAR2_BASE_LO 0 →
      Completes (.hifBar2BaseWrite who v) s (fun t =>
        (v.toNat % 2 ^ 30 ≠ 0 → t.fld .HIF_STATUS 0 7 0 = Code.align ∧ OnlyRegs [.HIF_STATUS, .HIF_LINK] s t) ∧
        (v.toNat % 2 ^ 30 = 0 → t.fld .HIF_STATUS 0 7 0 = Code.ok ∧ t.pair .HIF_BAR2_BASE_LO .HIF_BAR2_BASE_HI = v.toNat % 2 ^ 42 ∧
          OnlyRegs [.HIF_STATUS, .HIF_BAR2_BASE_LO, .HIF_BAR2_BASE_HI, .HIF_LINK] s t))) ∧
    (∀ (x : Nat) (bs : List (Option Byte)), s.held = false → s.inD3hot = false → x < 2 ^ s.host.bar2Log →
      Completes (.bar2Access (.write x bs)) s (fun t =>
        (s.bar2Open x = true → SameRegs [.HIF_LINK] s t ∧ (s.Inv →
          (∀ k b, bs[k]? = some (some b) → t.byte 0 (base + x + k) = b) ∧
          (∀ k, bs[k]? = some none → t.byte 0 (base + x + k) = s.byte 0 (base + x + k)) ∧
          SameOutside (flat 0 (base + x)) bs.length s t)) ∧
        (s.bar2Open x = false → t.bit .GLB_STATUS 0 3 = true ∧ OnlyRegs [.GLB_STATUS, .HIF_LINK] s t))) ∧
    (∀ x n : Nat, s.held = false → s.inD3hot = false → x < 2 ^ s.host.bar2Log →
      Completes (.bar2Access (.read x n .clean)) s (fun t =>
        (s.bar2Open x = true → t.out = s.out ++ [.bar2Data (s.bytes 0 (base + x) n) false] ∧ OnlyRegs [.HIF_LINK] s t) ∧
        (s.bar2Open x = false → t.out = s.out ++ [.bar2Data (List.replicate n 0) false] ∧ t.bit .GLB_STATUS 0 3 = true ∧
          OnlyRegs [.GLB_STATUS, .HIF_LINK] s t)))

/-- A region that has been idle for the dwell of the next state, with that state allowed, begins to enter it; a begun entry whose time has passed, the region still idle, completes. A woken region begins its exit to P0, and one that is ready completes it. An image that is not written in time keeps the region in P3 with its idle time at 0. PWR_WAKE marks the sleeping regions it names and answers OK; PWR_TOL is stored, and one that allows no state begins the exit at once. It rests on choices and readings of the model: notes/assumptions/10.md, 75.md. (R415, R416, R417, R418, R419) -/
def Obligations.RegionPowerStates : Prop :=
  ∀ (who : Requester) (dt : Nat) (n : Region) (v : Word) (s : State),
    let p := s.pass dt
    let x := p.regionPower n
    (s.hasRegion n = true → x.going = none → x.wake = false → x.state < 4 → x.state + 1 ≤ p.allowed n → p.idleFor n (x.state + 1) = true →
      (if x.state = 0 then x.idleSince else x.deepSince) + entryDwell (x.state + 1) ≤ s.now + dt →
      Completes (.powerStateEntry dt n) s (fun t =>
        (t.regionPower n).going = some (x.state + 1, s.now + dt + entryTime (x.state + 1)) ∧ (t.regionPower n).state = x.state ∧ OnlyRegs [] s t)) ∧
    (∀ k by_, x.going = some (k, by_) → x.state < k → k < 3 → x.wake = false → p.idleFor n k = true → by_ ≤ s.now + dt →
      Completes (.powerStateEntryComplete dt n) s (fun t =>
        (t.regionPower n).state = k ∧ (t.regionPower n).going = none ∧ OnlyRegs [] s t)) ∧
    (x.going = none → x.wake = true → 0 < x.state → x.state < 3 →
      Completes (.powerStateExit dt n) s (fun t =>
        (t.regionPower n).going = some (0, s.now + dt + exitLatency x.state) ∧ OnlyRegs [] s t)) ∧
    (∀ by_, x.going = some (0, by_) → x.state < 3 →
      Completes (.powerStateExitComplete dt n) s (fun t =>
        (t.regionPower n).state = 0 ∧ (t.regionPower n).wake = false ∧ (t.regionPower n).going = none ∧
        t.fld .PWR_STATE n 31 16 = (s.fld .PWR_STATE n 31 16 + 1) % 65536 ∧ OnlyAt [(.PWR_STATE, n.val)] s t)) ∧
    (∀ b, x.imageBy = some b → b ≤ s.now + dt →
      Completes (.p4ImageTimeout dt n) s (fun t =>
        (t.regionPower n).going = none ∧ (t.regionPower n).imageBy = none ∧ (t.regionPower n).state = x.state ∧
        (t.regionPower n).idleSince = s.now + dt ∧ OnlyRegs [] s t)) ∧
    (∀ mask : BitVec 16, s.OpenReg who .PWR_WAKE 0 →
      Completes (.pwrWake who mask) s (fun t =>
        (∀ r : Fin 16, bitOf mask.toNat r = true → s.hasRegion r = true → (s.regionPower r).depth ≠ 0 → (t.regionPower r).wake = true) ∧
        (∀ r : Fin 16, bitOf mask.toNat r = false → t.regionPower r = s.regionPower r) ∧
        t.fld .PWR_STATUS 0 15 8 = Code.ok ∧ OnlyRegs [.PWR_STATUS, .HIF_LINK] s t)) ∧
    (s.OpenReg who .PWR_TOL n →
      Completes (.pwrTolWrite who n v) s (fun t =>
        t.reg .PWR_TOL n = v ∧ t.fld .PWR_STATUS 0 15 8 = Code.ok ∧
        (v.toNat < 200 → (s.regionPower n).state = 1 → (s.regionPower n).going = none → (s.regionPower n).wake = false →
          (t.regionPower n).going = some (0, s.now + 200)) ∧ OnlyRegs [.PWR_TOL, .PWR_STATUS, .HIF_LINK] s t))

/-- A reset of a populated region that is not in reset halts its Script and kernel engines, returns its take engine to IDLE and sets its bit of PWR_RSTAT; a cluster reset halts the engines of that cluster and sets its bit of PWR_CSTAT. Memory stays. Completing a reset clears the bit. The fault of a tile's supply mutes the outputs of the tile, holds its two regions in reset, latches PWR_SUP_FAULT and clears LOGIC_OK; the fault of a supply of the whole logic side holds the block and loses its memories. A rail that returns while another is out is no longer bad. POWER_UP counts a power cycle and starts the block anew, released. It rests on choices and readings of the model: notes/assumptions/78.md, 79.md. (R414, R420, R421, R425) -/
def Obligations.ResetsAndSupplies : Prop :=
  ∀ (who : Requester) (dt : Nat) (n : Region) (g : Cluster) (s : State),
    (s.OpenReg who .PWR_RRESET 0 → s.hasRegion n = true → bitOf (s.regNat .PWR_RSTAT) n = false →
      Completes (.regionReset who (BitVec.ofNat 16 (1 <<< n.val))) s (fun t =>
        bitOf (t.regNat .PWR_RSTAT) n = true ∧ t.tkState n = 0 ∧ t.fld .PWR_STATUS 0 15 8 = Code.ok ∧
        (∀ c < 4, t.krnRuns (4 * n + c) = false ∧ ∀ e < 8, t.engineRuns (4 * n + c) e = false) ∧ SameMemory s t)) ∧
    (s.OpenReg who .PWR_CRESET_LO 0 → s.hasCluster g = true → bitOf (s.regNat .PWR_RSTAT) (g / 4) = false →
      bitOf (s.pair .PWR_CSTAT_LO .PWR_CSTAT_HI) g = false →
      Completes (.clusterReset who (BitVec.ofNat 64 (1 <<< g.val))) s (fun t =>
        bitOf (t.pair .PWR_CSTAT_LO .PWR_CSTAT_HI) g = true ∧ t.fld .PWR_STATUS 0 15 8 = Code.ok ∧ t.krnRuns g = false ∧
        (∀ e < 8, t.engineRuns g e = false) ∧ SameMemory s t)) ∧
    (bitOf s.health.railHold.toNat (2 + n / 2) = false →
      Completes (.resetComplete dt (.region n)) s (fun t => bitOf (t.regNat .PWR_RSTAT) n = false ∧ OnlyRegs [.PWR_RSTAT] s t)) ∧
    Completes (.resetComplete dt (.cluster g)) s (fun t =>
      bitOf (t.pair .PWR_CSTAT_LO .PWR_CSTAT_HI) g = false ∧ OnlyRegs [.PWR_CSTAT_LO, .PWR_CSTAT_HI] s t) ∧
    (s.hasRegion n = true → bitOf (s.regNat .PWR_RSTAT) n = false → (2 * (n / 2) = n.val) →
      Completes (.logicSupplyFault dt ⟨2 + n / 2, by omega⟩) s (fun t =>
        bitOf t.health.railBad.toNat (2 + n / 2) = true ∧ bitOf t.health.railHold.toNat (2 + n / 2) = true ∧
        t.bit .PWR_SUP_FAULT 0 (2 + n / 2) = true ∧ t.bit .PWR_STATUS 0 0 = false ∧ bitOf (t.regNat .PWR_RSTAT) n = true ∧
        (∀ c < 4, t.bit .RFO_CTRL (2 * (4 * n + c)) 0 = true) ∧ SameMemory s t)) ∧
    Completes (.logicSupplyFault dt 1) s (fun t => t.held = true ∧ t.mem = [] ∧ bitOf t.health.railBad.toNat 1 = true) ∧
    (s.health.railBad = 6 → s.health.railHold = 6 →
      Completes (.supplyRecovery dt 2) s (fun t => t.health.railBad = 2 ∧ t.bit .PWR_STATUS 0 0 = false ∧ SameMemory s t)) ∧
    Completes (.powerUp dt) s (fun t =>
      t.health.wear.cycles = s.health.wearImage.cycles + 1 ∧ t.health.railBad = 0 ∧ t.held = false ∧ t.mem = [] ∧ t.host.perst = false)

/-- A thermal sample a ms after the last shows the reading of each die that exists and is powered, counts a ms of wear, and sets THROTTLE and the level sources as the dies stand; an hour after the last, the wear log's image is what the log holds. A watchdog that expires resets its core, restarts, counts in GAF_WD_STATUS and the wear log, and raises source 506. A kick restarts a watchdog; GAF_RESTART releases the hold and forgets the expiries. It rests on choices and readings of the model: notes/assumptions/79.md. (R292, R422, R423, R424, R425) -/
def Obligations.ThermalLimitsAndWatchdogs : Prop :=
  ∀ (who : Requester) (dt : Nat) (k : Fin 4) (s : State),
    (∀ ts : List (BitVec 16), (∀ t0, s.health.sampledAt = some t0 → t0 + 1000000 ≤ s.now + dt) → s.variant = .rq128 → ts = List.replicate 11 (320 : BitVec 16) →
      60 ≤ s.fld .THERM_WARN 0 7 0 → s.health.warnDies = 0 → s.health.critDies = 0 → s.health.shutDies = 0 →
      Completes (.thermalSample dt ts) s (fun t =>
        t.health.sampledAt = some (s.now + dt) ∧ t.health.wear.ms = s.health.wear.ms + 1 ∧ t.health.warnDies = 0 ∧ t.bit .PWR_STATUS 0 1 = false ∧
        t.reg .THERM_TEMP 0 = 0x00010140 ∧ t.reg .THERM_TEMP 2 = 0 ∧ t.reg .THERM_TEMP 8 = 0x00010140 ∧
        OnlyRegs [.THERM_TEMP, .PWR_STATUS] s t)) ∧
    (s.health.wearAt + 3600000000000 ≤ s.now + dt →
      Completes (.wearLogImage dt) s (fun t => t.health.wearImage = s.health.wear ∧ t.health.wearAt = s.now + dt ∧ OnlyRegs [] s t)) ∧
    (s.wdRuns k = true → tget 0 s.health.wdKick k + 1000000 * s.fld .GAF_WD_CTRL k 15 0 ≤ s.now + dt → s.health.expiries = [] →
      Completes (.watchdogExpire dt k) s (fun t =>
        t.core k = {} ∧ tget 0 t.health.wdKick k = s.now + dt ∧ t.health.wear.wd = s.health.wear.wd + 1 ∧
        t.fld .GAF_WD_STATUS 0 (8 * k + 7) (8 * k) = min 255 (s.fld .GAF_WD_STATUS 0 (8 * k + 7) (8 * k) + 1) ∧
        OnlyRegs [.GAF_WD_STATUS] s t)) ∧
    (s.OpenReg who .GAF_WD_KICK k →
      Completes (.gafWdKick who k) s (fun t => tget 0 t.health.wdKick k = s.now ∧ t.fld .PWR_STATUS 0 15 8 = Code.ok ∧ OnlyRegs [.PWR_STATUS, .HIF_LINK] s t)) ∧
    (s.OpenReg who .GAF_CMD 0 →
      Completes (.gafRestart who) s (fun t =>
        t.bit .PWR_STATUS 0 4 = false ∧ t.health.expiries = [] ∧ t.core 0 = {} ∧ t.core 1 = {} ∧ t.fld .PWR_STATUS 0 15 8 = Code.ok ∧
        OnlyRegs [.PWR_STATUS, .HIF_LINK] s t))

/-- A HELLO, or a request that names an open session from its own address and port, with room in the queue and a new SEQ enters the queue at its end, and renews the session's lease. A SEQ among the kept ones is answered again with the kept response and not queued. A request that names no open session is answered ACCESS at once; one that finds the queue full is answered BUSY with the hint in AUX. A datagram of another size than its header says counts in OD_BADFRAME and is not answered; a fragment is discarded; a bad header is answered RANGE. It rests on choices and readings of the model: notes/assumptions/80.md. (R378, R381, R382, R387, R388, R389) -/
def Obligations.RequestsEnterTheQueue : Prop :=
  ∀ (dt : Nat) (d : Datagram) (s : State), s.held = false →
    let f := d.bytes
    let r (slot : Nat) : Request := { slot, netB := d.netB, addr := d.addr.toNat, port := d.port.toNat, frame := f }
    let frm (session status aux : Nat) : Out := .burtis d.netB d.addr.toNat d.port.toNat (answerFrame f session status aux [])
    (noFrame d = false → headerBad f = false → frameLength f ≤ 1400 → frameOpcode f = 1 → s.queueRefuses 0 = false →
      Completes (.requestEnqueue dt d) s (fun t => t.od.queue = s.od.queue ++ [r 0] ∧ t.out = s.out ∧ OnlyRegs [] s t)) ∧
    (∀ slot : Nat, noFrame d = false → headerBad f = false → frameLength f ≤ 1400 → frameOpcode f ≠ 1 → s.namedSession d = some slot →
      s.queueRefuses slot = false → (s.session slot).keptFor (frameSeq f) = none →
      (∀ q ∈ s.od.queue, q.slot = slot → frameSeq q.frame ≠ frameSeq f) →
      Completes (.requestEnqueue dt d) s (fun t => t.od.queue = s.od.queue ++ [r slot] ∧ t.out = s.out ∧
        (t.session slot).leaseEnd = s.now + dt + 10 ^ 10 ∧ OnlyRegs [] s t)) ∧
    (∀ (slot : Nat) (k : List Byte), noFrame d = false → headerBad f = false → frameLength f ≤ 1400 → frameOpcode f ≠ 1 →
      s.namedSession d = some slot → (s.session slot).keptFor (frameSeq f) = some k →
      Completes (.requestEnqueue dt d) s (fun t => t.od.queue = s.od.queue ∧
        t.out = s.out ++ [.burtis d.netB d.addr.toNat d.port.toNat k] ∧ OnlyRegs [] s t)) ∧
    (noFrame d = false → headerBad f = false → frameOpcode f ≠ 1 → s.namedSession d = none → s.queueRefuses 0 = false →
      Completes (.requestEnqueue dt d) s (fun t => t.od.queue = s.od.queue ∧
        t.out = s.out ++ [frm (frameSession f) Code.access 0] ∧ OnlyRegs [] s t)) ∧
    (noFrame d = false → headerBad f = false → frameOpcode f = 1 → 256 ≤ s.od.queue.length →
      Completes (.requestEnqueue dt d) s (fun t => t.od.queue = s.od.queue ∧
        t.out = s.out ++ [frm (frameSession f) Code.busy s.busyHint] ∧ 1 ≤ s.busyHint ∧ s.busyHint ≤ 1000 ∧ OnlyRegs [] s t)) ∧
    (noFrame d = true → d.fragment = false →
      Completes (.burtisBadFrame dt d) s (fun t => t.servedAt 0x1031 2 0 = min 0xFFFF_FFFF (s.servedAt 0x1031 2 0 + 1) ∧
        t.out = s.out ∧ t.od = s.od ∧ OnlyRegs [] s t)) ∧
    (d.fragment = true → Completes (.burtisBadFrame dt d) s (fun t => t.served = s.served ∧ t.out = s.out ∧ t.od = s.od ∧ OnlyRegs [] s t)) ∧
    (noFrame d = false → headerBad f = true → frameLength f ≤ 1400 → frameOpcode f = 1 → s.queueRefuses 0 = false →
      Completes (.burtisBadFrame dt d) s (fun t => t.od.queue = s.od.queue ∧ t.out = s.out ++ [frm (frameSession f) Code.range 0] ∧
        OnlyRegs [] s t))

/-- A WRITE of the right size and range to an RO or CONST object, or a READ of a WO object, is refused with ACCESS; a WRITE to an RWL object whose owner is not stopped is refused with LOCKED; the request changes nothing, and all that follows is its answer. The first two clauses say it of the object operations every transport goes through, the others of the READ and WRITE requests. (R370) -/
def Obligations.ObjectAccessCodes : Prop :=
  ∀ (dt : Nat) (core : Fin 2) (r : Request) (rest : List Request) (o : Obj) (pos : Nat) (s : State),
    let p := s.pass dt
    let q : State := { p with od := { p.od with queue := rest } }
    let f := r.frame
    let fits (bs : List Byte) : Prop := bs.length = o.type.size ∧ o.outOfRange (leNat bs) = false
    (∀ (k : Fin 4) (index sub : Nat) (bs : List Byte), s.findRef index sub = .ok (.object o pos) →
      (fits bs → o.acc = .ro ∨ o.acc = .const → s.objWrite featGoOp k index sub bs = (Code.access, s)) ∧
      (fits bs → o.acc = .rwl → s.objLocked (o.place pos) = true → s.objWrite featGoOp k index sub bs = (Code.locked, s)) ∧
      (o.acc = .wo → s.objRead k index sub = (Code.access, [], s))) ∧
    (∀ (k : Fin 4) (index sub n : Nat) (b : Byte), s.findRef index sub = .ok (.count n) →
      s.objWrite featGoOp k index sub [b] = (Code.access, s)) ∧
    (s.od.queue = r :: rest → s.coreRuns core = true → q.findRef (frameIndex f) (frameSub f) = .ok (.object o pos) →
      (frameOpcode f = 4 → fits (framePayload f) → o.acc = .ro ∨ o.acc = .const →
        exec (.burtisWrite dt core) s = .next (q.reply r Code.access 0 [])) ∧
      (frameOpcode f = 4 → fits (framePayload f) → o.acc = .rwl → q.objLocked (o.place pos) = true →
        exec (.burtisWrite dt core) s = .next (q.reply r Code.locked 0 [])) ∧
      (frameOpcode f = 3 → o.acc = .wo → exec (.burtisRead dt core) s = .next (q.reply r Code.access 0 [])))

/-- A core that runs takes the oldest request and answers it to where it came from. READ of a register field answers OK and the field's bytes; of an unknown object its refusal. WRITE of a served object stores the value, counts it and answers OK; a register-backed one answers what its block reports. READ_BLOCK with N outside 1-128 or past subindex 0xFF is RANGE; else it answers OK with at most N whole entries in at most 1,400 bytes. WRITE_BLOCK whose entries do not add up is TYPE and writes nothing; else it answers one status for each entry. It rests on choices and readings of the model: notes/assumptions/86.md. (R369, R372, R373, R374, R379, R383, R384) -/
def Obligations.ObjectRequestsAreServed : Prop :=
  ∀ (dt : Nat) (core : Fin 2) (r : Request) (rest : List Request) (s : State),
    let p := s.pass dt
    let q : State := { p with od := { p.od with queue := rest } }
    let f := r.frame
    let ref := q.findRef (frameIndex f) (frameSub f)
    let frm (status aux : Nat) (payload : List Byte) : List Byte := answerFrame f (frameSession f) status aux payload
    s.od.queue = r :: rest → s.coreRuns core = true →
    (∀ (o : Obj) (pos hi lo : Nat) (g : Reg), frameOpcode f = 3 → ref = .ok (.object o pos) → o.home = .field g hi lo → o.acc ≠ .wo →
      q.gate (.gaffer (coreOf core)) (regAddr g pos) = .open → windowRegion (regAddr g pos) = none →
      Completes (.burtisRead dt core) s (fun t => t.od.queue = rest ∧
        Answered s t r (frm Code.ok 0 (o.encode (bits (q.peek g pos) hi lo))))) ∧
    (∀ c : Nat, frameOpcode f = 3 → ref = .error c →
      Completes (.burtisRead dt core) s (fun t => t.od.queue = rest ∧ Answered s t r (frm c 0 []))) ∧
    (∀ (o : Obj) (pos d lo hi : Nat), frameOpcode f = 4 → ref = .ok (.object o pos) → o.home = .served d lo hi → o.acc = .rw →
      (framePayload f).length = o.type.size → o.outOfRange (leNat (framePayload f)) = false →
      (frameIndex f, frameSub f) ≠ (0x1F81, 1) →
      Completes (.burtisWrite dt core) s (fun t => t.od.queue = rest ∧
        t.servedAt (frameIndex f) (frameSub f) d = leNat (framePayload f) ∧
        t.servedAt 0x1F81 1 0 = (s.servedAt 0x1F81 1 0 + 1) % 2 ^ 32 ∧ Answered s t r (frm Code.ok 0 []))) ∧
    (frameOpcode f = 4 →
      let w := q.objWrite featGoOp (coreOf core) (frameIndex f) (frameSub f) (framePayload f)
      Completes (.burtisWrite dt core) s (fun t => t.od.queue = w.2.od.queue ∧ Answered w.2 t r (frm w.1 0 []))) ∧
    (∀ n : Byte, frameOpcode f = 5 → framePayload f = [n] →
      Completes (.burtisReadBlock dt core) s (fun t =>
        (n = 0 ∨ 128 < n.toNat ∨ 256 < frameSub f + n.toNat → t.od.queue = rest ∧ Answered s t r (frm Code.range 0 [])) ∧
        (1 ≤ n.toNat → n.toNat ≤ 128 → frameSub f + n.toNat ≤ 256 → ∃ (u : State) (k : Nat) (bs : List Byte),
          k ≤ n.toNat ∧ 3 * k ≤ bs.length ∧ bs.length ≤ 1400 ∧ Answered u t r (frm Code.ok k bs)))) ∧
    (frameOpcode f = 6 →
      Completes (.burtisWriteBlock dt core) s (fun t =>
        (∀ (n : Byte) (bs : List Byte), framePayload f = n :: bs → splitEntries n.toNat bs = none →
          t.od.queue = rest ∧ Answered s t r (frm Code.type 0 [])) ∧
        (∀ (n : Byte) (bs : List Byte) (vs : List (List Byte)), framePayload f = n :: bs → splitEntries n.toNat bs = some vs →
          1 ≤ n.toNat → n.toNat ≤ 128 → frameSub f + n.toNat ≤ 256 → ∃ (u : State) (cs : List Nat),
            cs.length = n.toNat ∧ Answered u t r (frm ((cs.find? (fun c => c != 0)).getD 0) 0 (cs.map (BitVec.ofNat 8))))))

/-- A HELLO from an address and port without a session opens the lowest free slot with the next generation, bound to them and leased for 10 s, and answers OK with the record; one that holds a session gets it again, its lease renewed; with no slot free it is BUSY with 1,000. A mailbox HELLO answers with its own session. BYE closes the session, discards its queued requests and is answered OK. SUBSCRIBE that is not refused adds or removes the subscription. A due notification reads the object and is sent when MODE is 1 or the value differs. STATUS answers 20 bytes, with the whole ms left of the lease. An expired lease closes the session and counts. It rests on choices and readings of the model: notes/assumptions/80.md, 81.md. (R383, R385, R386, R387, R388) -/
def Obligations.SessionsAndSubscriptions : Prop :=
  ∀ (dt : Nat) (core : Fin 2) (r : Request) (rest : List Request) (k : Nat) (s : State),
    let p := s.pass dt
    let q : State := { p with od := { p.od with queue := rest } }
    let f := r.frame
    let front (op : Nat) : Prop := s.od.queue = r :: rest ∧ s.coreRuns core = true ∧ frameOpcode f = op
    let frm (session status aux : Nat) (payload : List Byte) : List Byte := answerFrame f session status aux payload
    (front 1 → r.mailbox = none → frameLength f ≤ 32 → s.sessionOf r.addr r.port = none → s.freeSlot = some k →
      Completes (.burtisHello dt core) s (fun t => let g := ((s.session k).gen + 1) % 256
        t.session k = { isOpen := true, gen := g, netB := r.netB, addr := r.addr, port := r.port, leaseEnd := s.now + dt + 10 ^ 10 } ∧
        (∀ j, j ≠ k → t.session j = s.session j) ∧ t.od.queue = rest ∧ Answered s t r (frm (k + 256 * g) Code.ok 0 p.helloRecord))) ∧
    (front 1 → r.mailbox = none → frameLength f ≤ 32 → s.sessionOf r.addr r.port = some k →
      Completes (.burtisHello dt core) s (fun t =>
        t.session k = { s.session k with leaseEnd := s.now + dt + 10 ^ 10 } ∧ t.od.queue = rest ∧
        Answered s t r (frm (k + 256 * (s.session k).gen) Code.ok 0 p.helloRecord))) ∧
    (front 1 → r.mailbox = none → frameLength f ≤ 32 → s.sessionOf r.addr r.port = none → s.freeSlot = none →
      Completes (.burtisHello dt core) s (fun t => t.od.sess = s.od.sess ∧ Answered s t r (frm (frameSession f) Code.busy 1000 []))) ∧
    (front 1 → r.mailbox = some k → frameLength f ≤ 32 →
      Completes (.burtisHello dt core) s (fun t => t.od.sess = s.od.sess ∧ Answered s t r (frm (0x81 + k) Code.ok 0 p.helloRecord))) ∧
    (front 2 → r.mailbox = none → Completes (.burtisBye dt core) s (fun t =>
        (t.session r.slot).isOpen = false ∧ (t.session r.slot).subs = [] ∧ (t.session r.slot).gen = (s.session r.slot).gen ∧
        t.od.queue = rest.filter (fun x => x.slot != r.slot || x.mailbox.isSome) ∧ Answered s t r (frm (frameSession f) Code.ok 0 []))) ∧
    (front 7 →
      let old := (s.session r.slot).subs.filter (otherSub (frameIndex f) (frameSub f))
      let period := leNat ((framePayload f).take 2)
      let mode := leNat ((framePayload f).drop 2)
      Completes (.burtisSubscribe dt core) s (fun t => t.od.queue = rest ∧
        (∀ c, q.subscribeCode r.slot (frameIndex f) (frameSub f) (framePayload f) = some c →
          (t.session r.slot).subs = (s.session r.slot).subs ∧ Answered s t r (frm (frameSession f) c 0 [])) ∧
        (q.subscribeCode r.slot (frameIndex f) (frameSub f) (framePayload f) = none → Answered s t r (frm (frameSession f) Code.ok 0 []) ∧
          (mode = 0 → (t.session r.slot).subs = old) ∧
          (mode ≠ 0 → ∃ x : Subscription, (t.session r.slot).subs = old ++ [x] ∧ x.index = frameIndex f ∧ x.sub = frameSub f ∧
            x.seq = frameSeq f ∧ x.period = period ∧ x.mode = mode ∧ x.nextAt = s.now + dt + 10 ^ 6 * period)))) ∧
    (front 8 → Completes (.burtisStatus dt core) s (fun t => t.od.queue = rest ∧ ∃ bs : List Byte, bs.length = 20 ∧
        (r.slot ≤ 32 → leNat (bs.take 4) = ((s.session r.slot).leaseEnd - (s.now + dt)) / 10 ^ 6 % 2 ^ 32) ∧
        bs[14]? = some (BitVec.ofNat 8 (b2n p.active)) ∧ Answered s t r (frm (frameSession f) Code.ok 0 bs))) ∧
    (∀ (slot : Fin 33) (index : BitVec 16) (sub : BitVec 8) (z : Subscription), s.gafferServes = true → (s.session slot).isOpen = true →
      (s.session slot).subs.find? (fun x => !otherSub index.toNat sub.toNat x) = some z → z.nextAt ≤ s.now + dt →
      let v := p.objRead 0 z.index z.sub
      Completes (.subscriptionNotify dt slot index sub) s (fun t =>
        (z.mode = 1 ∨ z.last ≠ some (v.1, v.2.1) → t.out = v.2.2.out ++ [.burtis (s.session slot).netB (s.session slot).addr
          (s.session slot).port (answerFrame (subscribedFrame (s.sessionNumber slot) z) (s.sessionNumber slot) v.1 ((z.count + 1) % 65536) v.2.1)]) ∧
        (z.mode ≠ 1 → z.last = some (v.1, v.2.1) → t.out = v.2.2.out) ∧ OnlyRegs [] v.2.2 t)) ∧
    (∀ slot : Fin 33, slot.val ≠ 0 → (s.session slot).isOpen = true → (s.session slot).leaseEnd ≤ s.now + dt →
      Completes (.sessionLeaseExpire dt slot) s (fun t => (t.session slot).isOpen = false ∧ (t.session slot).subs = [] ∧
        t.servedAt 0x1031 5 0 = min 0xFFFF_FFFF (s.servedAt 0x1031 5 0 + 1) ∧ t.out = s.out ∧
        t.od.queue = s.od.queue.filter (fun x => x.slot != slot.val || x.mailbox.isSome) ∧ OnlyRegs [] s t))

/-- A SUBMIT while PEND is BUSY; one with its own SESSION, room, and a new SEQ copies MB_REQ into the queue, sets PEND and reports OK; one with another SESSION is answered ACCESS in MB_RSP with READY set. A RELEASE clears READY, or brings the waiting response in. OD_SAVE and OD_RESTORE with the right word start the write of an image, of the values or of none, into the area that does not hold the newest; while one is under way they are BUSY, and another word is RANGE. The end of the write makes the image valid and raises source 6. The load counters publish what the Gaffer measured. It rests on choices and readings of the model: notes/assumptions/74.md, 80.md, 86.md. (R376, R377, R378, R380, R391, R392) -/
def Obligations.MailboxesAndSavedImages : Prop :=
  ∀ (who : Requester) (dt : Nat) (k : Fin 4) (v : Word) (s : State),
    let len := s.le 3 (mailboxBase k + 12) 2
    let f := s.bytes 3 (mailboxBase k) (16 + min 1400 len)
    let r : Request := { slot := 0x81 + k, mailbox := some k.val, frame := f }
    (s.OpenReg who .MB_CTRL k → s.bit .MB_STATUS k 0 = true →
      Completes (.mbSubmit who k) s (fun t => t.fld .MB_STATUS k 15 8 = Code.busy ∧ t.od = s.od ∧ OnlyRegs [.MB_STATUS, .HIF_LINK] s t)) ∧
    (s.OpenReg who .MB_CTRL k → s.bit .MB_STATUS k 0 = false → frameSession f = 0x81 + k → len ≤ 1400 → headerBad f = false →
      frameOpcode f ≠ 7 → s.queueRefuses (0x81 + k) = false → (s.session (0x81 + k)).keptFor (frameSeq f) = none →
      (∀ x ∈ s.od.queue, x.slot = 0x81 + k → frameSeq x.frame ≠ frameSeq f) →
      Completes (.mbSubmit who k) s (fun t => t.fld .MB_STATUS k 15 8 = Code.ok ∧ t.bit .MB_STATUS k 0 = true ∧
        t.od.queue = s.od.queue ++ [r] ∧ OnlyRegs [.MB_STATUS, .HIF_LINK] s t)) ∧
    (s.OpenReg who .MB_CTRL k → s.bit .MB_STATUS k 0 = false → s.bit .MB_STATUS k 1 = false → frameSession f ≠ 0x81 + k →
      frameOpcode f ≠ 1 → s.queueRefuses (0x81 + k) = false →
      Completes (.mbSubmit who k) s (fun t => t.fld .MB_STATUS k 15 8 = Code.ok ∧ t.bit .MB_STATUS k 0 = false ∧ t.bit .MB_STATUS k 1 = true ∧
        t.od.queue = s.od.queue ∧ (s.Inv → t.bytes 3 (mailboxBase k + 0x800) 16 = answerFrame f (frameSession f) Code.access 0 []) ∧
        SameRegs [.MB_STATUS, .HIF_LINK] s t ∧ SameOutside (flat 3 (mailboxBase k + 0x800)) 16 s t)) ∧
    (s.OpenReg who .MB_CTRL k →
      Completes (.mbRelease who k) s (fun t => t.fld .MB_STATUS k 15 8 = Code.ok ∧ t.od.queue = s.od.queue ∧
        (tfind s.od.waiting k.val = none → t.bit .MB_STATUS k 1 = false ∧ OnlyRegs [.MB_STATUS, .HIF_LINK] s t) ∧
        (∀ w, tfind s.od.waiting k.val = some w → t.bit .MB_STATUS k 1 = true ∧ t.bit .MB_STATUS k 0 = false ∧
          (s.Inv → t.bytes 3 (mailboxBase k + 0x800) w.length = w) ∧ SameRegs [.MB_STATUS, .HIF_LINK] s t ∧
          SameOutside (flat 3 (mailboxBase k + 0x800)) w.length s t))) ∧
    (s.gafferServes = true →
      Completes (.odSave v) s (fun t =>
        (v = 0x6576_6173 → s.flash.saving = none → t.out = s.out ++ [.objectAnswer Code.ok] ∧
          ∃ img : SavedImage, t.flash.saving = some (s.flash.toSecond, img) ∧ img.values = some (s.regs, s.served)) ∧
        (v = 0x6576_6173 → s.flash.saving.isSome = true → t.out = s.out ++ [.objectAnswer Code.busy] ∧ t.flash = s.flash) ∧
        (v ≠ 0x6576_6173 → t.out = s.out ++ [.objectAnswer Code.range] ∧ t.flash = s.flash ∧ t.served = s.served) ∧ OnlyRegs [] s t)) ∧
    (s.gafferServes = true →
      Completes (.odRestore v) s (fun t =>
        (v = 0x6461_6F6C → s.flash.saving = none → t.out = s.out ++ [.objectAnswer Code.ok] ∧
          ∃ img : SavedImage, t.flash.saving = some (s.flash.toSecond, img) ∧ img.values = none) ∧
        (v = 0x6461_6F6C → s.flash.saving.isSome = true → t.out = s.out ++ [.objectAnswer Code.busy] ∧ t.flash = s.flash) ∧
        (v ≠ 0x6461_6F6C → t.out = s.out ++ [.objectAnswer Code.range] ∧ t.flash = s.flash ∧ t.served = s.served) ∧ OnlyRegs [] s t)) ∧
    (∀ (second : Bool) (img : SavedImage), s.flash.saving = some (second, img) →
      Completes (.saveImageComplete dt true) s (fun t => t.flash.saving = none ∧
        (if second then t.flash.areaB = some img ∧ t.flash.areaA = s.flash.areaA else t.flash.areaA = some img ∧ t.flash.areaB = s.flash.areaB) ∧
        t.servedAt 0x1018 3 0 % 2 ^ 9 = Code.ok ∧ OnlyRegs [] s t)) ∧
    (∀ g : GafferLoad, s.gafferServes = true →
      Completes (.gafferLoadUpdate dt g) s (fun t => t.servedAt 0x1F80 1 0 = g.core0.toNat ∧ t.servedAt 0x1F80 2 0 = g.core1.toNat ∧
        t.servedAt 0x1F80 3 0 = s.od.queue.length ∧ t.servedAt 0x1F80 6 0 = g.tsvc.toNat ∧ t.servedAt 0x1F80 7 0 = g.ptp.toNat ∧
        t.servedAt 0x1F80 8 0 = g.cal.toNat ∧ t.servedAt 0x1F80 9 0 = g.od.toNat ∧ t.fld .OD_QUEUE 0 31 16 = g.tsvcUs.toNat ∧
        OnlyRegs [.OD_QUEUE] s t))

/-- With INC in its range: while WT_CTRL.SRC selects a domain, a write of WT_INC by the host or by Gaffer core 2 or 3 is discarded and reported LOCKED, also when it comes as 32-bit halves on the bus, and one by core 0 or 1 sets INC; while SRC is MANUAL, any requester sets INC, and a servo update changes neither INC nor the course of W. (R396) -/
def Obligations.WallTimeOwner : Prop :=
  ∀ (who : Requester) (dt : Nat) (d : Domain) (v : BitVec 64) (w : Word) (s : State),
    let src := s.fld .WT_CTRL 0 1 0
    let served : Prop := who = .gaffer 0 ∨ who = .gaffer 1
    let sets (c : Instr) : Prop := Completes c s (fun t =>
      t.pair .WT_INC_LO .WT_INC_HI = v.toNat ∧ t.fld .WT_STATUS 0 15 8 = Code.ok ∧
      (∀ cc, cc ≤ s.now + 1 → t.wallAt cc = s.wallAt cc) ∧
      (∀ k, t.wallAt (s.now + 1 + k) = (s.wallAt (s.now + 1) + k * v.toNat) % 2 ^ 96) ∧
      OnlyRegs [.WT_INC_LO, .WT_INC_HI, .WT_STATUS, .HIF_LINK] s t)
    let discards (c : Instr) : Prop := Completes c s (fun t =>
      t.fld .WT_STATUS 0 15 8 = Code.locked ∧ t.time = s.time ∧ OnlyRegs [.WT_STATUS, .HIF_LINK] s t)
    (s.OpenReg who .WT_INC_LO 0 → incMin ≤ v.toNat → v.toNat ≤ incMax →
      (src ≠ 0 → ¬ served → discards (.wtIncWrite who v)) ∧
      (src ≠ 0 → served → sets (.wtIncWrite who v)) ∧
      (src = 0 → sets (.wtIncWrite who v))) ∧
    (s.OpenReg who .WT_INC_LO 0 → src ≠ 0 → ¬ served →
      (incMin ≤ halfWord false s.wallInc w → halfWord false s.wallInc w ≤ incMax →
        discards (.registerWrite who (.write32 (BitVec.ofNat 28 (regAddr .WT_INC_LO 0)) w))) ∧
      (incMin ≤ halfWord true s.wallInc w → halfWord true s.wallInc w ≤ incMax →
        discards (.registerWrite who (.write32 (BitVec.ofNat 28 (regAddr .WT_INC_HI 0)) w)))) ∧
    (src = 0 → Completes (.servoUpdate dt d) s (fun t =>
      t.reg .WT_INC_LO = s.reg .WT_INC_LO ∧ t.reg .WT_INC_HI = s.reg .WT_INC_HI ∧ t.time.segs = s.time.segs))

/-- NEW_EPOCH sets STEP_PEND, marks every region take engine and the system take engine, and reports OK; with STEP_PEND already 1 it changes nothing further and reports OK. The next slate that a marked engine writes carries DISCONT, flag bit 6, and takes the mark. STEP and NEW_EPOCH in one write are refused with RANGE. (R399) -/
def Obligations.NewTimeEpoch : Prop :=
  ∀ (who : Requester) (dt : Nat) (n : Region) (s : State),
    let flag (t : State) (base : Nat) : Bool := bitOf (t.le 0 (base + 6) 2) 6
    (s.OpenReg who .WT_CMD 0 →
      Completes (.wtNewEpoch who) s (fun t =>
        t.bit .WT_STATUS 0 3 = true ∧ t.fld .WT_STATUS 0 15 8 = Code.ok ∧ t.time = s.time ∧
        (s.bit .WT_STATUS 0 3 = false → t.take = { s.take with discont := BitVec.allOnes 17 }) ∧
        (s.bit .WT_STATUS 0 3 = true → t.take = s.take) ∧ OnlyRegs [.WT_STATUS, .HIF_LINK] s t)) ∧
    (∀ (k : Take) (rest : List Take) (smp : TakeSamples) (port : TakePort), s.Inv → (s.takeEngine n).takes = k :: rest → k.closed = true →
      (port = .completed ∨ port = .timeout true ∨ port = .poison true) → s.take.discont.getLsbD n = true →
      Completes (.slateWrite dt n smp port) s (fun t =>
        flag t (s.slotBase n k) = true ∧ t.take.discont.getLsbD n = false ∧
        ∀ e, e ≠ n.val → t.take.discont.getLsbD e = s.take.discont.getLsbD e)) ∧
    (∀ (k : SysTake) (rest : List SysTake), s.Inv → s.take.sys.takes = k :: rest → k.asserted = true →
      (∀ i ∈ setBitsOf 16 k.mask, (s.pass dt).regionDone i k = true) → s.take.discont.getLsbD 16 = true →
      Completes (.systemSlateWrite dt) s (fun t =>
        flag t (s.regNat .STK_RING_BASE_LO + s.fld .STK_RING_BASE_HI 0 9 0 * 2 ^ 32 + 64 * (k.q % max 1 s.stkSlots)) = true ∧
        t.take.discont.getLsbD 16 = false ∧ ∀ e < 16, t.take.discont.getLsbD e = s.take.discont.getLsbD e)) ∧
    (∀ v : Word, bits v 1 0 = 3 → s.OpenReg who .WT_CMD 0 →
      Completes (.registerWrite who (.write32 (BitVec.ofNat 28 (regAddr .WT_CMD 0)) v)) s (fun t =>
        t.fld .WT_STATUS 0 15 8 = Code.range ∧ t.bit .WT_STATUS 0 3 = s.bit .WT_STATUS 0 3 ∧ t.take = s.take ∧ t.time = s.time ∧
        OnlyRegs [.WT_STATUS, .HIF_LINK] s t))

/-- STEP with STEP_PEND adds WT_STEP to W of the next cc, changes no earlier W, clears STEP_PEND, counts the epoch and records its footage and W; without it, it is refused ACCESS. A read of WT_NOW returns the low word of W and captures the rest and the footage for its requester. A write of WT_CTRL with SRC 3, with B without DUAL_DOMAIN or with HOLD_S 0 is RANGE; a switch to a domain whose offset is not valid is BUSY; another is stored, and takes effect at that domain's next exchange, MANUAL at once. PPS_OUT rises when W reaches a whole second and falls after its width; PPS_IN stores the time and footage, with OVR set while one is unclaimed, and a read claims it. It rests on choices and readings of the model: notes/assumptions/10.md, 43.md, 44.md. (R394, R395, R397, R407, R408, R409) -/
def Obligations.WallTimeAndPps : Prop :=
  ∀ (who : Requester) (dt : Nat) (q : Fin 4) (v : Word) (s : State),
    let p := s.pass dt
    (s.OpenReg who .WT_CMD 0 →
      let w := ((s.wallAt (s.now + 1) : Int) + s.wtStepValue) % 2 ^ 96
      Completes (.wtStep who) s (fun t =>
        (s.bit .WT_STATUS 0 3 = false → t.fld .WT_STATUS 0 15 8 = Code.access ∧ t.time = s.time ∧ OnlyRegs [.WT_STATUS, .HIF_LINK] s t) ∧
        (s.bit .WT_STATUS 0 3 = true → t.fld .WT_STATUS 0 15 8 = Code.ok ∧ t.bit .WT_STATUS 0 3 = false ∧
          (t.wallAt (s.now + 1) : Int) = w ∧ (∀ cc ≤ s.now, t.wallAt cc = s.wallAt cc) ∧
          (∀ k, t.wallAt (s.now + 1 + k) = (t.wallAt (s.now + 1) + k * s.wallInc) % 2 ^ 96) ∧
          t.fld .WT_STATUS 0 31 16 = (s.fld .WT_STATUS 0 31 16 + 1) % 65536 ∧
          t.pair .WT_EPOCH_FTG_LO .WT_EPOCH_FTG_HI = (s.ftg + 1) % 2 ^ 64 ∧
          ((t.regNat .WT_EPOCH_WALL 0 + t.regNat .WT_EPOCH_WALL 1 * 2 ^ 32 + t.regNat .WT_EPOCH_WALL 2 * 2 ^ 64 : Nat) : Int) = w ∧
          OnlyRegs [.WT_STATUS, .WT_EPOCH_FTG_LO, .WT_EPOCH_FTG_HI, .WT_EPOCH_WALL, .HIF_LINK] s t))) ∧
    (s.OpenReg who .WT_NOW 0 →
      Completes (.wtNowSnapshot who) s (fun t =>
        t.out = s.out ++ [.readData who (BitVec.ofNat 64 (s.wallAt s.now % 2 ^ 32))] ∧
        tfind t.snap (snapKey who .WT_NOW 1) = some (BitVec.ofNat 32 (s.wallAt s.now / 2 ^ 32)) ∧
        tfind t.snap (snapKey who .WT_NOW 2) = some (BitVec.ofNat 32 (s.wallAt s.now / 2 ^ 64)) ∧
        tfind t.snap (snapKey who .WT_NOW_FTG_LO 0) = some (BitVec.ofNat 32 s.ftg) ∧
        tfind t.snap (snapKey who .WT_NOW_FTG_HI 0) = some (BitVec.ofNat 32 (s.ftg / 2 ^ 32)) ∧ t.time = s.time ∧ OnlyRegs [.HIF_LINK] s t)) ∧
    (s.OpenReg who .WT_CTRL 0 →
      let src := bits v 1 0
      let bad : Prop := src = 3 ∨ (src = 2 ∧ s.feat 5 = false) ∨ bits v 15 8 = 0
      let moves : Prop := src ≠ s.fld .WT_CTRL 0 1 0 ∧ src ≠ 0
      Completes (.wtSrcWrite who v) s (fun t => t.time.segs = s.time.segs ∧
        (bad → t.fld .WT_STATUS 0 15 8 = Code.range ∧ t.time = s.time ∧ OnlyRegs [.WT_STATUS, .HIF_LINK] s t) ∧
        (¬ bad → moves → s.bit .PTP_STATUS (src - 1) 3 = false →
          t.fld .WT_STATUS 0 15 8 = Code.busy ∧ t.time = s.time ∧ OnlyRegs [.WT_STATUS, .HIF_LINK] s t) ∧
        (¬ bad → (moves → s.bit .PTP_STATUS (src - 1) 3 = true) → t.fld .WT_STATUS 0 15 8 = Code.ok ∧ t.reg .WT_CTRL = v &&& 0xFF07 ∧
          (moves → t.time.switchTo = some (src - 1) ∧ t.srcAct = s.srcAct) ∧
          (src = 0 → s.fld .WT_CTRL 0 1 0 ≠ 0 → t.time.switchTo = none ∧ t.srcAct = 0) ∧
          OnlyRegs [.WT_STATUS, .WT_CTRL, .HIF_LINK] s t))) ∧
    (p.active = true → s.bit .PPS_CTRL 0 0 = true → s.time.ppsEnd = none → s.time.steppedAt ≠ some (s.now + dt) → 0 < s.now + dt →
      s.wallAt (s.now + dt) % (10 ^ 9 * 2 ^ 32) < s.wallAt (s.now + dt) - s.wallAt (s.now + dt - 1) →
      Completes (.ppsOutRise dt) s (fun t => t.out = s.out ++ [.ppsRise (s.now + dt)] ∧
        t.time.ppsEnd = some (s.now + dt + s.fld .PPS_CTRL 0 17 8 * 10 ^ 6) ∧ OnlyRegs [] s t)) ∧
    (∀ c, s.time.ppsEnd = some c → c ≤ s.now + dt →
      Completes (.ppsOutFall dt) s (fun t => t.out = s.out ++ [.ppsFall (s.now + dt)] ∧ t.time.ppsEnd = none ∧ OnlyRegs [] s t)) ∧
    (p.active = true → s.bit .PPS_CTRL 0 1 = true →
      Completes (.ppsInCapture dt q) s (fun t =>
        t.pair .PPS_IN_TS_LO .PPS_IN_TS_HI = (s.wallAt (s.now + dt) + q * s.wallInc / 4) / 2 ^ 30 % 2 ^ 64 ∧
        t.pair .PPS_IN_FTG_LO .PPS_IN_FTG_HI = p.ftg % 2 ^ 64 ∧ t.bit .PPS_STATUS 0 0 = true ∧
        t.bit .PPS_STATUS 0 1 = (s.bit .PPS_STATUS 0 0 || s.bit .PPS_STATUS 0 1) ∧
        OnlyRegs [.PPS_STATUS, .PPS_IN_TS_LO, .PPS_IN_TS_HI, .PPS_IN_FTG_LO, .PPS_IN_FTG_HI] s t)) ∧
    (s.OpenReg who .PPS_IN_TS_LO 0 →
      Completes (.ppsInClaim who) s (fun t => t.out = s.out ++ [.readData who ((s.reg .PPS_IN_TS_LO).zeroExtend 64)] ∧
        tfind t.snap (snapKey who .PPS_IN_TS_HI 0) = some (s.reg .PPS_IN_TS_HI) ∧ t.bit .PPS_STATUS 0 0 = false ∧
        OnlyRegs [.PPS_STATUS, .HIF_LINK] s t))

/-- A message that an enabled domain cannot use counts in its PTP_ERR_CNT; of the ones it can, an Announce makes the best qualified clock the master, a one-step Sync, or a Sync and its Follow_Up, from the master gives t1, t2 and the correction, and the Delay_Resp to the request on its way completes the exchange. A due Delay_Req leaves with its timestamp. A master not heard of for its timeout is dropped. For a complete exchange the servo forms ofs and mpd as the rules say and counts it, and in slew by proportional and integral terms the domain in force sets INC within its limits. It rests on choices and readings of the model: notes/assumptions/43.md. (R401, R402, R403, R404, R405) -/
def Obligations.DomainsAndServo : Prop :=
  ∀ (dt : Nat) (d : Domain) (q : Fin 4) (m : PtpMessage) (s : State),
    let p := s.pass dt
    let x := s.ptp d
    let usable : Bool := m.wellFormed && m.domainNumber == s.fld .PTP_CFG d 7 0 && s.bit .PTP_CFG d (if m.netB then 9 else 8) &&
      s.bit .PTP_CFG d (if m.udp then 11 else 10)
    let heard : Bool := x.master.any (fun f => f.clock == m.clock && f.portNumber == m.portNumber && f.netB == m.netB)
    let receives (P : State → Prop) : Prop := Completes (.ptpMessageReceive dt m q) s (fun t => P t ∧ t.time.segs = s.time.segs ∧
      OnlyRegs [.PTP_STATUS, .PTP_ERR_CNT, .PTP_MASTER_LO, .PTP_MASTER_HI, .PTP_MPORT, .WT_STATUS] s t)
    (p.domainOn d = true → m.body ≠ .other → usable = false →
      receives (fun t => t.regNat .PTP_ERR_CNT d = min 0xFFFF_FFFF (s.regNat .PTP_ERR_CNT d + 1) ∧ t.ptp d = x)) ∧
    (∀ (rank : List Nat) (li : Int), p.domainOn d = true → usable = true → m.body = .announce rank li →
      receives (fun t => (t.ptp d).master = bestClock (t.ptp d).foreign (s.now + dt) (s.fld .PTP_CFG d 19 16) ∧
        ∃ f ∈ (t.ptp d).foreign, f.rank = rank ∧ f.clock = m.clock ∧ f.portNumber = m.portNumber ∧ f.netB = m.netB ∧ f.last = s.now + dt)) ∧
    (∀ (seq : Nat) (t1 c : Int), p.domainOn d = true → usable = true → m.body = .sync true seq t1 c → heard = true →
      receives (fun t => (t.ptp d).forward = some (t1, p.stampFine q, c))) ∧
    (∀ (seq : Nat) (t1 c : Int), p.domainOn d = true → usable = true → m.body = .sync false seq t1 c → heard = true →
      receives (fun t => (t.ptp d).sync = some (seq, p.stampFine q, c) ∧ (t.ptp d).forward = x.forward)) ∧
    (∀ (seq : Nat) (t1 t2 c c' : Int), p.domainOn d = true → usable = true → m.body = .followUp seq t1 c → heard = true → x.sync = some (seq, t2, c') →
      receives (fun t => (t.ptp d).forward = some (t1, t2, c' + c) ∧ (t.ptp d).sync = none)) ∧
    (∀ (seq : Nat) (t1 t2 t3 t4 c c' : Int) (li : Int), p.domainOn d = true → usable = true → m.body = .delayResp seq t4 c li → heard = true →
      x.request = some (seq, t3) → x.forward = some (t1, t2, c') →
      receives (fun t => (t.ptp d).exchange = some { t1, t2, t3, t4, corrSync := c', corrDresp := c } ∧
        (t.ptp d).request = none ∧ (t.ptp d).requestAt = s.now + dt + intervalCc li)) ∧
    (∀ f : ForeignClock, x.master = some f → p.domainOn d = true → x.requestAt ≤ s.now + dt →
      Completes (.delayReqSend dt d q) s (fun t => t.out = s.out ++ [.delayReq d f.netB x.nextSeq] ∧
        (t.ptp d).request = some (x.nextSeq, p.stampFine q) ∧ (t.ptp d).nextSeq = (x.nextSeq + 1) % 65536 ∧ OnlyRegs [] s t)) ∧
    (∀ a f : ForeignClock, x.master = some a → x.foreign.find? a.same = some f → f.last + s.fld .PTP_CFG d 19 16 * f.interval ≤ s.now + dt →
      Completes (.announceTimeout dt d) s (fun t => (t.ptp d).foreign = x.foreign.filter (fun o => !f.same o) ∧
        (t.ptp d).master = bestClock (t.ptp d).foreign (s.now + dt) (s.fld .PTP_CFG d 19 16) ∧ t.time.segs = s.time.segs ∧
        OnlyRegs [.PTP_STATUS, .PTP_MASTER_LO, .PTP_MASTER_HI, .PTP_MPORT, .WT_STATUS] s t)) ∧
    (∀ e : Exchange, x.exchange = some e → p.domainOn d = true → s.coreRuns 0 = true →
      let asym := s.asymmetry d
      let ms := e.t2 - e.t1 - e.corrSync - asym
      let sm := e.t4 - e.t3 - e.corrDresp + asym
      let mpd := (ms + sm).tdiv 2
      let ofs := mpd - ms
      Completes (.servoUpdate dt d) s (fun t => let y := t.ptp d
        ((t.pair .PTP_OFS_LO .PTP_OFS_HI d : Nat) : Int) = ofs % 2 ^ 64 ∧ t.reg .PTP_MPD d = BitVec.ofInt 32 mpd ∧
        t.regNat .PTP_SYNC_CNT d = (s.regNat .PTP_SYNC_CNT d + 1) % 2 ^ 32 ∧ y.exchange = none ∧ y.exchanges = x.exchanges + 1 ∧
        t.bit .PTP_STATUS d 3 = decide (3 ≤ x.exchanges) ∧ (x.exchanges < 3 → t.fld .PTP_STATUS d 2 0 = 2) ∧
        (s.fld .WT_CTRL 0 1 0 ≠ 0 → s.srcAct = d + 1 → s.bit .WT_STATUS 0 3 = false → s.smallOffset ofs = true →
          y.iAcc = x.iAcc + ofs / 2 ^ s.servedAt 0x2030 2 7 ∧
          ((t.pair .WT_INC_LO .WT_INC_HI : Nat) : Int) = max (incMin : Int) (min (incMax : Int) (y.incRate + ofs / 2 ^ s.servedAt 0x2030 1 3 + y.iAcc)) ∧
          t.bit .WT_STATUS 0 2 = false) ∧
        (s.srcAct ≠ d + 1 → s.time.switchTo ≠ some d.val → s.bit .WT_CTRL 0 2 = false → t.wallInc = s.wallInc ∧ t.time.segs = s.time.segs) ∧
        OnlyRegs [.PTP_OFS_LO, .PTP_OFS_HI, .PTP_MPD, .PTP_RATE, .PTP_SYNC_CNT, .PTP_T, .PTP_STATUS, .WT_STATUS, .WT_INC_LO, .WT_INC_HI,
          .WT_EPOCH_FTG_LO, .WT_EPOCH_FTG_HI, .WT_EPOCH_WALL] s t))

/-- With VDD_AON in tolerance: STATUS_WORD answers two bytes whose bit 2 says that a die is at its warning limit and bit 6 that the logic side is held; the temperature reads answer the hottest die of their group with a valid reading, READ_PIN the power, both in the linear format; PMBUS_REVISION answers 0x33; every other command, and every write, is not acknowledged. JTAG: BYPASS captures one 0, IDCODE the variant's 32 bits, least significant first, SAMPLE the lands. None of them changes a register or a memory. It rests on choices and readings of the model: notes/assumptions/76.md. (R448, R449) -/
def Obligations.ManagementPortsAnswer : Prop :=
  ∀ (dt : Nat) (smb : Bool) (s : State),
    let answers (c : Instr) (o : Out) : Prop := Completes c s (fun t => t.out = s.out ++ [o] ∧ OnlyRegs [] s t)
    (s.aonUp = true →
      answers (.statusWord dt smb) (.pmbus smb (leBytes 2 (4 * b2n (s.health.warnDies != 0) + 64 * b2n s.held))) ∧
      (∀ t : Int, s.hottest (List.range 9) = some t → answers (.readTemperature1 dt smb) (.pmbus smb (leBytes 2 (linear11 t)))) ∧
      (∀ t : Int, s.hottest [9, 10] = some t → answers (.readTemperature2 dt smb) (.pmbus smb (leBytes 2 (linear11 t)))) ∧
      (∀ watts : Nat, answers (.readPin dt smb watts) (.pmbus smb (leBytes 2 (linear11 (16 * watts))))) ∧
      answers (.pmbusRevision dt smb) (.pmbus smb [0x33]) ∧
      (∀ (code : Byte) (write : Bool), write = true ∨ code ∉ pmbusReads → answers (.pmbusUnsupported dt smb code write) (.pmbusNack smb))) ∧
    answers (.bypass dt) (.jtagCapture [false]) ∧
    answers (.idcode dt) (.jtagCapture ((List.range 32).map (idcodeWord s.variant).getLsbD)) ∧
    (∀ lands : List Bool, answers (.sample dt lands) (.jtagCapture lands))
end

