-- ==== Sys2Proof/Laws/State.lean ====
section
/-!
SUPPORT. For each named update of the state, what it leaves as it was: every field but the one it writes, and with it every
register, unless the registers are what it writes. All hold by unfolding the update once, here.
-/

namespace Sys2Proof.Machine

/-! ### `State.setReg` changes `regs` alone -/

@[simp] theorem State.setReg_variant (s : State) (r : Reg) (i : Nat) (w : Word) : (State.setReg s r i w).variant = s.variant := rfl
@[simp] theorem State.setReg_now (s : State) (r : Reg) (i : Nat) (w : Word) : (State.setReg s r i w).now = s.now := rfl
@[simp] theorem State.setReg_snap (s : State) (r : Reg) (i : Nat) (w : Word) : (State.setReg s r i w).snap = s.snap := rfl
@[simp] theorem State.setReg_mem (s : State) (r : Reg) (i : Nat) (w : Word) : (State.setReg s r i w).mem = s.mem := rfl
@[simp] theorem State.setReg_xl (s : State) (r : Reg) (i : Nat) (w : Word) : (State.setReg s r i w).xl = s.xl := rfl
@[simp] theorem State.setReg_clap (s : State) (r : Reg) (i : Nat) (w : Word) : (State.setReg s r i w).clap = s.clap := rfl
@[simp] theorem State.setReg_play (s : State) (r : Reg) (i : Nat) (w : Word) : (State.setReg s r i w).play = s.play := rfl
@[simp] theorem State.setReg_scr (s : State) (r : Reg) (i : Nat) (w : Word) : (State.setReg s r i w).scr = s.scr := rfl
@[simp] theorem State.setReg_rd (s : State) (r : Reg) (i : Nat) (w : Word) : (State.setReg s r i w).rd = s.rd := rfl
@[simp] theorem State.setReg_krn (s : State) (r : Reg) (i : Nat) (w : Word) : (State.setReg s r i w).krn = s.krn := rfl
@[simp] theorem State.setReg_fab (s : State) (r : Reg) (i : Nat) (w : Word) : (State.setReg s r i w).fab = s.fab := rfl
@[simp] theorem State.setReg_take (s : State) (r : Reg) (i : Nat) (w : Word) : (State.setReg s r i w).take = s.take := rfl
@[simp] theorem State.setReg_cal (s : State) (r : Reg) (i : Nat) (w : Word) : (State.setReg s r i w).cal = s.cal := rfl
@[simp] theorem State.setReg_bias (s : State) (r : Reg) (i : Nat) (w : Word) : (State.setReg s r i w).bias = s.bias := rfl
@[simp] theorem State.setReg_router (s : State) (r : Reg) (i : Nat) (w : Word) : (State.setReg s r i w).router = s.router := rfl
@[simp] theorem State.setReg_cut (s : State) (r : Reg) (i : Nat) (w : Word) : (State.setReg s r i w).cut = s.cut := rfl
@[simp] theorem State.setReg_irq (s : State) (r : Reg) (i : Nat) (w : Word) : (State.setReg s r i w).irq = s.irq := rfl
@[simp] theorem State.setReg_grip (s : State) (r : Reg) (i : Nat) (w : Word) : (State.setReg s r i w).grip = s.grip := rfl
@[simp] theorem State.setReg_host (s : State) (r : Reg) (i : Nat) (w : Word) : (State.setReg s r i w).host = s.host := rfl
@[simp] theorem State.setReg_lnk (s : State) (r : Reg) (i : Nat) (w : Word) : (State.setReg s r i w).lnk = s.lnk := rfl
@[simp] theorem State.setReg_served (s : State) (r : Reg) (i : Nat) (w : Word) : (State.setReg s r i w).served = s.served := rfl
@[simp] theorem State.setReg_od (s : State) (r : Reg) (i : Nat) (w : Word) : (State.setReg s r i w).od = s.od := rfl
@[simp] theorem State.setReg_flash (s : State) (r : Reg) (i : Nat) (w : Word) : (State.setReg s r i w).flash = s.flash := rfl
@[simp] theorem State.setReg_time (s : State) (r : Reg) (i : Nat) (w : Word) : (State.setReg s r i w).time = s.time := rfl
@[simp] theorem State.setReg_power (s : State) (r : Reg) (i : Nat) (w : Word) : (State.setReg s r i w).power = s.power := rfl
@[simp] theorem State.setReg_health (s : State) (r : Reg) (i : Nat) (w : Word) : (State.setReg s r i w).health = s.health := rfl
@[simp] theorem State.setReg_jtag (s : State) (r : Reg) (i : Nat) (w : Word) : (State.setReg s r i w).jtag = s.jtag := rfl
@[simp] theorem State.setReg_freeCtr (s : State) (r : Reg) (i : Nat) (w : Word) : (State.setReg s r i w).freeCtr = s.freeCtr := rfl
@[simp] theorem State.setReg_out (s : State) (r : Reg) (i : Nat) (w : Word) : (State.setReg s r i w).out = s.out := rfl
@[simp] theorem State.setReg_pending (s : State) (r : Reg) (i : Nat) (w : Word) : (State.setReg s r i w).pending = s.pending := rfl

/-! ### `State.resetReg` changes `regs` alone -/

@[simp] theorem State.resetReg_variant (s : State) (r : Reg) (i : Nat) : (State.resetReg s r i).variant = s.variant := rfl
@[simp] theorem State.resetReg_now (s : State) (r : Reg) (i : Nat) : (State.resetReg s r i).now = s.now := rfl
@[simp] theorem State.resetReg_snap (s : State) (r : Reg) (i : Nat) : (State.resetReg s r i).snap = s.snap := rfl
@[simp] theorem State.resetReg_mem (s : State) (r : Reg) (i : Nat) : (State.resetReg s r i).mem = s.mem := rfl
@[simp] theorem State.resetReg_xl (s : State) (r : Reg) (i : Nat) : (State.resetReg s r i).xl = s.xl := rfl
@[simp] theorem State.resetReg_clap (s : State) (r : Reg) (i : Nat) : (State.resetReg s r i).clap = s.clap := rfl
@[simp] theorem State.resetReg_play (s : State) (r : Reg) (i : Nat) : (State.resetReg s r i).play = s.play := rfl
@[simp] theorem State.resetReg_scr (s : State) (r : Reg) (i : Nat) : (State.resetReg s r i).scr = s.scr := rfl
@[simp] theorem State.resetReg_rd (s : State) (r : Reg) (i : Nat) : (State.resetReg s r i).rd = s.rd := rfl
@[simp] theorem State.resetReg_krn (s : State) (r : Reg) (i : Nat) : (State.resetReg s r i).krn = s.krn := rfl
@[simp] theorem State.resetReg_fab (s : State) (r : Reg) (i : Nat) : (State.resetReg s r i).fab = s.fab := rfl
@[simp] theorem State.resetReg_take (s : State) (r : Reg) (i : Nat) : (State.resetReg s r i).take = s.take := rfl
@[simp] theorem State.resetReg_cal (s : State) (r : Reg) (i : Nat) : (State.resetReg s r i).cal = s.cal := rfl
@[simp] theorem State.resetReg_bias (s : State) (r : Reg) (i : Nat) : (State.resetReg s r i).bias = s.bias := rfl
@[simp] theorem State.resetReg_router (s : State) (r : Reg) (i : Nat) : (State.resetReg s r i).router = s.router := rfl
@[simp] theorem State.resetReg_cut (s : State) (r : Reg) (i : Nat) : (State.resetReg s r i).cut = s.cut := rfl
@[simp] theorem State.resetReg_irq (s : State) (r : Reg) (i : Nat) : (State.resetReg s r i).irq = s.irq := rfl
@[simp] theorem State.resetReg_grip (s : State) (r : Reg) (i : Nat) : (State.resetReg s r i).grip = s.grip := rfl
@[simp] theorem State.resetReg_host (s : State) (r : Reg) (i : Nat) : (State.resetReg s r i).host = s.host := rfl
@[simp] theorem State.resetReg_lnk (s : State) (r : Reg) (i : Nat) : (State.resetReg s r i).lnk = s.lnk := rfl
@[simp] theorem State.resetReg_served (s : State) (r : Reg) (i : Nat) : (State.resetReg s r i).served = s.served := rfl
@[simp] theorem State.resetReg_od (s : State) (r : Reg) (i : Nat) : (State.resetReg s r i).od = s.od := rfl
@[simp] theorem State.resetReg_flash (s : State) (r : Reg) (i : Nat) : (State.resetReg s r i).flash = s.flash := rfl
@[simp] theorem State.resetReg_time (s : State) (r : Reg) (i : Nat) : (State.resetReg s r i).time = s.time := rfl
@[simp] theorem State.resetReg_power (s : State) (r : Reg) (i : Nat) : (State.resetReg s r i).power = s.power := rfl
@[simp] theorem State.resetReg_health (s : State) (r : Reg) (i : Nat) : (State.resetReg s r i).health = s.health := rfl
@[simp] theorem State.resetReg_jtag (s : State) (r : Reg) (i : Nat) : (State.resetReg s r i).jtag = s.jtag := rfl
@[simp] theorem State.resetReg_freeCtr (s : State) (r : Reg) (i : Nat) : (State.resetReg s r i).freeCtr = s.freeCtr := rfl
@[simp] theorem State.resetReg_out (s : State) (r : Reg) (i : Nat) : (State.resetReg s r i).out = s.out := rfl
@[simp] theorem State.resetReg_pending (s : State) (r : Reg) (i : Nat) : (State.resetReg s r i).pending = s.pending := rfl

/-! ### `State.writeBytes` changes `mem` alone -/

@[simp] theorem State.writeBytes_variant (s : State) (space : Nat) (a : Nat) (bs : List Byte) : (State.writeBytes s space a bs).variant = s.variant := rfl
@[simp] theorem State.writeBytes_now (s : State) (space : Nat) (a : Nat) (bs : List Byte) : (State.writeBytes s space a bs).now = s.now := rfl
@[simp] theorem State.writeBytes_regs (s : State) (space : Nat) (a : Nat) (bs : List Byte) : (State.writeBytes s space a bs).regs = s.regs := rfl
@[simp] theorem State.writeBytes_snap (s : State) (space : Nat) (a : Nat) (bs : List Byte) : (State.writeBytes s space a bs).snap = s.snap := rfl
@[simp] theorem State.writeBytes_xl (s : State) (space : Nat) (a : Nat) (bs : List Byte) : (State.writeBytes s space a bs).xl = s.xl := rfl
@[simp] theorem State.writeBytes_clap (s : State) (space : Nat) (a : Nat) (bs : List Byte) : (State.writeBytes s space a bs).clap = s.clap := rfl
@[simp] theorem State.writeBytes_play (s : State) (space : Nat) (a : Nat) (bs : List Byte) : (State.writeBytes s space a bs).play = s.play := rfl
@[simp] theorem State.writeBytes_scr (s : State) (space : Nat) (a : Nat) (bs : List Byte) : (State.writeBytes s space a bs).scr = s.scr := rfl
@[simp] theorem State.writeBytes_rd (s : State) (space : Nat) (a : Nat) (bs : List Byte) : (State.writeBytes s space a bs).rd = s.rd := rfl
@[simp] theorem State.writeBytes_krn (s : State) (space : Nat) (a : Nat) (bs : List Byte) : (State.writeBytes s space a bs).krn = s.krn := rfl
@[simp] theorem State.writeBytes_fab (s : State) (space : Nat) (a : Nat) (bs : List Byte) : (State.writeBytes s space a bs).fab = s.fab := rfl
@[simp] theorem State.writeBytes_take (s : State) (space : Nat) (a : Nat) (bs : List Byte) : (State.writeBytes s space a bs).take = s.take := rfl
@[simp] theorem State.writeBytes_cal (s : State) (space : Nat) (a : Nat) (bs : List Byte) : (State.writeBytes s space a bs).cal = s.cal := rfl
@[simp] theorem State.writeBytes_bias (s : State) (space : Nat) (a : Nat) (bs : List Byte) : (State.writeBytes s space a bs).bias = s.bias := rfl
@[simp] theorem State.writeBytes_router (s : State) (space : Nat) (a : Nat) (bs : List Byte) : (State.writeBytes s space a bs).router = s.router := rfl
@[simp] theorem State.writeBytes_cut (s : State) (space : Nat) (a : Nat) (bs : List Byte) : (State.writeBytes s space a bs).cut = s.cut := rfl
@[simp] theorem State.writeBytes_irq (s : State) (space : Nat) (a : Nat) (bs : List Byte) : (State.writeBytes s space a bs).irq = s.irq := rfl
@[simp] theorem State.writeBytes_grip (s : State) (space : Nat) (a : Nat) (bs : List Byte) : (State.writeBytes s space a bs).grip = s.grip := rfl
@[simp] theorem State.writeBytes_host (s : State) (space : Nat) (a : Nat) (bs : List Byte) : (State.writeBytes s space a bs).host = s.host := rfl
@[simp] theorem State.writeBytes_lnk (s : State) (space : Nat) (a : Nat) (bs : List Byte) : (State.writeBytes s space a bs).lnk = s.lnk := rfl
@[simp] theorem State.writeBytes_served (s : State) (space : Nat) (a : Nat) (bs : List Byte) : (State.writeBytes s space a bs).served = s.served := rfl
@[simp] theorem State.writeBytes_od (s : State) (space : Nat) (a : Nat) (bs : List Byte) : (State.writeBytes s space a bs).od = s.od := rfl
@[simp] theorem State.writeBytes_flash (s : State) (space : Nat) (a : Nat) (bs : List Byte) : (State.writeBytes s space a bs).flash = s.flash := rfl
@[simp] theorem State.writeBytes_time (s : State) (space : Nat) (a : Nat) (bs : List Byte) : (State.writeBytes s space a bs).time = s.time := rfl
@[simp] theorem State.writeBytes_power (s : State) (space : Nat) (a : Nat) (bs : List Byte) : (State.writeBytes s space a bs).power = s.power := rfl
@[simp] theorem State.writeBytes_health (s : State) (space : Nat) (a : Nat) (bs : List Byte) : (State.writeBytes s space a bs).health = s.health := rfl
@[simp] theorem State.writeBytes_jtag (s : State) (space : Nat) (a : Nat) (bs : List Byte) : (State.writeBytes s space a bs).jtag = s.jtag := rfl
@[simp] theorem State.writeBytes_freeCtr (s : State) (space : Nat) (a : Nat) (bs : List Byte) : (State.writeBytes s space a bs).freeCtr = s.freeCtr := rfl
@[simp] theorem State.writeBytes_out (s : State) (space : Nat) (a : Nat) (bs : List Byte) : (State.writeBytes s space a bs).out = s.out := rfl
@[simp] theorem State.writeBytes_pending (s : State) (space : Nat) (a : Nat) (bs : List Byte) : (State.writeBytes s space a bs).pending = s.pending := rfl
@[simp] theorem State.writeBytes_reg (s : State) (space : Nat) (a : Nat) (bs : List Byte) (rr : Reg) (jj : Nat) : (State.writeBytes s space a bs).reg rr jj = s.reg rr jj := rfl

/-! ### `State.eraseMem` changes `mem` alone -/

@[simp] theorem State.eraseMem_variant (s : State) (lo : Nat) (hi : Nat) : (State.eraseMem s lo hi).variant = s.variant := rfl
@[simp] theorem State.eraseMem_now (s : State) (lo : Nat) (hi : Nat) : (State.eraseMem s lo hi).now = s.now := rfl
@[simp] theorem State.eraseMem_regs (s : State) (lo : Nat) (hi : Nat) : (State.eraseMem s lo hi).regs = s.regs := rfl
@[simp] theorem State.eraseMem_snap (s : State) (lo : Nat) (hi : Nat) : (State.eraseMem s lo hi).snap = s.snap := rfl
@[simp] theorem State.eraseMem_xl (s : State) (lo : Nat) (hi : Nat) : (State.eraseMem s lo hi).xl = s.xl := rfl
@[simp] theorem State.eraseMem_clap (s : State) (lo : Nat) (hi : Nat) : (State.eraseMem s lo hi).clap = s.clap := rfl
@[simp] theorem State.eraseMem_play (s : State) (lo : Nat) (hi : Nat) : (State.eraseMem s lo hi).play = s.play := rfl
@[simp] theorem State.eraseMem_scr (s : State) (lo : Nat) (hi : Nat) : (State.eraseMem s lo hi).scr = s.scr := rfl
@[simp] theorem State.eraseMem_rd (s : State) (lo : Nat) (hi : Nat) : (State.eraseMem s lo hi).rd = s.rd := rfl
@[simp] theorem State.eraseMem_krn (s : State) (lo : Nat) (hi : Nat) : (State.eraseMem s lo hi).krn = s.krn := rfl
@[simp] theorem State.eraseMem_fab (s : State) (lo : Nat) (hi : Nat) : (State.eraseMem s lo hi).fab = s.fab := rfl
@[simp] theorem State.eraseMem_take (s : State) (lo : Nat) (hi : Nat) : (State.eraseMem s lo hi).take = s.take := rfl
@[simp] theorem State.eraseMem_cal (s : State) (lo : Nat) (hi : Nat) : (State.eraseMem s lo hi).cal = s.cal := rfl
@[simp] theorem State.eraseMem_bias (s : State) (lo : Nat) (hi : Nat) : (State.eraseMem s lo hi).bias = s.bias := rfl
@[simp] theorem State.eraseMem_router (s : State) (lo : Nat) (hi : Nat) : (State.eraseMem s lo hi).router = s.router := rfl
@[simp] theorem State.eraseMem_cut (s : State) (lo : Nat) (hi : Nat) : (State.eraseMem s lo hi).cut = s.cut := rfl
@[simp] theorem State.eraseMem_irq (s : State) (lo : Nat) (hi : Nat) : (State.eraseMem s lo hi).irq = s.irq := rfl
@[simp] theorem State.eraseMem_grip (s : State) (lo : Nat) (hi : Nat) : (State.eraseMem s lo hi).grip = s.grip := rfl
@[simp] theorem State.eraseMem_host (s : State) (lo : Nat) (hi : Nat) : (State.eraseMem s lo hi).host = s.host := rfl
@[simp] theorem State.eraseMem_lnk (s : State) (lo : Nat) (hi : Nat) : (State.eraseMem s lo hi).lnk = s.lnk := rfl
@[simp] theorem State.eraseMem_served (s : State) (lo : Nat) (hi : Nat) : (State.eraseMem s lo hi).served = s.served := rfl
@[simp] theorem State.eraseMem_od (s : State) (lo : Nat) (hi : Nat) : (State.eraseMem s lo hi).od = s.od := rfl
@[simp] theorem State.eraseMem_flash (s : State) (lo : Nat) (hi : Nat) : (State.eraseMem s lo hi).flash = s.flash := rfl
@[simp] theorem State.eraseMem_time (s : State) (lo : Nat) (hi : Nat) : (State.eraseMem s lo hi).time = s.time := rfl
@[simp] theorem State.eraseMem_power (s : State) (lo : Nat) (hi : Nat) : (State.eraseMem s lo hi).power = s.power := rfl
@[simp] theorem State.eraseMem_health (s : State) (lo : Nat) (hi : Nat) : (State.eraseMem s lo hi).health = s.health := rfl
@[simp] theorem State.eraseMem_jtag (s : State) (lo : Nat) (hi : Nat) : (State.eraseMem s lo hi).jtag = s.jtag := rfl
@[simp] theorem State.eraseMem_freeCtr (s : State) (lo : Nat) (hi : Nat) : (State.eraseMem s lo hi).freeCtr = s.freeCtr := rfl
@[simp] theorem State.eraseMem_out (s : State) (lo : Nat) (hi : Nat) : (State.eraseMem s lo hi).out = s.out := rfl
@[simp] theorem State.eraseMem_pending (s : State) (lo : Nat) (hi : Nat) : (State.eraseMem s lo hi).pending = s.pending := rfl
@[simp] theorem State.eraseMem_reg (s : State) (lo : Nat) (hi : Nat) (rr : Reg) (jj : Nat) : (State.eraseMem s lo hi).reg rr jj = s.reg rr jj := rfl

/-! ### `State.emit` changes `out` alone -/

@[simp] theorem State.emit_variant (s : State) (o : Out) : (State.emit s o).variant = s.variant := rfl
@[simp] theorem State.emit_now (s : State) (o : Out) : (State.emit s o).now = s.now := rfl
@[simp] theorem State.emit_regs (s : State) (o : Out) : (State.emit s o).regs = s.regs := rfl
@[simp] theorem State.emit_snap (s : State) (o : Out) : (State.emit s o).snap = s.snap := rfl
@[simp] theorem State.emit_mem (s : State) (o : Out) : (State.emit s o).mem = s.mem := rfl
@[simp] theorem State.emit_xl (s : State) (o : Out) : (State.emit s o).xl = s.xl := rfl
@[simp] theorem State.emit_clap (s : State) (o : Out) : (State.emit s o).clap = s.clap := rfl
@[simp] theorem State.emit_play (s : State) (o : Out) : (State.emit s o).play = s.play := rfl
@[simp] theorem State.emit_scr (s : State) (o : Out) : (State.emit s o).scr = s.scr := rfl
@[simp] theorem State.emit_rd (s : State) (o : Out) : (State.emit s o).rd = s.rd := rfl
@[simp] theorem State.emit_krn (s : State) (o : Out) : (State.emit s o).krn = s.krn := rfl
@[simp] theorem State.emit_fab (s : State) (o : Out) : (State.emit s o).fab = s.fab := rfl
@[simp] theorem State.emit_take (s : State) (o : Out) : (State.emit s o).take = s.take := rfl
@[simp] theorem State.emit_cal (s : State) (o : Out) : (State.emit s o).cal = s.cal := rfl
@[simp] theorem State.emit_bias (s : State) (o : Out) : (State.emit s o).bias = s.bias := rfl
@[simp] theorem State.emit_router (s : State) (o : Out) : (State.emit s o).router = s.router := rfl
@[simp] theorem State.emit_cut (s : State) (o : Out) : (State.emit s o).cut = s.cut := rfl
@[simp] theorem State.emit_irq (s : State) (o : Out) : (State.emit s o).irq = s.irq := rfl
@[simp] theorem State.emit_grip (s : State) (o : Out) : (State.emit s o).grip = s.grip := rfl
@[simp] theorem State.emit_host (s : State) (o : Out) : (State.emit s o).host = s.host := rfl
@[simp] theorem State.emit_lnk (s : State) (o : Out) : (State.emit s o).lnk = s.lnk := rfl
@[simp] theorem State.emit_served (s : State) (o : Out) : (State.emit s o).served = s.served := rfl
@[simp] theorem State.emit_od (s : State) (o : Out) : (State.emit s o).od = s.od := rfl
@[simp] theorem State.emit_flash (s : State) (o : Out) : (State.emit s o).flash = s.flash := rfl
@[simp] theorem State.emit_time (s : State) (o : Out) : (State.emit s o).time = s.time := rfl
@[simp] theorem State.emit_power (s : State) (o : Out) : (State.emit s o).power = s.power := rfl
@[simp] theorem State.emit_health (s : State) (o : Out) : (State.emit s o).health = s.health := rfl
@[simp] theorem State.emit_jtag (s : State) (o : Out) : (State.emit s o).jtag = s.jtag := rfl
@[simp] theorem State.emit_freeCtr (s : State) (o : Out) : (State.emit s o).freeCtr = s.freeCtr := rfl
@[simp] theorem State.emit_pending (s : State) (o : Out) : (State.emit s o).pending = s.pending := rfl
@[simp] theorem State.emit_reg (s : State) (o : Out) (rr : Reg) (jj : Nat) : (State.emit s o).reg rr jj = s.reg rr jj := rfl

/-! ### `State.setPower` changes `power` alone -/

@[simp] theorem State.setPower_variant (s : State) (n : Nat) (p : RegionPower) : (State.setPower s n p).variant = s.variant := rfl
@[simp] theorem State.setPower_now (s : State) (n : Nat) (p : RegionPower) : (State.setPower s n p).now = s.now := rfl
@[simp] theorem State.setPower_regs (s : State) (n : Nat) (p : RegionPower) : (State.setPower s n p).regs = s.regs := rfl
@[simp] theorem State.setPower_snap (s : State) (n : Nat) (p : RegionPower) : (State.setPower s n p).snap = s.snap := rfl
@[simp] theorem State.setPower_mem (s : State) (n : Nat) (p : RegionPower) : (State.setPower s n p).mem = s.mem := rfl
@[simp] theorem State.setPower_xl (s : State) (n : Nat) (p : RegionPower) : (State.setPower s n p).xl = s.xl := rfl
@[simp] theorem State.setPower_clap (s : State) (n : Nat) (p : RegionPower) : (State.setPower s n p).clap = s.clap := rfl
@[simp] theorem State.setPower_play (s : State) (n : Nat) (p : RegionPower) : (State.setPower s n p).play = s.play := rfl
@[simp] theorem State.setPower_scr (s : State) (n : Nat) (p : RegionPower) : (State.setPower s n p).scr = s.scr := rfl
@[simp] theorem State.setPower_rd (s : State) (n : Nat) (p : RegionPower) : (State.setPower s n p).rd = s.rd := rfl
@[simp] theorem State.setPower_krn (s : State) (n : Nat) (p : RegionPower) : (State.setPower s n p).krn = s.krn := rfl
@[simp] theorem State.setPower_fab (s : State) (n : Nat) (p : RegionPower) : (State.setPower s n p).fab = s.fab := rfl
@[simp] theorem State.setPower_take (s : State) (n : Nat) (p : RegionPower) : (State.setPower s n p).take = s.take := rfl
@[simp] theorem State.setPower_cal (s : State) (n : Nat) (p : RegionPower) : (State.setPower s n p).cal = s.cal := rfl
@[simp] theorem State.setPower_bias (s : State) (n : Nat) (p : RegionPower) : (State.setPower s n p).bias = s.bias := rfl
@[simp] theorem State.setPower_router (s : State) (n : Nat) (p : RegionPower) : (State.setPower s n p).router = s.router := rfl
@[simp] theorem State.setPower_cut (s : State) (n : Nat) (p : RegionPower) : (State.setPower s n p).cut = s.cut := rfl
@[simp] theorem State.setPower_irq (s : State) (n : Nat) (p : RegionPower) : (State.setPower s n p).irq = s.irq := rfl
@[simp] theorem State.setPower_grip (s : State) (n : Nat) (p : RegionPower) : (State.setPower s n p).grip = s.grip := rfl
@[simp] theorem State.setPower_host (s : State) (n : Nat) (p : RegionPower) : (State.setPower s n p).host = s.host := rfl
@[simp] theorem State.setPower_lnk (s : State) (n : Nat) (p : RegionPower) : (State.setPower s n p).lnk = s.lnk := rfl
@[simp] theorem State.setPower_served (s : State) (n : Nat) (p : RegionPower) : (State.setPower s n p).served = s.served := rfl
@[simp] theorem State.setPower_od (s : State) (n : Nat) (p : RegionPower) : (State.setPower s n p).od = s.od := rfl
@[simp] theorem State.setPower_flash (s : State) (n : Nat) (p : RegionPower) : (State.setPower s n p).flash = s.flash := rfl
@[simp] theorem State.setPower_time (s : State) (n : Nat) (p : RegionPower) : (State.setPower s n p).time = s.time := rfl
@[simp] theorem State.setPower_health (s : State) (n : Nat) (p : RegionPower) : (State.setPower s n p).health = s.health := rfl
@[simp] theorem State.setPower_jtag (s : State) (n : Nat) (p : RegionPower) : (State.setPower s n p).jtag = s.jtag := rfl
@[simp] theorem State.setPower_freeCtr (s : State) (n : Nat) (p : RegionPower) : (State.setPower s n p).freeCtr = s.freeCtr := rfl
@[simp] theorem State.setPower_out (s : State) (n : Nat) (p : RegionPower) : (State.setPower s n p).out = s.out := rfl
@[simp] theorem State.setPower_pending (s : State) (n : Nat) (p : RegionPower) : (State.setPower s n p).pending = s.pending := rfl
@[simp] theorem State.setPower_reg (s : State) (n : Nat) (p : RegionPower) (rr : Reg) (jj : Nat) : (State.setPower s n p).reg rr jj = s.reg rr jj := rfl

/-! ### `State.setSource` changes `irq` alone -/

@[simp] theorem State.setSource_variant (s : State) (k : Nat) (x : IrqSource) : (State.setSource s k x).variant = s.variant := rfl
@[simp] theorem State.setSource_now (s : State) (k : Nat) (x : IrqSource) : (State.setSource s k x).now = s.now := rfl
@[simp] theorem State.setSource_regs (s : State) (k : Nat) (x : IrqSource) : (State.setSource s k x).regs = s.regs := rfl
@[simp] theorem State.setSource_snap (s : State) (k : Nat) (x : IrqSource) : (State.setSource s k x).snap = s.snap := rfl
@[simp] theorem State.setSource_mem (s : State) (k : Nat) (x : IrqSource) : (State.setSource s k x).mem = s.mem := rfl
@[simp] theorem State.setSource_xl (s : State) (k : Nat) (x : IrqSource) : (State.setSource s k x).xl = s.xl := rfl
@[simp] theorem State.setSource_clap (s : State) (k : Nat) (x : IrqSource) : (State.setSource s k x).clap = s.clap := rfl
@[simp] theorem State.setSource_play (s : State) (k : Nat) (x : IrqSource) : (State.setSource s k x).play = s.play := rfl
@[simp] theorem State.setSource_scr (s : State) (k : Nat) (x : IrqSource) : (State.setSource s k x).scr = s.scr := rfl
@[simp] theorem State.setSource_rd (s : State) (k : Nat) (x : IrqSource) : (State.setSource s k x).rd = s.rd := rfl
@[simp] theorem State.setSource_krn (s : State) (k : Nat) (x : IrqSource) : (State.setSource s k x).krn = s.krn := rfl
@[simp] theorem State.setSource_fab (s : State) (k : Nat) (x : IrqSource) : (State.setSource s k x).fab = s.fab := rfl
@[simp] theorem State.setSource_take (s : State) (k : Nat) (x : IrqSource) : (State.setSource s k x).take = s.take := rfl
@[simp] theorem State.setSource_cal (s : State) (k : Nat) (x : IrqSource) : (State.setSource s k x).cal = s.cal := rfl
@[simp] theorem State.setSource_bias (s : State) (k : Nat) (x : IrqSource) : (State.setSource s k x).bias = s.bias := rfl
@[simp] theorem State.setSource_router (s : State) (k : Nat) (x : IrqSource) : (State.setSource s k x).router = s.router := rfl
@[simp] theorem State.setSource_cut (s : State) (k : Nat) (x : IrqSource) : (State.setSource s k x).cut = s.cut := rfl
@[simp] theorem State.setSource_grip (s : State) (k : Nat) (x : IrqSource) : (State.setSource s k x).grip = s.grip := rfl
@[simp] theorem State.setSource_host (s : State) (k : Nat) (x : IrqSource) : (State.setSource s k x).host = s.host := rfl
@[simp] theorem State.setSource_lnk (s : State) (k : Nat) (x : IrqSource) : (State.setSource s k x).lnk = s.lnk := rfl
@[simp] theorem State.setSource_served (s : State) (k : Nat) (x : IrqSource) : (State.setSource s k x).served = s.served := rfl
@[simp] theorem State.setSource_od (s : State) (k : Nat) (x : IrqSource) : (State.setSource s k x).od = s.od := rfl
@[simp] theorem State.setSource_flash (s : State) (k : Nat) (x : IrqSource) : (State.setSource s k x).flash = s.flash := rfl
@[simp] theorem State.setSource_time (s : State) (k : Nat) (x : IrqSource) : (State.setSource s k x).time = s.time := rfl
@[simp] theorem State.setSource_power (s : State) (k : Nat) (x : IrqSource) : (State.setSource s k x).power = s.power := rfl
@[simp] theorem State.setSource_health (s : State) (k : Nat) (x : IrqSource) : (State.setSource s k x).health = s.health := rfl
@[simp] theorem State.setSource_jtag (s : State) (k : Nat) (x : IrqSource) : (State.setSource s k x).jtag = s.jtag := rfl
@[simp] theorem State.setSource_freeCtr (s : State) (k : Nat) (x : IrqSource) : (State.setSource s k x).freeCtr = s.freeCtr := rfl
@[simp] theorem State.setSource_out (s : State) (k : Nat) (x : IrqSource) : (State.setSource s k x).out = s.out := rfl
@[simp] theorem State.setSource_pending (s : State) (k : Nat) (x : IrqSource) : (State.setSource s k x).pending = s.pending := rfl
@[simp] theorem State.setSource_reg (s : State) (k : Nat) (x : IrqSource) (rr : Reg) (jj : Nat) : (State.setSource s k x).reg rr jj = s.reg rr jj := rfl

/-! ### `State.setTarget` changes `irq` alone -/

@[simp] theorem State.setTarget_variant (s : State) (t : Nat) (x : IrqTarget) : (State.setTarget s t x).variant = s.variant := rfl
@[simp] theorem State.setTarget_now (s : State) (t : Nat) (x : IrqTarget) : (State.setTarget s t x).now = s.now := rfl
@[simp] theorem State.setTarget_regs (s : State) (t : Nat) (x : IrqTarget) : (State.setTarget s t x).regs = s.regs := rfl
@[simp] theorem State.setTarget_snap (s : State) (t : Nat) (x : IrqTarget) : (State.setTarget s t x).snap = s.snap := rfl
@[simp] theorem State.setTarget_mem (s : State) (t : Nat) (x : IrqTarget) : (State.setTarget s t x).mem = s.mem := rfl
@[simp] theorem State.setTarget_xl (s : State) (t : Nat) (x : IrqTarget) : (State.setTarget s t x).xl = s.xl := rfl
@[simp] theorem State.setTarget_clap (s : State) (t : Nat) (x : IrqTarget) : (State.setTarget s t x).clap = s.clap := rfl
@[simp] theorem State.setTarget_play (s : State) (t : Nat) (x : IrqTarget) : (State.setTarget s t x).play = s.play := rfl
@[simp] theorem State.setTarget_scr (s : State) (t : Nat) (x : IrqTarget) : (State.setTarget s t x).scr = s.scr := rfl
@[simp] theorem State.setTarget_rd (s : State) (t : Nat) (x : IrqTarget) : (State.setTarget s t x).rd = s.rd := rfl
@[simp] theorem State.setTarget_krn (s : State) (t : Nat) (x : IrqTarget) : (State.setTarget s t x).krn = s.krn := rfl
@[simp] theorem State.setTarget_fab (s : State) (t : Nat) (x : IrqTarget) : (State.setTarget s t x).fab = s.fab := rfl
@[simp] theorem State.setTarget_take (s : State) (t : Nat) (x : IrqTarget) : (State.setTarget s t x).take = s.take := rfl
@[simp] theorem State.setTarget_cal (s : State) (t : Nat) (x : IrqTarget) : (State.setTarget s t x).cal = s.cal := rfl
@[simp] theorem State.setTarget_bias (s : State) (t : Nat) (x : IrqTarget) : (State.setTarget s t x).bias = s.bias := rfl
@[simp] theorem State.setTarget_router (s : State) (t : Nat) (x : IrqTarget) : (State.setTarget s t x).router = s.router := rfl
@[simp] theorem State.setTarget_cut (s : State) (t : Nat) (x : IrqTarget) : (State.setTarget s t x).cut = s.cut := rfl
@[simp] theorem State.setTarget_grip (s : State) (t : Nat) (x : IrqTarget) : (State.setTarget s t x).grip = s.grip := rfl
@[simp] theorem State.setTarget_host (s : State) (t : Nat) (x : IrqTarget) : (State.setTarget s t x).host = s.host := rfl
@[simp] theorem State.setTarget_lnk (s : State) (t : Nat) (x : IrqTarget) : (State.setTarget s t x).lnk = s.lnk := rfl
@[simp] theorem State.setTarget_served (s : State) (t : Nat) (x : IrqTarget) : (State.setTarget s t x).served = s.served := rfl
@[simp] theorem State.setTarget_od (s : State) (t : Nat) (x : IrqTarget) : (State.setTarget s t x).od = s.od := rfl
@[simp] theorem State.setTarget_flash (s : State) (t : Nat) (x : IrqTarget) : (State.setTarget s t x).flash = s.flash := rfl
@[simp] theorem State.setTarget_time (s : State) (t : Nat) (x : IrqTarget) : (State.setTarget s t x).time = s.time := rfl
@[simp] theorem State.setTarget_power (s : State) (t : Nat) (x : IrqTarget) : (State.setTarget s t x).power = s.power := rfl
@[simp] theorem State.setTarget_health (s : State) (t : Nat) (x : IrqTarget) : (State.setTarget s t x).health = s.health := rfl
@[simp] theorem State.setTarget_jtag (s : State) (t : Nat) (x : IrqTarget) : (State.setTarget s t x).jtag = s.jtag := rfl
@[simp] theorem State.setTarget_freeCtr (s : State) (t : Nat) (x : IrqTarget) : (State.setTarget s t x).freeCtr = s.freeCtr := rfl
@[simp] theorem State.setTarget_out (s : State) (t : Nat) (x : IrqTarget) : (State.setTarget s t x).out = s.out := rfl
@[simp] theorem State.setTarget_pending (s : State) (t : Nat) (x : IrqTarget) : (State.setTarget s t x).pending = s.pending := rfl
@[simp] theorem State.setTarget_reg (s : State) (t : Nat) (x : IrqTarget) (rr : Reg) (jj : Nat) : (State.setTarget s t x).reg rr jj = s.reg rr jj := rfl

/-! ### `State.setMsix` changes `irq` alone -/

@[simp] theorem State.setMsix_variant (s : State) (m : Msix) : (State.setMsix s m).variant = s.variant := rfl
@[simp] theorem State.setMsix_now (s : State) (m : Msix) : (State.setMsix s m).now = s.now := rfl
@[simp] theorem State.setMsix_regs (s : State) (m : Msix) : (State.setMsix s m).regs = s.regs := rfl
@[simp] theorem State.setMsix_snap (s : State) (m : Msix) : (State.setMsix s m).snap = s.snap := rfl
@[simp] theorem State.setMsix_mem (s : State) (m : Msix) : (State.setMsix s m).mem = s.mem := rfl
@[simp] theorem State.setMsix_xl (s : State) (m : Msix) : (State.setMsix s m).xl = s.xl := rfl
@[simp] theorem State.setMsix_clap (s : State) (m : Msix) : (State.setMsix s m).clap = s.clap := rfl
@[simp] theorem State.setMsix_play (s : State) (m : Msix) : (State.setMsix s m).play = s.play := rfl
@[simp] theorem State.setMsix_scr (s : State) (m : Msix) : (State.setMsix s m).scr = s.scr := rfl
@[simp] theorem State.setMsix_rd (s : State) (m : Msix) : (State.setMsix s m).rd = s.rd := rfl
@[simp] theorem State.setMsix_krn (s : State) (m : Msix) : (State.setMsix s m).krn = s.krn := rfl
@[simp] theorem State.setMsix_fab (s : State) (m : Msix) : (State.setMsix s m).fab = s.fab := rfl
@[simp] theorem State.setMsix_take (s : State) (m : Msix) : (State.setMsix s m).take = s.take := rfl
@[simp] theorem State.setMsix_cal (s : State) (m : Msix) : (State.setMsix s m).cal = s.cal := rfl
@[simp] theorem State.setMsix_bias (s : State) (m : Msix) : (State.setMsix s m).bias = s.bias := rfl
@[simp] theorem State.setMsix_router (s : State) (m : Msix) : (State.setMsix s m).router = s.router := rfl
@[simp] theorem State.setMsix_cut (s : State) (m : Msix) : (State.setMsix s m).cut = s.cut := rfl
@[simp] theorem State.setMsix_grip (s : State) (m : Msix) : (State.setMsix s m).grip = s.grip := rfl
@[simp] theorem State.setMsix_host (s : State) (m : Msix) : (State.setMsix s m).host = s.host := rfl
@[simp] theorem State.setMsix_lnk (s : State) (m : Msix) : (State.setMsix s m).lnk = s.lnk := rfl
@[simp] theorem State.setMsix_served (s : State) (m : Msix) : (State.setMsix s m).served = s.served := rfl
@[simp] theorem State.setMsix_od (s : State) (m : Msix) : (State.setMsix s m).od = s.od := rfl
@[simp] theorem State.setMsix_flash (s : State) (m : Msix) : (State.setMsix s m).flash = s.flash := rfl
@[simp] theorem State.setMsix_time (s : State) (m : Msix) : (State.setMsix s m).time = s.time := rfl
@[simp] theorem State.setMsix_power (s : State) (m : Msix) : (State.setMsix s m).power = s.power := rfl
@[simp] theorem State.setMsix_health (s : State) (m : Msix) : (State.setMsix s m).health = s.health := rfl
@[simp] theorem State.setMsix_jtag (s : State) (m : Msix) : (State.setMsix s m).jtag = s.jtag := rfl
@[simp] theorem State.setMsix_freeCtr (s : State) (m : Msix) : (State.setMsix s m).freeCtr = s.freeCtr := rfl
@[simp] theorem State.setMsix_out (s : State) (m : Msix) : (State.setMsix s m).out = s.out := rfl
@[simp] theorem State.setMsix_pending (s : State) (m : Msix) : (State.setMsix s m).pending = s.pending := rfl
@[simp] theorem State.setMsix_reg (s : State) (m : Msix) (rr : Reg) (jj : Nat) : (State.setMsix s m).reg rr jj = s.reg rr jj := rfl

/-! ### `State.setCore` changes `irq` alone -/

@[simp] theorem State.setCore_variant (s : State) (k : Nat) (x : GafferCore) : (State.setCore s k x).variant = s.variant := rfl
@[simp] theorem State.setCore_now (s : State) (k : Nat) (x : GafferCore) : (State.setCore s k x).now = s.now := rfl
@[simp] theorem State.setCore_regs (s : State) (k : Nat) (x : GafferCore) : (State.setCore s k x).regs = s.regs := rfl
@[simp] theorem State.setCore_snap (s : State) (k : Nat) (x : GafferCore) : (State.setCore s k x).snap = s.snap := rfl
@[simp] theorem State.setCore_mem (s : State) (k : Nat) (x : GafferCore) : (State.setCore s k x).mem = s.mem := rfl
@[simp] theorem State.setCore_xl (s : State) (k : Nat) (x : GafferCore) : (State.setCore s k x).xl = s.xl := rfl
@[simp] theorem State.setCore_clap (s : State) (k : Nat) (x : GafferCore) : (State.setCore s k x).clap = s.clap := rfl
@[simp] theorem State.setCore_play (s : State) (k : Nat) (x : GafferCore) : (State.setCore s k x).play = s.play := rfl
@[simp] theorem State.setCore_scr (s : State) (k : Nat) (x : GafferCore) : (State.setCore s k x).scr = s.scr := rfl
@[simp] theorem State.setCore_rd (s : State) (k : Nat) (x : GafferCore) : (State.setCore s k x).rd = s.rd := rfl
@[simp] theorem State.setCore_krn (s : State) (k : Nat) (x : GafferCore) : (State.setCore s k x).krn = s.krn := rfl
@[simp] theorem State.setCore_fab (s : State) (k : Nat) (x : GafferCore) : (State.setCore s k x).fab = s.fab := rfl
@[simp] theorem State.setCore_take (s : State) (k : Nat) (x : GafferCore) : (State.setCore s k x).take = s.take := rfl
@[simp] theorem State.setCore_cal (s : State) (k : Nat) (x : GafferCore) : (State.setCore s k x).cal = s.cal := rfl
@[simp] theorem State.setCore_bias (s : State) (k : Nat) (x : GafferCore) : (State.setCore s k x).bias = s.bias := rfl
@[simp] theorem State.setCore_router (s : State) (k : Nat) (x : GafferCore) : (State.setCore s k x).router = s.router := rfl
@[simp] theorem State.setCore_cut (s : State) (k : Nat) (x : GafferCore) : (State.setCore s k x).cut = s.cut := rfl
@[simp] theorem State.setCore_grip (s : State) (k : Nat) (x : GafferCore) : (State.setCore s k x).grip = s.grip := rfl
@[simp] theorem State.setCore_host (s : State) (k : Nat) (x : GafferCore) : (State.setCore s k x).host = s.host := rfl
@[simp] theorem State.setCore_lnk (s : State) (k : Nat) (x : GafferCore) : (State.setCore s k x).lnk = s.lnk := rfl
@[simp] theorem State.setCore_served (s : State) (k : Nat) (x : GafferCore) : (State.setCore s k x).served = s.served := rfl
@[simp] theorem State.setCore_od (s : State) (k : Nat) (x : GafferCore) : (State.setCore s k x).od = s.od := rfl
@[simp] theorem State.setCore_flash (s : State) (k : Nat) (x : GafferCore) : (State.setCore s k x).flash = s.flash := rfl
@[simp] theorem State.setCore_time (s : State) (k : Nat) (x : GafferCore) : (State.setCore s k x).time = s.time := rfl
@[simp] theorem State.setCore_power (s : State) (k : Nat) (x : GafferCore) : (State.setCore s k x).power = s.power := rfl
@[simp] theorem State.setCore_health (s : State) (k : Nat) (x : GafferCore) : (State.setCore s k x).health = s.health := rfl
@[simp] theorem State.setCore_jtag (s : State) (k : Nat) (x : GafferCore) : (State.setCore s k x).jtag = s.jtag := rfl
@[simp] theorem State.setCore_freeCtr (s : State) (k : Nat) (x : GafferCore) : (State.setCore s k x).freeCtr = s.freeCtr := rfl
@[simp] theorem State.setCore_out (s : State) (k : Nat) (x : GafferCore) : (State.setCore s k x).out = s.out := rfl
@[simp] theorem State.setCore_pending (s : State) (k : Nat) (x : GafferCore) : (State.setCore s k x).pending = s.pending := rfl
@[simp] theorem State.setCore_reg (s : State) (k : Nat) (x : GafferCore) (rr : Reg) (jj : Nat) : (State.setCore s k x).reg rr jj = s.reg rr jj := rfl

/-! ### `State.irqCoreReset` changes `irq` alone -/

@[simp] theorem State.irqCoreReset_variant (s : State) (k : Nat) : (State.irqCoreReset s k).variant = s.variant := rfl
@[simp] theorem State.irqCoreReset_now (s : State) (k : Nat) : (State.irqCoreReset s k).now = s.now := rfl
@[simp] theorem State.irqCoreReset_regs (s : State) (k : Nat) : (State.irqCoreReset s k).regs = s.regs := rfl
@[simp] theorem State.irqCoreReset_snap (s : State) (k : Nat) : (State.irqCoreReset s k).snap = s.snap := rfl
@[simp] theorem State.irqCoreReset_mem (s : State) (k : Nat) : (State.irqCoreReset s k).mem = s.mem := rfl
@[simp] theorem State.irqCoreReset_xl (s : State) (k : Nat) : (State.irqCoreReset s k).xl = s.xl := rfl
@[simp] theorem State.irqCoreReset_clap (s : State) (k : Nat) : (State.irqCoreReset s k).clap = s.clap := rfl
@[simp] theorem State.irqCoreReset_play (s : State) (k : Nat) : (State.irqCoreReset s k).play = s.play := rfl
@[simp] theorem State.irqCoreReset_scr (s : State) (k : Nat) : (State.irqCoreReset s k).scr = s.scr := rfl
@[simp] theorem State.irqCoreReset_rd (s : State) (k : Nat) : (State.irqCoreReset s k).rd = s.rd := rfl
@[simp] theorem State.irqCoreReset_krn (s : State) (k : Nat) : (State.irqCoreReset s k).krn = s.krn := rfl
@[simp] theorem State.irqCoreReset_fab (s : State) (k : Nat) : (State.irqCoreReset s k).fab = s.fab := rfl
@[simp] theorem State.irqCoreReset_take (s : State) (k : Nat) : (State.irqCoreReset s k).take = s.take := rfl
@[simp] theorem State.irqCoreReset_cal (s : State) (k : Nat) : (State.irqCoreReset s k).cal = s.cal := rfl
@[simp] theorem State.irqCoreReset_bias (s : State) (k : Nat) : (State.irqCoreReset s k).bias = s.bias := rfl
@[simp] theorem State.irqCoreReset_router (s : State) (k : Nat) : (State.irqCoreReset s k).router = s.router := rfl
@[simp] theorem State.irqCoreReset_cut (s : State) (k : Nat) : (State.irqCoreReset s k).cut = s.cut := rfl
@[simp] theorem State.irqCoreReset_grip (s : State) (k : Nat) : (State.irqCoreReset s k).grip = s.grip := rfl
@[simp] theorem State.irqCoreReset_host (s : State) (k : Nat) : (State.irqCoreReset s k).host = s.host := rfl
@[simp] theorem State.irqCoreReset_lnk (s : State) (k : Nat) : (State.irqCoreReset s k).lnk = s.lnk := rfl
@[simp] theorem State.irqCoreReset_served (s : State) (k : Nat) : (State.irqCoreReset s k).served = s.served := rfl
@[simp] theorem State.irqCoreReset_od (s : State) (k : Nat) : (State.irqCoreReset s k).od = s.od := rfl
@[simp] theorem State.irqCoreReset_flash (s : State) (k : Nat) : (State.irqCoreReset s k).flash = s.flash := rfl
@[simp] theorem State.irqCoreReset_time (s : State) (k : Nat) : (State.irqCoreReset s k).time = s.time := rfl
@[simp] theorem State.irqCoreReset_power (s : State) (k : Nat) : (State.irqCoreReset s k).power = s.power := rfl
@[simp] theorem State.irqCoreReset_health (s : State) (k : Nat) : (State.irqCoreReset s k).health = s.health := rfl
@[simp] theorem State.irqCoreReset_jtag (s : State) (k : Nat) : (State.irqCoreReset s k).jtag = s.jtag := rfl
@[simp] theorem State.irqCoreReset_freeCtr (s : State) (k : Nat) : (State.irqCoreReset s k).freeCtr = s.freeCtr := rfl
@[simp] theorem State.irqCoreReset_out (s : State) (k : Nat) : (State.irqCoreReset s k).out = s.out := rfl
@[simp] theorem State.irqCoreReset_pending (s : State) (k : Nat) : (State.irqCoreReset s k).pending = s.pending := rfl
@[simp] theorem State.irqCoreReset_reg (s : State) (k : Nat) (rr : Reg) (jj : Nat) : (State.irqCoreReset s k).reg rr jj = s.reg rr jj := rfl

/-! ### `State.clearViews` changes `fab` alone -/

@[simp] theorem State.clearViews_variant (s : State) (p : Nat → Bool) : (State.clearViews s p).variant = s.variant := rfl
@[simp] theorem State.clearViews_now (s : State) (p : Nat → Bool) : (State.clearViews s p).now = s.now := rfl
@[simp] theorem State.clearViews_regs (s : State) (p : Nat → Bool) : (State.clearViews s p).regs = s.regs := rfl
@[simp] theorem State.clearViews_snap (s : State) (p : Nat → Bool) : (State.clearViews s p).snap = s.snap := rfl
@[simp] theorem State.clearViews_mem (s : State) (p : Nat → Bool) : (State.clearViews s p).mem = s.mem := rfl
@[simp] theorem State.clearViews_xl (s : State) (p : Nat → Bool) : (State.clearViews s p).xl = s.xl := rfl
@[simp] theorem State.clearViews_clap (s : State) (p : Nat → Bool) : (State.clearViews s p).clap = s.clap := rfl
@[simp] theorem State.clearViews_play (s : State) (p : Nat → Bool) : (State.clearViews s p).play = s.play := rfl
@[simp] theorem State.clearViews_scr (s : State) (p : Nat → Bool) : (State.clearViews s p).scr = s.scr := rfl
@[simp] theorem State.clearViews_rd (s : State) (p : Nat → Bool) : (State.clearViews s p).rd = s.rd := rfl
@[simp] theorem State.clearViews_krn (s : State) (p : Nat → Bool) : (State.clearViews s p).krn = s.krn := rfl
@[simp] theorem State.clearViews_take (s : State) (p : Nat → Bool) : (State.clearViews s p).take = s.take := rfl
@[simp] theorem State.clearViews_cal (s : State) (p : Nat → Bool) : (State.clearViews s p).cal = s.cal := rfl
@[simp] theorem State.clearViews_bias (s : State) (p : Nat → Bool) : (State.clearViews s p).bias = s.bias := rfl
@[simp] theorem State.clearViews_router (s : State) (p : Nat → Bool) : (State.clearViews s p).router = s.router := rfl
@[simp] theorem State.clearViews_cut (s : State) (p : Nat → Bool) : (State.clearViews s p).cut = s.cut := rfl
@[simp] theorem State.clearViews_irq (s : State) (p : Nat → Bool) : (State.clearViews s p).irq = s.irq := rfl
@[simp] theorem State.clearViews_grip (s : State) (p : Nat → Bool) : (State.clearViews s p).grip = s.grip := rfl
@[simp] theorem State.clearViews_host (s : State) (p : Nat → Bool) : (State.clearViews s p).host = s.host := rfl
@[simp] theorem State.clearViews_lnk (s : State) (p : Nat → Bool) : (State.clearViews s p).lnk = s.lnk := rfl
@[simp] theorem State.clearViews_served (s : State) (p : Nat → Bool) : (State.clearViews s p).served = s.served := rfl
@[simp] theorem State.clearViews_od (s : State) (p : Nat → Bool) : (State.clearViews s p).od = s.od := rfl
@[simp] theorem State.clearViews_flash (s : State) (p : Nat → Bool) : (State.clearViews s p).flash = s.flash := rfl
@[simp] theorem State.clearViews_time (s : State) (p : Nat → Bool) : (State.clearViews s p).time = s.time := rfl
@[simp] theorem State.clearViews_power (s : State) (p : Nat → Bool) : (State.clearViews s p).power = s.power := rfl
@[simp] theorem State.clearViews_health (s : State) (p : Nat → Bool) : (State.clearViews s p).health = s.health := rfl
@[simp] theorem State.clearViews_jtag (s : State) (p : Nat → Bool) : (State.clearViews s p).jtag = s.jtag := rfl
@[simp] theorem State.clearViews_freeCtr (s : State) (p : Nat → Bool) : (State.clearViews s p).freeCtr = s.freeCtr := rfl
@[simp] theorem State.clearViews_out (s : State) (p : Nat → Bool) : (State.clearViews s p).out = s.out := rfl
@[simp] theorem State.clearViews_pending (s : State) (p : Nat → Bool) : (State.clearViews s p).pending = s.pending := rfl
@[simp] theorem State.clearViews_reg (s : State) (p : Nat → Bool) (rr : Reg) (jj : Nat) : (State.clearViews s p).reg rr jj = s.reg rr jj := rfl

/-! ### `State.capture` changes `snap` alone -/

@[simp] theorem State.capture_variant (s : State) (who : Requester) (r : Reg) (i : Nat) (w : Word) : (State.capture s who r i w).variant = s.variant := rfl
@[simp] theorem State.capture_now (s : State) (who : Requester) (r : Reg) (i : Nat) (w : Word) : (State.capture s who r i w).now = s.now := rfl
@[simp] theorem State.capture_regs (s : State) (who : Requester) (r : Reg) (i : Nat) (w : Word) : (State.capture s who r i w).regs = s.regs := rfl
@[simp] theorem State.capture_mem (s : State) (who : Requester) (r : Reg) (i : Nat) (w : Word) : (State.capture s who r i w).mem = s.mem := rfl
@[simp] theorem State.capture_xl (s : State) (who : Requester) (r : Reg) (i : Nat) (w : Word) : (State.capture s who r i w).xl = s.xl := rfl
@[simp] theorem State.capture_clap (s : State) (who : Requester) (r : Reg) (i : Nat) (w : Word) : (State.capture s who r i w).clap = s.clap := rfl
@[simp] theorem State.capture_play (s : State) (who : Requester) (r : Reg) (i : Nat) (w : Word) : (State.capture s who r i w).play = s.play := rfl
@[simp] theorem State.capture_scr (s : State) (who : Requester) (r : Reg) (i : Nat) (w : Word) : (State.capture s who r i w).scr = s.scr := rfl
@[simp] theorem State.capture_rd (s : State) (who : Requester) (r : Reg) (i : Nat) (w : Word) : (State.capture s who r i w).rd = s.rd := rfl
@[simp] theorem State.capture_krn (s : State) (who : Requester) (r : Reg) (i : Nat) (w : Word) : (State.capture s who r i w).krn = s.krn := rfl
@[simp] theorem State.capture_fab (s : State) (who : Requester) (r : Reg) (i : Nat) (w : Word) : (State.capture s who r i w).fab = s.fab := rfl
@[simp] theorem State.capture_take (s : State) (who : Requester) (r : Reg) (i : Nat) (w : Word) : (State.capture s who r i w).take = s.take := rfl
@[simp] theorem State.capture_cal (s : State) (who : Requester) (r : Reg) (i : Nat) (w : Word) : (State.capture s who r i w).cal = s.cal := rfl
@[simp] theorem State.capture_bias (s : State) (who : Requester) (r : Reg) (i : Nat) (w : Word) : (State.capture s who r i w).bias = s.bias := rfl
@[simp] theorem State.capture_router (s : State) (who : Requester) (r : Reg) (i : Nat) (w : Word) : (State.capture s who r i w).router = s.router := rfl
@[simp] theorem State.capture_cut (s : State) (who : Requester) (r : Reg) (i : Nat) (w : Word) : (State.capture s who r i w).cut = s.cut := rfl
@[simp] theorem State.capture_irq (s : State) (who : Requester) (r : Reg) (i : Nat) (w : Word) : (State.capture s who r i w).irq = s.irq := rfl
@[simp] theorem State.capture_grip (s : State) (who : Requester) (r : Reg) (i : Nat) (w : Word) : (State.capture s who r i w).grip = s.grip := rfl
@[simp] theorem State.capture_host (s : State) (who : Requester) (r : Reg) (i : Nat) (w : Word) : (State.capture s who r i w).host = s.host := rfl
@[simp] theorem State.capture_lnk (s : State) (who : Requester) (r : Reg) (i : Nat) (w : Word) : (State.capture s who r i w).lnk = s.lnk := rfl
@[simp] theorem State.capture_served (s : State) (who : Requester) (r : Reg) (i : Nat) (w : Word) : (State.capture s who r i w).served = s.served := rfl
@[simp] theorem State.capture_od (s : State) (who : Requester) (r : Reg) (i : Nat) (w : Word) : (State.capture s who r i w).od = s.od := rfl
@[simp] theorem State.capture_flash (s : State) (who : Requester) (r : Reg) (i : Nat) (w : Word) : (State.capture s who r i w).flash = s.flash := rfl
@[simp] theorem State.capture_time (s : State) (who : Requester) (r : Reg) (i : Nat) (w : Word) : (State.capture s who r i w).time = s.time := rfl
@[simp] theorem State.capture_power (s : State) (who : Requester) (r : Reg) (i : Nat) (w : Word) : (State.capture s who r i w).power = s.power := rfl
@[simp] theorem State.capture_health (s : State) (who : Requester) (r : Reg) (i : Nat) (w : Word) : (State.capture s who r i w).health = s.health := rfl
@[simp] theorem State.capture_jtag (s : State) (who : Requester) (r : Reg) (i : Nat) (w : Word) : (State.capture s who r i w).jtag = s.jtag := rfl
@[simp] theorem State.capture_freeCtr (s : State) (who : Requester) (r : Reg) (i : Nat) (w : Word) : (State.capture s who r i w).freeCtr = s.freeCtr := rfl
@[simp] theorem State.capture_out (s : State) (who : Requester) (r : Reg) (i : Nat) (w : Word) : (State.capture s who r i w).out = s.out := rfl
@[simp] theorem State.capture_pending (s : State) (who : Requester) (r : Reg) (i : Nat) (w : Word) : (State.capture s who r i w).pending = s.pending := rfl
@[simp] theorem State.capture_reg (s : State) (who : Requester) (r : Reg) (i : Nat) (w : Word) (rr : Reg) (jj : Nat) : (State.capture s who r i w).reg rr jj = s.reg rr jj := rfl

/-! ### `State.setCalUnit` changes `cal` alone -/

@[simp] theorem State.setCalUnit_variant (s : State) (u : Nat) (x : CalUnit) : (State.setCalUnit s u x).variant = s.variant := rfl
@[simp] theorem State.setCalUnit_now (s : State) (u : Nat) (x : CalUnit) : (State.setCalUnit s u x).now = s.now := rfl
@[simp] theorem State.setCalUnit_regs (s : State) (u : Nat) (x : CalUnit) : (State.setCalUnit s u x).regs = s.regs := rfl
@[simp] theorem State.setCalUnit_snap (s : State) (u : Nat) (x : CalUnit) : (State.setCalUnit s u x).snap = s.snap := rfl
@[simp] theorem State.setCalUnit_mem (s : State) (u : Nat) (x : CalUnit) : (State.setCalUnit s u x).mem = s.mem := rfl
@[simp] theorem State.setCalUnit_xl (s : State) (u : Nat) (x : CalUnit) : (State.setCalUnit s u x).xl = s.xl := rfl
@[simp] theorem State.setCalUnit_clap (s : State) (u : Nat) (x : CalUnit) : (State.setCalUnit s u x).clap = s.clap := rfl
@[simp] theorem State.setCalUnit_play (s : State) (u : Nat) (x : CalUnit) : (State.setCalUnit s u x).play = s.play := rfl
@[simp] theorem State.setCalUnit_scr (s : State) (u : Nat) (x : CalUnit) : (State.setCalUnit s u x).scr = s.scr := rfl
@[simp] theorem State.setCalUnit_rd (s : State) (u : Nat) (x : CalUnit) : (State.setCalUnit s u x).rd = s.rd := rfl
@[simp] theorem State.setCalUnit_krn (s : State) (u : Nat) (x : CalUnit) : (State.setCalUnit s u x).krn = s.krn := rfl
@[simp] theorem State.setCalUnit_fab (s : State) (u : Nat) (x : CalUnit) : (State.setCalUnit s u x).fab = s.fab := rfl
@[simp] theorem State.setCalUnit_take (s : State) (u : Nat) (x : CalUnit) : (State.setCalUnit s u x).take = s.take := rfl
@[simp] theorem State.setCalUnit_bias (s : State) (u : Nat) (x : CalUnit) : (State.setCalUnit s u x).bias = s.bias := rfl
@[simp] theorem State.setCalUnit_router (s : State) (u : Nat) (x : CalUnit) : (State.setCalUnit s u x).router = s.router := rfl
@[simp] theorem State.setCalUnit_cut (s : State) (u : Nat) (x : CalUnit) : (State.setCalUnit s u x).cut = s.cut := rfl
@[simp] theorem State.setCalUnit_irq (s : State) (u : Nat) (x : CalUnit) : (State.setCalUnit s u x).irq = s.irq := rfl
@[simp] theorem State.setCalUnit_grip (s : State) (u : Nat) (x : CalUnit) : (State.setCalUnit s u x).grip = s.grip := rfl
@[simp] theorem State.setCalUnit_host (s : State) (u : Nat) (x : CalUnit) : (State.setCalUnit s u x).host = s.host := rfl
@[simp] theorem State.setCalUnit_lnk (s : State) (u : Nat) (x : CalUnit) : (State.setCalUnit s u x).lnk = s.lnk := rfl
@[simp] theorem State.setCalUnit_served (s : State) (u : Nat) (x : CalUnit) : (State.setCalUnit s u x).served = s.served := rfl
@[simp] theorem State.setCalUnit_od (s : State) (u : Nat) (x : CalUnit) : (State.setCalUnit s u x).od = s.od := rfl
@[simp] theorem State.setCalUnit_flash (s : State) (u : Nat) (x : CalUnit) : (State.setCalUnit s u x).flash = s.flash := rfl
@[simp] theorem State.setCalUnit_time (s : State) (u : Nat) (x : CalUnit) : (State.setCalUnit s u x).time = s.time := rfl
@[simp] theorem State.setCalUnit_power (s : State) (u : Nat) (x : CalUnit) : (State.setCalUnit s u x).power = s.power := rfl
@[simp] theorem State.setCalUnit_health (s : State) (u : Nat) (x : CalUnit) : (State.setCalUnit s u x).health = s.health := rfl
@[simp] theorem State.setCalUnit_jtag (s : State) (u : Nat) (x : CalUnit) : (State.setCalUnit s u x).jtag = s.jtag := rfl
@[simp] theorem State.setCalUnit_freeCtr (s : State) (u : Nat) (x : CalUnit) : (State.setCalUnit s u x).freeCtr = s.freeCtr := rfl
@[simp] theorem State.setCalUnit_out (s : State) (u : Nat) (x : CalUnit) : (State.setCalUnit s u x).out = s.out := rfl
@[simp] theorem State.setCalUnit_pending (s : State) (u : Nat) (x : CalUnit) : (State.setCalUnit s u x).pending = s.pending := rfl
@[simp] theorem State.setCalUnit_reg (s : State) (u : Nat) (x : CalUnit) (rr : Reg) (jj : Nat) : (State.setCalUnit s u x).reg rr jj = s.reg rr jj := rfl

/-! ### `State.setCrossing` changes `xl` alone -/

@[simp] theorem State.setCrossing_variant (s : State) (k : Nat) (x : CrossingState) : (State.setCrossing s k x).variant = s.variant := rfl
@[simp] theorem State.setCrossing_now (s : State) (k : Nat) (x : CrossingState) : (State.setCrossing s k x).now = s.now := rfl
@[simp] theorem State.setCrossing_regs (s : State) (k : Nat) (x : CrossingState) : (State.setCrossing s k x).regs = s.regs := rfl
@[simp] theorem State.setCrossing_snap (s : State) (k : Nat) (x : CrossingState) : (State.setCrossing s k x).snap = s.snap := rfl
@[simp] theorem State.setCrossing_mem (s : State) (k : Nat) (x : CrossingState) : (State.setCrossing s k x).mem = s.mem := rfl
@[simp] theorem State.setCrossing_clap (s : State) (k : Nat) (x : CrossingState) : (State.setCrossing s k x).clap = s.clap := rfl
@[simp] theorem State.setCrossing_play (s : State) (k : Nat) (x : CrossingState) : (State.setCrossing s k x).play = s.play := rfl
@[simp] theorem State.setCrossing_scr (s : State) (k : Nat) (x : CrossingState) : (State.setCrossing s k x).scr = s.scr := rfl
@[simp] theorem State.setCrossing_rd (s : State) (k : Nat) (x : CrossingState) : (State.setCrossing s k x).rd = s.rd := rfl
@[simp] theorem State.setCrossing_krn (s : State) (k : Nat) (x : CrossingState) : (State.setCrossing s k x).krn = s.krn := rfl
@[simp] theorem State.setCrossing_fab (s : State) (k : Nat) (x : CrossingState) : (State.setCrossing s k x).fab = s.fab := rfl
@[simp] theorem State.setCrossing_take (s : State) (k : Nat) (x : CrossingState) : (State.setCrossing s k x).take = s.take := rfl
@[simp] theorem State.setCrossing_cal (s : State) (k : Nat) (x : CrossingState) : (State.setCrossing s k x).cal = s.cal := rfl
@[simp] theorem State.setCrossing_bias (s : State) (k : Nat) (x : CrossingState) : (State.setCrossing s k x).bias = s.bias := rfl
@[simp] theorem State.setCrossing_router (s : State) (k : Nat) (x : CrossingState) : (State.setCrossing s k x).router = s.router := rfl
@[simp] theorem State.setCrossing_cut (s : State) (k : Nat) (x : CrossingState) : (State.setCrossing s k x).cut = s.cut := rfl
@[simp] theorem State.setCrossing_irq (s : State) (k : Nat) (x : CrossingState) : (State.setCrossing s k x).irq = s.irq := rfl
@[simp] theorem State.setCrossing_grip (s : State) (k : Nat) (x : CrossingState) : (State.setCrossing s k x).grip = s.grip := rfl
@[simp] theorem State.setCrossing_host (s : State) (k : Nat) (x : CrossingState) : (State.setCrossing s k x).host = s.host := rfl
@[simp] theorem State.setCrossing_lnk (s : State) (k : Nat) (x : CrossingState) : (State.setCrossing s k x).lnk = s.lnk := rfl
@[simp] theorem State.setCrossing_served (s : State) (k : Nat) (x : CrossingState) : (State.setCrossing s k x).served = s.served := rfl
@[simp] theorem State.setCrossing_od (s : State) (k : Nat) (x : CrossingState) : (State.setCrossing s k x).od = s.od := rfl
@[simp] theorem State.setCrossing_flash (s : State) (k : Nat) (x : CrossingState) : (State.setCrossing s k x).flash = s.flash := rfl
@[simp] theorem State.setCrossing_time (s : State) (k : Nat) (x : CrossingState) : (State.setCrossing s k x).time = s.time := rfl
@[simp] theorem State.setCrossing_power (s : State) (k : Nat) (x : CrossingState) : (State.setCrossing s k x).power = s.power := rfl
@[simp] theorem State.setCrossing_health (s : State) (k : Nat) (x : CrossingState) : (State.setCrossing s k x).health = s.health := rfl
@[simp] theorem State.setCrossing_jtag (s : State) (k : Nat) (x : CrossingState) : (State.setCrossing s k x).jtag = s.jtag := rfl
@[simp] theorem State.setCrossing_freeCtr (s : State) (k : Nat) (x : CrossingState) : (State.setCrossing s k x).freeCtr = s.freeCtr := rfl
@[simp] theorem State.setCrossing_out (s : State) (k : Nat) (x : CrossingState) : (State.setCrossing s k x).out = s.out := rfl
@[simp] theorem State.setCrossing_pending (s : State) (k : Nat) (x : CrossingState) : (State.setCrossing s k x).pending = s.pending := rfl
@[simp] theorem State.setCrossing_reg (s : State) (k : Nat) (x : CrossingState) (rr : Reg) (jj : Nat) : (State.setCrossing s k x).reg rr jj = s.reg rr jj := rfl

/-! ### `State.setTask` changes `router` alone -/

@[simp] theorem State.setTask_variant (s : State) (k : Nat) (b : TaskBit) : (State.setTask s k b).variant = s.variant := rfl
@[simp] theorem State.setTask_now (s : State) (k : Nat) (b : TaskBit) : (State.setTask s k b).now = s.now := rfl
@[simp] theorem State.setTask_regs (s : State) (k : Nat) (b : TaskBit) : (State.setTask s k b).regs = s.regs := rfl
@[simp] theorem State.setTask_snap (s : State) (k : Nat) (b : TaskBit) : (State.setTask s k b).snap = s.snap := rfl
@[simp] theorem State.setTask_mem (s : State) (k : Nat) (b : TaskBit) : (State.setTask s k b).mem = s.mem := rfl
@[simp] theorem State.setTask_xl (s : State) (k : Nat) (b : TaskBit) : (State.setTask s k b).xl = s.xl := rfl
@[simp] theorem State.setTask_clap (s : State) (k : Nat) (b : TaskBit) : (State.setTask s k b).clap = s.clap := rfl
@[simp] theorem State.setTask_play (s : State) (k : Nat) (b : TaskBit) : (State.setTask s k b).play = s.play := rfl
@[simp] theorem State.setTask_scr (s : State) (k : Nat) (b : TaskBit) : (State.setTask s k b).scr = s.scr := rfl
@[simp] theorem State.setTask_rd (s : State) (k : Nat) (b : TaskBit) : (State.setTask s k b).rd = s.rd := rfl
@[simp] theorem State.setTask_krn (s : State) (k : Nat) (b : TaskBit) : (State.setTask s k b).krn = s.krn := rfl
@[simp] theorem State.setTask_fab (s : State) (k : Nat) (b : TaskBit) : (State.setTask s k b).fab = s.fab := rfl
@[simp] theorem State.setTask_take (s : State) (k : Nat) (b : TaskBit) : (State.setTask s k b).take = s.take := rfl
@[simp] theorem State.setTask_cal (s : State) (k : Nat) (b : TaskBit) : (State.setTask s k b).cal = s.cal := rfl
@[simp] theorem State.setTask_bias (s : State) (k : Nat) (b : TaskBit) : (State.setTask s k b).bias = s.bias := rfl
@[simp] theorem State.setTask_cut (s : State) (k : Nat) (b : TaskBit) : (State.setTask s k b).cut = s.cut := rfl
@[simp] theorem State.setTask_irq (s : State) (k : Nat) (b : TaskBit) : (State.setTask s k b).irq = s.irq := rfl
@[simp] theorem State.setTask_grip (s : State) (k : Nat) (b : TaskBit) : (State.setTask s k b).grip = s.grip := rfl
@[simp] theorem State.setTask_host (s : State) (k : Nat) (b : TaskBit) : (State.setTask s k b).host = s.host := rfl
@[simp] theorem State.setTask_lnk (s : State) (k : Nat) (b : TaskBit) : (State.setTask s k b).lnk = s.lnk := rfl
@[simp] theorem State.setTask_served (s : State) (k : Nat) (b : TaskBit) : (State.setTask s k b).served = s.served := rfl
@[simp] theorem State.setTask_od (s : State) (k : Nat) (b : TaskBit) : (State.setTask s k b).od = s.od := rfl
@[simp] theorem State.setTask_flash (s : State) (k : Nat) (b : TaskBit) : (State.setTask s k b).flash = s.flash := rfl
@[simp] theorem State.setTask_time (s : State) (k : Nat) (b : TaskBit) : (State.setTask s k b).time = s.time := rfl
@[simp] theorem State.setTask_power (s : State) (k : Nat) (b : TaskBit) : (State.setTask s k b).power = s.power := rfl
@[simp] theorem State.setTask_health (s : State) (k : Nat) (b : TaskBit) : (State.setTask s k b).health = s.health := rfl
@[simp] theorem State.setTask_jtag (s : State) (k : Nat) (b : TaskBit) : (State.setTask s k b).jtag = s.jtag := rfl
@[simp] theorem State.setTask_freeCtr (s : State) (k : Nat) (b : TaskBit) : (State.setTask s k b).freeCtr = s.freeCtr := rfl
@[simp] theorem State.setTask_out (s : State) (k : Nat) (b : TaskBit) : (State.setTask s k b).out = s.out := rfl
@[simp] theorem State.setTask_pending (s : State) (k : Nat) (b : TaskBit) : (State.setTask s k b).pending = s.pending := rfl
@[simp] theorem State.setTask_reg (s : State) (k : Nat) (b : TaskBit) (rr : Reg) (jj : Nat) : (State.setTask s k b).reg rr jj = s.reg rr jj := rfl

/-! ### `State.clearTask` changes `router` alone -/

@[simp] theorem State.clearTask_variant (s : State) (k : Nat) : (State.clearTask s k).variant = s.variant := rfl
@[simp] theorem State.clearTask_now (s : State) (k : Nat) : (State.clearTask s k).now = s.now := rfl
@[simp] theorem State.clearTask_regs (s : State) (k : Nat) : (State.clearTask s k).regs = s.regs := rfl
@[simp] theorem State.clearTask_snap (s : State) (k : Nat) : (State.clearTask s k).snap = s.snap := rfl
@[simp] theorem State.clearTask_mem (s : State) (k : Nat) : (State.clearTask s k).mem = s.mem := rfl
@[simp] theorem State.clearTask_xl (s : State) (k : Nat) : (State.clearTask s k).xl = s.xl := rfl
@[simp] theorem State.clearTask_clap (s : State) (k : Nat) : (State.clearTask s k).clap = s.clap := rfl
@[simp] theorem State.clearTask_play (s : State) (k : Nat) : (State.clearTask s k).play = s.play := rfl
@[simp] theorem State.clearTask_scr (s : State) (k : Nat) : (State.clearTask s k).scr = s.scr := rfl
@[simp] theorem State.clearTask_rd (s : State) (k : Nat) : (State.clearTask s k).rd = s.rd := rfl
@[simp] theorem State.clearTask_krn (s : State) (k : Nat) : (State.clearTask s k).krn = s.krn := rfl
@[simp] theorem State.clearTask_fab (s : State) (k : Nat) : (State.clearTask s k).fab = s.fab := rfl
@[simp] theorem State.clearTask_take (s : State) (k : Nat) : (State.clearTask s k).take = s.take := rfl
@[simp] theorem State.clearTask_cal (s : State) (k : Nat) : (State.clearTask s k).cal = s.cal := rfl
@[simp] theorem State.clearTask_bias (s : State) (k : Nat) : (State.clearTask s k).bias = s.bias := rfl
@[simp] theorem State.clearTask_cut (s : State) (k : Nat) : (State.clearTask s k).cut = s.cut := rfl
@[simp] theorem State.clearTask_irq (s : State) (k : Nat) : (State.clearTask s k).irq = s.irq := rfl
@[simp] theorem State.clearTask_grip (s : State) (k : Nat) : (State.clearTask s k).grip = s.grip := rfl
@[simp] theorem State.clearTask_host (s : State) (k : Nat) : (State.clearTask s k).host = s.host := rfl
@[simp] theorem State.clearTask_lnk (s : State) (k : Nat) : (State.clearTask s k).lnk = s.lnk := rfl
@[simp] theorem State.clearTask_served (s : State) (k : Nat) : (State.clearTask s k).served = s.served := rfl
@[simp] theorem State.clearTask_od (s : State) (k : Nat) : (State.clearTask s k).od = s.od := rfl
@[simp] theorem State.clearTask_flash (s : State) (k : Nat) : (State.clearTask s k).flash = s.flash := rfl
@[simp] theorem State.clearTask_time (s : State) (k : Nat) : (State.clearTask s k).time = s.time := rfl
@[simp] theorem State.clearTask_power (s : State) (k : Nat) : (State.clearTask s k).power = s.power := rfl
@[simp] theorem State.clearTask_health (s : State) (k : Nat) : (State.clearTask s k).health = s.health := rfl
@[simp] theorem State.clearTask_jtag (s : State) (k : Nat) : (State.clearTask s k).jtag = s.jtag := rfl
@[simp] theorem State.clearTask_freeCtr (s : State) (k : Nat) : (State.clearTask s k).freeCtr = s.freeCtr := rfl
@[simp] theorem State.clearTask_out (s : State) (k : Nat) : (State.clearTask s k).out = s.out := rfl
@[simp] theorem State.clearTask_pending (s : State) (k : Nat) : (State.clearTask s k).pending = s.pending := rfl
@[simp] theorem State.clearTask_reg (s : State) (k : Nat) (rr : Reg) (jj : Nat) : (State.clearTask s k).reg rr jj = s.reg rr jj := rfl

/-! ### `State.ptHalt` changes `router` alone -/

@[simp] theorem State.ptHalt_variant (s : State) (p : Nat) : (State.ptHalt s p).variant = s.variant := rfl
@[simp] theorem State.ptHalt_now (s : State) (p : Nat) : (State.ptHalt s p).now = s.now := rfl
@[simp] theorem State.ptHalt_regs (s : State) (p : Nat) : (State.ptHalt s p).regs = s.regs := rfl
@[simp] theorem State.ptHalt_snap (s : State) (p : Nat) : (State.ptHalt s p).snap = s.snap := rfl
@[simp] theorem State.ptHalt_mem (s : State) (p : Nat) : (State.ptHalt s p).mem = s.mem := rfl
@[simp] theorem State.ptHalt_xl (s : State) (p : Nat) : (State.ptHalt s p).xl = s.xl := rfl
@[simp] theorem State.ptHalt_clap (s : State) (p : Nat) : (State.ptHalt s p).clap = s.clap := rfl
@[simp] theorem State.ptHalt_play (s : State) (p : Nat) : (State.ptHalt s p).play = s.play := rfl
@[simp] theorem State.ptHalt_scr (s : State) (p : Nat) : (State.ptHalt s p).scr = s.scr := rfl
@[simp] theorem State.ptHalt_rd (s : State) (p : Nat) : (State.ptHalt s p).rd = s.rd := rfl
@[simp] theorem State.ptHalt_krn (s : State) (p : Nat) : (State.ptHalt s p).krn = s.krn := rfl
@[simp] theorem State.ptHalt_fab (s : State) (p : Nat) : (State.ptHalt s p).fab = s.fab := rfl
@[simp] theorem State.ptHalt_take (s : State) (p : Nat) : (State.ptHalt s p).take = s.take := rfl
@[simp] theorem State.ptHalt_cal (s : State) (p : Nat) : (State.ptHalt s p).cal = s.cal := rfl
@[simp] theorem State.ptHalt_bias (s : State) (p : Nat) : (State.ptHalt s p).bias = s.bias := rfl
@[simp] theorem State.ptHalt_cut (s : State) (p : Nat) : (State.ptHalt s p).cut = s.cut := rfl
@[simp] theorem State.ptHalt_irq (s : State) (p : Nat) : (State.ptHalt s p).irq = s.irq := rfl
@[simp] theorem State.ptHalt_grip (s : State) (p : Nat) : (State.ptHalt s p).grip = s.grip := rfl
@[simp] theorem State.ptHalt_host (s : State) (p : Nat) : (State.ptHalt s p).host = s.host := rfl
@[simp] theorem State.ptHalt_lnk (s : State) (p : Nat) : (State.ptHalt s p).lnk = s.lnk := rfl
@[simp] theorem State.ptHalt_served (s : State) (p : Nat) : (State.ptHalt s p).served = s.served := rfl
@[simp] theorem State.ptHalt_od (s : State) (p : Nat) : (State.ptHalt s p).od = s.od := rfl
@[simp] theorem State.ptHalt_flash (s : State) (p : Nat) : (State.ptHalt s p).flash = s.flash := rfl
@[simp] theorem State.ptHalt_time (s : State) (p : Nat) : (State.ptHalt s p).time = s.time := rfl
@[simp] theorem State.ptHalt_power (s : State) (p : Nat) : (State.ptHalt s p).power = s.power := rfl
@[simp] theorem State.ptHalt_health (s : State) (p : Nat) : (State.ptHalt s p).health = s.health := rfl
@[simp] theorem State.ptHalt_jtag (s : State) (p : Nat) : (State.ptHalt s p).jtag = s.jtag := rfl
@[simp] theorem State.ptHalt_freeCtr (s : State) (p : Nat) : (State.ptHalt s p).freeCtr = s.freeCtr := rfl
@[simp] theorem State.ptHalt_out (s : State) (p : Nat) : (State.ptHalt s p).out = s.out := rfl
@[simp] theorem State.ptHalt_pending (s : State) (p : Nat) : (State.ptHalt s p).pending = s.pending := rfl
@[simp] theorem State.ptHalt_reg (s : State) (p : Nat) (rr : Reg) (jj : Nat) : (State.ptHalt s p).reg rr jj = s.reg rr jj := rfl

/-! ### `State.clearTasks` changes `router` alone -/

@[simp] theorem State.clearTasks_variant (s : State) (p : Nat → Bool) : (State.clearTasks s p).variant = s.variant := rfl
@[simp] theorem State.clearTasks_now (s : State) (p : Nat → Bool) : (State.clearTasks s p).now = s.now := rfl
@[simp] theorem State.clearTasks_regs (s : State) (p : Nat → Bool) : (State.clearTasks s p).regs = s.regs := rfl
@[simp] theorem State.clearTasks_snap (s : State) (p : Nat → Bool) : (State.clearTasks s p).snap = s.snap := rfl
@[simp] theorem State.clearTasks_mem (s : State) (p : Nat → Bool) : (State.clearTasks s p).mem = s.mem := rfl
@[simp] theorem State.clearTasks_xl (s : State) (p : Nat → Bool) : (State.clearTasks s p).xl = s.xl := rfl
@[simp] theorem State.clearTasks_clap (s : State) (p : Nat → Bool) : (State.clearTasks s p).clap = s.clap := rfl
@[simp] theorem State.clearTasks_play (s : State) (p : Nat → Bool) : (State.clearTasks s p).play = s.play := rfl
@[simp] theorem State.clearTasks_scr (s : State) (p : Nat → Bool) : (State.clearTasks s p).scr = s.scr := rfl
@[simp] theorem State.clearTasks_rd (s : State) (p : Nat → Bool) : (State.clearTasks s p).rd = s.rd := rfl
@[simp] theorem State.clearTasks_krn (s : State) (p : Nat → Bool) : (State.clearTasks s p).krn = s.krn := rfl
@[simp] theorem State.clearTasks_fab (s : State) (p : Nat → Bool) : (State.clearTasks s p).fab = s.fab := rfl
@[simp] theorem State.clearTasks_take (s : State) (p : Nat → Bool) : (State.clearTasks s p).take = s.take := rfl
@[simp] theorem State.clearTasks_cal (s : State) (p : Nat → Bool) : (State.clearTasks s p).cal = s.cal := rfl
@[simp] theorem State.clearTasks_bias (s : State) (p : Nat → Bool) : (State.clearTasks s p).bias = s.bias := rfl
@[simp] theorem State.clearTasks_cut (s : State) (p : Nat → Bool) : (State.clearTasks s p).cut = s.cut := rfl
@[simp] theorem State.clearTasks_irq (s : State) (p : Nat → Bool) : (State.clearTasks s p).irq = s.irq := rfl
@[simp] theorem State.clearTasks_grip (s : State) (p : Nat → Bool) : (State.clearTasks s p).grip = s.grip := rfl
@[simp] theorem State.clearTasks_host (s : State) (p : Nat → Bool) : (State.clearTasks s p).host = s.host := rfl
@[simp] theorem State.clearTasks_lnk (s : State) (p : Nat → Bool) : (State.clearTasks s p).lnk = s.lnk := rfl
@[simp] theorem State.clearTasks_served (s : State) (p : Nat → Bool) : (State.clearTasks s p).served = s.served := rfl
@[simp] theorem State.clearTasks_od (s : State) (p : Nat → Bool) : (State.clearTasks s p).od = s.od := rfl
@[simp] theorem State.clearTasks_flash (s : State) (p : Nat → Bool) : (State.clearTasks s p).flash = s.flash := rfl
@[simp] theorem State.clearTasks_time (s : State) (p : Nat → Bool) : (State.clearTasks s p).time = s.time := rfl
@[simp] theorem State.clearTasks_power (s : State) (p : Nat → Bool) : (State.clearTasks s p).power = s.power := rfl
@[simp] theorem State.clearTasks_health (s : State) (p : Nat → Bool) : (State.clearTasks s p).health = s.health := rfl
@[simp] theorem State.clearTasks_jtag (s : State) (p : Nat → Bool) : (State.clearTasks s p).jtag = s.jtag := rfl
@[simp] theorem State.clearTasks_freeCtr (s : State) (p : Nat → Bool) : (State.clearTasks s p).freeCtr = s.freeCtr := rfl
@[simp] theorem State.clearTasks_out (s : State) (p : Nat → Bool) : (State.clearTasks s p).out = s.out := rfl
@[simp] theorem State.clearTasks_pending (s : State) (p : Nat → Bool) : (State.clearTasks s p).pending = s.pending := rfl
@[simp] theorem State.clearTasks_reg (s : State) (p : Nat → Bool) (rr : Reg) (jj : Nat) : (State.clearTasks s p).reg rr jj = s.reg rr jj := rfl

/-! ### `State.arm` changes `clap` alone -/

@[simp] theorem State.arm_variant (s : State) : (State.arm s).variant = s.variant := rfl
@[simp] theorem State.arm_now (s : State) : (State.arm s).now = s.now := rfl
@[simp] theorem State.arm_regs (s : State) : (State.arm s).regs = s.regs := rfl
@[simp] theorem State.arm_snap (s : State) : (State.arm s).snap = s.snap := rfl
@[simp] theorem State.arm_mem (s : State) : (State.arm s).mem = s.mem := rfl
@[simp] theorem State.arm_xl (s : State) : (State.arm s).xl = s.xl := rfl
@[simp] theorem State.arm_play (s : State) : (State.arm s).play = s.play := rfl
@[simp] theorem State.arm_scr (s : State) : (State.arm s).scr = s.scr := rfl
@[simp] theorem State.arm_rd (s : State) : (State.arm s).rd = s.rd := rfl
@[simp] theorem State.arm_krn (s : State) : (State.arm s).krn = s.krn := rfl
@[simp] theorem State.arm_fab (s : State) : (State.arm s).fab = s.fab := rfl
@[simp] theorem State.arm_take (s : State) : (State.arm s).take = s.take := rfl
@[simp] theorem State.arm_cal (s : State) : (State.arm s).cal = s.cal := rfl
@[simp] theorem State.arm_bias (s : State) : (State.arm s).bias = s.bias := rfl
@[simp] theorem State.arm_router (s : State) : (State.arm s).router = s.router := rfl
@[simp] theorem State.arm_cut (s : State) : (State.arm s).cut = s.cut := rfl
@[simp] theorem State.arm_irq (s : State) : (State.arm s).irq = s.irq := rfl
@[simp] theorem State.arm_grip (s : State) : (State.arm s).grip = s.grip := rfl
@[simp] theorem State.arm_host (s : State) : (State.arm s).host = s.host := rfl
@[simp] theorem State.arm_lnk (s : State) : (State.arm s).lnk = s.lnk := rfl
@[simp] theorem State.arm_served (s : State) : (State.arm s).served = s.served := rfl
@[simp] theorem State.arm_od (s : State) : (State.arm s).od = s.od := rfl
@[simp] theorem State.arm_flash (s : State) : (State.arm s).flash = s.flash := rfl
@[simp] theorem State.arm_time (s : State) : (State.arm s).time = s.time := rfl
@[simp] theorem State.arm_power (s : State) : (State.arm s).power = s.power := rfl
@[simp] theorem State.arm_health (s : State) : (State.arm s).health = s.health := rfl
@[simp] theorem State.arm_jtag (s : State) : (State.arm s).jtag = s.jtag := rfl
@[simp] theorem State.arm_freeCtr (s : State) : (State.arm s).freeCtr = s.freeCtr := rfl
@[simp] theorem State.arm_out (s : State) : (State.arm s).out = s.out := rfl
@[simp] theorem State.arm_pending (s : State) : (State.arm s).pending = s.pending := rfl
@[simp] theorem State.arm_reg (s : State) (rr : Reg) (jj : Nat) : (State.arm s).reg rr jj = s.reg rr jj := rfl

/-! ### `State.setUnit` changes `play` alone -/

@[simp] theorem State.setUnit_variant (s : State) (g : Nat) (u : Nat) (x : UnitState) : (State.setUnit s g u x).variant = s.variant := rfl
@[simp] theorem State.setUnit_now (s : State) (g : Nat) (u : Nat) (x : UnitState) : (State.setUnit s g u x).now = s.now := rfl
@[simp] theorem State.setUnit_regs (s : State) (g : Nat) (u : Nat) (x : UnitState) : (State.setUnit s g u x).regs = s.regs := rfl
@[simp] theorem State.setUnit_snap (s : State) (g : Nat) (u : Nat) (x : UnitState) : (State.setUnit s g u x).snap = s.snap := rfl
@[simp] theorem State.setUnit_mem (s : State) (g : Nat) (u : Nat) (x : UnitState) : (State.setUnit s g u x).mem = s.mem := rfl
@[simp] theorem State.setUnit_xl (s : State) (g : Nat) (u : Nat) (x : UnitState) : (State.setUnit s g u x).xl = s.xl := rfl
@[simp] theorem State.setUnit_clap (s : State) (g : Nat) (u : Nat) (x : UnitState) : (State.setUnit s g u x).clap = s.clap := rfl
@[simp] theorem State.setUnit_scr (s : State) (g : Nat) (u : Nat) (x : UnitState) : (State.setUnit s g u x).scr = s.scr := rfl
@[simp] theorem State.setUnit_rd (s : State) (g : Nat) (u : Nat) (x : UnitState) : (State.setUnit s g u x).rd = s.rd := rfl
@[simp] theorem State.setUnit_krn (s : State) (g : Nat) (u : Nat) (x : UnitState) : (State.setUnit s g u x).krn = s.krn := rfl
@[simp] theorem State.setUnit_fab (s : State) (g : Nat) (u : Nat) (x : UnitState) : (State.setUnit s g u x).fab = s.fab := rfl
@[simp] theorem State.setUnit_take (s : State) (g : Nat) (u : Nat) (x : UnitState) : (State.setUnit s g u x).take = s.take := rfl
@[simp] theorem State.setUnit_cal (s : State) (g : Nat) (u : Nat) (x : UnitState) : (State.setUnit s g u x).cal = s.cal := rfl
@[simp] theorem State.setUnit_bias (s : State) (g : Nat) (u : Nat) (x : UnitState) : (State.setUnit s g u x).bias = s.bias := rfl
@[simp] theorem State.setUnit_router (s : State) (g : Nat) (u : Nat) (x : UnitState) : (State.setUnit s g u x).router = s.router := rfl
@[simp] theorem State.setUnit_cut (s : State) (g : Nat) (u : Nat) (x : UnitState) : (State.setUnit s g u x).cut = s.cut := rfl
@[simp] theorem State.setUnit_irq (s : State) (g : Nat) (u : Nat) (x : UnitState) : (State.setUnit s g u x).irq = s.irq := rfl
@[simp] theorem State.setUnit_grip (s : State) (g : Nat) (u : Nat) (x : UnitState) : (State.setUnit s g u x).grip = s.grip := rfl
@[simp] theorem State.setUnit_host (s : State) (g : Nat) (u : Nat) (x : UnitState) : (State.setUnit s g u x).host = s.host := rfl
@[simp] theorem State.setUnit_lnk (s : State) (g : Nat) (u : Nat) (x : UnitState) : (State.setUnit s g u x).lnk = s.lnk := rfl
@[simp] theorem State.setUnit_served (s : State) (g : Nat) (u : Nat) (x : UnitState) : (State.setUnit s g u x).served = s.served := rfl
@[simp] theorem State.setUnit_od (s : State) (g : Nat) (u : Nat) (x : UnitState) : (State.setUnit s g u x).od = s.od := rfl
@[simp] theorem State.setUnit_flash (s : State) (g : Nat) (u : Nat) (x : UnitState) : (State.setUnit s g u x).flash = s.flash := rfl
@[simp] theorem State.setUnit_time (s : State) (g : Nat) (u : Nat) (x : UnitState) : (State.setUnit s g u x).time = s.time := rfl
@[simp] theorem State.setUnit_power (s : State) (g : Nat) (u : Nat) (x : UnitState) : (State.setUnit s g u x).power = s.power := rfl
@[simp] theorem State.setUnit_health (s : State) (g : Nat) (u : Nat) (x : UnitState) : (State.setUnit s g u x).health = s.health := rfl
@[simp] theorem State.setUnit_jtag (s : State) (g : Nat) (u : Nat) (x : UnitState) : (State.setUnit s g u x).jtag = s.jtag := rfl
@[simp] theorem State.setUnit_freeCtr (s : State) (g : Nat) (u : Nat) (x : UnitState) : (State.setUnit s g u x).freeCtr = s.freeCtr := rfl
@[simp] theorem State.setUnit_out (s : State) (g : Nat) (u : Nat) (x : UnitState) : (State.setUnit s g u x).out = s.out := rfl
@[simp] theorem State.setUnit_pending (s : State) (g : Nat) (u : Nat) (x : UnitState) : (State.setUnit s g u x).pending = s.pending := rfl
@[simp] theorem State.setUnit_reg (s : State) (g : Nat) (u : Nat) (x : UnitState) (rr : Reg) (jj : Nat) : (State.setUnit s g u x).reg rr jj = s.reg rr jj := rfl

/-! ### `State.setShadow` changes `play` alone -/

@[simp] theorem State.setShadow_variant (s : State) (g : Nat) (k : Nat) (x : SetState) : (State.setShadow s g k x).variant = s.variant := rfl
@[simp] theorem State.setShadow_now (s : State) (g : Nat) (k : Nat) (x : SetState) : (State.setShadow s g k x).now = s.now := rfl
@[simp] theorem State.setShadow_regs (s : State) (g : Nat) (k : Nat) (x : SetState) : (State.setShadow s g k x).regs = s.regs := rfl
@[simp] theorem State.setShadow_snap (s : State) (g : Nat) (k : Nat) (x : SetState) : (State.setShadow s g k x).snap = s.snap := rfl
@[simp] theorem State.setShadow_mem (s : State) (g : Nat) (k : Nat) (x : SetState) : (State.setShadow s g k x).mem = s.mem := rfl
@[simp] theorem State.setShadow_xl (s : State) (g : Nat) (k : Nat) (x : SetState) : (State.setShadow s g k x).xl = s.xl := rfl
@[simp] theorem State.setShadow_clap (s : State) (g : Nat) (k : Nat) (x : SetState) : (State.setShadow s g k x).clap = s.clap := rfl
@[simp] theorem State.setShadow_scr (s : State) (g : Nat) (k : Nat) (x : SetState) : (State.setShadow s g k x).scr = s.scr := rfl
@[simp] theorem State.setShadow_rd (s : State) (g : Nat) (k : Nat) (x : SetState) : (State.setShadow s g k x).rd = s.rd := rfl
@[simp] theorem State.setShadow_krn (s : State) (g : Nat) (k : Nat) (x : SetState) : (State.setShadow s g k x).krn = s.krn := rfl
@[simp] theorem State.setShadow_fab (s : State) (g : Nat) (k : Nat) (x : SetState) : (State.setShadow s g k x).fab = s.fab := rfl
@[simp] theorem State.setShadow_take (s : State) (g : Nat) (k : Nat) (x : SetState) : (State.setShadow s g k x).take = s.take := rfl
@[simp] theorem State.setShadow_cal (s : State) (g : Nat) (k : Nat) (x : SetState) : (State.setShadow s g k x).cal = s.cal := rfl
@[simp] theorem State.setShadow_bias (s : State) (g : Nat) (k : Nat) (x : SetState) : (State.setShadow s g k x).bias = s.bias := rfl
@[simp] theorem State.setShadow_router (s : State) (g : Nat) (k : Nat) (x : SetState) : (State.setShadow s g k x).router = s.router := rfl
@[simp] theorem State.setShadow_cut (s : State) (g : Nat) (k : Nat) (x : SetState) : (State.setShadow s g k x).cut = s.cut := rfl
@[simp] theorem State.setShadow_irq (s : State) (g : Nat) (k : Nat) (x : SetState) : (State.setShadow s g k x).irq = s.irq := rfl
@[simp] theorem State.setShadow_grip (s : State) (g : Nat) (k : Nat) (x : SetState) : (State.setShadow s g k x).grip = s.grip := rfl
@[simp] theorem State.setShadow_host (s : State) (g : Nat) (k : Nat) (x : SetState) : (State.setShadow s g k x).host = s.host := rfl
@[simp] theorem State.setShadow_lnk (s : State) (g : Nat) (k : Nat) (x : SetState) : (State.setShadow s g k x).lnk = s.lnk := rfl
@[simp] theorem State.setShadow_served (s : State) (g : Nat) (k : Nat) (x : SetState) : (State.setShadow s g k x).served = s.served := rfl
@[simp] theorem State.setShadow_od (s : State) (g : Nat) (k : Nat) (x : SetState) : (State.setShadow s g k x).od = s.od := rfl
@[simp] theorem State.setShadow_flash (s : State) (g : Nat) (k : Nat) (x : SetState) : (State.setShadow s g k x).flash = s.flash := rfl
@[simp] theorem State.setShadow_time (s : State) (g : Nat) (k : Nat) (x : SetState) : (State.setShadow s g k x).time = s.time := rfl
@[simp] theorem State.setShadow_power (s : State) (g : Nat) (k : Nat) (x : SetState) : (State.setShadow s g k x).power = s.power := rfl
@[simp] theorem State.setShadow_health (s : State) (g : Nat) (k : Nat) (x : SetState) : (State.setShadow s g k x).health = s.health := rfl
@[simp] theorem State.setShadow_jtag (s : State) (g : Nat) (k : Nat) (x : SetState) : (State.setShadow s g k x).jtag = s.jtag := rfl
@[simp] theorem State.setShadow_freeCtr (s : State) (g : Nat) (k : Nat) (x : SetState) : (State.setShadow s g k x).freeCtr = s.freeCtr := rfl
@[simp] theorem State.setShadow_out (s : State) (g : Nat) (k : Nat) (x : SetState) : (State.setShadow s g k x).out = s.out := rfl
@[simp] theorem State.setShadow_pending (s : State) (g : Nat) (k : Nat) (x : SetState) : (State.setShadow s g k x).pending = s.pending := rfl
@[simp] theorem State.setShadow_reg (s : State) (g : Nat) (k : Nat) (x : SetState) (rr : Reg) (jj : Nat) : (State.setShadow s g k x).reg rr jj = s.reg rr jj := rfl

/-! ### `State.setStaging` changes `play` alone -/

@[simp] theorem State.setStaging_variant (s : State) (who : Requester) (b : Staging) : (State.setStaging s who b).variant = s.variant := rfl
@[simp] theorem State.setStaging_now (s : State) (who : Requester) (b : Staging) : (State.setStaging s who b).now = s.now := rfl
@[simp] theorem State.setStaging_regs (s : State) (who : Requester) (b : Staging) : (State.setStaging s who b).regs = s.regs := rfl
@[simp] theorem State.setStaging_snap (s : State) (who : Requester) (b : Staging) : (State.setStaging s who b).snap = s.snap := rfl
@[simp] theorem State.setStaging_mem (s : State) (who : Requester) (b : Staging) : (State.setStaging s who b).mem = s.mem := rfl
@[simp] theorem State.setStaging_xl (s : State) (who : Requester) (b : Staging) : (State.setStaging s who b).xl = s.xl := rfl
@[simp] theorem State.setStaging_clap (s : State) (who : Requester) (b : Staging) : (State.setStaging s who b).clap = s.clap := rfl
@[simp] theorem State.setStaging_scr (s : State) (who : Requester) (b : Staging) : (State.setStaging s who b).scr = s.scr := rfl
@[simp] theorem State.setStaging_rd (s : State) (who : Requester) (b : Staging) : (State.setStaging s who b).rd = s.rd := rfl
@[simp] theorem State.setStaging_krn (s : State) (who : Requester) (b : Staging) : (State.setStaging s who b).krn = s.krn := rfl
@[simp] theorem State.setStaging_fab (s : State) (who : Requester) (b : Staging) : (State.setStaging s who b).fab = s.fab := rfl
@[simp] theorem State.setStaging_take (s : State) (who : Requester) (b : Staging) : (State.setStaging s who b).take = s.take := rfl
@[simp] theorem State.setStaging_cal (s : State) (who : Requester) (b : Staging) : (State.setStaging s who b).cal = s.cal := rfl
@[simp] theorem State.setStaging_bias (s : State) (who : Requester) (b : Staging) : (State.setStaging s who b).bias = s.bias := rfl
@[simp] theorem State.setStaging_router (s : State) (who : Requester) (b : Staging) : (State.setStaging s who b).router = s.router := rfl
@[simp] theorem State.setStaging_cut (s : State) (who : Requester) (b : Staging) : (State.setStaging s who b).cut = s.cut := rfl
@[simp] theorem State.setStaging_irq (s : State) (who : Requester) (b : Staging) : (State.setStaging s who b).irq = s.irq := rfl
@[simp] theorem State.setStaging_grip (s : State) (who : Requester) (b : Staging) : (State.setStaging s who b).grip = s.grip := rfl
@[simp] theorem State.setStaging_host (s : State) (who : Requester) (b : Staging) : (State.setStaging s who b).host = s.host := rfl
@[simp] theorem State.setStaging_lnk (s : State) (who : Requester) (b : Staging) : (State.setStaging s who b).lnk = s.lnk := rfl
@[simp] theorem State.setStaging_served (s : State) (who : Requester) (b : Staging) : (State.setStaging s who b).served = s.served := rfl
@[simp] theorem State.setStaging_od (s : State) (who : Requester) (b : Staging) : (State.setStaging s who b).od = s.od := rfl
@[simp] theorem State.setStaging_flash (s : State) (who : Requester) (b : Staging) : (State.setStaging s who b).flash = s.flash := rfl
@[simp] theorem State.setStaging_time (s : State) (who : Requester) (b : Staging) : (State.setStaging s who b).time = s.time := rfl
@[simp] theorem State.setStaging_power (s : State) (who : Requester) (b : Staging) : (State.setStaging s who b).power = s.power := rfl
@[simp] theorem State.setStaging_health (s : State) (who : Requester) (b : Staging) : (State.setStaging s who b).health = s.health := rfl
@[simp] theorem State.setStaging_jtag (s : State) (who : Requester) (b : Staging) : (State.setStaging s who b).jtag = s.jtag := rfl
@[simp] theorem State.setStaging_freeCtr (s : State) (who : Requester) (b : Staging) : (State.setStaging s who b).freeCtr = s.freeCtr := rfl
@[simp] theorem State.setStaging_out (s : State) (who : Requester) (b : Staging) : (State.setStaging s who b).out = s.out := rfl
@[simp] theorem State.setStaging_pending (s : State) (who : Requester) (b : Staging) : (State.setStaging s who b).pending = s.pending := rfl
@[simp] theorem State.setStaging_reg (s : State) (who : Requester) (b : Staging) (rr : Reg) (jj : Nat) : (State.setStaging s who b).reg rr jj = s.reg rr jj := rfl

/-! ### `State.setStream` changes `play` alone -/

@[simp] theorem State.setStream_variant (s : State) (n : Nat) (i : Nat) (x : StreamState) : (State.setStream s n i x).variant = s.variant := rfl
@[simp] theorem State.setStream_now (s : State) (n : Nat) (i : Nat) (x : StreamState) : (State.setStream s n i x).now = s.now := rfl
@[simp] theorem State.setStream_regs (s : State) (n : Nat) (i : Nat) (x : StreamState) : (State.setStream s n i x).regs = s.regs := rfl
@[simp] theorem State.setStream_snap (s : State) (n : Nat) (i : Nat) (x : StreamState) : (State.setStream s n i x).snap = s.snap := rfl
@[simp] theorem State.setStream_mem (s : State) (n : Nat) (i : Nat) (x : StreamState) : (State.setStream s n i x).mem = s.mem := rfl
@[simp] theorem State.setStream_xl (s : State) (n : Nat) (i : Nat) (x : StreamState) : (State.setStream s n i x).xl = s.xl := rfl
@[simp] theorem State.setStream_clap (s : State) (n : Nat) (i : Nat) (x : StreamState) : (State.setStream s n i x).clap = s.clap := rfl
@[simp] theorem State.setStream_scr (s : State) (n : Nat) (i : Nat) (x : StreamState) : (State.setStream s n i x).scr = s.scr := rfl
@[simp] theorem State.setStream_rd (s : State) (n : Nat) (i : Nat) (x : StreamState) : (State.setStream s n i x).rd = s.rd := rfl
@[simp] theorem State.setStream_krn (s : State) (n : Nat) (i : Nat) (x : StreamState) : (State.setStream s n i x).krn = s.krn := rfl
@[simp] theorem State.setStream_fab (s : State) (n : Nat) (i : Nat) (x : StreamState) : (State.setStream s n i x).fab = s.fab := rfl
@[simp] theorem State.setStream_take (s : State) (n : Nat) (i : Nat) (x : StreamState) : (State.setStream s n i x).take = s.take := rfl
@[simp] theorem State.setStream_cal (s : State) (n : Nat) (i : Nat) (x : StreamState) : (State.setStream s n i x).cal = s.cal := rfl
@[simp] theorem State.setStream_bias (s : State) (n : Nat) (i : Nat) (x : StreamState) : (State.setStream s n i x).bias = s.bias := rfl
@[simp] theorem State.setStream_router (s : State) (n : Nat) (i : Nat) (x : StreamState) : (State.setStream s n i x).router = s.router := rfl
@[simp] theorem State.setStream_cut (s : State) (n : Nat) (i : Nat) (x : StreamState) : (State.setStream s n i x).cut = s.cut := rfl
@[simp] theorem State.setStream_irq (s : State) (n : Nat) (i : Nat) (x : StreamState) : (State.setStream s n i x).irq = s.irq := rfl
@[simp] theorem State.setStream_grip (s : State) (n : Nat) (i : Nat) (x : StreamState) : (State.setStream s n i x).grip = s.grip := rfl
@[simp] theorem State.setStream_host (s : State) (n : Nat) (i : Nat) (x : StreamState) : (State.setStream s n i x).host = s.host := rfl
@[simp] theorem State.setStream_lnk (s : State) (n : Nat) (i : Nat) (x : StreamState) : (State.setStream s n i x).lnk = s.lnk := rfl
@[simp] theorem State.setStream_served (s : State) (n : Nat) (i : Nat) (x : StreamState) : (State.setStream s n i x).served = s.served := rfl
@[simp] theorem State.setStream_od (s : State) (n : Nat) (i : Nat) (x : StreamState) : (State.setStream s n i x).od = s.od := rfl
@[simp] theorem State.setStream_flash (s : State) (n : Nat) (i : Nat) (x : StreamState) : (State.setStream s n i x).flash = s.flash := rfl
@[simp] theorem State.setStream_time (s : State) (n : Nat) (i : Nat) (x : StreamState) : (State.setStream s n i x).time = s.time := rfl
@[simp] theorem State.setStream_power (s : State) (n : Nat) (i : Nat) (x : StreamState) : (State.setStream s n i x).power = s.power := rfl
@[simp] theorem State.setStream_health (s : State) (n : Nat) (i : Nat) (x : StreamState) : (State.setStream s n i x).health = s.health := rfl
@[simp] theorem State.setStream_jtag (s : State) (n : Nat) (i : Nat) (x : StreamState) : (State.setStream s n i x).jtag = s.jtag := rfl
@[simp] theorem State.setStream_freeCtr (s : State) (n : Nat) (i : Nat) (x : StreamState) : (State.setStream s n i x).freeCtr = s.freeCtr := rfl
@[simp] theorem State.setStream_out (s : State) (n : Nat) (i : Nat) (x : StreamState) : (State.setStream s n i x).out = s.out := rfl
@[simp] theorem State.setStream_pending (s : State) (n : Nat) (i : Nat) (x : StreamState) : (State.setStream s n i x).pending = s.pending := rfl
@[simp] theorem State.setStream_reg (s : State) (n : Nat) (i : Nat) (x : StreamState) (rr : Reg) (jj : Nat) : (State.setStream s n i x).reg rr jj = s.reg rr jj := rfl

/-! ### `State.setTake` changes `take` alone -/

@[simp] theorem State.setTake_variant (s : State) (n : Nat) (x : TakeEngine) : (State.setTake s n x).variant = s.variant := rfl
@[simp] theorem State.setTake_now (s : State) (n : Nat) (x : TakeEngine) : (State.setTake s n x).now = s.now := rfl
@[simp] theorem State.setTake_regs (s : State) (n : Nat) (x : TakeEngine) : (State.setTake s n x).regs = s.regs := rfl
@[simp] theorem State.setTake_snap (s : State) (n : Nat) (x : TakeEngine) : (State.setTake s n x).snap = s.snap := rfl
@[simp] theorem State.setTake_mem (s : State) (n : Nat) (x : TakeEngine) : (State.setTake s n x).mem = s.mem := rfl
@[simp] theorem State.setTake_xl (s : State) (n : Nat) (x : TakeEngine) : (State.setTake s n x).xl = s.xl := rfl
@[simp] theorem State.setTake_clap (s : State) (n : Nat) (x : TakeEngine) : (State.setTake s n x).clap = s.clap := rfl
@[simp] theorem State.setTake_play (s : State) (n : Nat) (x : TakeEngine) : (State.setTake s n x).play = s.play := rfl
@[simp] theorem State.setTake_scr (s : State) (n : Nat) (x : TakeEngine) : (State.setTake s n x).scr = s.scr := rfl
@[simp] theorem State.setTake_rd (s : State) (n : Nat) (x : TakeEngine) : (State.setTake s n x).rd = s.rd := rfl
@[simp] theorem State.setTake_krn (s : State) (n : Nat) (x : TakeEngine) : (State.setTake s n x).krn = s.krn := rfl
@[simp] theorem State.setTake_fab (s : State) (n : Nat) (x : TakeEngine) : (State.setTake s n x).fab = s.fab := rfl
@[simp] theorem State.setTake_cal (s : State) (n : Nat) (x : TakeEngine) : (State.setTake s n x).cal = s.cal := rfl
@[simp] theorem State.setTake_bias (s : State) (n : Nat) (x : TakeEngine) : (State.setTake s n x).bias = s.bias := rfl
@[simp] theorem State.setTake_router (s : State) (n : Nat) (x : TakeEngine) : (State.setTake s n x).router = s.router := rfl
@[simp] theorem State.setTake_cut (s : State) (n : Nat) (x : TakeEngine) : (State.setTake s n x).cut = s.cut := rfl
@[simp] theorem State.setTake_irq (s : State) (n : Nat) (x : TakeEngine) : (State.setTake s n x).irq = s.irq := rfl
@[simp] theorem State.setTake_grip (s : State) (n : Nat) (x : TakeEngine) : (State.setTake s n x).grip = s.grip := rfl
@[simp] theorem State.setTake_host (s : State) (n : Nat) (x : TakeEngine) : (State.setTake s n x).host = s.host := rfl
@[simp] theorem State.setTake_lnk (s : State) (n : Nat) (x : TakeEngine) : (State.setTake s n x).lnk = s.lnk := rfl
@[simp] theorem State.setTake_served (s : State) (n : Nat) (x : TakeEngine) : (State.setTake s n x).served = s.served := rfl
@[simp] theorem State.setTake_od (s : State) (n : Nat) (x : TakeEngine) : (State.setTake s n x).od = s.od := rfl
@[simp] theorem State.setTake_flash (s : State) (n : Nat) (x : TakeEngine) : (State.setTake s n x).flash = s.flash := rfl
@[simp] theorem State.setTake_time (s : State) (n : Nat) (x : TakeEngine) : (State.setTake s n x).time = s.time := rfl
@[simp] theorem State.setTake_power (s : State) (n : Nat) (x : TakeEngine) : (State.setTake s n x).power = s.power := rfl
@[simp] theorem State.setTake_health (s : State) (n : Nat) (x : TakeEngine) : (State.setTake s n x).health = s.health := rfl
@[simp] theorem State.setTake_jtag (s : State) (n : Nat) (x : TakeEngine) : (State.setTake s n x).jtag = s.jtag := rfl
@[simp] theorem State.setTake_freeCtr (s : State) (n : Nat) (x : TakeEngine) : (State.setTake s n x).freeCtr = s.freeCtr := rfl
@[simp] theorem State.setTake_out (s : State) (n : Nat) (x : TakeEngine) : (State.setTake s n x).out = s.out := rfl
@[simp] theorem State.setTake_pending (s : State) (n : Nat) (x : TakeEngine) : (State.setTake s n x).pending = s.pending := rfl
@[simp] theorem State.setTake_reg (s : State) (n : Nat) (x : TakeEngine) (rr : Reg) (jj : Nat) : (State.setTake s n x).reg rr jj = s.reg rr jj := rfl

/-! ### `State.setEng` changes `scr` alone -/

@[simp] theorem State.setEng_variant (s : State) (g : Nat) (e : Nat) (x : EngineState) : (State.setEng s g e x).variant = s.variant := rfl
@[simp] theorem State.setEng_now (s : State) (g : Nat) (e : Nat) (x : EngineState) : (State.setEng s g e x).now = s.now := rfl
@[simp] theorem State.setEng_regs (s : State) (g : Nat) (e : Nat) (x : EngineState) : (State.setEng s g e x).regs = s.regs := rfl
@[simp] theorem State.setEng_snap (s : State) (g : Nat) (e : Nat) (x : EngineState) : (State.setEng s g e x).snap = s.snap := rfl
@[simp] theorem State.setEng_mem (s : State) (g : Nat) (e : Nat) (x : EngineState) : (State.setEng s g e x).mem = s.mem := rfl
@[simp] theorem State.setEng_xl (s : State) (g : Nat) (e : Nat) (x : EngineState) : (State.setEng s g e x).xl = s.xl := rfl
@[simp] theorem State.setEng_clap (s : State) (g : Nat) (e : Nat) (x : EngineState) : (State.setEng s g e x).clap = s.clap := rfl
@[simp] theorem State.setEng_play (s : State) (g : Nat) (e : Nat) (x : EngineState) : (State.setEng s g e x).play = s.play := rfl
@[simp] theorem State.setEng_rd (s : State) (g : Nat) (e : Nat) (x : EngineState) : (State.setEng s g e x).rd = s.rd := rfl
@[simp] theorem State.setEng_krn (s : State) (g : Nat) (e : Nat) (x : EngineState) : (State.setEng s g e x).krn = s.krn := rfl
@[simp] theorem State.setEng_fab (s : State) (g : Nat) (e : Nat) (x : EngineState) : (State.setEng s g e x).fab = s.fab := rfl
@[simp] theorem State.setEng_take (s : State) (g : Nat) (e : Nat) (x : EngineState) : (State.setEng s g e x).take = s.take := rfl
@[simp] theorem State.setEng_cal (s : State) (g : Nat) (e : Nat) (x : EngineState) : (State.setEng s g e x).cal = s.cal := rfl
@[simp] theorem State.setEng_bias (s : State) (g : Nat) (e : Nat) (x : EngineState) : (State.setEng s g e x).bias = s.bias := rfl
@[simp] theorem State.setEng_router (s : State) (g : Nat) (e : Nat) (x : EngineState) : (State.setEng s g e x).router = s.router := rfl
@[simp] theorem State.setEng_cut (s : State) (g : Nat) (e : Nat) (x : EngineState) : (State.setEng s g e x).cut = s.cut := rfl
@[simp] theorem State.setEng_irq (s : State) (g : Nat) (e : Nat) (x : EngineState) : (State.setEng s g e x).irq = s.irq := rfl
@[simp] theorem State.setEng_grip (s : State) (g : Nat) (e : Nat) (x : EngineState) : (State.setEng s g e x).grip = s.grip := rfl
@[simp] theorem State.setEng_host (s : State) (g : Nat) (e : Nat) (x : EngineState) : (State.setEng s g e x).host = s.host := rfl
@[simp] theorem State.setEng_lnk (s : State) (g : Nat) (e : Nat) (x : EngineState) : (State.setEng s g e x).lnk = s.lnk := rfl
@[simp] theorem State.setEng_served (s : State) (g : Nat) (e : Nat) (x : EngineState) : (State.setEng s g e x).served = s.served := rfl
@[simp] theorem State.setEng_od (s : State) (g : Nat) (e : Nat) (x : EngineState) : (State.setEng s g e x).od = s.od := rfl
@[simp] theorem State.setEng_flash (s : State) (g : Nat) (e : Nat) (x : EngineState) : (State.setEng s g e x).flash = s.flash := rfl
@[simp] theorem State.setEng_time (s : State) (g : Nat) (e : Nat) (x : EngineState) : (State.setEng s g e x).time = s.time := rfl
@[simp] theorem State.setEng_power (s : State) (g : Nat) (e : Nat) (x : EngineState) : (State.setEng s g e x).power = s.power := rfl
@[simp] theorem State.setEng_health (s : State) (g : Nat) (e : Nat) (x : EngineState) : (State.setEng s g e x).health = s.health := rfl
@[simp] theorem State.setEng_jtag (s : State) (g : Nat) (e : Nat) (x : EngineState) : (State.setEng s g e x).jtag = s.jtag := rfl
@[simp] theorem State.setEng_freeCtr (s : State) (g : Nat) (e : Nat) (x : EngineState) : (State.setEng s g e x).freeCtr = s.freeCtr := rfl
@[simp] theorem State.setEng_out (s : State) (g : Nat) (e : Nat) (x : EngineState) : (State.setEng s g e x).out = s.out := rfl
@[simp] theorem State.setEng_pending (s : State) (g : Nat) (e : Nat) (x : EngineState) : (State.setEng s g e x).pending = s.pending := rfl
@[simp] theorem State.setEng_reg (s : State) (g : Nat) (e : Nat) (x : EngineState) (rr : Reg) (jj : Nat) : (State.setEng s g e x).reg rr jj = s.reg rr jj := rfl

/-! ### `State.setSweep` changes `scr` alone -/

@[simp] theorem State.setSweep_variant (s : State) (g : Nat) (k : Nat) (x : SweepState) : (State.setSweep s g k x).variant = s.variant := rfl
@[simp] theorem State.setSweep_now (s : State) (g : Nat) (k : Nat) (x : SweepState) : (State.setSweep s g k x).now = s.now := rfl
@[simp] theorem State.setSweep_regs (s : State) (g : Nat) (k : Nat) (x : SweepState) : (State.setSweep s g k x).regs = s.regs := rfl
@[simp] theorem State.setSweep_snap (s : State) (g : Nat) (k : Nat) (x : SweepState) : (State.setSweep s g k x).snap = s.snap := rfl
@[simp] theorem State.setSweep_mem (s : State) (g : Nat) (k : Nat) (x : SweepState) : (State.setSweep s g k x).mem = s.mem := rfl
@[simp] theorem State.setSweep_xl (s : State) (g : Nat) (k : Nat) (x : SweepState) : (State.setSweep s g k x).xl = s.xl := rfl
@[simp] theorem State.setSweep_clap (s : State) (g : Nat) (k : Nat) (x : SweepState) : (State.setSweep s g k x).clap = s.clap := rfl
@[simp] theorem State.setSweep_play (s : State) (g : Nat) (k : Nat) (x : SweepState) : (State.setSweep s g k x).play = s.play := rfl
@[simp] theorem State.setSweep_rd (s : State) (g : Nat) (k : Nat) (x : SweepState) : (State.setSweep s g k x).rd = s.rd := rfl
@[simp] theorem State.setSweep_krn (s : State) (g : Nat) (k : Nat) (x : SweepState) : (State.setSweep s g k x).krn = s.krn := rfl
@[simp] theorem State.setSweep_fab (s : State) (g : Nat) (k : Nat) (x : SweepState) : (State.setSweep s g k x).fab = s.fab := rfl
@[simp] theorem State.setSweep_take (s : State) (g : Nat) (k : Nat) (x : SweepState) : (State.setSweep s g k x).take = s.take := rfl
@[simp] theorem State.setSweep_cal (s : State) (g : Nat) (k : Nat) (x : SweepState) : (State.setSweep s g k x).cal = s.cal := rfl
@[simp] theorem State.setSweep_bias (s : State) (g : Nat) (k : Nat) (x : SweepState) : (State.setSweep s g k x).bias = s.bias := rfl
@[simp] theorem State.setSweep_router (s : State) (g : Nat) (k : Nat) (x : SweepState) : (State.setSweep s g k x).router = s.router := rfl
@[simp] theorem State.setSweep_cut (s : State) (g : Nat) (k : Nat) (x : SweepState) : (State.setSweep s g k x).cut = s.cut := rfl
@[simp] theorem State.setSweep_irq (s : State) (g : Nat) (k : Nat) (x : SweepState) : (State.setSweep s g k x).irq = s.irq := rfl
@[simp] theorem State.setSweep_grip (s : State) (g : Nat) (k : Nat) (x : SweepState) : (State.setSweep s g k x).grip = s.grip := rfl
@[simp] theorem State.setSweep_host (s : State) (g : Nat) (k : Nat) (x : SweepState) : (State.setSweep s g k x).host = s.host := rfl
@[simp] theorem State.setSweep_lnk (s : State) (g : Nat) (k : Nat) (x : SweepState) : (State.setSweep s g k x).lnk = s.lnk := rfl
@[simp] theorem State.setSweep_served (s : State) (g : Nat) (k : Nat) (x : SweepState) : (State.setSweep s g k x).served = s.served := rfl
@[simp] theorem State.setSweep_od (s : State) (g : Nat) (k : Nat) (x : SweepState) : (State.setSweep s g k x).od = s.od := rfl
@[simp] theorem State.setSweep_flash (s : State) (g : Nat) (k : Nat) (x : SweepState) : (State.setSweep s g k x).flash = s.flash := rfl
@[simp] theorem State.setSweep_time (s : State) (g : Nat) (k : Nat) (x : SweepState) : (State.setSweep s g k x).time = s.time := rfl
@[simp] theorem State.setSweep_power (s : State) (g : Nat) (k : Nat) (x : SweepState) : (State.setSweep s g k x).power = s.power := rfl
@[simp] theorem State.setSweep_health (s : State) (g : Nat) (k : Nat) (x : SweepState) : (State.setSweep s g k x).health = s.health := rfl
@[simp] theorem State.setSweep_jtag (s : State) (g : Nat) (k : Nat) (x : SweepState) : (State.setSweep s g k x).jtag = s.jtag := rfl
@[simp] theorem State.setSweep_freeCtr (s : State) (g : Nat) (k : Nat) (x : SweepState) : (State.setSweep s g k x).freeCtr = s.freeCtr := rfl
@[simp] theorem State.setSweep_out (s : State) (g : Nat) (k : Nat) (x : SweepState) : (State.setSweep s g k x).out = s.out := rfl
@[simp] theorem State.setSweep_pending (s : State) (g : Nat) (k : Nat) (x : SweepState) : (State.setSweep s g k x).pending = s.pending := rfl
@[simp] theorem State.setSweep_reg (s : State) (g : Nat) (k : Nat) (x : SweepState) (rr : Reg) (jj : Nat) : (State.setSweep s g k x).reg rr jj = s.reg rr jj := rfl

/-! ### `State.setKrn` changes `krn` alone -/

@[simp] theorem State.setKrn_variant (s : State) (g : Nat) (x : KrnEngine) : (State.setKrn s g x).variant = s.variant := rfl
@[simp] theorem State.setKrn_now (s : State) (g : Nat) (x : KrnEngine) : (State.setKrn s g x).now = s.now := rfl
@[simp] theorem State.setKrn_regs (s : State) (g : Nat) (x : KrnEngine) : (State.setKrn s g x).regs = s.regs := rfl
@[simp] theorem State.setKrn_snap (s : State) (g : Nat) (x : KrnEngine) : (State.setKrn s g x).snap = s.snap := rfl
@[simp] theorem State.setKrn_mem (s : State) (g : Nat) (x : KrnEngine) : (State.setKrn s g x).mem = s.mem := rfl
@[simp] theorem State.setKrn_xl (s : State) (g : Nat) (x : KrnEngine) : (State.setKrn s g x).xl = s.xl := rfl
@[simp] theorem State.setKrn_clap (s : State) (g : Nat) (x : KrnEngine) : (State.setKrn s g x).clap = s.clap := rfl
@[simp] theorem State.setKrn_play (s : State) (g : Nat) (x : KrnEngine) : (State.setKrn s g x).play = s.play := rfl
@[simp] theorem State.setKrn_scr (s : State) (g : Nat) (x : KrnEngine) : (State.setKrn s g x).scr = s.scr := rfl
@[simp] theorem State.setKrn_rd (s : State) (g : Nat) (x : KrnEngine) : (State.setKrn s g x).rd = s.rd := rfl
@[simp] theorem State.setKrn_fab (s : State) (g : Nat) (x : KrnEngine) : (State.setKrn s g x).fab = s.fab := rfl
@[simp] theorem State.setKrn_take (s : State) (g : Nat) (x : KrnEngine) : (State.setKrn s g x).take = s.take := rfl
@[simp] theorem State.setKrn_cal (s : State) (g : Nat) (x : KrnEngine) : (State.setKrn s g x).cal = s.cal := rfl
@[simp] theorem State.setKrn_bias (s : State) (g : Nat) (x : KrnEngine) : (State.setKrn s g x).bias = s.bias := rfl
@[simp] theorem State.setKrn_router (s : State) (g : Nat) (x : KrnEngine) : (State.setKrn s g x).router = s.router := rfl
@[simp] theorem State.setKrn_cut (s : State) (g : Nat) (x : KrnEngine) : (State.setKrn s g x).cut = s.cut := rfl
@[simp] theorem State.setKrn_irq (s : State) (g : Nat) (x : KrnEngine) : (State.setKrn s g x).irq = s.irq := rfl
@[simp] theorem State.setKrn_grip (s : State) (g : Nat) (x : KrnEngine) : (State.setKrn s g x).grip = s.grip := rfl
@[simp] theorem State.setKrn_host (s : State) (g : Nat) (x : KrnEngine) : (State.setKrn s g x).host = s.host := rfl
@[simp] theorem State.setKrn_lnk (s : State) (g : Nat) (x : KrnEngine) : (State.setKrn s g x).lnk = s.lnk := rfl
@[simp] theorem State.setKrn_served (s : State) (g : Nat) (x : KrnEngine) : (State.setKrn s g x).served = s.served := rfl
@[simp] theorem State.setKrn_od (s : State) (g : Nat) (x : KrnEngine) : (State.setKrn s g x).od = s.od := rfl
@[simp] theorem State.setKrn_flash (s : State) (g : Nat) (x : KrnEngine) : (State.setKrn s g x).flash = s.flash := rfl
@[simp] theorem State.setKrn_time (s : State) (g : Nat) (x : KrnEngine) : (State.setKrn s g x).time = s.time := rfl
@[simp] theorem State.setKrn_power (s : State) (g : Nat) (x : KrnEngine) : (State.setKrn s g x).power = s.power := rfl
@[simp] theorem State.setKrn_health (s : State) (g : Nat) (x : KrnEngine) : (State.setKrn s g x).health = s.health := rfl
@[simp] theorem State.setKrn_jtag (s : State) (g : Nat) (x : KrnEngine) : (State.setKrn s g x).jtag = s.jtag := rfl
@[simp] theorem State.setKrn_freeCtr (s : State) (g : Nat) (x : KrnEngine) : (State.setKrn s g x).freeCtr = s.freeCtr := rfl
@[simp] theorem State.setKrn_out (s : State) (g : Nat) (x : KrnEngine) : (State.setKrn s g x).out = s.out := rfl
@[simp] theorem State.setKrn_pending (s : State) (g : Nat) (x : KrnEngine) : (State.setKrn s g x).pending = s.pending := rfl
@[simp] theorem State.setKrn_reg (s : State) (g : Nat) (x : KrnEngine) (rr : Reg) (jj : Nat) : (State.setKrn s g x).reg rr jj = s.reg rr jj := rfl

/-! ### `State.setKrnIn` changes `krn` alone -/

@[simp] theorem State.setKrnIn_variant (s : State) (g : Nat) (i : Nat) (q : List (Nat × Word)) : (State.setKrnIn s g i q).variant = s.variant := rfl
@[simp] theorem State.setKrnIn_now (s : State) (g : Nat) (i : Nat) (q : List (Nat × Word)) : (State.setKrnIn s g i q).now = s.now := rfl
@[simp] theorem State.setKrnIn_regs (s : State) (g : Nat) (i : Nat) (q : List (Nat × Word)) : (State.setKrnIn s g i q).regs = s.regs := rfl
@[simp] theorem State.setKrnIn_snap (s : State) (g : Nat) (i : Nat) (q : List (Nat × Word)) : (State.setKrnIn s g i q).snap = s.snap := rfl
@[simp] theorem State.setKrnIn_mem (s : State) (g : Nat) (i : Nat) (q : List (Nat × Word)) : (State.setKrnIn s g i q).mem = s.mem := rfl
@[simp] theorem State.setKrnIn_xl (s : State) (g : Nat) (i : Nat) (q : List (Nat × Word)) : (State.setKrnIn s g i q).xl = s.xl := rfl
@[simp] theorem State.setKrnIn_clap (s : State) (g : Nat) (i : Nat) (q : List (Nat × Word)) : (State.setKrnIn s g i q).clap = s.clap := rfl
@[simp] theorem State.setKrnIn_play (s : State) (g : Nat) (i : Nat) (q : List (Nat × Word)) : (State.setKrnIn s g i q).play = s.play := rfl
@[simp] theorem State.setKrnIn_scr (s : State) (g : Nat) (i : Nat) (q : List (Nat × Word)) : (State.setKrnIn s g i q).scr = s.scr := rfl
@[simp] theorem State.setKrnIn_rd (s : State) (g : Nat) (i : Nat) (q : List (Nat × Word)) : (State.setKrnIn s g i q).rd = s.rd := rfl
@[simp] theorem State.setKrnIn_fab (s : State) (g : Nat) (i : Nat) (q : List (Nat × Word)) : (State.setKrnIn s g i q).fab = s.fab := rfl
@[simp] theorem State.setKrnIn_take (s : State) (g : Nat) (i : Nat) (q : List (Nat × Word)) : (State.setKrnIn s g i q).take = s.take := rfl
@[simp] theorem State.setKrnIn_cal (s : State) (g : Nat) (i : Nat) (q : List (Nat × Word)) : (State.setKrnIn s g i q).cal = s.cal := rfl
@[simp] theorem State.setKrnIn_bias (s : State) (g : Nat) (i : Nat) (q : List (Nat × Word)) : (State.setKrnIn s g i q).bias = s.bias := rfl
@[simp] theorem State.setKrnIn_router (s : State) (g : Nat) (i : Nat) (q : List (Nat × Word)) : (State.setKrnIn s g i q).router = s.router := rfl
@[simp] theorem State.setKrnIn_cut (s : State) (g : Nat) (i : Nat) (q : List (Nat × Word)) : (State.setKrnIn s g i q).cut = s.cut := rfl
@[simp] theorem State.setKrnIn_irq (s : State) (g : Nat) (i : Nat) (q : List (Nat × Word)) : (State.setKrnIn s g i q).irq = s.irq := rfl
@[simp] theorem State.setKrnIn_grip (s : State) (g : Nat) (i : Nat) (q : List (Nat × Word)) : (State.setKrnIn s g i q).grip = s.grip := rfl
@[simp] theorem State.setKrnIn_host (s : State) (g : Nat) (i : Nat) (q : List (Nat × Word)) : (State.setKrnIn s g i q).host = s.host := rfl
@[simp] theorem State.setKrnIn_lnk (s : State) (g : Nat) (i : Nat) (q : List (Nat × Word)) : (State.setKrnIn s g i q).lnk = s.lnk := rfl
@[simp] theorem State.setKrnIn_served (s : State) (g : Nat) (i : Nat) (q : List (Nat × Word)) : (State.setKrnIn s g i q).served = s.served := rfl
@[simp] theorem State.setKrnIn_od (s : State) (g : Nat) (i : Nat) (q : List (Nat × Word)) : (State.setKrnIn s g i q).od = s.od := rfl
@[simp] theorem State.setKrnIn_flash (s : State) (g : Nat) (i : Nat) (q : List (Nat × Word)) : (State.setKrnIn s g i q).flash = s.flash := rfl
@[simp] theorem State.setKrnIn_time (s : State) (g : Nat) (i : Nat) (q : List (Nat × Word)) : (State.setKrnIn s g i q).time = s.time := rfl
@[simp] theorem State.setKrnIn_power (s : State) (g : Nat) (i : Nat) (q : List (Nat × Word)) : (State.setKrnIn s g i q).power = s.power := rfl
@[simp] theorem State.setKrnIn_health (s : State) (g : Nat) (i : Nat) (q : List (Nat × Word)) : (State.setKrnIn s g i q).health = s.health := rfl
@[simp] theorem State.setKrnIn_jtag (s : State) (g : Nat) (i : Nat) (q : List (Nat × Word)) : (State.setKrnIn s g i q).jtag = s.jtag := rfl
@[simp] theorem State.setKrnIn_freeCtr (s : State) (g : Nat) (i : Nat) (q : List (Nat × Word)) : (State.setKrnIn s g i q).freeCtr = s.freeCtr := rfl
@[simp] theorem State.setKrnIn_out (s : State) (g : Nat) (i : Nat) (q : List (Nat × Word)) : (State.setKrnIn s g i q).out = s.out := rfl
@[simp] theorem State.setKrnIn_pending (s : State) (g : Nat) (i : Nat) (q : List (Nat × Word)) : (State.setKrnIn s g i q).pending = s.pending := rfl
@[simp] theorem State.setKrnIn_reg (s : State) (g : Nat) (i : Nat) (q : List (Nat × Word)) (rr : Reg) (jj : Nat) : (State.setKrnIn s g i q).reg rr jj = s.reg rr jj := rfl

/-! ### `State.setWindows` changes `rd` alone -/

@[simp] theorem State.setWindows_variant (s : State) (g : Nat) (t : Nat) (ws : List ToneWindow) : (State.setWindows s g t ws).variant = s.variant := rfl
@[simp] theorem State.setWindows_now (s : State) (g : Nat) (t : Nat) (ws : List ToneWindow) : (State.setWindows s g t ws).now = s.now := rfl
@[simp] theorem State.setWindows_regs (s : State) (g : Nat) (t : Nat) (ws : List ToneWindow) : (State.setWindows s g t ws).regs = s.regs := rfl
@[simp] theorem State.setWindows_snap (s : State) (g : Nat) (t : Nat) (ws : List ToneWindow) : (State.setWindows s g t ws).snap = s.snap := rfl
@[simp] theorem State.setWindows_mem (s : State) (g : Nat) (t : Nat) (ws : List ToneWindow) : (State.setWindows s g t ws).mem = s.mem := rfl
@[simp] theorem State.setWindows_xl (s : State) (g : Nat) (t : Nat) (ws : List ToneWindow) : (State.setWindows s g t ws).xl = s.xl := rfl
@[simp] theorem State.setWindows_clap (s : State) (g : Nat) (t : Nat) (ws : List ToneWindow) : (State.setWindows s g t ws).clap = s.clap := rfl
@[simp] theorem State.setWindows_play (s : State) (g : Nat) (t : Nat) (ws : List ToneWindow) : (State.setWindows s g t ws).play = s.play := rfl
@[simp] theorem State.setWindows_scr (s : State) (g : Nat) (t : Nat) (ws : List ToneWindow) : (State.setWindows s g t ws).scr = s.scr := rfl
@[simp] theorem State.setWindows_krn (s : State) (g : Nat) (t : Nat) (ws : List ToneWindow) : (State.setWindows s g t ws).krn = s.krn := rfl
@[simp] theorem State.setWindows_fab (s : State) (g : Nat) (t : Nat) (ws : List ToneWindow) : (State.setWindows s g t ws).fab = s.fab := rfl
@[simp] theorem State.setWindows_take (s : State) (g : Nat) (t : Nat) (ws : List ToneWindow) : (State.setWindows s g t ws).take = s.take := rfl
@[simp] theorem State.setWindows_cal (s : State) (g : Nat) (t : Nat) (ws : List ToneWindow) : (State.setWindows s g t ws).cal = s.cal := rfl
@[simp] theorem State.setWindows_bias (s : State) (g : Nat) (t : Nat) (ws : List ToneWindow) : (State.setWindows s g t ws).bias = s.bias := rfl
@[simp] theorem State.setWindows_router (s : State) (g : Nat) (t : Nat) (ws : List ToneWindow) : (State.setWindows s g t ws).router = s.router := rfl
@[simp] theorem State.setWindows_cut (s : State) (g : Nat) (t : Nat) (ws : List ToneWindow) : (State.setWindows s g t ws).cut = s.cut := rfl
@[simp] theorem State.setWindows_irq (s : State) (g : Nat) (t : Nat) (ws : List ToneWindow) : (State.setWindows s g t ws).irq = s.irq := rfl
@[simp] theorem State.setWindows_grip (s : State) (g : Nat) (t : Nat) (ws : List ToneWindow) : (State.setWindows s g t ws).grip = s.grip := rfl
@[simp] theorem State.setWindows_host (s : State) (g : Nat) (t : Nat) (ws : List ToneWindow) : (State.setWindows s g t ws).host = s.host := rfl
@[simp] theorem State.setWindows_lnk (s : State) (g : Nat) (t : Nat) (ws : List ToneWindow) : (State.setWindows s g t ws).lnk = s.lnk := rfl
@[simp] theorem State.setWindows_served (s : State) (g : Nat) (t : Nat) (ws : List ToneWindow) : (State.setWindows s g t ws).served = s.served := rfl
@[simp] theorem State.setWindows_od (s : State) (g : Nat) (t : Nat) (ws : List ToneWindow) : (State.setWindows s g t ws).od = s.od := rfl
@[simp] theorem State.setWindows_flash (s : State) (g : Nat) (t : Nat) (ws : List ToneWindow) : (State.setWindows s g t ws).flash = s.flash := rfl
@[simp] theorem State.setWindows_time (s : State) (g : Nat) (t : Nat) (ws : List ToneWindow) : (State.setWindows s g t ws).time = s.time := rfl
@[simp] theorem State.setWindows_power (s : State) (g : Nat) (t : Nat) (ws : List ToneWindow) : (State.setWindows s g t ws).power = s.power := rfl
@[simp] theorem State.setWindows_health (s : State) (g : Nat) (t : Nat) (ws : List ToneWindow) : (State.setWindows s g t ws).health = s.health := rfl
@[simp] theorem State.setWindows_jtag (s : State) (g : Nat) (t : Nat) (ws : List ToneWindow) : (State.setWindows s g t ws).jtag = s.jtag := rfl
@[simp] theorem State.setWindows_freeCtr (s : State) (g : Nat) (t : Nat) (ws : List ToneWindow) : (State.setWindows s g t ws).freeCtr = s.freeCtr := rfl
@[simp] theorem State.setWindows_out (s : State) (g : Nat) (t : Nat) (ws : List ToneWindow) : (State.setWindows s g t ws).out = s.out := rfl
@[simp] theorem State.setWindows_pending (s : State) (g : Nat) (t : Nat) (ws : List ToneWindow) : (State.setWindows s g t ws).pending = s.pending := rfl
@[simp] theorem State.setWindows_reg (s : State) (g : Nat) (t : Nat) (ws : List ToneWindow) (rr : Reg) (jj : Nat) : (State.setWindows s g t ws).reg rr jj = s.reg rr jj := rfl

/-! ### `State.keepPend` changes `krn` alone -/

@[simp] theorem State.keepPend_variant (s : State) (g : Nat) (p : KrnWindow → Bool) : (State.keepPend s g p).variant = s.variant := rfl
@[simp] theorem State.keepPend_now (s : State) (g : Nat) (p : KrnWindow → Bool) : (State.keepPend s g p).now = s.now := rfl
@[simp] theorem State.keepPend_regs (s : State) (g : Nat) (p : KrnWindow → Bool) : (State.keepPend s g p).regs = s.regs := rfl
@[simp] theorem State.keepPend_snap (s : State) (g : Nat) (p : KrnWindow → Bool) : (State.keepPend s g p).snap = s.snap := rfl
@[simp] theorem State.keepPend_mem (s : State) (g : Nat) (p : KrnWindow → Bool) : (State.keepPend s g p).mem = s.mem := rfl
@[simp] theorem State.keepPend_xl (s : State) (g : Nat) (p : KrnWindow → Bool) : (State.keepPend s g p).xl = s.xl := rfl
@[simp] theorem State.keepPend_clap (s : State) (g : Nat) (p : KrnWindow → Bool) : (State.keepPend s g p).clap = s.clap := rfl
@[simp] theorem State.keepPend_play (s : State) (g : Nat) (p : KrnWindow → Bool) : (State.keepPend s g p).play = s.play := rfl
@[simp] theorem State.keepPend_scr (s : State) (g : Nat) (p : KrnWindow → Bool) : (State.keepPend s g p).scr = s.scr := rfl
@[simp] theorem State.keepPend_rd (s : State) (g : Nat) (p : KrnWindow → Bool) : (State.keepPend s g p).rd = s.rd := rfl
@[simp] theorem State.keepPend_fab (s : State) (g : Nat) (p : KrnWindow → Bool) : (State.keepPend s g p).fab = s.fab := rfl
@[simp] theorem State.keepPend_take (s : State) (g : Nat) (p : KrnWindow → Bool) : (State.keepPend s g p).take = s.take := rfl
@[simp] theorem State.keepPend_cal (s : State) (g : Nat) (p : KrnWindow → Bool) : (State.keepPend s g p).cal = s.cal := rfl
@[simp] theorem State.keepPend_bias (s : State) (g : Nat) (p : KrnWindow → Bool) : (State.keepPend s g p).bias = s.bias := rfl
@[simp] theorem State.keepPend_router (s : State) (g : Nat) (p : KrnWindow → Bool) : (State.keepPend s g p).router = s.router := rfl
@[simp] theorem State.keepPend_cut (s : State) (g : Nat) (p : KrnWindow → Bool) : (State.keepPend s g p).cut = s.cut := rfl
@[simp] theorem State.keepPend_irq (s : State) (g : Nat) (p : KrnWindow → Bool) : (State.keepPend s g p).irq = s.irq := rfl
@[simp] theorem State.keepPend_grip (s : State) (g : Nat) (p : KrnWindow → Bool) : (State.keepPend s g p).grip = s.grip := rfl
@[simp] theorem State.keepPend_host (s : State) (g : Nat) (p : KrnWindow → Bool) : (State.keepPend s g p).host = s.host := rfl
@[simp] theorem State.keepPend_lnk (s : State) (g : Nat) (p : KrnWindow → Bool) : (State.keepPend s g p).lnk = s.lnk := rfl
@[simp] theorem State.keepPend_served (s : State) (g : Nat) (p : KrnWindow → Bool) : (State.keepPend s g p).served = s.served := rfl
@[simp] theorem State.keepPend_od (s : State) (g : Nat) (p : KrnWindow → Bool) : (State.keepPend s g p).od = s.od := rfl
@[simp] theorem State.keepPend_flash (s : State) (g : Nat) (p : KrnWindow → Bool) : (State.keepPend s g p).flash = s.flash := rfl
@[simp] theorem State.keepPend_time (s : State) (g : Nat) (p : KrnWindow → Bool) : (State.keepPend s g p).time = s.time := rfl
@[simp] theorem State.keepPend_power (s : State) (g : Nat) (p : KrnWindow → Bool) : (State.keepPend s g p).power = s.power := rfl
@[simp] theorem State.keepPend_health (s : State) (g : Nat) (p : KrnWindow → Bool) : (State.keepPend s g p).health = s.health := rfl
@[simp] theorem State.keepPend_jtag (s : State) (g : Nat) (p : KrnWindow → Bool) : (State.keepPend s g p).jtag = s.jtag := rfl
@[simp] theorem State.keepPend_freeCtr (s : State) (g : Nat) (p : KrnWindow → Bool) : (State.keepPend s g p).freeCtr = s.freeCtr := rfl
@[simp] theorem State.keepPend_out (s : State) (g : Nat) (p : KrnWindow → Bool) : (State.keepPend s g p).out = s.out := rfl
@[simp] theorem State.keepPend_pending (s : State) (g : Nat) (p : KrnWindow → Bool) : (State.keepPend s g p).pending = s.pending := rfl
@[simp] theorem State.keepPend_reg (s : State) (g : Nat) (p : KrnWindow → Bool) (rr : Reg) (jj : Nat) : (State.keepPend s g p).reg rr jj = s.reg rr jj := rfl

/-! ### `State.newSegment` changes `time` alone -/

@[simp] theorem State.newSegment_variant (s : State) (w : Nat) (inc : Nat) : (State.newSegment s w inc).variant = s.variant := rfl
@[simp] theorem State.newSegment_now (s : State) (w : Nat) (inc : Nat) : (State.newSegment s w inc).now = s.now := rfl
@[simp] theorem State.newSegment_regs (s : State) (w : Nat) (inc : Nat) : (State.newSegment s w inc).regs = s.regs := rfl
@[simp] theorem State.newSegment_snap (s : State) (w : Nat) (inc : Nat) : (State.newSegment s w inc).snap = s.snap := rfl
@[simp] theorem State.newSegment_mem (s : State) (w : Nat) (inc : Nat) : (State.newSegment s w inc).mem = s.mem := rfl
@[simp] theorem State.newSegment_xl (s : State) (w : Nat) (inc : Nat) : (State.newSegment s w inc).xl = s.xl := rfl
@[simp] theorem State.newSegment_clap (s : State) (w : Nat) (inc : Nat) : (State.newSegment s w inc).clap = s.clap := rfl
@[simp] theorem State.newSegment_play (s : State) (w : Nat) (inc : Nat) : (State.newSegment s w inc).play = s.play := rfl
@[simp] theorem State.newSegment_scr (s : State) (w : Nat) (inc : Nat) : (State.newSegment s w inc).scr = s.scr := rfl
@[simp] theorem State.newSegment_rd (s : State) (w : Nat) (inc : Nat) : (State.newSegment s w inc).rd = s.rd := rfl
@[simp] theorem State.newSegment_krn (s : State) (w : Nat) (inc : Nat) : (State.newSegment s w inc).krn = s.krn := rfl
@[simp] theorem State.newSegment_fab (s : State) (w : Nat) (inc : Nat) : (State.newSegment s w inc).fab = s.fab := rfl
@[simp] theorem State.newSegment_take (s : State) (w : Nat) (inc : Nat) : (State.newSegment s w inc).take = s.take := rfl
@[simp] theorem State.newSegment_cal (s : State) (w : Nat) (inc : Nat) : (State.newSegment s w inc).cal = s.cal := rfl
@[simp] theorem State.newSegment_bias (s : State) (w : Nat) (inc : Nat) : (State.newSegment s w inc).bias = s.bias := rfl
@[simp] theorem State.newSegment_router (s : State) (w : Nat) (inc : Nat) : (State.newSegment s w inc).router = s.router := rfl
@[simp] theorem State.newSegment_cut (s : State) (w : Nat) (inc : Nat) : (State.newSegment s w inc).cut = s.cut := rfl
@[simp] theorem State.newSegment_irq (s : State) (w : Nat) (inc : Nat) : (State.newSegment s w inc).irq = s.irq := rfl
@[simp] theorem State.newSegment_grip (s : State) (w : Nat) (inc : Nat) : (State.newSegment s w inc).grip = s.grip := rfl
@[simp] theorem State.newSegment_host (s : State) (w : Nat) (inc : Nat) : (State.newSegment s w inc).host = s.host := rfl
@[simp] theorem State.newSegment_lnk (s : State) (w : Nat) (inc : Nat) : (State.newSegment s w inc).lnk = s.lnk := rfl
@[simp] theorem State.newSegment_served (s : State) (w : Nat) (inc : Nat) : (State.newSegment s w inc).served = s.served := rfl
@[simp] theorem State.newSegment_od (s : State) (w : Nat) (inc : Nat) : (State.newSegment s w inc).od = s.od := rfl
@[simp] theorem State.newSegment_flash (s : State) (w : Nat) (inc : Nat) : (State.newSegment s w inc).flash = s.flash := rfl
@[simp] theorem State.newSegment_power (s : State) (w : Nat) (inc : Nat) : (State.newSegment s w inc).power = s.power := rfl
@[simp] theorem State.newSegment_health (s : State) (w : Nat) (inc : Nat) : (State.newSegment s w inc).health = s.health := rfl
@[simp] theorem State.newSegment_jtag (s : State) (w : Nat) (inc : Nat) : (State.newSegment s w inc).jtag = s.jtag := rfl
@[simp] theorem State.newSegment_freeCtr (s : State) (w : Nat) (inc : Nat) : (State.newSegment s w inc).freeCtr = s.freeCtr := rfl
@[simp] theorem State.newSegment_out (s : State) (w : Nat) (inc : Nat) : (State.newSegment s w inc).out = s.out := rfl
@[simp] theorem State.newSegment_pending (s : State) (w : Nat) (inc : Nat) : (State.newSegment s w inc).pending = s.pending := rfl
@[simp] theorem State.newSegment_reg (s : State) (w : Nat) (inc : Nat) (rr : Reg) (jj : Nat) : (State.newSegment s w inc).reg rr jj = s.reg rr jj := rfl

/-! ### `State.setPtp` changes `time` alone -/

@[simp] theorem State.setPtp_variant (s : State) (d : Nat) (x : PtpDomain) : (State.setPtp s d x).variant = s.variant := rfl
@[simp] theorem State.setPtp_now (s : State) (d : Nat) (x : PtpDomain) : (State.setPtp s d x).now = s.now := rfl
@[simp] theorem State.setPtp_regs (s : State) (d : Nat) (x : PtpDomain) : (State.setPtp s d x).regs = s.regs := rfl
@[simp] theorem State.setPtp_snap (s : State) (d : Nat) (x : PtpDomain) : (State.setPtp s d x).snap = s.snap := rfl
@[simp] theorem State.setPtp_mem (s : State) (d : Nat) (x : PtpDomain) : (State.setPtp s d x).mem = s.mem := rfl
@[simp] theorem State.setPtp_xl (s : State) (d : Nat) (x : PtpDomain) : (State.setPtp s d x).xl = s.xl := rfl
@[simp] theorem State.setPtp_clap (s : State) (d : Nat) (x : PtpDomain) : (State.setPtp s d x).clap = s.clap := rfl
@[simp] theorem State.setPtp_play (s : State) (d : Nat) (x : PtpDomain) : (State.setPtp s d x).play = s.play := rfl
@[simp] theorem State.setPtp_scr (s : State) (d : Nat) (x : PtpDomain) : (State.setPtp s d x).scr = s.scr := rfl
@[simp] theorem State.setPtp_rd (s : State) (d : Nat) (x : PtpDomain) : (State.setPtp s d x).rd = s.rd := rfl
@[simp] theorem State.setPtp_krn (s : State) (d : Nat) (x : PtpDomain) : (State.setPtp s d x).krn = s.krn := rfl
@[simp] theorem State.setPtp_fab (s : State) (d : Nat) (x : PtpDomain) : (State.setPtp s d x).fab = s.fab := rfl
@[simp] theorem State.setPtp_take (s : State) (d : Nat) (x : PtpDomain) : (State.setPtp s d x).take = s.take := rfl
@[simp] theorem State.setPtp_cal (s : State) (d : Nat) (x : PtpDomain) : (State.setPtp s d x).cal = s.cal := rfl
@[simp] theorem State.setPtp_bias (s : State) (d : Nat) (x : PtpDomain) : (State.setPtp s d x).bias = s.bias := rfl
@[simp] theorem State.setPtp_router (s : State) (d : Nat) (x : PtpDomain) : (State.setPtp s d x).router = s.router := rfl
@[simp] theorem State.setPtp_cut (s : State) (d : Nat) (x : PtpDomain) : (State.setPtp s d x).cut = s.cut := rfl
@[simp] theorem State.setPtp_irq (s : State) (d : Nat) (x : PtpDomain) : (State.setPtp s d x).irq = s.irq := rfl
@[simp] theorem State.setPtp_grip (s : State) (d : Nat) (x : PtpDomain) : (State.setPtp s d x).grip = s.grip := rfl
@[simp] theorem State.setPtp_host (s : State) (d : Nat) (x : PtpDomain) : (State.setPtp s d x).host = s.host := rfl
@[simp] theorem State.setPtp_lnk (s : State) (d : Nat) (x : PtpDomain) : (State.setPtp s d x).lnk = s.lnk := rfl
@[simp] theorem State.setPtp_served (s : State) (d : Nat) (x : PtpDomain) : (State.setPtp s d x).served = s.served := rfl
@[simp] theorem State.setPtp_od (s : State) (d : Nat) (x : PtpDomain) : (State.setPtp s d x).od = s.od := rfl
@[simp] theorem State.setPtp_flash (s : State) (d : Nat) (x : PtpDomain) : (State.setPtp s d x).flash = s.flash := rfl
@[simp] theorem State.setPtp_power (s : State) (d : Nat) (x : PtpDomain) : (State.setPtp s d x).power = s.power := rfl
@[simp] theorem State.setPtp_health (s : State) (d : Nat) (x : PtpDomain) : (State.setPtp s d x).health = s.health := rfl
@[simp] theorem State.setPtp_jtag (s : State) (d : Nat) (x : PtpDomain) : (State.setPtp s d x).jtag = s.jtag := rfl
@[simp] theorem State.setPtp_freeCtr (s : State) (d : Nat) (x : PtpDomain) : (State.setPtp s d x).freeCtr = s.freeCtr := rfl
@[simp] theorem State.setPtp_out (s : State) (d : Nat) (x : PtpDomain) : (State.setPtp s d x).out = s.out := rfl
@[simp] theorem State.setPtp_pending (s : State) (d : Nat) (x : PtpDomain) : (State.setPtp s d x).pending = s.pending := rfl
@[simp] theorem State.setPtp_reg (s : State) (d : Nat) (x : PtpDomain) (rr : Reg) (jj : Nat) : (State.setPtp s d x).reg rr jj = s.reg rr jj := rfl

/-! ### `State.setLink` changes `lnk` alone -/

@[simp] theorem State.setLink_variant (s : State) (l : Nat) (x : LinkState) : (State.setLink s l x).variant = s.variant := rfl
@[simp] theorem State.setLink_now (s : State) (l : Nat) (x : LinkState) : (State.setLink s l x).now = s.now := rfl
@[simp] theorem State.setLink_regs (s : State) (l : Nat) (x : LinkState) : (State.setLink s l x).regs = s.regs := rfl
@[simp] theorem State.setLink_snap (s : State) (l : Nat) (x : LinkState) : (State.setLink s l x).snap = s.snap := rfl
@[simp] theorem State.setLink_mem (s : State) (l : Nat) (x : LinkState) : (State.setLink s l x).mem = s.mem := rfl
@[simp] theorem State.setLink_xl (s : State) (l : Nat) (x : LinkState) : (State.setLink s l x).xl = s.xl := rfl
@[simp] theorem State.setLink_clap (s : State) (l : Nat) (x : LinkState) : (State.setLink s l x).clap = s.clap := rfl
@[simp] theorem State.setLink_play (s : State) (l : Nat) (x : LinkState) : (State.setLink s l x).play = s.play := rfl
@[simp] theorem State.setLink_scr (s : State) (l : Nat) (x : LinkState) : (State.setLink s l x).scr = s.scr := rfl
@[simp] theorem State.setLink_rd (s : State) (l : Nat) (x : LinkState) : (State.setLink s l x).rd = s.rd := rfl
@[simp] theorem State.setLink_krn (s : State) (l : Nat) (x : LinkState) : (State.setLink s l x).krn = s.krn := rfl
@[simp] theorem State.setLink_fab (s : State) (l : Nat) (x : LinkState) : (State.setLink s l x).fab = s.fab := rfl
@[simp] theorem State.setLink_take (s : State) (l : Nat) (x : LinkState) : (State.setLink s l x).take = s.take := rfl
@[simp] theorem State.setLink_cal (s : State) (l : Nat) (x : LinkState) : (State.setLink s l x).cal = s.cal := rfl
@[simp] theorem State.setLink_bias (s : State) (l : Nat) (x : LinkState) : (State.setLink s l x).bias = s.bias := rfl
@[simp] theorem State.setLink_router (s : State) (l : Nat) (x : LinkState) : (State.setLink s l x).router = s.router := rfl
@[simp] theorem State.setLink_cut (s : State) (l : Nat) (x : LinkState) : (State.setLink s l x).cut = s.cut := rfl
@[simp] theorem State.setLink_irq (s : State) (l : Nat) (x : LinkState) : (State.setLink s l x).irq = s.irq := rfl
@[simp] theorem State.setLink_grip (s : State) (l : Nat) (x : LinkState) : (State.setLink s l x).grip = s.grip := rfl
@[simp] theorem State.setLink_host (s : State) (l : Nat) (x : LinkState) : (State.setLink s l x).host = s.host := rfl
@[simp] theorem State.setLink_served (s : State) (l : Nat) (x : LinkState) : (State.setLink s l x).served = s.served := rfl
@[simp] theorem State.setLink_od (s : State) (l : Nat) (x : LinkState) : (State.setLink s l x).od = s.od := rfl
@[simp] theorem State.setLink_flash (s : State) (l : Nat) (x : LinkState) : (State.setLink s l x).flash = s.flash := rfl
@[simp] theorem State.setLink_time (s : State) (l : Nat) (x : LinkState) : (State.setLink s l x).time = s.time := rfl
@[simp] theorem State.setLink_power (s : State) (l : Nat) (x : LinkState) : (State.setLink s l x).power = s.power := rfl
@[simp] theorem State.setLink_health (s : State) (l : Nat) (x : LinkState) : (State.setLink s l x).health = s.health := rfl
@[simp] theorem State.setLink_jtag (s : State) (l : Nat) (x : LinkState) : (State.setLink s l x).jtag = s.jtag := rfl
@[simp] theorem State.setLink_freeCtr (s : State) (l : Nat) (x : LinkState) : (State.setLink s l x).freeCtr = s.freeCtr := rfl
@[simp] theorem State.setLink_out (s : State) (l : Nat) (x : LinkState) : (State.setLink s l x).out = s.out := rfl
@[simp] theorem State.setLink_pending (s : State) (l : Nat) (x : LinkState) : (State.setLink s l x).pending = s.pending := rfl
@[simp] theorem State.setLink_reg (s : State) (l : Nat) (x : LinkState) (rr : Reg) (jj : Nat) : (State.setLink s l x).reg rr jj = s.reg rr jj := rfl

/-! ### `State.setSys` changes `take` alone -/

@[simp] theorem State.setSys_variant (s : State) (x : SysEngine) : (State.setSys s x).variant = s.variant := rfl
@[simp] theorem State.setSys_now (s : State) (x : SysEngine) : (State.setSys s x).now = s.now := rfl
@[simp] theorem State.setSys_regs (s : State) (x : SysEngine) : (State.setSys s x).regs = s.regs := rfl
@[simp] theorem State.setSys_snap (s : State) (x : SysEngine) : (State.setSys s x).snap = s.snap := rfl
@[simp] theorem State.setSys_mem (s : State) (x : SysEngine) : (State.setSys s x).mem = s.mem := rfl
@[simp] theorem State.setSys_xl (s : State) (x : SysEngine) : (State.setSys s x).xl = s.xl := rfl
@[simp] theorem State.setSys_clap (s : State) (x : SysEngine) : (State.setSys s x).clap = s.clap := rfl
@[simp] theorem State.setSys_play (s : State) (x : SysEngine) : (State.setSys s x).play = s.play := rfl
@[simp] theorem State.setSys_scr (s : State) (x : SysEngine) : (State.setSys s x).scr = s.scr := rfl
@[simp] theorem State.setSys_rd (s : State) (x : SysEngine) : (State.setSys s x).rd = s.rd := rfl
@[simp] theorem State.setSys_krn (s : State) (x : SysEngine) : (State.setSys s x).krn = s.krn := rfl
@[simp] theorem State.setSys_fab (s : State) (x : SysEngine) : (State.setSys s x).fab = s.fab := rfl
@[simp] theorem State.setSys_cal (s : State) (x : SysEngine) : (State.setSys s x).cal = s.cal := rfl
@[simp] theorem State.setSys_bias (s : State) (x : SysEngine) : (State.setSys s x).bias = s.bias := rfl
@[simp] theorem State.setSys_router (s : State) (x : SysEngine) : (State.setSys s x).router = s.router := rfl
@[simp] theorem State.setSys_cut (s : State) (x : SysEngine) : (State.setSys s x).cut = s.cut := rfl
@[simp] theorem State.setSys_irq (s : State) (x : SysEngine) : (State.setSys s x).irq = s.irq := rfl
@[simp] theorem State.setSys_grip (s : State) (x : SysEngine) : (State.setSys s x).grip = s.grip := rfl
@[simp] theorem State.setSys_host (s : State) (x : SysEngine) : (State.setSys s x).host = s.host := rfl
@[simp] theorem State.setSys_lnk (s : State) (x : SysEngine) : (State.setSys s x).lnk = s.lnk := rfl
@[simp] theorem State.setSys_served (s : State) (x : SysEngine) : (State.setSys s x).served = s.served := rfl
@[simp] theorem State.setSys_od (s : State) (x : SysEngine) : (State.setSys s x).od = s.od := rfl
@[simp] theorem State.setSys_flash (s : State) (x : SysEngine) : (State.setSys s x).flash = s.flash := rfl
@[simp] theorem State.setSys_time (s : State) (x : SysEngine) : (State.setSys s x).time = s.time := rfl
@[simp] theorem State.setSys_power (s : State) (x : SysEngine) : (State.setSys s x).power = s.power := rfl
@[simp] theorem State.setSys_health (s : State) (x : SysEngine) : (State.setSys s x).health = s.health := rfl
@[simp] theorem State.setSys_jtag (s : State) (x : SysEngine) : (State.setSys s x).jtag = s.jtag := rfl
@[simp] theorem State.setSys_freeCtr (s : State) (x : SysEngine) : (State.setSys s x).freeCtr = s.freeCtr := rfl
@[simp] theorem State.setSys_out (s : State) (x : SysEngine) : (State.setSys s x).out = s.out := rfl
@[simp] theorem State.setSys_pending (s : State) (x : SysEngine) : (State.setSys s x).pending = s.pending := rfl
@[simp] theorem State.setSys_reg (s : State) (x : SysEngine) (rr : Reg) (jj : Nat) : (State.setSys s x).reg rr jj = s.reg rr jj := rfl

/-! ### `State.setDailies` changes `rd` alone -/

@[simp] theorem State.setDailies_variant (s : State) (n : Nat) (d : DailiesState) : (State.setDailies s n d).variant = s.variant := rfl
@[simp] theorem State.setDailies_now (s : State) (n : Nat) (d : DailiesState) : (State.setDailies s n d).now = s.now := rfl
@[simp] theorem State.setDailies_regs (s : State) (n : Nat) (d : DailiesState) : (State.setDailies s n d).regs = s.regs := rfl
@[simp] theorem State.setDailies_snap (s : State) (n : Nat) (d : DailiesState) : (State.setDailies s n d).snap = s.snap := rfl
@[simp] theorem State.setDailies_mem (s : State) (n : Nat) (d : DailiesState) : (State.setDailies s n d).mem = s.mem := rfl
@[simp] theorem State.setDailies_xl (s : State) (n : Nat) (d : DailiesState) : (State.setDailies s n d).xl = s.xl := rfl
@[simp] theorem State.setDailies_clap (s : State) (n : Nat) (d : DailiesState) : (State.setDailies s n d).clap = s.clap := rfl
@[simp] theorem State.setDailies_play (s : State) (n : Nat) (d : DailiesState) : (State.setDailies s n d).play = s.play := rfl
@[simp] theorem State.setDailies_scr (s : State) (n : Nat) (d : DailiesState) : (State.setDailies s n d).scr = s.scr := rfl
@[simp] theorem State.setDailies_krn (s : State) (n : Nat) (d : DailiesState) : (State.setDailies s n d).krn = s.krn := rfl
@[simp] theorem State.setDailies_fab (s : State) (n : Nat) (d : DailiesState) : (State.setDailies s n d).fab = s.fab := rfl
@[simp] theorem State.setDailies_take (s : State) (n : Nat) (d : DailiesState) : (State.setDailies s n d).take = s.take := rfl
@[simp] theorem State.setDailies_cal (s : State) (n : Nat) (d : DailiesState) : (State.setDailies s n d).cal = s.cal := rfl
@[simp] theorem State.setDailies_bias (s : State) (n : Nat) (d : DailiesState) : (State.setDailies s n d).bias = s.bias := rfl
@[simp] theorem State.setDailies_router (s : State) (n : Nat) (d : DailiesState) : (State.setDailies s n d).router = s.router := rfl
@[simp] theorem State.setDailies_cut (s : State) (n : Nat) (d : DailiesState) : (State.setDailies s n d).cut = s.cut := rfl
@[simp] theorem State.setDailies_irq (s : State) (n : Nat) (d : DailiesState) : (State.setDailies s n d).irq = s.irq := rfl
@[simp] theorem State.setDailies_grip (s : State) (n : Nat) (d : DailiesState) : (State.setDailies s n d).grip = s.grip := rfl
@[simp] theorem State.setDailies_host (s : State) (n : Nat) (d : DailiesState) : (State.setDailies s n d).host = s.host := rfl
@[simp] theorem State.setDailies_lnk (s : State) (n : Nat) (d : DailiesState) : (State.setDailies s n d).lnk = s.lnk := rfl
@[simp] theorem State.setDailies_served (s : State) (n : Nat) (d : DailiesState) : (State.setDailies s n d).served = s.served := rfl
@[simp] theorem State.setDailies_od (s : State) (n : Nat) (d : DailiesState) : (State.setDailies s n d).od = s.od := rfl
@[simp] theorem State.setDailies_flash (s : State) (n : Nat) (d : DailiesState) : (State.setDailies s n d).flash = s.flash := rfl
@[simp] theorem State.setDailies_time (s : State) (n : Nat) (d : DailiesState) : (State.setDailies s n d).time = s.time := rfl
@[simp] theorem State.setDailies_power (s : State) (n : Nat) (d : DailiesState) : (State.setDailies s n d).power = s.power := rfl
@[simp] theorem State.setDailies_health (s : State) (n : Nat) (d : DailiesState) : (State.setDailies s n d).health = s.health := rfl
@[simp] theorem State.setDailies_jtag (s : State) (n : Nat) (d : DailiesState) : (State.setDailies s n d).jtag = s.jtag := rfl
@[simp] theorem State.setDailies_freeCtr (s : State) (n : Nat) (d : DailiesState) : (State.setDailies s n d).freeCtr = s.freeCtr := rfl
@[simp] theorem State.setDailies_out (s : State) (n : Nat) (d : DailiesState) : (State.setDailies s n d).out = s.out := rfl
@[simp] theorem State.setDailies_pending (s : State) (n : Nat) (d : DailiesState) : (State.setDailies s n d).pending = s.pending := rfl
@[simp] theorem State.setDailies_reg (s : State) (n : Nat) (d : DailiesState) (rr : Reg) (jj : Nat) : (State.setDailies s n d).reg rr jj = s.reg rr jj := rfl

/-! ### `State.setCmp` changes `rd` alone -/

@[simp] theorem State.setCmp_variant (s : State) (c : Comparator) (x : CmpState) : (State.setCmp s c x).variant = s.variant := rfl
@[simp] theorem State.setCmp_now (s : State) (c : Comparator) (x : CmpState) : (State.setCmp s c x).now = s.now := rfl
@[simp] theorem State.setCmp_regs (s : State) (c : Comparator) (x : CmpState) : (State.setCmp s c x).regs = s.regs := rfl
@[simp] theorem State.setCmp_snap (s : State) (c : Comparator) (x : CmpState) : (State.setCmp s c x).snap = s.snap := rfl
@[simp] theorem State.setCmp_mem (s : State) (c : Comparator) (x : CmpState) : (State.setCmp s c x).mem = s.mem := rfl
@[simp] theorem State.setCmp_xl (s : State) (c : Comparator) (x : CmpState) : (State.setCmp s c x).xl = s.xl := rfl
@[simp] theorem State.setCmp_clap (s : State) (c : Comparator) (x : CmpState) : (State.setCmp s c x).clap = s.clap := rfl
@[simp] theorem State.setCmp_play (s : State) (c : Comparator) (x : CmpState) : (State.setCmp s c x).play = s.play := rfl
@[simp] theorem State.setCmp_scr (s : State) (c : Comparator) (x : CmpState) : (State.setCmp s c x).scr = s.scr := rfl
@[simp] theorem State.setCmp_krn (s : State) (c : Comparator) (x : CmpState) : (State.setCmp s c x).krn = s.krn := rfl
@[simp] theorem State.setCmp_fab (s : State) (c : Comparator) (x : CmpState) : (State.setCmp s c x).fab = s.fab := rfl
@[simp] theorem State.setCmp_take (s : State) (c : Comparator) (x : CmpState) : (State.setCmp s c x).take = s.take := rfl
@[simp] theorem State.setCmp_cal (s : State) (c : Comparator) (x : CmpState) : (State.setCmp s c x).cal = s.cal := rfl
@[simp] theorem State.setCmp_bias (s : State) (c : Comparator) (x : CmpState) : (State.setCmp s c x).bias = s.bias := rfl
@[simp] theorem State.setCmp_router (s : State) (c : Comparator) (x : CmpState) : (State.setCmp s c x).router = s.router := rfl
@[simp] theorem State.setCmp_cut (s : State) (c : Comparator) (x : CmpState) : (State.setCmp s c x).cut = s.cut := rfl
@[simp] theorem State.setCmp_irq (s : State) (c : Comparator) (x : CmpState) : (State.setCmp s c x).irq = s.irq := rfl
@[simp] theorem State.setCmp_grip (s : State) (c : Comparator) (x : CmpState) : (State.setCmp s c x).grip = s.grip := rfl
@[simp] theorem State.setCmp_host (s : State) (c : Comparator) (x : CmpState) : (State.setCmp s c x).host = s.host := rfl
@[simp] theorem State.setCmp_lnk (s : State) (c : Comparator) (x : CmpState) : (State.setCmp s c x).lnk = s.lnk := rfl
@[simp] theorem State.setCmp_served (s : State) (c : Comparator) (x : CmpState) : (State.setCmp s c x).served = s.served := rfl
@[simp] theorem State.setCmp_od (s : State) (c : Comparator) (x : CmpState) : (State.setCmp s c x).od = s.od := rfl
@[simp] theorem State.setCmp_flash (s : State) (c : Comparator) (x : CmpState) : (State.setCmp s c x).flash = s.flash := rfl
@[simp] theorem State.setCmp_time (s : State) (c : Comparator) (x : CmpState) : (State.setCmp s c x).time = s.time := rfl
@[simp] theorem State.setCmp_power (s : State) (c : Comparator) (x : CmpState) : (State.setCmp s c x).power = s.power := rfl
@[simp] theorem State.setCmp_health (s : State) (c : Comparator) (x : CmpState) : (State.setCmp s c x).health = s.health := rfl
@[simp] theorem State.setCmp_jtag (s : State) (c : Comparator) (x : CmpState) : (State.setCmp s c x).jtag = s.jtag := rfl
@[simp] theorem State.setCmp_freeCtr (s : State) (c : Comparator) (x : CmpState) : (State.setCmp s c x).freeCtr = s.freeCtr := rfl
@[simp] theorem State.setCmp_out (s : State) (c : Comparator) (x : CmpState) : (State.setCmp s c x).out = s.out := rfl
@[simp] theorem State.setCmp_pending (s : State) (c : Comparator) (x : CmpState) : (State.setCmp s c x).pending = s.pending := rfl
@[simp] theorem State.setCmp_reg (s : State) (c : Comparator) (x : CmpState) (rr : Reg) (jj : Nat) : (State.setCmp s c x).reg rr jj = s.reg rr jj := rfl

/-! ### `State.setServed` changes `served` alone -/

@[simp] theorem State.setServed_variant (s : State) (index : Nat) (sub : Nat) (v : Nat) : (State.setServed s index sub v).variant = s.variant := rfl
@[simp] theorem State.setServed_now (s : State) (index : Nat) (sub : Nat) (v : Nat) : (State.setServed s index sub v).now = s.now := rfl
@[simp] theorem State.setServed_regs (s : State) (index : Nat) (sub : Nat) (v : Nat) : (State.setServed s index sub v).regs = s.regs := rfl
@[simp] theorem State.setServed_snap (s : State) (index : Nat) (sub : Nat) (v : Nat) : (State.setServed s index sub v).snap = s.snap := rfl
@[simp] theorem State.setServed_mem (s : State) (index : Nat) (sub : Nat) (v : Nat) : (State.setServed s index sub v).mem = s.mem := rfl
@[simp] theorem State.setServed_xl (s : State) (index : Nat) (sub : Nat) (v : Nat) : (State.setServed s index sub v).xl = s.xl := rfl
@[simp] theorem State.setServed_clap (s : State) (index : Nat) (sub : Nat) (v : Nat) : (State.setServed s index sub v).clap = s.clap := rfl
@[simp] theorem State.setServed_play (s : State) (index : Nat) (sub : Nat) (v : Nat) : (State.setServed s index sub v).play = s.play := rfl
@[simp] theorem State.setServed_scr (s : State) (index : Nat) (sub : Nat) (v : Nat) : (State.setServed s index sub v).scr = s.scr := rfl
@[simp] theorem State.setServed_rd (s : State) (index : Nat) (sub : Nat) (v : Nat) : (State.setServed s index sub v).rd = s.rd := rfl
@[simp] theorem State.setServed_krn (s : State) (index : Nat) (sub : Nat) (v : Nat) : (State.setServed s index sub v).krn = s.krn := rfl
@[simp] theorem State.setServed_fab (s : State) (index : Nat) (sub : Nat) (v : Nat) : (State.setServed s index sub v).fab = s.fab := rfl
@[simp] theorem State.setServed_take (s : State) (index : Nat) (sub : Nat) (v : Nat) : (State.setServed s index sub v).take = s.take := rfl
@[simp] theorem State.setServed_cal (s : State) (index : Nat) (sub : Nat) (v : Nat) : (State.setServed s index sub v).cal = s.cal := rfl
@[simp] theorem State.setServed_bias (s : State) (index : Nat) (sub : Nat) (v : Nat) : (State.setServed s index sub v).bias = s.bias := rfl
@[simp] theorem State.setServed_router (s : State) (index : Nat) (sub : Nat) (v : Nat) : (State.setServed s index sub v).router = s.router := rfl
@[simp] theorem State.setServed_cut (s : State) (index : Nat) (sub : Nat) (v : Nat) : (State.setServed s index sub v).cut = s.cut := rfl
@[simp] theorem State.setServed_irq (s : State) (index : Nat) (sub : Nat) (v : Nat) : (State.setServed s index sub v).irq = s.irq := rfl
@[simp] theorem State.setServed_grip (s : State) (index : Nat) (sub : Nat) (v : Nat) : (State.setServed s index sub v).grip = s.grip := rfl
@[simp] theorem State.setServed_host (s : State) (index : Nat) (sub : Nat) (v : Nat) : (State.setServed s index sub v).host = s.host := rfl
@[simp] theorem State.setServed_lnk (s : State) (index : Nat) (sub : Nat) (v : Nat) : (State.setServed s index sub v).lnk = s.lnk := rfl
@[simp] theorem State.setServed_od (s : State) (index : Nat) (sub : Nat) (v : Nat) : (State.setServed s index sub v).od = s.od := rfl
@[simp] theorem State.setServed_flash (s : State) (index : Nat) (sub : Nat) (v : Nat) : (State.setServed s index sub v).flash = s.flash := rfl
@[simp] theorem State.setServed_time (s : State) (index : Nat) (sub : Nat) (v : Nat) : (State.setServed s index sub v).time = s.time := rfl
@[simp] theorem State.setServed_power (s : State) (index : Nat) (sub : Nat) (v : Nat) : (State.setServed s index sub v).power = s.power := rfl
@[simp] theorem State.setServed_health (s : State) (index : Nat) (sub : Nat) (v : Nat) : (State.setServed s index sub v).health = s.health := rfl
@[simp] theorem State.setServed_jtag (s : State) (index : Nat) (sub : Nat) (v : Nat) : (State.setServed s index sub v).jtag = s.jtag := rfl
@[simp] theorem State.setServed_freeCtr (s : State) (index : Nat) (sub : Nat) (v : Nat) : (State.setServed s index sub v).freeCtr = s.freeCtr := rfl
@[simp] theorem State.setServed_out (s : State) (index : Nat) (sub : Nat) (v : Nat) : (State.setServed s index sub v).out = s.out := rfl
@[simp] theorem State.setServed_pending (s : State) (index : Nat) (sub : Nat) (v : Nat) : (State.setServed s index sub v).pending = s.pending := rfl
@[simp] theorem State.setServed_reg (s : State) (index : Nat) (sub : Nat) (v : Nat) (rr : Reg) (jj : Nat) : (State.setServed s index sub v).reg rr jj = s.reg rr jj := rfl

/-! ### `State.setDisc` changes `cal` alone -/

@[simp] theorem State.setDisc_variant (s : State) (t : Nat) (d : DiscUnit) : (State.setDisc s t d).variant = s.variant := rfl
@[simp] theorem State.setDisc_now (s : State) (t : Nat) (d : DiscUnit) : (State.setDisc s t d).now = s.now := rfl
@[simp] theorem State.setDisc_regs (s : State) (t : Nat) (d : DiscUnit) : (State.setDisc s t d).regs = s.regs := rfl
@[simp] theorem State.setDisc_snap (s : State) (t : Nat) (d : DiscUnit) : (State.setDisc s t d).snap = s.snap := rfl
@[simp] theorem State.setDisc_mem (s : State) (t : Nat) (d : DiscUnit) : (State.setDisc s t d).mem = s.mem := rfl
@[simp] theorem State.setDisc_xl (s : State) (t : Nat) (d : DiscUnit) : (State.setDisc s t d).xl = s.xl := rfl
@[simp] theorem State.setDisc_clap (s : State) (t : Nat) (d : DiscUnit) : (State.setDisc s t d).clap = s.clap := rfl
@[simp] theorem State.setDisc_play (s : State) (t : Nat) (d : DiscUnit) : (State.setDisc s t d).play = s.play := rfl
@[simp] theorem State.setDisc_scr (s : State) (t : Nat) (d : DiscUnit) : (State.setDisc s t d).scr = s.scr := rfl
@[simp] theorem State.setDisc_rd (s : State) (t : Nat) (d : DiscUnit) : (State.setDisc s t d).rd = s.rd := rfl
@[simp] theorem State.setDisc_krn (s : State) (t : Nat) (d : DiscUnit) : (State.setDisc s t d).krn = s.krn := rfl
@[simp] theorem State.setDisc_fab (s : State) (t : Nat) (d : DiscUnit) : (State.setDisc s t d).fab = s.fab := rfl
@[simp] theorem State.setDisc_take (s : State) (t : Nat) (d : DiscUnit) : (State.setDisc s t d).take = s.take := rfl
@[simp] theorem State.setDisc_bias (s : State) (t : Nat) (d : DiscUnit) : (State.setDisc s t d).bias = s.bias := rfl
@[simp] theorem State.setDisc_router (s : State) (t : Nat) (d : DiscUnit) : (State.setDisc s t d).router = s.router := rfl
@[simp] theorem State.setDisc_cut (s : State) (t : Nat) (d : DiscUnit) : (State.setDisc s t d).cut = s.cut := rfl
@[simp] theorem State.setDisc_irq (s : State) (t : Nat) (d : DiscUnit) : (State.setDisc s t d).irq = s.irq := rfl
@[simp] theorem State.setDisc_grip (s : State) (t : Nat) (d : DiscUnit) : (State.setDisc s t d).grip = s.grip := rfl
@[simp] theorem State.setDisc_host (s : State) (t : Nat) (d : DiscUnit) : (State.setDisc s t d).host = s.host := rfl
@[simp] theorem State.setDisc_lnk (s : State) (t : Nat) (d : DiscUnit) : (State.setDisc s t d).lnk = s.lnk := rfl
@[simp] theorem State.setDisc_served (s : State) (t : Nat) (d : DiscUnit) : (State.setDisc s t d).served = s.served := rfl
@[simp] theorem State.setDisc_od (s : State) (t : Nat) (d : DiscUnit) : (State.setDisc s t d).od = s.od := rfl
@[simp] theorem State.setDisc_flash (s : State) (t : Nat) (d : DiscUnit) : (State.setDisc s t d).flash = s.flash := rfl
@[simp] theorem State.setDisc_time (s : State) (t : Nat) (d : DiscUnit) : (State.setDisc s t d).time = s.time := rfl
@[simp] theorem State.setDisc_power (s : State) (t : Nat) (d : DiscUnit) : (State.setDisc s t d).power = s.power := rfl
@[simp] theorem State.setDisc_health (s : State) (t : Nat) (d : DiscUnit) : (State.setDisc s t d).health = s.health := rfl
@[simp] theorem State.setDisc_jtag (s : State) (t : Nat) (d : DiscUnit) : (State.setDisc s t d).jtag = s.jtag := rfl
@[simp] theorem State.setDisc_freeCtr (s : State) (t : Nat) (d : DiscUnit) : (State.setDisc s t d).freeCtr = s.freeCtr := rfl
@[simp] theorem State.setDisc_out (s : State) (t : Nat) (d : DiscUnit) : (State.setDisc s t d).out = s.out := rfl
@[simp] theorem State.setDisc_pending (s : State) (t : Nat) (d : DiscUnit) : (State.setDisc s t d).pending = s.pending := rfl
@[simp] theorem State.setDisc_reg (s : State) (t : Nat) (d : DiscUnit) (rr : Reg) (jj : Nat) : (State.setDisc s t d).reg rr jj = s.reg rr jj := rfl

/-! ### `State.setGrp` changes `grip` alone -/

@[simp] theorem State.setGrp_variant (s : State) (c : Nat) (x : GripChannel) : (State.setGrp s c x).variant = s.variant := rfl
@[simp] theorem State.setGrp_now (s : State) (c : Nat) (x : GripChannel) : (State.setGrp s c x).now = s.now := rfl
@[simp] theorem State.setGrp_regs (s : State) (c : Nat) (x : GripChannel) : (State.setGrp s c x).regs = s.regs := rfl
@[simp] theorem State.setGrp_snap (s : State) (c : Nat) (x : GripChannel) : (State.setGrp s c x).snap = s.snap := rfl
@[simp] theorem State.setGrp_mem (s : State) (c : Nat) (x : GripChannel) : (State.setGrp s c x).mem = s.mem := rfl
@[simp] theorem State.setGrp_xl (s : State) (c : Nat) (x : GripChannel) : (State.setGrp s c x).xl = s.xl := rfl
@[simp] theorem State.setGrp_clap (s : State) (c : Nat) (x : GripChannel) : (State.setGrp s c x).clap = s.clap := rfl
@[simp] theorem State.setGrp_play (s : State) (c : Nat) (x : GripChannel) : (State.setGrp s c x).play = s.play := rfl
@[simp] theorem State.setGrp_scr (s : State) (c : Nat) (x : GripChannel) : (State.setGrp s c x).scr = s.scr := rfl
@[simp] theorem State.setGrp_rd (s : State) (c : Nat) (x : GripChannel) : (State.setGrp s c x).rd = s.rd := rfl
@[simp] theorem State.setGrp_krn (s : State) (c : Nat) (x : GripChannel) : (State.setGrp s c x).krn = s.krn := rfl
@[simp] theorem State.setGrp_fab (s : State) (c : Nat) (x : GripChannel) : (State.setGrp s c x).fab = s.fab := rfl
@[simp] theorem State.setGrp_take (s : State) (c : Nat) (x : GripChannel) : (State.setGrp s c x).take = s.take := rfl
@[simp] theorem State.setGrp_cal (s : State) (c : Nat) (x : GripChannel) : (State.setGrp s c x).cal = s.cal := rfl
@[simp] theorem State.setGrp_bias (s : State) (c : Nat) (x : GripChannel) : (State.setGrp s c x).bias = s.bias := rfl
@[simp] theorem State.setGrp_router (s : State) (c : Nat) (x : GripChannel) : (State.setGrp s c x).router = s.router := rfl
@[simp] theorem State.setGrp_cut (s : State) (c : Nat) (x : GripChannel) : (State.setGrp s c x).cut = s.cut := rfl
@[simp] theorem State.setGrp_irq (s : State) (c : Nat) (x : GripChannel) : (State.setGrp s c x).irq = s.irq := rfl
@[simp] theorem State.setGrp_host (s : State) (c : Nat) (x : GripChannel) : (State.setGrp s c x).host = s.host := rfl
@[simp] theorem State.setGrp_lnk (s : State) (c : Nat) (x : GripChannel) : (State.setGrp s c x).lnk = s.lnk := rfl
@[simp] theorem State.setGrp_served (s : State) (c : Nat) (x : GripChannel) : (State.setGrp s c x).served = s.served := rfl
@[simp] theorem State.setGrp_od (s : State) (c : Nat) (x : GripChannel) : (State.setGrp s c x).od = s.od := rfl
@[simp] theorem State.setGrp_flash (s : State) (c : Nat) (x : GripChannel) : (State.setGrp s c x).flash = s.flash := rfl
@[simp] theorem State.setGrp_time (s : State) (c : Nat) (x : GripChannel) : (State.setGrp s c x).time = s.time := rfl
@[simp] theorem State.setGrp_power (s : State) (c : Nat) (x : GripChannel) : (State.setGrp s c x).power = s.power := rfl
@[simp] theorem State.setGrp_health (s : State) (c : Nat) (x : GripChannel) : (State.setGrp s c x).health = s.health := rfl
@[simp] theorem State.setGrp_jtag (s : State) (c : Nat) (x : GripChannel) : (State.setGrp s c x).jtag = s.jtag := rfl
@[simp] theorem State.setGrp_freeCtr (s : State) (c : Nat) (x : GripChannel) : (State.setGrp s c x).freeCtr = s.freeCtr := rfl
@[simp] theorem State.setGrp_out (s : State) (c : Nat) (x : GripChannel) : (State.setGrp s c x).out = s.out := rfl
@[simp] theorem State.setGrp_pending (s : State) (c : Nat) (x : GripChannel) : (State.setGrp s c x).pending = s.pending := rfl
@[simp] theorem State.setGrp_reg (s : State) (c : Nat) (x : GripChannel) (rr : Reg) (jj : Nat) : (State.setGrp s c x).reg rr jj = s.reg rr jj := rfl

/-! ### `State.wdKick` changes `health` alone -/

@[simp] theorem State.wdKick_variant (s : State) (k : Nat) : (State.wdKick s k).variant = s.variant := rfl
@[simp] theorem State.wdKick_now (s : State) (k : Nat) : (State.wdKick s k).now = s.now := rfl
@[simp] theorem State.wdKick_regs (s : State) (k : Nat) : (State.wdKick s k).regs = s.regs := rfl
@[simp] theorem State.wdKick_snap (s : State) (k : Nat) : (State.wdKick s k).snap = s.snap := rfl
@[simp] theorem State.wdKick_mem (s : State) (k : Nat) : (State.wdKick s k).mem = s.mem := rfl
@[simp] theorem State.wdKick_xl (s : State) (k : Nat) : (State.wdKick s k).xl = s.xl := rfl
@[simp] theorem State.wdKick_clap (s : State) (k : Nat) : (State.wdKick s k).clap = s.clap := rfl
@[simp] theorem State.wdKick_play (s : State) (k : Nat) : (State.wdKick s k).play = s.play := rfl
@[simp] theorem State.wdKick_scr (s : State) (k : Nat) : (State.wdKick s k).scr = s.scr := rfl
@[simp] theorem State.wdKick_rd (s : State) (k : Nat) : (State.wdKick s k).rd = s.rd := rfl
@[simp] theorem State.wdKick_krn (s : State) (k : Nat) : (State.wdKick s k).krn = s.krn := rfl
@[simp] theorem State.wdKick_fab (s : State) (k : Nat) : (State.wdKick s k).fab = s.fab := rfl
@[simp] theorem State.wdKick_take (s : State) (k : Nat) : (State.wdKick s k).take = s.take := rfl
@[simp] theorem State.wdKick_cal (s : State) (k : Nat) : (State.wdKick s k).cal = s.cal := rfl
@[simp] theorem State.wdKick_bias (s : State) (k : Nat) : (State.wdKick s k).bias = s.bias := rfl
@[simp] theorem State.wdKick_router (s : State) (k : Nat) : (State.wdKick s k).router = s.router := rfl
@[simp] theorem State.wdKick_cut (s : State) (k : Nat) : (State.wdKick s k).cut = s.cut := rfl
@[simp] theorem State.wdKick_irq (s : State) (k : Nat) : (State.wdKick s k).irq = s.irq := rfl
@[simp] theorem State.wdKick_grip (s : State) (k : Nat) : (State.wdKick s k).grip = s.grip := rfl
@[simp] theorem State.wdKick_host (s : State) (k : Nat) : (State.wdKick s k).host = s.host := rfl
@[simp] theorem State.wdKick_lnk (s : State) (k : Nat) : (State.wdKick s k).lnk = s.lnk := rfl
@[simp] theorem State.wdKick_served (s : State) (k : Nat) : (State.wdKick s k).served = s.served := rfl
@[simp] theorem State.wdKick_od (s : State) (k : Nat) : (State.wdKick s k).od = s.od := rfl
@[simp] theorem State.wdKick_flash (s : State) (k : Nat) : (State.wdKick s k).flash = s.flash := rfl
@[simp] theorem State.wdKick_time (s : State) (k : Nat) : (State.wdKick s k).time = s.time := rfl
@[simp] theorem State.wdKick_power (s : State) (k : Nat) : (State.wdKick s k).power = s.power := rfl
@[simp] theorem State.wdKick_jtag (s : State) (k : Nat) : (State.wdKick s k).jtag = s.jtag := rfl
@[simp] theorem State.wdKick_freeCtr (s : State) (k : Nat) : (State.wdKick s k).freeCtr = s.freeCtr := rfl
@[simp] theorem State.wdKick_out (s : State) (k : Nat) : (State.wdKick s k).out = s.out := rfl
@[simp] theorem State.wdKick_pending (s : State) (k : Nat) : (State.wdKick s k).pending = s.pending := rfl
@[simp] theorem State.wdKick_reg (s : State) (k : Nat) (rr : Reg) (jj : Nat) : (State.wdKick s k).reg rr jj = s.reg rr jj := rfl

/-! ### `State.setSession` changes `od` alone -/

@[simp] theorem State.setSession_variant (s : State) (slot : Nat) (x : Session) : (State.setSession s slot x).variant = s.variant := rfl
@[simp] theorem State.setSession_now (s : State) (slot : Nat) (x : Session) : (State.setSession s slot x).now = s.now := rfl
@[simp] theorem State.setSession_regs (s : State) (slot : Nat) (x : Session) : (State.setSession s slot x).regs = s.regs := rfl
@[simp] theorem State.setSession_snap (s : State) (slot : Nat) (x : Session) : (State.setSession s slot x).snap = s.snap := rfl
@[simp] theorem State.setSession_mem (s : State) (slot : Nat) (x : Session) : (State.setSession s slot x).mem = s.mem := rfl
@[simp] theorem State.setSession_xl (s : State) (slot : Nat) (x : Session) : (State.setSession s slot x).xl = s.xl := rfl
@[simp] theorem State.setSession_clap (s : State) (slot : Nat) (x : Session) : (State.setSession s slot x).clap = s.clap := rfl
@[simp] theorem State.setSession_play (s : State) (slot : Nat) (x : Session) : (State.setSession s slot x).play = s.play := rfl
@[simp] theorem State.setSession_scr (s : State) (slot : Nat) (x : Session) : (State.setSession s slot x).scr = s.scr := rfl
@[simp] theorem State.setSession_rd (s : State) (slot : Nat) (x : Session) : (State.setSession s slot x).rd = s.rd := rfl
@[simp] theorem State.setSession_krn (s : State) (slot : Nat) (x : Session) : (State.setSession s slot x).krn = s.krn := rfl
@[simp] theorem State.setSession_fab (s : State) (slot : Nat) (x : Session) : (State.setSession s slot x).fab = s.fab := rfl
@[simp] theorem State.setSession_take (s : State) (slot : Nat) (x : Session) : (State.setSession s slot x).take = s.take := rfl
@[simp] theorem State.setSession_cal (s : State) (slot : Nat) (x : Session) : (State.setSession s slot x).cal = s.cal := rfl
@[simp] theorem State.setSession_bias (s : State) (slot : Nat) (x : Session) : (State.setSession s slot x).bias = s.bias := rfl
@[simp] theorem State.setSession_router (s : State) (slot : Nat) (x : Session) : (State.setSession s slot x).router = s.router := rfl
@[simp] theorem State.setSession_cut (s : State) (slot : Nat) (x : Session) : (State.setSession s slot x).cut = s.cut := rfl
@[simp] theorem State.setSession_irq (s : State) (slot : Nat) (x : Session) : (State.setSession s slot x).irq = s.irq := rfl
@[simp] theorem State.setSession_grip (s : State) (slot : Nat) (x : Session) : (State.setSession s slot x).grip = s.grip := rfl
@[simp] theorem State.setSession_host (s : State) (slot : Nat) (x : Session) : (State.setSession s slot x).host = s.host := rfl
@[simp] theorem State.setSession_lnk (s : State) (slot : Nat) (x : Session) : (State.setSession s slot x).lnk = s.lnk := rfl
@[simp] theorem State.setSession_served (s : State) (slot : Nat) (x : Session) : (State.setSession s slot x).served = s.served := rfl
@[simp] theorem State.setSession_flash (s : State) (slot : Nat) (x : Session) : (State.setSession s slot x).flash = s.flash := rfl
@[simp] theorem State.setSession_time (s : State) (slot : Nat) (x : Session) : (State.setSession s slot x).time = s.time := rfl
@[simp] theorem State.setSession_power (s : State) (slot : Nat) (x : Session) : (State.setSession s slot x).power = s.power := rfl
@[simp] theorem State.setSession_health (s : State) (slot : Nat) (x : Session) : (State.setSession s slot x).health = s.health := rfl
@[simp] theorem State.setSession_jtag (s : State) (slot : Nat) (x : Session) : (State.setSession s slot x).jtag = s.jtag := rfl
@[simp] theorem State.setSession_freeCtr (s : State) (slot : Nat) (x : Session) : (State.setSession s slot x).freeCtr = s.freeCtr := rfl
@[simp] theorem State.setSession_out (s : State) (slot : Nat) (x : Session) : (State.setSession s slot x).out = s.out := rfl
@[simp] theorem State.setSession_pending (s : State) (slot : Nat) (x : Session) : (State.setSession s slot x).pending = s.pending := rfl
@[simp] theorem State.setSession_reg (s : State) (slot : Nat) (x : Session) (rr : Reg) (jj : Nat) : (State.setSession s slot x).reg rr jj = s.reg rr jj := rfl

/-! ### `State.acceptedNow` changes `host` alone -/

@[simp] theorem State.acceptedNow_variant (s : State) : (State.acceptedNow s).variant = s.variant := rfl
@[simp] theorem State.acceptedNow_now (s : State) : (State.acceptedNow s).now = s.now := rfl
@[simp] theorem State.acceptedNow_regs (s : State) : (State.acceptedNow s).regs = s.regs := rfl
@[simp] theorem State.acceptedNow_snap (s : State) : (State.acceptedNow s).snap = s.snap := rfl
@[simp] theorem State.acceptedNow_mem (s : State) : (State.acceptedNow s).mem = s.mem := rfl
@[simp] theorem State.acceptedNow_xl (s : State) : (State.acceptedNow s).xl = s.xl := rfl
@[simp] theorem State.acceptedNow_clap (s : State) : (State.acceptedNow s).clap = s.clap := rfl
@[simp] theorem State.acceptedNow_play (s : State) : (State.acceptedNow s).play = s.play := rfl
@[simp] theorem State.acceptedNow_scr (s : State) : (State.acceptedNow s).scr = s.scr := rfl
@[simp] theorem State.acceptedNow_rd (s : State) : (State.acceptedNow s).rd = s.rd := rfl
@[simp] theorem State.acceptedNow_krn (s : State) : (State.acceptedNow s).krn = s.krn := rfl
@[simp] theorem State.acceptedNow_fab (s : State) : (State.acceptedNow s).fab = s.fab := rfl
@[simp] theorem State.acceptedNow_take (s : State) : (State.acceptedNow s).take = s.take := rfl
@[simp] theorem State.acceptedNow_cal (s : State) : (State.acceptedNow s).cal = s.cal := rfl
@[simp] theorem State.acceptedNow_bias (s : State) : (State.acceptedNow s).bias = s.bias := rfl
@[simp] theorem State.acceptedNow_router (s : State) : (State.acceptedNow s).router = s.router := rfl
@[simp] theorem State.acceptedNow_cut (s : State) : (State.acceptedNow s).cut = s.cut := rfl
@[simp] theorem State.acceptedNow_irq (s : State) : (State.acceptedNow s).irq = s.irq := rfl
@[simp] theorem State.acceptedNow_grip (s : State) : (State.acceptedNow s).grip = s.grip := rfl
@[simp] theorem State.acceptedNow_lnk (s : State) : (State.acceptedNow s).lnk = s.lnk := rfl
@[simp] theorem State.acceptedNow_served (s : State) : (State.acceptedNow s).served = s.served := rfl
@[simp] theorem State.acceptedNow_od (s : State) : (State.acceptedNow s).od = s.od := rfl
@[simp] theorem State.acceptedNow_flash (s : State) : (State.acceptedNow s).flash = s.flash := rfl
@[simp] theorem State.acceptedNow_time (s : State) : (State.acceptedNow s).time = s.time := rfl
@[simp] theorem State.acceptedNow_power (s : State) : (State.acceptedNow s).power = s.power := rfl
@[simp] theorem State.acceptedNow_health (s : State) : (State.acceptedNow s).health = s.health := rfl
@[simp] theorem State.acceptedNow_jtag (s : State) : (State.acceptedNow s).jtag = s.jtag := rfl
@[simp] theorem State.acceptedNow_freeCtr (s : State) : (State.acceptedNow s).freeCtr = s.freeCtr := rfl
@[simp] theorem State.acceptedNow_out (s : State) : (State.acceptedNow s).out = s.out := rfl
@[simp] theorem State.acceptedNow_pending (s : State) : (State.acceptedNow s).pending = s.pending := rfl
@[simp] theorem State.acceptedNow_reg (s : State) (rr : Reg) (jj : Nat) : (State.acceptedNow s).reg rr jj = s.reg rr jj := rfl

/-! ### `State.command` changes `pending` alone -/

@[simp] theorem State.command_variant (s : State) (c : Instr) : (State.command s c).variant = s.variant := rfl
@[simp] theorem State.command_now (s : State) (c : Instr) : (State.command s c).now = s.now := rfl
@[simp] theorem State.command_regs (s : State) (c : Instr) : (State.command s c).regs = s.regs := rfl
@[simp] theorem State.command_snap (s : State) (c : Instr) : (State.command s c).snap = s.snap := rfl
@[simp] theorem State.command_mem (s : State) (c : Instr) : (State.command s c).mem = s.mem := rfl
@[simp] theorem State.command_xl (s : State) (c : Instr) : (State.command s c).xl = s.xl := rfl
@[simp] theorem State.command_clap (s : State) (c : Instr) : (State.command s c).clap = s.clap := rfl
@[simp] theorem State.command_play (s : State) (c : Instr) : (State.command s c).play = s.play := rfl
@[simp] theorem State.command_scr (s : State) (c : Instr) : (State.command s c).scr = s.scr := rfl
@[simp] theorem State.command_rd (s : State) (c : Instr) : (State.command s c).rd = s.rd := rfl
@[simp] theorem State.command_krn (s : State) (c : Instr) : (State.command s c).krn = s.krn := rfl
@[simp] theorem State.command_fab (s : State) (c : Instr) : (State.command s c).fab = s.fab := rfl
@[simp] theorem State.command_take (s : State) (c : Instr) : (State.command s c).take = s.take := rfl
@[simp] theorem State.command_cal (s : State) (c : Instr) : (State.command s c).cal = s.cal := rfl
@[simp] theorem State.command_bias (s : State) (c : Instr) : (State.command s c).bias = s.bias := rfl
@[simp] theorem State.command_router (s : State) (c : Instr) : (State.command s c).router = s.router := rfl
@[simp] theorem State.command_cut (s : State) (c : Instr) : (State.command s c).cut = s.cut := rfl
@[simp] theorem State.command_irq (s : State) (c : Instr) : (State.command s c).irq = s.irq := rfl
@[simp] theorem State.command_grip (s : State) (c : Instr) : (State.command s c).grip = s.grip := rfl
@[simp] theorem State.command_host (s : State) (c : Instr) : (State.command s c).host = s.host := rfl
@[simp] theorem State.command_lnk (s : State) (c : Instr) : (State.command s c).lnk = s.lnk := rfl
@[simp] theorem State.command_served (s : State) (c : Instr) : (State.command s c).served = s.served := rfl
@[simp] theorem State.command_od (s : State) (c : Instr) : (State.command s c).od = s.od := rfl
@[simp] theorem State.command_flash (s : State) (c : Instr) : (State.command s c).flash = s.flash := rfl
@[simp] theorem State.command_time (s : State) (c : Instr) : (State.command s c).time = s.time := rfl
@[simp] theorem State.command_power (s : State) (c : Instr) : (State.command s c).power = s.power := rfl
@[simp] theorem State.command_health (s : State) (c : Instr) : (State.command s c).health = s.health := rfl
@[simp] theorem State.command_jtag (s : State) (c : Instr) : (State.command s c).jtag = s.jtag := rfl
@[simp] theorem State.command_freeCtr (s : State) (c : Instr) : (State.command s c).freeCtr = s.freeCtr := rfl
@[simp] theorem State.command_out (s : State) (c : Instr) : (State.command s c).out = s.out := rfl
@[simp] theorem State.command_reg (s : State) (c : Instr) (rr : Reg) (jj : Nat) : (State.command s c).reg rr jj = s.reg rr jj := rfl

/-! ### `State.setFld` changes `regs` alone -/

@[simp] theorem State.setFld_variant (s : State) (r : Reg) (i : Nat) (hi : Nat) (lo : Nat) (v : Nat) : (State.setFld s r i hi lo v).variant = s.variant := rfl
@[simp] theorem State.setFld_now (s : State) (r : Reg) (i : Nat) (hi : Nat) (lo : Nat) (v : Nat) : (State.setFld s r i hi lo v).now = s.now := rfl
@[simp] theorem State.setFld_snap (s : State) (r : Reg) (i : Nat) (hi : Nat) (lo : Nat) (v : Nat) : (State.setFld s r i hi lo v).snap = s.snap := rfl
@[simp] theorem State.setFld_mem (s : State) (r : Reg) (i : Nat) (hi : Nat) (lo : Nat) (v : Nat) : (State.setFld s r i hi lo v).mem = s.mem := rfl
@[simp] theorem State.setFld_xl (s : State) (r : Reg) (i : Nat) (hi : Nat) (lo : Nat) (v : Nat) : (State.setFld s r i hi lo v).xl = s.xl := rfl
@[simp] theorem State.setFld_clap (s : State) (r : Reg) (i : Nat) (hi : Nat) (lo : Nat) (v : Nat) : (State.setFld s r i hi lo v).clap = s.clap := rfl
@[simp] theorem State.setFld_play (s : State) (r : Reg) (i : Nat) (hi : Nat) (lo : Nat) (v : Nat) : (State.setFld s r i hi lo v).play = s.play := rfl
@[simp] theorem State.setFld_scr (s : State) (r : Reg) (i : Nat) (hi : Nat) (lo : Nat) (v : Nat) : (State.setFld s r i hi lo v).scr = s.scr := rfl
@[simp] theorem State.setFld_rd (s : State) (r : Reg) (i : Nat) (hi : Nat) (lo : Nat) (v : Nat) : (State.setFld s r i hi lo v).rd = s.rd := rfl
@[simp] theorem State.setFld_krn (s : State) (r : Reg) (i : Nat) (hi : Nat) (lo : Nat) (v : Nat) : (State.setFld s r i hi lo v).krn = s.krn := rfl
@[simp] theorem State.setFld_fab (s : State) (r : Reg) (i : Nat) (hi : Nat) (lo : Nat) (v : Nat) : (State.setFld s r i hi lo v).fab = s.fab := rfl
@[simp] theorem State.setFld_take (s : State) (r : Reg) (i : Nat) (hi : Nat) (lo : Nat) (v : Nat) : (State.setFld s r i hi lo v).take = s.take := rfl
@[simp] theorem State.setFld_cal (s : State) (r : Reg) (i : Nat) (hi : Nat) (lo : Nat) (v : Nat) : (State.setFld s r i hi lo v).cal = s.cal := rfl
@[simp] theorem State.setFld_bias (s : State) (r : Reg) (i : Nat) (hi : Nat) (lo : Nat) (v : Nat) : (State.setFld s r i hi lo v).bias = s.bias := rfl
@[simp] theorem State.setFld_router (s : State) (r : Reg) (i : Nat) (hi : Nat) (lo : Nat) (v : Nat) : (State.setFld s r i hi lo v).router = s.router := rfl
@[simp] theorem State.setFld_cut (s : State) (r : Reg) (i : Nat) (hi : Nat) (lo : Nat) (v : Nat) : (State.setFld s r i hi lo v).cut = s.cut := rfl
@[simp] theorem State.setFld_irq (s : State) (r : Reg) (i : Nat) (hi : Nat) (lo : Nat) (v : Nat) : (State.setFld s r i hi lo v).irq = s.irq := rfl
@[simp] theorem State.setFld_grip (s : State) (r : Reg) (i : Nat) (hi : Nat) (lo : Nat) (v : Nat) : (State.setFld s r i hi lo v).grip = s.grip := rfl
@[simp] theorem State.setFld_host (s : State) (r : Reg) (i : Nat) (hi : Nat) (lo : Nat) (v : Nat) : (State.setFld s r i hi lo v).host = s.host := rfl
@[simp] theorem State.setFld_lnk (s : State) (r : Reg) (i : Nat) (hi : Nat) (lo : Nat) (v : Nat) : (State.setFld s r i hi lo v).lnk = s.lnk := rfl
@[simp] theorem State.setFld_served (s : State) (r : Reg) (i : Nat) (hi : Nat) (lo : Nat) (v : Nat) : (State.setFld s r i hi lo v).served = s.served := rfl
@[simp] theorem State.setFld_od (s : State) (r : Reg) (i : Nat) (hi : Nat) (lo : Nat) (v : Nat) : (State.setFld s r i hi lo v).od = s.od := rfl
@[simp] theorem State.setFld_flash (s : State) (r : Reg) (i : Nat) (hi : Nat) (lo : Nat) (v : Nat) : (State.setFld s r i hi lo v).flash = s.flash := rfl
@[simp] theorem State.setFld_time (s : State) (r : Reg) (i : Nat) (hi : Nat) (lo : Nat) (v : Nat) : (State.setFld s r i hi lo v).time = s.time := rfl
@[simp] theorem State.setFld_power (s : State) (r : Reg) (i : Nat) (hi : Nat) (lo : Nat) (v : Nat) : (State.setFld s r i hi lo v).power = s.power := rfl
@[simp] theorem State.setFld_health (s : State) (r : Reg) (i : Nat) (hi : Nat) (lo : Nat) (v : Nat) : (State.setFld s r i hi lo v).health = s.health := rfl
@[simp] theorem State.setFld_jtag (s : State) (r : Reg) (i : Nat) (hi : Nat) (lo : Nat) (v : Nat) : (State.setFld s r i hi lo v).jtag = s.jtag := rfl
@[simp] theorem State.setFld_freeCtr (s : State) (r : Reg) (i : Nat) (hi : Nat) (lo : Nat) (v : Nat) : (State.setFld s r i hi lo v).freeCtr = s.freeCtr := rfl
@[simp] theorem State.setFld_out (s : State) (r : Reg) (i : Nat) (hi : Nat) (lo : Nat) (v : Nat) : (State.setFld s r i hi lo v).out = s.out := rfl
@[simp] theorem State.setFld_pending (s : State) (r : Reg) (i : Nat) (hi : Nat) (lo : Nat) (v : Nat) : (State.setFld s r i hi lo v).pending = s.pending := rfl

/-! ### `State.setBit` changes `regs` alone -/

@[simp] theorem State.setBit_variant (s : State) (r : Reg) (i : Nat) (b : Nat) (v : Bool) : (State.setBit s r i b v).variant = s.variant := rfl
@[simp] theorem State.setBit_now (s : State) (r : Reg) (i : Nat) (b : Nat) (v : Bool) : (State.setBit s r i b v).now = s.now := rfl
@[simp] theorem State.setBit_snap (s : State) (r : Reg) (i : Nat) (b : Nat) (v : Bool) : (State.setBit s r i b v).snap = s.snap := rfl
@[simp] theorem State.setBit_mem (s : State) (r : Reg) (i : Nat) (b : Nat) (v : Bool) : (State.setBit s r i b v).mem = s.mem := rfl
@[simp] theorem State.setBit_xl (s : State) (r : Reg) (i : Nat) (b : Nat) (v : Bool) : (State.setBit s r i b v).xl = s.xl := rfl
@[simp] theorem State.setBit_clap (s : State) (r : Reg) (i : Nat) (b : Nat) (v : Bool) : (State.setBit s r i b v).clap = s.clap := rfl
@[simp] theorem State.setBit_play (s : State) (r : Reg) (i : Nat) (b : Nat) (v : Bool) : (State.setBit s r i b v).play = s.play := rfl
@[simp] theorem State.setBit_scr (s : State) (r : Reg) (i : Nat) (b : Nat) (v : Bool) : (State.setBit s r i b v).scr = s.scr := rfl
@[simp] theorem State.setBit_rd (s : State) (r : Reg) (i : Nat) (b : Nat) (v : Bool) : (State.setBit s r i b v).rd = s.rd := rfl
@[simp] theorem State.setBit_krn (s : State) (r : Reg) (i : Nat) (b : Nat) (v : Bool) : (State.setBit s r i b v).krn = s.krn := rfl
@[simp] theorem State.setBit_fab (s : State) (r : Reg) (i : Nat) (b : Nat) (v : Bool) : (State.setBit s r i b v).fab = s.fab := rfl
@[simp] theorem State.setBit_take (s : State) (r : Reg) (i : Nat) (b : Nat) (v : Bool) : (State.setBit s r i b v).take = s.take := rfl
@[simp] theorem State.setBit_cal (s : State) (r : Reg) (i : Nat) (b : Nat) (v : Bool) : (State.setBit s r i b v).cal = s.cal := rfl
@[simp] theorem State.setBit_bias (s : State) (r : Reg) (i : Nat) (b : Nat) (v : Bool) : (State.setBit s r i b v).bias = s.bias := rfl
@[simp] theorem State.setBit_router (s : State) (r : Reg) (i : Nat) (b : Nat) (v : Bool) : (State.setBit s r i b v).router = s.router := rfl
@[simp] theorem State.setBit_cut (s : State) (r : Reg) (i : Nat) (b : Nat) (v : Bool) : (State.setBit s r i b v).cut = s.cut := rfl
@[simp] theorem State.setBit_irq (s : State) (r : Reg) (i : Nat) (b : Nat) (v : Bool) : (State.setBit s r i b v).irq = s.irq := rfl
@[simp] theorem State.setBit_grip (s : State) (r : Reg) (i : Nat) (b : Nat) (v : Bool) : (State.setBit s r i b v).grip = s.grip := rfl
@[simp] theorem State.setBit_host (s : State) (r : Reg) (i : Nat) (b : Nat) (v : Bool) : (State.setBit s r i b v).host = s.host := rfl
@[simp] theorem State.setBit_lnk (s : State) (r : Reg) (i : Nat) (b : Nat) (v : Bool) : (State.setBit s r i b v).lnk = s.lnk := rfl
@[simp] theorem State.setBit_served (s : State) (r : Reg) (i : Nat) (b : Nat) (v : Bool) : (State.setBit s r i b v).served = s.served := rfl
@[simp] theorem State.setBit_od (s : State) (r : Reg) (i : Nat) (b : Nat) (v : Bool) : (State.setBit s r i b v).od = s.od := rfl
@[simp] theorem State.setBit_flash (s : State) (r : Reg) (i : Nat) (b : Nat) (v : Bool) : (State.setBit s r i b v).flash = s.flash := rfl
@[simp] theorem State.setBit_time (s : State) (r : Reg) (i : Nat) (b : Nat) (v : Bool) : (State.setBit s r i b v).time = s.time := rfl
@[simp] theorem State.setBit_power (s : State) (r : Reg) (i : Nat) (b : Nat) (v : Bool) : (State.setBit s r i b v).power = s.power := rfl
@[simp] theorem State.setBit_health (s : State) (r : Reg) (i : Nat) (b : Nat) (v : Bool) : (State.setBit s r i b v).health = s.health := rfl
@[simp] theorem State.setBit_jtag (s : State) (r : Reg) (i : Nat) (b : Nat) (v : Bool) : (State.setBit s r i b v).jtag = s.jtag := rfl
@[simp] theorem State.setBit_freeCtr (s : State) (r : Reg) (i : Nat) (b : Nat) (v : Bool) : (State.setBit s r i b v).freeCtr = s.freeCtr := rfl
@[simp] theorem State.setBit_out (s : State) (r : Reg) (i : Nat) (b : Nat) (v : Bool) : (State.setBit s r i b v).out = s.out := rfl
@[simp] theorem State.setBit_pending (s : State) (r : Reg) (i : Nat) (b : Nat) (v : Bool) : (State.setBit s r i b v).pending = s.pending := rfl

/-! ### `State.setPair` changes `regs` alone -/

@[simp] theorem State.setPair_variant (s : State) (lo : Reg) (hi : Reg) (i : Nat) (v : Nat) : (State.setPair s lo hi i v).variant = s.variant := rfl
@[simp] theorem State.setPair_now (s : State) (lo : Reg) (hi : Reg) (i : Nat) (v : Nat) : (State.setPair s lo hi i v).now = s.now := rfl
@[simp] theorem State.setPair_snap (s : State) (lo : Reg) (hi : Reg) (i : Nat) (v : Nat) : (State.setPair s lo hi i v).snap = s.snap := rfl
@[simp] theorem State.setPair_mem (s : State) (lo : Reg) (hi : Reg) (i : Nat) (v : Nat) : (State.setPair s lo hi i v).mem = s.mem := rfl
@[simp] theorem State.setPair_xl (s : State) (lo : Reg) (hi : Reg) (i : Nat) (v : Nat) : (State.setPair s lo hi i v).xl = s.xl := rfl
@[simp] theorem State.setPair_clap (s : State) (lo : Reg) (hi : Reg) (i : Nat) (v : Nat) : (State.setPair s lo hi i v).clap = s.clap := rfl
@[simp] theorem State.setPair_play (s : State) (lo : Reg) (hi : Reg) (i : Nat) (v : Nat) : (State.setPair s lo hi i v).play = s.play := rfl
@[simp] theorem State.setPair_scr (s : State) (lo : Reg) (hi : Reg) (i : Nat) (v : Nat) : (State.setPair s lo hi i v).scr = s.scr := rfl
@[simp] theorem State.setPair_rd (s : State) (lo : Reg) (hi : Reg) (i : Nat) (v : Nat) : (State.setPair s lo hi i v).rd = s.rd := rfl
@[simp] theorem State.setPair_krn (s : State) (lo : Reg) (hi : Reg) (i : Nat) (v : Nat) : (State.setPair s lo hi i v).krn = s.krn := rfl
@[simp] theorem State.setPair_fab (s : State) (lo : Reg) (hi : Reg) (i : Nat) (v : Nat) : (State.setPair s lo hi i v).fab = s.fab := rfl
@[simp] theorem State.setPair_take (s : State) (lo : Reg) (hi : Reg) (i : Nat) (v : Nat) : (State.setPair s lo hi i v).take = s.take := rfl
@[simp] theorem State.setPair_cal (s : State) (lo : Reg) (hi : Reg) (i : Nat) (v : Nat) : (State.setPair s lo hi i v).cal = s.cal := rfl
@[simp] theorem State.setPair_bias (s : State) (lo : Reg) (hi : Reg) (i : Nat) (v : Nat) : (State.setPair s lo hi i v).bias = s.bias := rfl
@[simp] theorem State.setPair_router (s : State) (lo : Reg) (hi : Reg) (i : Nat) (v : Nat) : (State.setPair s lo hi i v).router = s.router := rfl
@[simp] theorem State.setPair_cut (s : State) (lo : Reg) (hi : Reg) (i : Nat) (v : Nat) : (State.setPair s lo hi i v).cut = s.cut := rfl
@[simp] theorem State.setPair_irq (s : State) (lo : Reg) (hi : Reg) (i : Nat) (v : Nat) : (State.setPair s lo hi i v).irq = s.irq := rfl
@[simp] theorem State.setPair_grip (s : State) (lo : Reg) (hi : Reg) (i : Nat) (v : Nat) : (State.setPair s lo hi i v).grip = s.grip := rfl
@[simp] theorem State.setPair_host (s : State) (lo : Reg) (hi : Reg) (i : Nat) (v : Nat) : (State.setPair s lo hi i v).host = s.host := rfl
@[simp] theorem State.setPair_lnk (s : State) (lo : Reg) (hi : Reg) (i : Nat) (v : Nat) : (State.setPair s lo hi i v).lnk = s.lnk := rfl
@[simp] theorem State.setPair_served (s : State) (lo : Reg) (hi : Reg) (i : Nat) (v : Nat) : (State.setPair s lo hi i v).served = s.served := rfl
@[simp] theorem State.setPair_od (s : State) (lo : Reg) (hi : Reg) (i : Nat) (v : Nat) : (State.setPair s lo hi i v).od = s.od := rfl
@[simp] theorem State.setPair_flash (s : State) (lo : Reg) (hi : Reg) (i : Nat) (v : Nat) : (State.setPair s lo hi i v).flash = s.flash := rfl
@[simp] theorem State.setPair_time (s : State) (lo : Reg) (hi : Reg) (i : Nat) (v : Nat) : (State.setPair s lo hi i v).time = s.time := rfl
@[simp] theorem State.setPair_power (s : State) (lo : Reg) (hi : Reg) (i : Nat) (v : Nat) : (State.setPair s lo hi i v).power = s.power := rfl
@[simp] theorem State.setPair_health (s : State) (lo : Reg) (hi : Reg) (i : Nat) (v : Nat) : (State.setPair s lo hi i v).health = s.health := rfl
@[simp] theorem State.setPair_jtag (s : State) (lo : Reg) (hi : Reg) (i : Nat) (v : Nat) : (State.setPair s lo hi i v).jtag = s.jtag := rfl
@[simp] theorem State.setPair_freeCtr (s : State) (lo : Reg) (hi : Reg) (i : Nat) (v : Nat) : (State.setPair s lo hi i v).freeCtr = s.freeCtr := rfl
@[simp] theorem State.setPair_out (s : State) (lo : Reg) (hi : Reg) (i : Nat) (v : Nat) : (State.setPair s lo hi i v).out = s.out := rfl
@[simp] theorem State.setPair_pending (s : State) (lo : Reg) (hi : Reg) (i : Nat) (v : Nat) : (State.setPair s lo hi i v).pending = s.pending := rfl

/-! ### `State.count` changes `regs` alone -/

@[simp] theorem State.count_variant (s : State) (r : Reg) (i : Nat) (k : Nat) : (State.count s r i k).variant = s.variant := rfl
@[simp] theorem State.count_now (s : State) (r : Reg) (i : Nat) (k : Nat) : (State.count s r i k).now = s.now := rfl
@[simp] theorem State.count_snap (s : State) (r : Reg) (i : Nat) (k : Nat) : (State.count s r i k).snap = s.snap := rfl
@[simp] theorem State.count_mem (s : State) (r : Reg) (i : Nat) (k : Nat) : (State.count s r i k).mem = s.mem := rfl
@[simp] theorem State.count_xl (s : State) (r : Reg) (i : Nat) (k : Nat) : (State.count s r i k).xl = s.xl := rfl
@[simp] theorem State.count_clap (s : State) (r : Reg) (i : Nat) (k : Nat) : (State.count s r i k).clap = s.clap := rfl
@[simp] theorem State.count_play (s : State) (r : Reg) (i : Nat) (k : Nat) : (State.count s r i k).play = s.play := rfl
@[simp] theorem State.count_scr (s : State) (r : Reg) (i : Nat) (k : Nat) : (State.count s r i k).scr = s.scr := rfl
@[simp] theorem State.count_rd (s : State) (r : Reg) (i : Nat) (k : Nat) : (State.count s r i k).rd = s.rd := rfl
@[simp] theorem State.count_krn (s : State) (r : Reg) (i : Nat) (k : Nat) : (State.count s r i k).krn = s.krn := rfl
@[simp] theorem State.count_fab (s : State) (r : Reg) (i : Nat) (k : Nat) : (State.count s r i k).fab = s.fab := rfl
@[simp] theorem State.count_take (s : State) (r : Reg) (i : Nat) (k : Nat) : (State.count s r i k).take = s.take := rfl
@[simp] theorem State.count_cal (s : State) (r : Reg) (i : Nat) (k : Nat) : (State.count s r i k).cal = s.cal := rfl
@[simp] theorem State.count_bias (s : State) (r : Reg) (i : Nat) (k : Nat) : (State.count s r i k).bias = s.bias := rfl
@[simp] theorem State.count_router (s : State) (r : Reg) (i : Nat) (k : Nat) : (State.count s r i k).router = s.router := rfl
@[simp] theorem State.count_cut (s : State) (r : Reg) (i : Nat) (k : Nat) : (State.count s r i k).cut = s.cut := rfl
@[simp] theorem State.count_irq (s : State) (r : Reg) (i : Nat) (k : Nat) : (State.count s r i k).irq = s.irq := rfl
@[simp] theorem State.count_grip (s : State) (r : Reg) (i : Nat) (k : Nat) : (State.count s r i k).grip = s.grip := rfl
@[simp] theorem State.count_host (s : State) (r : Reg) (i : Nat) (k : Nat) : (State.count s r i k).host = s.host := rfl
@[simp] theorem State.count_lnk (s : State) (r : Reg) (i : Nat) (k : Nat) : (State.count s r i k).lnk = s.lnk := rfl
@[simp] theorem State.count_served (s : State) (r : Reg) (i : Nat) (k : Nat) : (State.count s r i k).served = s.served := rfl
@[simp] theorem State.count_od (s : State) (r : Reg) (i : Nat) (k : Nat) : (State.count s r i k).od = s.od := rfl
@[simp] theorem State.count_flash (s : State) (r : Reg) (i : Nat) (k : Nat) : (State.count s r i k).flash = s.flash := rfl
@[simp] theorem State.count_time (s : State) (r : Reg) (i : Nat) (k : Nat) : (State.count s r i k).time = s.time := rfl
@[simp] theorem State.count_power (s : State) (r : Reg) (i : Nat) (k : Nat) : (State.count s r i k).power = s.power := rfl
@[simp] theorem State.count_health (s : State) (r : Reg) (i : Nat) (k : Nat) : (State.count s r i k).health = s.health := rfl
@[simp] theorem State.count_jtag (s : State) (r : Reg) (i : Nat) (k : Nat) : (State.count s r i k).jtag = s.jtag := rfl
@[simp] theorem State.count_freeCtr (s : State) (r : Reg) (i : Nat) (k : Nat) : (State.count s r i k).freeCtr = s.freeCtr := rfl
@[simp] theorem State.count_out (s : State) (r : Reg) (i : Nat) (k : Nat) : (State.count s r i k).out = s.out := rfl
@[simp] theorem State.count_pending (s : State) (r : Reg) (i : Nat) (k : Nat) : (State.count s r i k).pending = s.pending := rfl

/-! ### `State.countWrap` changes `regs` alone -/

@[simp] theorem State.countWrap_variant (s : State) (r : Reg) (i : Nat) (k : Nat) : (State.countWrap s r i k).variant = s.variant := rfl
@[simp] theorem State.countWrap_now (s : State) (r : Reg) (i : Nat) (k : Nat) : (State.countWrap s r i k).now = s.now := rfl
@[simp] theorem State.countWrap_snap (s : State) (r : Reg) (i : Nat) (k : Nat) : (State.countWrap s r i k).snap = s.snap := rfl
@[simp] theorem State.countWrap_mem (s : State) (r : Reg) (i : Nat) (k : Nat) : (State.countWrap s r i k).mem = s.mem := rfl
@[simp] theorem State.countWrap_xl (s : State) (r : Reg) (i : Nat) (k : Nat) : (State.countWrap s r i k).xl = s.xl := rfl
@[simp] theorem State.countWrap_clap (s : State) (r : Reg) (i : Nat) (k : Nat) : (State.countWrap s r i k).clap = s.clap := rfl
@[simp] theorem State.countWrap_play (s : State) (r : Reg) (i : Nat) (k : Nat) : (State.countWrap s r i k).play = s.play := rfl
@[simp] theorem State.countWrap_scr (s : State) (r : Reg) (i : Nat) (k : Nat) : (State.countWrap s r i k).scr = s.scr := rfl
@[simp] theorem State.countWrap_rd (s : State) (r : Reg) (i : Nat) (k : Nat) : (State.countWrap s r i k).rd = s.rd := rfl
@[simp] theorem State.countWrap_krn (s : State) (r : Reg) (i : Nat) (k : Nat) : (State.countWrap s r i k).krn = s.krn := rfl
@[simp] theorem State.countWrap_fab (s : State) (r : Reg) (i : Nat) (k : Nat) : (State.countWrap s r i k).fab = s.fab := rfl
@[simp] theorem State.countWrap_take (s : State) (r : Reg) (i : Nat) (k : Nat) : (State.countWrap s r i k).take = s.take := rfl
@[simp] theorem State.countWrap_cal (s : State) (r : Reg) (i : Nat) (k : Nat) : (State.countWrap s r i k).cal = s.cal := rfl
@[simp] theorem State.countWrap_bias (s : State) (r : Reg) (i : Nat) (k : Nat) : (State.countWrap s r i k).bias = s.bias := rfl
@[simp] theorem State.countWrap_router (s : State) (r : Reg) (i : Nat) (k : Nat) : (State.countWrap s r i k).router = s.router := rfl
@[simp] theorem State.countWrap_cut (s : State) (r : Reg) (i : Nat) (k : Nat) : (State.countWrap s r i k).cut = s.cut := rfl
@[simp] theorem State.countWrap_irq (s : State) (r : Reg) (i : Nat) (k : Nat) : (State.countWrap s r i k).irq = s.irq := rfl
@[simp] theorem State.countWrap_grip (s : State) (r : Reg) (i : Nat) (k : Nat) : (State.countWrap s r i k).grip = s.grip := rfl
@[simp] theorem State.countWrap_host (s : State) (r : Reg) (i : Nat) (k : Nat) : (State.countWrap s r i k).host = s.host := rfl
@[simp] theorem State.countWrap_lnk (s : State) (r : Reg) (i : Nat) (k : Nat) : (State.countWrap s r i k).lnk = s.lnk := rfl
@[simp] theorem State.countWrap_served (s : State) (r : Reg) (i : Nat) (k : Nat) : (State.countWrap s r i k).served = s.served := rfl
@[simp] theorem State.countWrap_od (s : State) (r : Reg) (i : Nat) (k : Nat) : (State.countWrap s r i k).od = s.od := rfl
@[simp] theorem State.countWrap_flash (s : State) (r : Reg) (i : Nat) (k : Nat) : (State.countWrap s r i k).flash = s.flash := rfl
@[simp] theorem State.countWrap_time (s : State) (r : Reg) (i : Nat) (k : Nat) : (State.countWrap s r i k).time = s.time := rfl
@[simp] theorem State.countWrap_power (s : State) (r : Reg) (i : Nat) (k : Nat) : (State.countWrap s r i k).power = s.power := rfl
@[simp] theorem State.countWrap_health (s : State) (r : Reg) (i : Nat) (k : Nat) : (State.countWrap s r i k).health = s.health := rfl
@[simp] theorem State.countWrap_jtag (s : State) (r : Reg) (i : Nat) (k : Nat) : (State.countWrap s r i k).jtag = s.jtag := rfl
@[simp] theorem State.countWrap_freeCtr (s : State) (r : Reg) (i : Nat) (k : Nat) : (State.countWrap s r i k).freeCtr = s.freeCtr := rfl
@[simp] theorem State.countWrap_out (s : State) (r : Reg) (i : Nat) (k : Nat) : (State.countWrap s r i k).out = s.out := rfl
@[simp] theorem State.countWrap_pending (s : State) (r : Reg) (i : Nat) (k : Nat) : (State.countWrap s r i k).pending = s.pending := rfl

/-! ### `State.resetRegs` changes `regs` alone -/

@[simp] theorem State.resetRegs_variant (s : State) (rs : List Reg) (p : Nat → Bool) : (State.resetRegs s rs p).variant = s.variant := rfl
@[simp] theorem State.resetRegs_now (s : State) (rs : List Reg) (p : Nat → Bool) : (State.resetRegs s rs p).now = s.now := rfl
@[simp] theorem State.resetRegs_snap (s : State) (rs : List Reg) (p : Nat → Bool) : (State.resetRegs s rs p).snap = s.snap := rfl
@[simp] theorem State.resetRegs_mem (s : State) (rs : List Reg) (p : Nat → Bool) : (State.resetRegs s rs p).mem = s.mem := rfl
@[simp] theorem State.resetRegs_xl (s : State) (rs : List Reg) (p : Nat → Bool) : (State.resetRegs s rs p).xl = s.xl := rfl
@[simp] theorem State.resetRegs_clap (s : State) (rs : List Reg) (p : Nat → Bool) : (State.resetRegs s rs p).clap = s.clap := rfl
@[simp] theorem State.resetRegs_play (s : State) (rs : List Reg) (p : Nat → Bool) : (State.resetRegs s rs p).play = s.play := rfl
@[simp] theorem State.resetRegs_scr (s : State) (rs : List Reg) (p : Nat → Bool) : (State.resetRegs s rs p).scr = s.scr := rfl
@[simp] theorem State.resetRegs_rd (s : State) (rs : List Reg) (p : Nat → Bool) : (State.resetRegs s rs p).rd = s.rd := rfl
@[simp] theorem State.resetRegs_krn (s : State) (rs : List Reg) (p : Nat → Bool) : (State.resetRegs s rs p).krn = s.krn := rfl
@[simp] theorem State.resetRegs_fab (s : State) (rs : List Reg) (p : Nat → Bool) : (State.resetRegs s rs p).fab = s.fab := rfl
@[simp] theorem State.resetRegs_take (s : State) (rs : List Reg) (p : Nat → Bool) : (State.resetRegs s rs p).take = s.take := rfl
@[simp] theorem State.resetRegs_cal (s : State) (rs : List Reg) (p : Nat → Bool) : (State.resetRegs s rs p).cal = s.cal := rfl
@[simp] theorem State.resetRegs_bias (s : State) (rs : List Reg) (p : Nat → Bool) : (State.resetRegs s rs p).bias = s.bias := rfl
@[simp] theorem State.resetRegs_router (s : State) (rs : List Reg) (p : Nat → Bool) : (State.resetRegs s rs p).router = s.router := rfl
@[simp] theorem State.resetRegs_cut (s : State) (rs : List Reg) (p : Nat → Bool) : (State.resetRegs s rs p).cut = s.cut := rfl
@[simp] theorem State.resetRegs_irq (s : State) (rs : List Reg) (p : Nat → Bool) : (State.resetRegs s rs p).irq = s.irq := rfl
@[simp] theorem State.resetRegs_grip (s : State) (rs : List Reg) (p : Nat → Bool) : (State.resetRegs s rs p).grip = s.grip := rfl
@[simp] theorem State.resetRegs_host (s : State) (rs : List Reg) (p : Nat → Bool) : (State.resetRegs s rs p).host = s.host := rfl
@[simp] theorem State.resetRegs_lnk (s : State) (rs : List Reg) (p : Nat → Bool) : (State.resetRegs s rs p).lnk = s.lnk := rfl
@[simp] theorem State.resetRegs_served (s : State) (rs : List Reg) (p : Nat → Bool) : (State.resetRegs s rs p).served = s.served := rfl
@[simp] theorem State.resetRegs_od (s : State) (rs : List Reg) (p : Nat → Bool) : (State.resetRegs s rs p).od = s.od := rfl
@[simp] theorem State.resetRegs_flash (s : State) (rs : List Reg) (p : Nat → Bool) : (State.resetRegs s rs p).flash = s.flash := rfl
@[simp] theorem State.resetRegs_time (s : State) (rs : List Reg) (p : Nat → Bool) : (State.resetRegs s rs p).time = s.time := rfl
@[simp] theorem State.resetRegs_power (s : State) (rs : List Reg) (p : Nat → Bool) : (State.resetRegs s rs p).power = s.power := rfl
@[simp] theorem State.resetRegs_health (s : State) (rs : List Reg) (p : Nat → Bool) : (State.resetRegs s rs p).health = s.health := rfl
@[simp] theorem State.resetRegs_jtag (s : State) (rs : List Reg) (p : Nat → Bool) : (State.resetRegs s rs p).jtag = s.jtag := rfl
@[simp] theorem State.resetRegs_freeCtr (s : State) (rs : List Reg) (p : Nat → Bool) : (State.resetRegs s rs p).freeCtr = s.freeCtr := rfl
@[simp] theorem State.resetRegs_out (s : State) (rs : List Reg) (p : Nat → Bool) : (State.resetRegs s rs p).out = s.out := rfl
@[simp] theorem State.resetRegs_pending (s : State) (rs : List Reg) (p : Nat → Bool) : (State.resetRegs s rs p).pending = s.pending := rfl

/-! ### `State.setTriple` changes `regs` alone -/

@[simp] theorem State.setTriple_variant (s : State) (r : Reg) (v : Nat) : (State.setTriple s r v).variant = s.variant := rfl
@[simp] theorem State.setTriple_now (s : State) (r : Reg) (v : Nat) : (State.setTriple s r v).now = s.now := rfl
@[simp] theorem State.setTriple_snap (s : State) (r : Reg) (v : Nat) : (State.setTriple s r v).snap = s.snap := rfl
@[simp] theorem State.setTriple_mem (s : State) (r : Reg) (v : Nat) : (State.setTriple s r v).mem = s.mem := rfl
@[simp] theorem State.setTriple_xl (s : State) (r : Reg) (v : Nat) : (State.setTriple s r v).xl = s.xl := rfl
@[simp] theorem State.setTriple_clap (s : State) (r : Reg) (v : Nat) : (State.setTriple s r v).clap = s.clap := rfl
@[simp] theorem State.setTriple_play (s : State) (r : Reg) (v : Nat) : (State.setTriple s r v).play = s.play := rfl
@[simp] theorem State.setTriple_scr (s : State) (r : Reg) (v : Nat) : (State.setTriple s r v).scr = s.scr := rfl
@[simp] theorem State.setTriple_rd (s : State) (r : Reg) (v : Nat) : (State.setTriple s r v).rd = s.rd := rfl
@[simp] theorem State.setTriple_krn (s : State) (r : Reg) (v : Nat) : (State.setTriple s r v).krn = s.krn := rfl
@[simp] theorem State.setTriple_fab (s : State) (r : Reg) (v : Nat) : (State.setTriple s r v).fab = s.fab := rfl
@[simp] theorem State.setTriple_take (s : State) (r : Reg) (v : Nat) : (State.setTriple s r v).take = s.take := rfl
@[simp] theorem State.setTriple_cal (s : State) (r : Reg) (v : Nat) : (State.setTriple s r v).cal = s.cal := rfl
@[simp] theorem State.setTriple_bias (s : State) (r : Reg) (v : Nat) : (State.setTriple s r v).bias = s.bias := rfl
@[simp] theorem State.setTriple_router (s : State) (r : Reg) (v : Nat) : (State.setTriple s r v).router = s.router := rfl
@[simp] theorem State.setTriple_cut (s : State) (r : Reg) (v : Nat) : (State.setTriple s r v).cut = s.cut := rfl
@[simp] theorem State.setTriple_irq (s : State) (r : Reg) (v : Nat) : (State.setTriple s r v).irq = s.irq := rfl
@[simp] theorem State.setTriple_grip (s : State) (r : Reg) (v : Nat) : (State.setTriple s r v).grip = s.grip := rfl
@[simp] theorem State.setTriple_host (s : State) (r : Reg) (v : Nat) : (State.setTriple s r v).host = s.host := rfl
@[simp] theorem State.setTriple_lnk (s : State) (r : Reg) (v : Nat) : (State.setTriple s r v).lnk = s.lnk := rfl
@[simp] theorem State.setTriple_served (s : State) (r : Reg) (v : Nat) : (State.setTriple s r v).served = s.served := rfl
@[simp] theorem State.setTriple_od (s : State) (r : Reg) (v : Nat) : (State.setTriple s r v).od = s.od := rfl
@[simp] theorem State.setTriple_flash (s : State) (r : Reg) (v : Nat) : (State.setTriple s r v).flash = s.flash := rfl
@[simp] theorem State.setTriple_time (s : State) (r : Reg) (v : Nat) : (State.setTriple s r v).time = s.time := rfl
@[simp] theorem State.setTriple_power (s : State) (r : Reg) (v : Nat) : (State.setTriple s r v).power = s.power := rfl
@[simp] theorem State.setTriple_health (s : State) (r : Reg) (v : Nat) : (State.setTriple s r v).health = s.health := rfl
@[simp] theorem State.setTriple_jtag (s : State) (r : Reg) (v : Nat) : (State.setTriple s r v).jtag = s.jtag := rfl
@[simp] theorem State.setTriple_freeCtr (s : State) (r : Reg) (v : Nat) : (State.setTriple s r v).freeCtr = s.freeCtr := rfl
@[simp] theorem State.setTriple_out (s : State) (r : Reg) (v : Nat) : (State.setTriple s r v).out = s.out := rfl
@[simp] theorem State.setTriple_pending (s : State) (r : Reg) (v : Nat) : (State.setTriple s r v).pending = s.pending := rfl

/-! ### `State.setPc` changes `regs` alone -/

@[simp] theorem State.setPc_variant (s : State) (g : Nat) (e : Nat) (pc : Nat) : (State.setPc s g e pc).variant = s.variant := rfl
@[simp] theorem State.setPc_now (s : State) (g : Nat) (e : Nat) (pc : Nat) : (State.setPc s g e pc).now = s.now := rfl
@[simp] theorem State.setPc_snap (s : State) (g : Nat) (e : Nat) (pc : Nat) : (State.setPc s g e pc).snap = s.snap := rfl
@[simp] theorem State.setPc_mem (s : State) (g : Nat) (e : Nat) (pc : Nat) : (State.setPc s g e pc).mem = s.mem := rfl
@[simp] theorem State.setPc_xl (s : State) (g : Nat) (e : Nat) (pc : Nat) : (State.setPc s g e pc).xl = s.xl := rfl
@[simp] theorem State.setPc_clap (s : State) (g : Nat) (e : Nat) (pc : Nat) : (State.setPc s g e pc).clap = s.clap := rfl
@[simp] theorem State.setPc_play (s : State) (g : Nat) (e : Nat) (pc : Nat) : (State.setPc s g e pc).play = s.play := rfl
@[simp] theorem State.setPc_scr (s : State) (g : Nat) (e : Nat) (pc : Nat) : (State.setPc s g e pc).scr = s.scr := rfl
@[simp] theorem State.setPc_rd (s : State) (g : Nat) (e : Nat) (pc : Nat) : (State.setPc s g e pc).rd = s.rd := rfl
@[simp] theorem State.setPc_krn (s : State) (g : Nat) (e : Nat) (pc : Nat) : (State.setPc s g e pc).krn = s.krn := rfl
@[simp] theorem State.setPc_fab (s : State) (g : Nat) (e : Nat) (pc : Nat) : (State.setPc s g e pc).fab = s.fab := rfl
@[simp] theorem State.setPc_take (s : State) (g : Nat) (e : Nat) (pc : Nat) : (State.setPc s g e pc).take = s.take := rfl
@[simp] theorem State.setPc_cal (s : State) (g : Nat) (e : Nat) (pc : Nat) : (State.setPc s g e pc).cal = s.cal := rfl
@[simp] theorem State.setPc_bias (s : State) (g : Nat) (e : Nat) (pc : Nat) : (State.setPc s g e pc).bias = s.bias := rfl
@[simp] theorem State.setPc_router (s : State) (g : Nat) (e : Nat) (pc : Nat) : (State.setPc s g e pc).router = s.router := rfl
@[simp] theorem State.setPc_cut (s : State) (g : Nat) (e : Nat) (pc : Nat) : (State.setPc s g e pc).cut = s.cut := rfl
@[simp] theorem State.setPc_irq (s : State) (g : Nat) (e : Nat) (pc : Nat) : (State.setPc s g e pc).irq = s.irq := rfl
@[simp] theorem State.setPc_grip (s : State) (g : Nat) (e : Nat) (pc : Nat) : (State.setPc s g e pc).grip = s.grip := rfl
@[simp] theorem State.setPc_host (s : State) (g : Nat) (e : Nat) (pc : Nat) : (State.setPc s g e pc).host = s.host := rfl
@[simp] theorem State.setPc_lnk (s : State) (g : Nat) (e : Nat) (pc : Nat) : (State.setPc s g e pc).lnk = s.lnk := rfl
@[simp] theorem State.setPc_served (s : State) (g : Nat) (e : Nat) (pc : Nat) : (State.setPc s g e pc).served = s.served := rfl
@[simp] theorem State.setPc_od (s : State) (g : Nat) (e : Nat) (pc : Nat) : (State.setPc s g e pc).od = s.od := rfl
@[simp] theorem State.setPc_flash (s : State) (g : Nat) (e : Nat) (pc : Nat) : (State.setPc s g e pc).flash = s.flash := rfl
@[simp] theorem State.setPc_time (s : State) (g : Nat) (e : Nat) (pc : Nat) : (State.setPc s g e pc).time = s.time := rfl
@[simp] theorem State.setPc_power (s : State) (g : Nat) (e : Nat) (pc : Nat) : (State.setPc s g e pc).power = s.power := rfl
@[simp] theorem State.setPc_health (s : State) (g : Nat) (e : Nat) (pc : Nat) : (State.setPc s g e pc).health = s.health := rfl
@[simp] theorem State.setPc_jtag (s : State) (g : Nat) (e : Nat) (pc : Nat) : (State.setPc s g e pc).jtag = s.jtag := rfl
@[simp] theorem State.setPc_freeCtr (s : State) (g : Nat) (e : Nat) (pc : Nat) : (State.setPc s g e pc).freeCtr = s.freeCtr := rfl
@[simp] theorem State.setPc_out (s : State) (g : Nat) (e : Nat) (pc : Nat) : (State.setPc s g e pc).out = s.out := rfl
@[simp] theorem State.setPc_pending (s : State) (g : Nat) (e : Nat) (pc : Nat) : (State.setPc s g e pc).pending = s.pending := rfl

/-! ### `State.writeLe` changes `mem` alone -/

@[simp] theorem State.writeLe_variant (s : State) (space : Nat) (a : Nat) (n : Nat) (v : Nat) : (State.writeLe s space a n v).variant = s.variant := rfl
@[simp] theorem State.writeLe_now (s : State) (space : Nat) (a : Nat) (n : Nat) (v : Nat) : (State.writeLe s space a n v).now = s.now := rfl
@[simp] theorem State.writeLe_regs (s : State) (space : Nat) (a : Nat) (n : Nat) (v : Nat) : (State.writeLe s space a n v).regs = s.regs := rfl
@[simp] theorem State.writeLe_snap (s : State) (space : Nat) (a : Nat) (n : Nat) (v : Nat) : (State.writeLe s space a n v).snap = s.snap := rfl
@[simp] theorem State.writeLe_xl (s : State) (space : Nat) (a : Nat) (n : Nat) (v : Nat) : (State.writeLe s space a n v).xl = s.xl := rfl
@[simp] theorem State.writeLe_clap (s : State) (space : Nat) (a : Nat) (n : Nat) (v : Nat) : (State.writeLe s space a n v).clap = s.clap := rfl
@[simp] theorem State.writeLe_play (s : State) (space : Nat) (a : Nat) (n : Nat) (v : Nat) : (State.writeLe s space a n v).play = s.play := rfl
@[simp] theorem State.writeLe_scr (s : State) (space : Nat) (a : Nat) (n : Nat) (v : Nat) : (State.writeLe s space a n v).scr = s.scr := rfl
@[simp] theorem State.writeLe_rd (s : State) (space : Nat) (a : Nat) (n : Nat) (v : Nat) : (State.writeLe s space a n v).rd = s.rd := rfl
@[simp] theorem State.writeLe_krn (s : State) (space : Nat) (a : Nat) (n : Nat) (v : Nat) : (State.writeLe s space a n v).krn = s.krn := rfl
@[simp] theorem State.writeLe_fab (s : State) (space : Nat) (a : Nat) (n : Nat) (v : Nat) : (State.writeLe s space a n v).fab = s.fab := rfl
@[simp] theorem State.writeLe_take (s : State) (space : Nat) (a : Nat) (n : Nat) (v : Nat) : (State.writeLe s space a n v).take = s.take := rfl
@[simp] theorem State.writeLe_cal (s : State) (space : Nat) (a : Nat) (n : Nat) (v : Nat) : (State.writeLe s space a n v).cal = s.cal := rfl
@[simp] theorem State.writeLe_bias (s : State) (space : Nat) (a : Nat) (n : Nat) (v : Nat) : (State.writeLe s space a n v).bias = s.bias := rfl
@[simp] theorem State.writeLe_router (s : State) (space : Nat) (a : Nat) (n : Nat) (v : Nat) : (State.writeLe s space a n v).router = s.router := rfl
@[simp] theorem State.writeLe_cut (s : State) (space : Nat) (a : Nat) (n : Nat) (v : Nat) : (State.writeLe s space a n v).cut = s.cut := rfl
@[simp] theorem State.writeLe_irq (s : State) (space : Nat) (a : Nat) (n : Nat) (v : Nat) : (State.writeLe s space a n v).irq = s.irq := rfl
@[simp] theorem State.writeLe_grip (s : State) (space : Nat) (a : Nat) (n : Nat) (v : Nat) : (State.writeLe s space a n v).grip = s.grip := rfl
@[simp] theorem State.writeLe_host (s : State) (space : Nat) (a : Nat) (n : Nat) (v : Nat) : (State.writeLe s space a n v).host = s.host := rfl
@[simp] theorem State.writeLe_lnk (s : State) (space : Nat) (a : Nat) (n : Nat) (v : Nat) : (State.writeLe s space a n v).lnk = s.lnk := rfl
@[simp] theorem State.writeLe_served (s : State) (space : Nat) (a : Nat) (n : Nat) (v : Nat) : (State.writeLe s space a n v).served = s.served := rfl
@[simp] theorem State.writeLe_od (s : State) (space : Nat) (a : Nat) (n : Nat) (v : Nat) : (State.writeLe s space a n v).od = s.od := rfl
@[simp] theorem State.writeLe_flash (s : State) (space : Nat) (a : Nat) (n : Nat) (v : Nat) : (State.writeLe s space a n v).flash = s.flash := rfl
@[simp] theorem State.writeLe_time (s : State) (space : Nat) (a : Nat) (n : Nat) (v : Nat) : (State.writeLe s space a n v).time = s.time := rfl
@[simp] theorem State.writeLe_power (s : State) (space : Nat) (a : Nat) (n : Nat) (v : Nat) : (State.writeLe s space a n v).power = s.power := rfl
@[simp] theorem State.writeLe_health (s : State) (space : Nat) (a : Nat) (n : Nat) (v : Nat) : (State.writeLe s space a n v).health = s.health := rfl
@[simp] theorem State.writeLe_jtag (s : State) (space : Nat) (a : Nat) (n : Nat) (v : Nat) : (State.writeLe s space a n v).jtag = s.jtag := rfl
@[simp] theorem State.writeLe_freeCtr (s : State) (space : Nat) (a : Nat) (n : Nat) (v : Nat) : (State.writeLe s space a n v).freeCtr = s.freeCtr := rfl
@[simp] theorem State.writeLe_out (s : State) (space : Nat) (a : Nat) (n : Nat) (v : Nat) : (State.writeLe s space a n v).out = s.out := rfl
@[simp] theorem State.writeLe_pending (s : State) (space : Nat) (a : Nat) (n : Nat) (v : Nat) : (State.writeLe s space a n v).pending = s.pending := rfl
@[simp] theorem State.writeLe_reg (s : State) (space : Nat) (a : Nat) (n : Nat) (v : Nat) (rr : Reg) (jj : Nat) : (State.writeLe s space a n v).reg rr jj = s.reg rr jj := rfl

/-! ### Taking a free value moves `freeCtr` alone -/

@[simp] theorem State.free_variant (s : State) (n : Nat) : (s.free n).2.variant = s.variant := rfl
@[simp] theorem State.free_now (s : State) (n : Nat) : (s.free n).2.now = s.now := rfl
@[simp] theorem State.free_regs (s : State) (n : Nat) : (s.free n).2.regs = s.regs := rfl
@[simp] theorem State.free_snap (s : State) (n : Nat) : (s.free n).2.snap = s.snap := rfl
@[simp] theorem State.free_mem (s : State) (n : Nat) : (s.free n).2.mem = s.mem := rfl
@[simp] theorem State.free_xl (s : State) (n : Nat) : (s.free n).2.xl = s.xl := rfl
@[simp] theorem State.free_clap (s : State) (n : Nat) : (s.free n).2.clap = s.clap := rfl
@[simp] theorem State.free_play (s : State) (n : Nat) : (s.free n).2.play = s.play := rfl
@[simp] theorem State.free_scr (s : State) (n : Nat) : (s.free n).2.scr = s.scr := rfl
@[simp] theorem State.free_rd (s : State) (n : Nat) : (s.free n).2.rd = s.rd := rfl
@[simp] theorem State.free_krn (s : State) (n : Nat) : (s.free n).2.krn = s.krn := rfl
@[simp] theorem State.free_fab (s : State) (n : Nat) : (s.free n).2.fab = s.fab := rfl
@[simp] theorem State.free_take (s : State) (n : Nat) : (s.free n).2.take = s.take := rfl
@[simp] theorem State.free_cal (s : State) (n : Nat) : (s.free n).2.cal = s.cal := rfl
@[simp] theorem State.free_bias (s : State) (n : Nat) : (s.free n).2.bias = s.bias := rfl
@[simp] theorem State.free_router (s : State) (n : Nat) : (s.free n).2.router = s.router := rfl
@[simp] theorem State.free_cut (s : State) (n : Nat) : (s.free n).2.cut = s.cut := rfl
@[simp] theorem State.free_irq (s : State) (n : Nat) : (s.free n).2.irq = s.irq := rfl
@[simp] theorem State.free_grip (s : State) (n : Nat) : (s.free n).2.grip = s.grip := rfl
@[simp] theorem State.free_host (s : State) (n : Nat) : (s.free n).2.host = s.host := rfl
@[simp] theorem State.free_lnk (s : State) (n : Nat) : (s.free n).2.lnk = s.lnk := rfl
@[simp] theorem State.free_served (s : State) (n : Nat) : (s.free n).2.served = s.served := rfl
@[simp] theorem State.free_od (s : State) (n : Nat) : (s.free n).2.od = s.od := rfl
@[simp] theorem State.free_flash (s : State) (n : Nat) : (s.free n).2.flash = s.flash := rfl
@[simp] theorem State.free_time (s : State) (n : Nat) : (s.free n).2.time = s.time := rfl
@[simp] theorem State.free_power (s : State) (n : Nat) : (s.free n).2.power = s.power := rfl
@[simp] theorem State.free_health (s : State) (n : Nat) : (s.free n).2.health = s.health := rfl
@[simp] theorem State.free_jtag (s : State) (n : Nat) : (s.free n).2.jtag = s.jtag := rfl
@[simp] theorem State.free_out (s : State) (n : Nat) : (s.free n).2.out = s.out := rfl
@[simp] theorem State.free_pending (s : State) (n : Nat) : (s.free n).2.pending = s.pending := rfl
@[simp] theorem State.free_reg (s : State) (n : Nat) (rr : Reg) (jj : Nat) : (s.free n).2.reg rr jj = s.reg rr jj := rfl

end Sys2Proof.Machine
end

