-- ==== Sys2Proof/Laws/Regs.lean ====
section
/-!
SUPPORT. The register file: what a register reads after another was stored, and fields of a word after a field was put.
-/

namespace Sys2Proof.Machine

/-! ### Tables -/

theorem tfind_tset {α : Type} (t : Table α) (k : Nat) (v : α) (j : Nat) :
    tfind (tset t k v) j = if k = j then some v else tfind t j := by
  induction t with
  | nil => simp [tset, tfind]
  | cons e t ih =>
    obtain ⟨k', v'⟩ := e
    unfold tset
    split
    · subst ‹k' = k›; by_cases hj : k' = j <;> simp [tfind, hj]
    · split
      · simp [tfind]
      · by_cases hj : k' = j
        · subst hj; simp [tfind]; intro h; exact absurd h.symm ‹_›
        · simp [tfind, hj, ih]

@[simp] theorem tfind_tset_same {α : Type} (t : Table α) (k : Nat) (v : α) : tfind (tset t k v) k = some v := by
  simp [tfind_tset]

theorem tfind_tset_ne {α : Type} (t : Table α) (k : Nat) (v : α) (j : Nat) (h : k ≠ j) : tfind (tset t k v) j = tfind t j := by
  simp [tfind_tset, h]

@[simp] theorem tget_tset_same {α : Type} (d : α) (t : Table α) (k : Nat) (v : α) : tget d (tset t k v) k = v := by
  simp [tget]

theorem tget_tset_ne {α : Type} (d : α) (t : Table α) (k : Nat) (v : α) (j : Nat) (h : k ≠ j) :
    tget d (tset t k v) j = tget d t j := by
  simp [tget, tfind_tset_ne _ _ _ _ h]

/-- A filter that keeps every entry of key `k` keeps what the table lists for `k`. -/
theorem tfind_filter {α : Type} (t : Table α) (p : Nat × α → Bool) (k : Nat) (h : ∀ v, p (k, v) = true) :
    tfind (t.filter p) k = tfind t k := by
  induction t with
  | nil => rfl
  | cons e t ih =>
    obtain ⟨k', v'⟩ := e
    by_cases hk : k' = k
    · subst hk; simp [h, tfind]
    · by_cases hp : p (k', v') = true
      · simp [hp, tfind, hk, ih]
      · simp [hp, tfind, hk, ih]

/-- A filter that drops every entry of key `k` leaves `k` unlisted. -/
theorem tfind_filter_none {α : Type} (t : Table α) (p : Nat × α → Bool) (k : Nat) (h : ∀ v, p (k, v) = false) :
    tfind (t.filter p) k = none := by
  induction t with
  | nil => rfl
  | cons e t ih =>
    obtain ⟨k', v'⟩ := e
    by_cases hk : k' = k
    · subst hk; simp [h, ih]
    · by_cases hp : p (k', v') = true
      · simp [hp, tfind, hk, ih]
      · simp [hp, ih]

/-! ### Register keys -/

theorem ctorIdx_lt (r : Reg) : r.ctorIdx < 1024 := by cases r <;> decide

theorem ctorIdx_inj {r q : Reg} (h : r.ctorIdx = q.ctorIdx) : r = q := by
  have e := Reg.ofNat_ctorIdx r
  have f := Reg.ofNat_ctorIdx q
  rw [← e, ← f, h]

theorem regKey_inj {r q : Reg} {i j : Nat} (h : regKey r i = regKey q j) : r = q ∧ i = j := by
  have a := ctorIdx_lt r
  have b := ctorIdx_lt q
  unfold regKey at h
  exact ⟨ctorIdx_inj (by omega), by omega⟩

/-! ### Reading after storing -/

theorem State.reg_setReg (s : State) (r q : Reg) (i j : Nat) (w : Word) :
    (s.setReg r i w).reg q j = if r = q ∧ i = j then w else s.reg q j := by
  unfold State.setReg State.reg
  by_cases h : r = q ∧ i = j
  · obtain ⟨rfl, rfl⟩ := h; simp
  · have : regKey r i ≠ regKey q j := fun e => h (regKey_inj e)
    simp [h, tfind_tset_ne _ _ _ _ this]

@[simp] theorem State.reg_setReg_same (s : State) (r : Reg) (i : Nat) (w : Word) : (s.setReg r i w).reg r i = w := by
  simp [State.reg_setReg]

@[simp] theorem State.reg_setReg_other (s : State) (r q : Reg) (i j : Nat) (w : Word) (h : q ≠ r) :
    (s.setReg r i w).reg q j = s.reg q j := by
  simp [State.reg_setReg, Ne.symm h]

@[simp] theorem State.reg_setReg_inst (s : State) (r : Reg) (i j : Nat) (w : Word) (h : j ≠ i) :
    (s.setReg r i w).reg r j = s.reg r j := by
  simp [State.reg_setReg, Ne.symm h]

theorem State.reg_setFld (s : State) (r q : Reg) (i j hi lo v : Nat) :
    (s.setFld r i hi lo v).reg q j = if r = q ∧ i = j then putBits (s.reg r i) hi lo v else s.reg q j := s.reg_setReg ..

@[simp] theorem State.reg_setFld_same (s : State) (r : Reg) (i hi lo v : Nat) :
    (s.setFld r i hi lo v).reg r i = putBits (s.reg r i) hi lo v := s.reg_setReg_same ..

@[simp] theorem State.reg_setFld_other (s : State) (r q : Reg) (i j hi lo v : Nat) (h : q ≠ r) :
    (s.setFld r i hi lo v).reg q j = s.reg q j := s.reg_setReg_other _ _ _ _ _ h

@[simp] theorem State.reg_setFld_inst (s : State) (r : Reg) (i j hi lo v : Nat) (h : j ≠ i) :
    (s.setFld r i hi lo v).reg r j = s.reg r j := s.reg_setReg_inst _ _ _ _ h

@[simp] theorem State.reg_setBit_same (s : State) (r : Reg) (i b : Nat) (v : Bool) :
    (s.setBit r i b v).reg r i = putBits (s.reg r i) b b (b2n v) := s.reg_setFld_same ..

@[simp] theorem State.reg_setBit_other (s : State) (r q : Reg) (i j b : Nat) (v : Bool) (h : q ≠ r) :
    (s.setBit r i b v).reg q j = s.reg q j := s.reg_setFld_other _ _ _ _ _ _ _ h

@[simp] theorem State.reg_setBit_inst (s : State) (r : Reg) (i j b : Nat) (v : Bool) (h : j ≠ i) :
    (s.setBit r i b v).reg r j = s.reg r j := s.reg_setFld_inst _ _ _ _ _ _ h

@[simp] theorem State.reg_count_same (s : State) (r : Reg) (i k : Nat) :
    (s.count r i k).reg r i = BitVec.ofNat 32 (min 0xFFFF_FFFF (s.regNat r i + k)) := s.reg_setReg_same ..

@[simp] theorem State.reg_count_other (s : State) (r q : Reg) (i j k : Nat) (h : q ≠ r) :
    (s.count r i k).reg q j = s.reg q j := s.reg_setReg_other _ _ _ _ _ h

@[simp] theorem State.reg_countWrap_other (s : State) (r q : Reg) (i j k : Nat) (h : q ≠ r) :
    (s.countWrap r i k).reg q j = s.reg q j := s.reg_setReg_other _ _ _ _ _ h

@[simp] theorem State.reg_setPair_other (s : State) (lo hi q : Reg) (i j v : Nat) (h : q ≠ lo) (h' : q ≠ hi) :
    (s.setPair lo hi i v).reg q j = s.reg q j := by
  simp [State.setPair, h, h']

theorem State.reg_resetReg (s : State) (r q : Reg) (i j : Nat) :
    (s.resetReg r i).reg q j = if r = q ∧ i = j then resetWord s.variant q j else s.reg q j := by
  unfold State.resetReg State.reg tdel
  by_cases h : r = q ∧ i = j
  · obtain ⟨rfl, rfl⟩ := h
    rw [tfind_filter_none _ _ _ (by simp)]; simp
  · have e : regKey r i ≠ regKey q j := fun e => h (regKey_inj e)
    rw [tfind_filter _ _ _ (by simp [Ne.symm e])]; simp [h]

/-- A register outside a bulk reset keeps its value. -/
theorem State.reg_resetRegs_other (s : State) (rs : List Reg) (p : Nat → Bool) (q : Reg) (j : Nat)
    (h : q ∉ rs ∨ p j = false) : (s.resetRegs rs p).reg q j = s.reg q j := by
  have hl := ctorIdx_lt q
  have k1 : regKey q j % 1024 = q.ctorIdx := by unfold regKey; omega
  have k2 : regKey q j / 1024 = j := by unfold regKey; omega
  unfold State.resetRegs State.reg
  rw [tfind_filter]
  intro v
  simp only [k1, k2, Bool.not_eq_true', Bool.and_eq_false_iff]
  rcases h with h | h
  · left
    rw [List.contains_eq_mem]
    simp only [decide_eq_false_iff_not, List.mem_map, not_exists, not_and]
    intro x hx e
    exact h (ctorIdx_inj e ▸ hx)
  · exact Or.inr h

/-- A register inside a bulk reset returns to its reset value. -/
theorem State.reg_resetRegs_in (s : State) (rs : List Reg) (p : Nat → Bool) (q : Reg) (j : Nat)
    (h : q ∈ rs) (hp : p j = true) : (s.resetRegs rs p).reg q j = resetWord s.variant q j := by
  have hl := ctorIdx_lt q
  have k1 : regKey q j % 1024 = q.ctorIdx := by unfold regKey; omega
  have k2 : regKey q j / 1024 = j := by unfold regKey; omega
  unfold State.resetRegs State.reg
  rw [tfind_filter_none]
  · rfl
  · intro v
    simp only [k1, k2, hp, Bool.and_true, Bool.not_eq_false', List.contains_eq_mem, decide_eq_true_eq]
    exact List.mem_map_of_mem h

/-! ### Fields of a word -/

theorem testBit_fieldMask (hi lo k : Nat) : (fieldMask hi lo).testBit k = (decide (lo ≤ k) && decide (k < hi + 1 - lo + lo)) := by
  unfold fieldMask
  rw [Nat.testBit_shiftLeft, Nat.testBit_two_pow_sub_one]
  by_cases h : lo ≤ k <;> simp [h]; omega

theorem testBit_bits (w : Word) (hi lo k : Nat) :
    (bits w hi lo).testBit k = (decide (k < hi + 1 - lo) && w.toNat.testBit (lo + k)) := by
  unfold bits
  rw [Nat.testBit_mod_two_pow, Nat.testBit_shiftRight]

theorem getLsbD_putBits (w : Word) (hi lo v k : Nat) (hk : k < 32) :
    (putBits w hi lo v).getLsbD k =
      if lo ≤ k ∧ k < hi + 1 - lo + lo then v.testBit (k - lo) else w.getLsbD k := by
  unfold putBits
  simp only [BitVec.getLsbD_or, BitVec.getLsbD_and, BitVec.getLsbD_not, BitVec.getLsbD_ofNat, hk, decide_true, Bool.true_and,
    testBit_fieldMask, Nat.testBit_shiftLeft, Nat.testBit_mod_two_pow]
  by_cases h1 : lo ≤ k
  · by_cases h2 : k < hi + 1 - lo + lo
    · have : k - lo < hi + 1 - lo := by omega
      simp [h1, h2, this]
    · have : ¬ k - lo < hi + 1 - lo := by omega
      simp [h1, h2, this]
  · simp [h1]

/-- The field just put reads as the value put, cut to its width. -/
theorem bits_putBits_same (w : Word) (hi lo v : Nat) (h : hi < 32) : bits (putBits w hi lo v) hi lo = v % 2 ^ (hi + 1 - lo) := by
  apply Nat.eq_of_testBit_eq
  intro k
  rw [testBit_bits, Nat.testBit_mod_two_pow]
  by_cases hk : k < hi + 1 - lo
  · have : (putBits w hi lo v).toNat.testBit (lo + k) = (putBits w hi lo v).getLsbD (lo + k) := rfl
    rw [this, getLsbD_putBits _ _ _ _ _ (by omega)]
    simp [hk]; omega
  · simp [hk]

/-- A field that does not meet the one put reads as before. -/
theorem bits_putBits_apart (w : Word) (hi lo v hi' lo' : Nat) (h : hi' < 32) (ha : hi' < lo ∨ hi < lo') :
    bits (putBits w hi lo v) hi' lo' = bits w hi' lo' := by
  apply Nat.eq_of_testBit_eq
  intro k
  rw [testBit_bits, testBit_bits]
  by_cases hk : k < hi' + 1 - lo'
  · have e : ∀ x : Word, x.toNat.testBit (lo' + k) = x.getLsbD (lo' + k) := fun _ => rfl
    rw [e, e, getLsbD_putBits _ _ _ _ _ (by omega)]
    have : ¬ (lo ≤ lo' + k ∧ lo' + k < hi + 1 - lo + lo) := by omega
    simp [this]
  · simp [hk]

@[simp] theorem State.fld_setFld_same (s : State) (r : Reg) (i hi lo v : Nat) (h : hi < 32) :
    (s.setFld r i hi lo v).fld r i hi lo = v % 2 ^ (hi + 1 - lo) := by
  simp [State.fld, bits_putBits_same _ _ _ _ h]

@[simp] theorem State.fld_setFld_apart (s : State) (r : Reg) (i hi lo v hi' lo' : Nat) (h : hi' < 32) (ha : hi' < lo ∨ hi < lo') :
    (s.setFld r i hi lo v).fld r i hi' lo' = s.fld r i hi' lo' := by
  simp [State.fld, bits_putBits_apart _ _ _ _ _ _ h ha]

@[simp] theorem State.fld_setFld_other (s : State) (r q : Reg) (i j hi lo v hi' lo' : Nat) (h : q ≠ r) :
    (s.setFld r i hi lo v).fld q j hi' lo' = s.fld q j hi' lo' := by
  simp [State.fld, h]

@[simp] theorem State.fld_setReg_same (s : State) (r : Reg) (i : Nat) (w : Word) (hi lo : Nat) :
    (s.setReg r i w).fld r i hi lo = bits w hi lo := by
  simp [State.fld]

@[simp] theorem State.fld_setReg_other (s : State) (r q : Reg) (i j : Nat) (w : Word) (hi lo : Nat) (h : q ≠ r) :
    (s.setReg r i w).fld q j hi lo = s.fld q j hi lo := by
  simp [State.fld, h]

@[simp] theorem State.bit_setBit_same (s : State) (r : Reg) (i b : Nat) (v : Bool) (h : b < 32) :
    (s.setBit r i b v).bit r i b = v := by
  unfold State.bit
  rw [State.reg_setBit_same, bits_putBits_same _ _ _ _ h]
  cases v <;> simp [b2n]

@[simp] theorem State.bit_setBit_apart (s : State) (r : Reg) (i b c : Nat) (v : Bool) (h : c < 32) (hb : b ≠ c) :
    (s.setBit r i b v).bit r i c = s.bit r i c := by
  unfold State.bit
  rw [State.reg_setBit_same, bits_putBits_apart _ _ _ _ _ _ h (by omega)]

@[simp] theorem State.bit_setBit_other (s : State) (r q : Reg) (i j b c : Nat) (v : Bool) (h : q ≠ r) :
    (s.setBit r i b v).bit q j c = s.bit q j c := by
  simp [State.bit, h]

@[simp] theorem State.bit_setFld_apart (s : State) (r : Reg) (i hi lo v c : Nat) (h : c < 32) (ha : c < lo ∨ hi < c) :
    (s.setFld r i hi lo v).bit r i c = s.bit r i c := by
  unfold State.bit
  rw [State.reg_setFld_same, bits_putBits_apart _ _ _ _ _ _ h ha]

@[simp] theorem State.bit_setFld_other (s : State) (r q : Reg) (i j hi lo v c : Nat) (h : q ≠ r) :
    (s.setFld r i hi lo v).bit q j c = s.bit q j c := by
  simp [State.bit, h]

@[simp] theorem State.fld_setBit_apart (s : State) (r : Reg) (i b hi lo : Nat) (v : Bool) (h : hi < 32) (ha : hi < b ∨ b < lo) :
    (s.setBit r i b v).fld r i hi lo = s.fld r i hi lo := by
  unfold State.fld
  rw [State.reg_setBit_same, bits_putBits_apart _ _ _ _ _ _ h (by omega)]

@[simp] theorem State.fld_setBit_other (s : State) (r q : Reg) (i j b hi lo : Nat) (v : Bool) (h : q ≠ r) :
    (s.setBit r i b v).fld q j hi lo = s.fld q j hi lo := by
  simp [State.fld, h]

end Sys2Proof.Machine
end

