-- ==== Sys2Proof/Laws/Events.lean ====
section
/-!
SUPPORT. What the shared operations every command goes through can do: time passing, interrupt sources, the error history, and
the access of software to a register.
-/

namespace Sys2Proof.Machine

/-! ### The passage of time -/

/-- No register changes when `op` is carried out for each element of a list, if none changes at one. -/
theorem State.forEach_reg {α : Type} (l : List α) (f : α → State → State) (s : State) (q : Reg) (j : Nat)
    (h : ∀ a s, (f a s).reg q j = s.reg q j) : (State.forEach l f s).reg q j = s.reg q j := by
  induction l generalizing s with
  | nil => rfl
  | cons a l ih => exact (ih (f a s)).trans (h a s)

/-- A field that no step of a loop changes is unchanged. -/
theorem State.forEach_field {α β : Type} (l : List α) (f : α → State → State) (s : State) (g : State → β)
    (h : ∀ a s, g (f a s) = g s) : g (State.forEach l f s) = g s := by
  induction l generalizing s with
  | nil => rfl
  | cons a l ih => exact (ih (f a s)).trans (h a s)

/-- `settleIdle` writes the power table and nothing else. -/
theorem State.settleIdle_field {β : Type} (g : State → β) (h : ∀ s n p, g (State.setPower s n p) = g s) (s : State) (t : Nat) :
    g (s.settleIdle t) = g s := by
  unfold State.settleIdle
  split
  · exact State.forEach_field _ _ _ g (fun n s => by dsimp only; split <;> [exact h _ _ _; (split <;> [exact h _ _ _; rfl])])
  · rfl

/-- Time that passes touches the cc, the interrupt sources and the idle times, nothing else. -/
theorem State.pass_field {β : Type} (g : State → β) (h : ∀ s n p, g (State.setPower s n p) = g s)
    (hn : ∀ s n i, g { s with now := n, irq := i } = g s) (s : State) (dt : Nat) : g (s.pass dt) = g s := by
  unfold State.pass
  split
  · rfl
  · exact (hn _ _ _).trans (State.settleIdle_field g h s _)

@[simp] theorem State.pass_reg (s : State) (dt : Nat) (q : Reg) (j : Nat) : (s.pass dt).reg q j = s.reg q j :=
  State.pass_field (fun s => s.reg q j) (fun _ _ _ => rfl) (fun _ _ _ => rfl) s dt
@[simp] theorem State.pass_variant (s : State) (dt : Nat) : (s.pass dt).variant = s.variant :=
  State.pass_field (·.variant) (fun _ _ _ => rfl) (fun _ _ _ => rfl) s dt
@[simp] theorem State.pass_regs (s : State) (dt : Nat) : (s.pass dt).regs = s.regs :=
  State.pass_field (·.regs) (fun _ _ _ => rfl) (fun _ _ _ => rfl) s dt
@[simp] theorem State.pass_snap (s : State) (dt : Nat) : (s.pass dt).snap = s.snap :=
  State.pass_field (·.snap) (fun _ _ _ => rfl) (fun _ _ _ => rfl) s dt
@[simp] theorem State.pass_mem (s : State) (dt : Nat) : (s.pass dt).mem = s.mem :=
  State.pass_field (·.mem) (fun _ _ _ => rfl) (fun _ _ _ => rfl) s dt
@[simp] theorem State.pass_xl (s : State) (dt : Nat) : (s.pass dt).xl = s.xl :=
  State.pass_field (·.xl) (fun _ _ _ => rfl) (fun _ _ _ => rfl) s dt
@[simp] theorem State.pass_clap (s : State) (dt : Nat) : (s.pass dt).clap = s.clap :=
  State.pass_field (·.clap) (fun _ _ _ => rfl) (fun _ _ _ => rfl) s dt
@[simp] theorem State.pass_play (s : State) (dt : Nat) : (s.pass dt).play = s.play :=
  State.pass_field (·.play) (fun _ _ _ => rfl) (fun _ _ _ => rfl) s dt
@[simp] theorem State.pass_scr (s : State) (dt : Nat) : (s.pass dt).scr = s.scr :=
  State.pass_field (·.scr) (fun _ _ _ => rfl) (fun _ _ _ => rfl) s dt
@[simp] theorem State.pass_rd (s : State) (dt : Nat) : (s.pass dt).rd = s.rd :=
  State.pass_field (·.rd) (fun _ _ _ => rfl) (fun _ _ _ => rfl) s dt
@[simp] theorem State.pass_krn (s : State) (dt : Nat) : (s.pass dt).krn = s.krn :=
  State.pass_field (·.krn) (fun _ _ _ => rfl) (fun _ _ _ => rfl) s dt
@[simp] theorem State.pass_fab (s : State) (dt : Nat) : (s.pass dt).fab = s.fab :=
  State.pass_field (·.fab) (fun _ _ _ => rfl) (fun _ _ _ => rfl) s dt
@[simp] theorem State.pass_take (s : State) (dt : Nat) : (s.pass dt).take = s.take :=
  State.pass_field (·.take) (fun _ _ _ => rfl) (fun _ _ _ => rfl) s dt
@[simp] theorem State.pass_cal (s : State) (dt : Nat) : (s.pass dt).cal = s.cal :=
  State.pass_field (·.cal) (fun _ _ _ => rfl) (fun _ _ _ => rfl) s dt
@[simp] theorem State.pass_bias (s : State) (dt : Nat) : (s.pass dt).bias = s.bias :=
  State.pass_field (·.bias) (fun _ _ _ => rfl) (fun _ _ _ => rfl) s dt
@[simp] theorem State.pass_router (s : State) (dt : Nat) : (s.pass dt).router = s.router :=
  State.pass_field (·.router) (fun _ _ _ => rfl) (fun _ _ _ => rfl) s dt
@[simp] theorem State.pass_cut (s : State) (dt : Nat) : (s.pass dt).cut = s.cut :=
  State.pass_field (·.cut) (fun _ _ _ => rfl) (fun _ _ _ => rfl) s dt
@[simp] theorem State.pass_grip (s : State) (dt : Nat) : (s.pass dt).grip = s.grip :=
  State.pass_field (·.grip) (fun _ _ _ => rfl) (fun _ _ _ => rfl) s dt
@[simp] theorem State.pass_host (s : State) (dt : Nat) : (s.pass dt).host = s.host :=
  State.pass_field (·.host) (fun _ _ _ => rfl) (fun _ _ _ => rfl) s dt
@[simp] theorem State.pass_lnk (s : State) (dt : Nat) : (s.pass dt).lnk = s.lnk :=
  State.pass_field (·.lnk) (fun _ _ _ => rfl) (fun _ _ _ => rfl) s dt
@[simp] theorem State.pass_served (s : State) (dt : Nat) : (s.pass dt).served = s.served :=
  State.pass_field (·.served) (fun _ _ _ => rfl) (fun _ _ _ => rfl) s dt
@[simp] theorem State.pass_od (s : State) (dt : Nat) : (s.pass dt).od = s.od :=
  State.pass_field (·.od) (fun _ _ _ => rfl) (fun _ _ _ => rfl) s dt
@[simp] theorem State.pass_flash (s : State) (dt : Nat) : (s.pass dt).flash = s.flash :=
  State.pass_field (·.flash) (fun _ _ _ => rfl) (fun _ _ _ => rfl) s dt
@[simp] theorem State.pass_time (s : State) (dt : Nat) : (s.pass dt).time = s.time :=
  State.pass_field (·.time) (fun _ _ _ => rfl) (fun _ _ _ => rfl) s dt
@[simp] theorem State.pass_health (s : State) (dt : Nat) : (s.pass dt).health = s.health :=
  State.pass_field (·.health) (fun _ _ _ => rfl) (fun _ _ _ => rfl) s dt
@[simp] theorem State.pass_jtag (s : State) (dt : Nat) : (s.pass dt).jtag = s.jtag :=
  State.pass_field (·.jtag) (fun _ _ _ => rfl) (fun _ _ _ => rfl) s dt
@[simp] theorem State.pass_freeCtr (s : State) (dt : Nat) : (s.pass dt).freeCtr = s.freeCtr :=
  State.pass_field (·.freeCtr) (fun _ _ _ => rfl) (fun _ _ _ => rfl) s dt
@[simp] theorem State.pass_out (s : State) (dt : Nat) : (s.pass dt).out = s.out :=
  State.pass_field (·.out) (fun _ _ _ => rfl) (fun _ _ _ => rfl) s dt
@[simp] theorem State.pass_pending (s : State) (dt : Nat) : (s.pass dt).pending = s.pending :=
  State.pass_field (·.pending) (fun _ _ _ => rfl) (fun _ _ _ => rfl) s dt

@[simp] theorem State.pass_now (s : State) (dt : Nat) : (s.pass dt).now = s.now + dt := by
  have hn : ∀ t, (s.settleIdle t).now = s.now := fun t => State.settleIdle_field (·.now) (fun _ _ _ => rfl) s t
  by_cases h : dt = 0 <;> simp [State.pass, h, hn]

@[simp] theorem State.pass_zero (s : State) : s.pass 0 = s := by simp [State.pass]

/-! ### Interrupt sources and the error history -/

/-- Recording a fault touches the error history, its count and the free values, nothing else. -/
theorem State.logFault_field {β : Type} (g : State → β) (h : ∀ s o v, g { s with od := o, served := v } = g s)
    (hf : ∀ s n, g { s with freeCtr := n } = g s) (s : State) (k : Nat) : g (s.logFault k) = g s := by
  unfold State.logFault
  split
  · rfl
  · split <;> first | exact h _ _ _ | exact (h _ _ _).trans (hf _ _)

/-- An interrupt source raised touches the controller and the error history, nothing else. -/
theorem State.raise_field {β : Type} (g : State → β) (h : ∀ s o v, g { s with od := o, served := v } = g s)
    (hf : ∀ s n, g { s with freeCtr := n } = g s) (hi : ∀ s i, g { s with irq := i } = g s) (s : State) (k : Nat) :
    g (s.raise k) = g s := by
  unfold State.raise
  split
  · exact (State.logFault_field g h hf _ _).trans (hi _ _)
  · rfl

/-- The same for the line of a level source. -/
theorem State.setLine_field {β : Type} (g : State → β) (h : ∀ s o v, g { s with od := o, served := v } = g s)
    (hf : ∀ s n, g { s with freeCtr := n } = g s) (hi : ∀ s i, g { s with irq := i } = g s) (s : State) (k : Nat) (on : Bool) :
    g (s.setLine k on) = g s := by
  unfold State.setLine
  split
  · dsimp only; split
    · exact (State.logFault_field g h hf _ _).trans (hi _ _)
    · exact hi _ _
  · rfl

@[simp] theorem State.raise_reg (s : State) (k : Nat) (q : Reg) (j : Nat) : (s.raise k).reg q j = s.reg q j :=
  State.raise_field (fun s => s.reg q j) (fun _ _ _ => rfl) (fun _ _ => rfl) (fun _ _ => rfl) s k
@[simp] theorem State.setLine_reg (s : State) (k : Nat) (on : Bool) (q : Reg) (j : Nat) : (s.setLine k on).reg q j = s.reg q j :=
  State.setLine_field (fun s => s.reg q j) (fun _ _ _ => rfl) (fun _ _ => rfl) (fun _ _ => rfl) s k on
@[simp] theorem State.raise_variant (s : State) (k : Nat) : (s.raise k).variant = s.variant :=
  State.raise_field (·.variant) (fun _ _ _ => rfl) (fun _ _ => rfl) (fun _ _ => rfl) s k
@[simp] theorem State.raise_now (s : State) (k : Nat) : (s.raise k).now = s.now :=
  State.raise_field (·.now) (fun _ _ _ => rfl) (fun _ _ => rfl) (fun _ _ => rfl) s k
@[simp] theorem State.raise_regs (s : State) (k : Nat) : (s.raise k).regs = s.regs :=
  State.raise_field (·.regs) (fun _ _ _ => rfl) (fun _ _ => rfl) (fun _ _ => rfl) s k
@[simp] theorem State.raise_snap (s : State) (k : Nat) : (s.raise k).snap = s.snap :=
  State.raise_field (·.snap) (fun _ _ _ => rfl) (fun _ _ => rfl) (fun _ _ => rfl) s k
@[simp] theorem State.raise_mem (s : State) (k : Nat) : (s.raise k).mem = s.mem :=
  State.raise_field (·.mem) (fun _ _ _ => rfl) (fun _ _ => rfl) (fun _ _ => rfl) s k
@[simp] theorem State.raise_xl (s : State) (k : Nat) : (s.raise k).xl = s.xl :=
  State.raise_field (·.xl) (fun _ _ _ => rfl) (fun _ _ => rfl) (fun _ _ => rfl) s k
@[simp] theorem State.raise_clap (s : State) (k : Nat) : (s.raise k).clap = s.clap :=
  State.raise_field (·.clap) (fun _ _ _ => rfl) (fun _ _ => rfl) (fun _ _ => rfl) s k
@[simp] theorem State.raise_play (s : State) (k : Nat) : (s.raise k).play = s.play :=
  State.raise_field (·.play) (fun _ _ _ => rfl) (fun _ _ => rfl) (fun _ _ => rfl) s k
@[simp] theorem State.raise_scr (s : State) (k : Nat) : (s.raise k).scr = s.scr :=
  State.raise_field (·.scr) (fun _ _ _ => rfl) (fun _ _ => rfl) (fun _ _ => rfl) s k
@[simp] theorem State.raise_rd (s : State) (k : Nat) : (s.raise k).rd = s.rd :=
  State.raise_field (·.rd) (fun _ _ _ => rfl) (fun _ _ => rfl) (fun _ _ => rfl) s k
@[simp] theorem State.raise_krn (s : State) (k : Nat) : (s.raise k).krn = s.krn :=
  State.raise_field (·.krn) (fun _ _ _ => rfl) (fun _ _ => rfl) (fun _ _ => rfl) s k
@[simp] theorem State.raise_fab (s : State) (k : Nat) : (s.raise k).fab = s.fab :=
  State.raise_field (·.fab) (fun _ _ _ => rfl) (fun _ _ => rfl) (fun _ _ => rfl) s k
@[simp] theorem State.raise_take (s : State) (k : Nat) : (s.raise k).take = s.take :=
  State.raise_field (·.take) (fun _ _ _ => rfl) (fun _ _ => rfl) (fun _ _ => rfl) s k
@[simp] theorem State.raise_cal (s : State) (k : Nat) : (s.raise k).cal = s.cal :=
  State.raise_field (·.cal) (fun _ _ _ => rfl) (fun _ _ => rfl) (fun _ _ => rfl) s k
@[simp] theorem State.raise_bias (s : State) (k : Nat) : (s.raise k).bias = s.bias :=
  State.raise_field (·.bias) (fun _ _ _ => rfl) (fun _ _ => rfl) (fun _ _ => rfl) s k
@[simp] theorem State.raise_router (s : State) (k : Nat) : (s.raise k).router = s.router :=
  State.raise_field (·.router) (fun _ _ _ => rfl) (fun _ _ => rfl) (fun _ _ => rfl) s k
@[simp] theorem State.raise_cut (s : State) (k : Nat) : (s.raise k).cut = s.cut :=
  State.raise_field (·.cut) (fun _ _ _ => rfl) (fun _ _ => rfl) (fun _ _ => rfl) s k
@[simp] theorem State.raise_grip (s : State) (k : Nat) : (s.raise k).grip = s.grip :=
  State.raise_field (·.grip) (fun _ _ _ => rfl) (fun _ _ => rfl) (fun _ _ => rfl) s k
@[simp] theorem State.raise_host (s : State) (k : Nat) : (s.raise k).host = s.host :=
  State.raise_field (·.host) (fun _ _ _ => rfl) (fun _ _ => rfl) (fun _ _ => rfl) s k
@[simp] theorem State.raise_lnk (s : State) (k : Nat) : (s.raise k).lnk = s.lnk :=
  State.raise_field (·.lnk) (fun _ _ _ => rfl) (fun _ _ => rfl) (fun _ _ => rfl) s k
@[simp] theorem State.raise_flash (s : State) (k : Nat) : (s.raise k).flash = s.flash :=
  State.raise_field (·.flash) (fun _ _ _ => rfl) (fun _ _ => rfl) (fun _ _ => rfl) s k
@[simp] theorem State.raise_time (s : State) (k : Nat) : (s.raise k).time = s.time :=
  State.raise_field (·.time) (fun _ _ _ => rfl) (fun _ _ => rfl) (fun _ _ => rfl) s k
@[simp] theorem State.raise_power (s : State) (k : Nat) : (s.raise k).power = s.power :=
  State.raise_field (·.power) (fun _ _ _ => rfl) (fun _ _ => rfl) (fun _ _ => rfl) s k
@[simp] theorem State.raise_health (s : State) (k : Nat) : (s.raise k).health = s.health :=
  State.raise_field (·.health) (fun _ _ _ => rfl) (fun _ _ => rfl) (fun _ _ => rfl) s k
@[simp] theorem State.raise_jtag (s : State) (k : Nat) : (s.raise k).jtag = s.jtag :=
  State.raise_field (·.jtag) (fun _ _ _ => rfl) (fun _ _ => rfl) (fun _ _ => rfl) s k
@[simp] theorem State.raise_out (s : State) (k : Nat) : (s.raise k).out = s.out :=
  State.raise_field (·.out) (fun _ _ _ => rfl) (fun _ _ => rfl) (fun _ _ => rfl) s k
@[simp] theorem State.raise_pending (s : State) (k : Nat) : (s.raise k).pending = s.pending :=
  State.raise_field (·.pending) (fun _ _ _ => rfl) (fun _ _ => rfl) (fun _ _ => rfl) s k
@[simp] theorem State.setLine_variant (s : State) (k : Nat) (on : Bool) : (s.setLine k on).variant = s.variant :=
  State.setLine_field (·.variant) (fun _ _ _ => rfl) (fun _ _ => rfl) (fun _ _ => rfl) s k on
@[simp] theorem State.setLine_now (s : State) (k : Nat) (on : Bool) : (s.setLine k on).now = s.now :=
  State.setLine_field (·.now) (fun _ _ _ => rfl) (fun _ _ => rfl) (fun _ _ => rfl) s k on
@[simp] theorem State.setLine_regs (s : State) (k : Nat) (on : Bool) : (s.setLine k on).regs = s.regs :=
  State.setLine_field (·.regs) (fun _ _ _ => rfl) (fun _ _ => rfl) (fun _ _ => rfl) s k on
@[simp] theorem State.setLine_snap (s : State) (k : Nat) (on : Bool) : (s.setLine k on).snap = s.snap :=
  State.setLine_field (·.snap) (fun _ _ _ => rfl) (fun _ _ => rfl) (fun _ _ => rfl) s k on
@[simp] theorem State.setLine_mem (s : State) (k : Nat) (on : Bool) : (s.setLine k on).mem = s.mem :=
  State.setLine_field (·.mem) (fun _ _ _ => rfl) (fun _ _ => rfl) (fun _ _ => rfl) s k on
@[simp] theorem State.setLine_xl (s : State) (k : Nat) (on : Bool) : (s.setLine k on).xl = s.xl :=
  State.setLine_field (·.xl) (fun _ _ _ => rfl) (fun _ _ => rfl) (fun _ _ => rfl) s k on
@[simp] theorem State.setLine_clap (s : State) (k : Nat) (on : Bool) : (s.setLine k on).clap = s.clap :=
  State.setLine_field (·.clap) (fun _ _ _ => rfl) (fun _ _ => rfl) (fun _ _ => rfl) s k on
@[simp] theorem State.setLine_play (s : State) (k : Nat) (on : Bool) : (s.setLine k on).play = s.play :=
  State.setLine_field (·.play) (fun _ _ _ => rfl) (fun _ _ => rfl) (fun _ _ => rfl) s k on
@[simp] theorem State.setLine_scr (s : State) (k : Nat) (on : Bool) : (s.setLine k on).scr = s.scr :=
  State.setLine_field (·.scr) (fun _ _ _ => rfl) (fun _ _ => rfl) (fun _ _ => rfl) s k on
@[simp] theorem State.setLine_rd (s : State) (k : Nat) (on : Bool) : (s.setLine k on).rd = s.rd :=
  State.setLine_field (·.rd) (fun _ _ _ => rfl) (fun _ _ => rfl) (fun _ _ => rfl) s k on
@[simp] theorem State.setLine_krn (s : State) (k : Nat) (on : Bool) : (s.setLine k on).krn = s.krn :=
  State.setLine_field (·.krn) (fun _ _ _ => rfl) (fun _ _ => rfl) (fun _ _ => rfl) s k on
@[simp] theorem State.setLine_fab (s : State) (k : Nat) (on : Bool) : (s.setLine k on).fab = s.fab :=
  State.setLine_field (·.fab) (fun _ _ _ => rfl) (fun _ _ => rfl) (fun _ _ => rfl) s k on
@[simp] theorem State.setLine_take (s : State) (k : Nat) (on : Bool) : (s.setLine k on).take = s.take :=
  State.setLine_field (·.take) (fun _ _ _ => rfl) (fun _ _ => rfl) (fun _ _ => rfl) s k on
@[simp] theorem State.setLine_cal (s : State) (k : Nat) (on : Bool) : (s.setLine k on).cal = s.cal :=
  State.setLine_field (·.cal) (fun _ _ _ => rfl) (fun _ _ => rfl) (fun _ _ => rfl) s k on
@[simp] theorem State.setLine_bias (s : State) (k : Nat) (on : Bool) : (s.setLine k on).bias = s.bias :=
  State.setLine_field (·.bias) (fun _ _ _ => rfl) (fun _ _ => rfl) (fun _ _ => rfl) s k on
@[simp] theorem State.setLine_router (s : State) (k : Nat) (on : Bool) : (s.setLine k on).router = s.router :=
  State.setLine_field (·.router) (fun _ _ _ => rfl) (fun _ _ => rfl) (fun _ _ => rfl) s k on
@[simp] theorem State.setLine_cut (s : State) (k : Nat) (on : Bool) : (s.setLine k on).cut = s.cut :=
  State.setLine_field (·.cut) (fun _ _ _ => rfl) (fun _ _ => rfl) (fun _ _ => rfl) s k on
@[simp] theorem State.setLine_grip (s : State) (k : Nat) (on : Bool) : (s.setLine k on).grip = s.grip :=
  State.setLine_field (·.grip) (fun _ _ _ => rfl) (fun _ _ => rfl) (fun _ _ => rfl) s k on
@[simp] theorem State.setLine_host (s : State) (k : Nat) (on : Bool) : (s.setLine k on).host = s.host :=
  State.setLine_field (·.host) (fun _ _ _ => rfl) (fun _ _ => rfl) (fun _ _ => rfl) s k on
@[simp] theorem State.setLine_lnk (s : State) (k : Nat) (on : Bool) : (s.setLine k on).lnk = s.lnk :=
  State.setLine_field (·.lnk) (fun _ _ _ => rfl) (fun _ _ => rfl) (fun _ _ => rfl) s k on
@[simp] theorem State.setLine_flash (s : State) (k : Nat) (on : Bool) : (s.setLine k on).flash = s.flash :=
  State.setLine_field (·.flash) (fun _ _ _ => rfl) (fun _ _ => rfl) (fun _ _ => rfl) s k on
@[simp] theorem State.setLine_time (s : State) (k : Nat) (on : Bool) : (s.setLine k on).time = s.time :=
  State.setLine_field (·.time) (fun _ _ _ => rfl) (fun _ _ => rfl) (fun _ _ => rfl) s k on
@[simp] theorem State.setLine_power (s : State) (k : Nat) (on : Bool) : (s.setLine k on).power = s.power :=
  State.setLine_field (·.power) (fun _ _ _ => rfl) (fun _ _ => rfl) (fun _ _ => rfl) s k on
@[simp] theorem State.setLine_health (s : State) (k : Nat) (on : Bool) : (s.setLine k on).health = s.health :=
  State.setLine_field (·.health) (fun _ _ _ => rfl) (fun _ _ => rfl) (fun _ _ => rfl) s k on
@[simp] theorem State.setLine_jtag (s : State) (k : Nat) (on : Bool) : (s.setLine k on).jtag = s.jtag :=
  State.setLine_field (·.jtag) (fun _ _ _ => rfl) (fun _ _ => rfl) (fun _ _ => rfl) s k on
@[simp] theorem State.setLine_out (s : State) (k : Nat) (on : Bool) : (s.setLine k on).out = s.out :=
  State.setLine_field (·.out) (fun _ _ _ => rfl) (fun _ _ => rfl) (fun _ _ => rfl) s k on
@[simp] theorem State.setLine_pending (s : State) (k : Nat) (on : Bool) : (s.setLine k on).pending = s.pending :=
  State.setLine_field (·.pending) (fun _ _ _ => rfl) (fun _ _ => rfl) (fun _ _ => rfl) s k on

/-! ### Reading fields through them -/

theorem State.fld_congr {s t : State} {r : Reg} {i hi lo : Nat} (h : t.reg r i = s.reg r i) : t.fld r i hi lo = s.fld r i hi lo := by
  simp [State.fld, h]

theorem State.bit_congr {s t : State} {r : Reg} {i b : Nat} (h : t.reg r i = s.reg r i) : t.bit r i b = s.bit r i b := by
  simp [State.bit, h]

@[simp] theorem State.pass_fld (s : State) (dt : Nat) (r : Reg) (i hi lo : Nat) : (s.pass dt).fld r i hi lo = s.fld r i hi lo :=
  State.fld_congr (s.pass_reg dt r i)
@[simp] theorem State.pass_bit (s : State) (dt : Nat) (r : Reg) (i b : Nat) : (s.pass dt).bit r i b = s.bit r i b :=
  State.bit_congr (s.pass_reg dt r i)
@[simp] theorem State.raise_fld (s : State) (k : Nat) (r : Reg) (i hi lo : Nat) : (s.raise k).fld r i hi lo = s.fld r i hi lo :=
  State.fld_congr (s.raise_reg k r i)
@[simp] theorem State.raise_bit (s : State) (k : Nat) (r : Reg) (i b : Nat) : (s.raise k).bit r i b = s.bit r i b :=
  State.bit_congr (s.raise_reg k r i)

/-! ### Accesses -/

/-- An access that passes its gate carries out its operation. -/
theorem State.access_open (s : State) (who : Requester) (a : Nat) (op : State → State)
    (hc : s.canAccess who = true) (hg : s.gate who a = .open) : s.access who a op = op (s.throughOpen who a) := by
  simp [State.access, hc, hg]

/-- A read that passes its gate presents the word its operation answers. -/
theorem State.accessRead_open (s : State) (who : Requester) (a : Nat) (op : State → BitVec 64 × State)
    (hc : s.canAccess who = true) (hg : s.gate who a = .open) :
    s.accessRead who a op = (op (s.throughOpen who a)).2.emit (.readData who (op (s.throughOpen who a)).1) := by
  simp [State.accessRead, hc, hg]

/-- Outside the region windows an access that passes changes nothing but `HIF_LINK.L1`. -/
theorem State.throughOpen_hub (s : State) (who : Requester) (a : Nat) (h : a < 0x0800_0000) :
    s.throughOpen who a = s.onLink who := by
  simp [State.throughOpen, windowRegion, h]

theorem State.onLink_reg (s : State) (who : Requester) (q : Reg) (j : Nat) (h : q ≠ .HIF_LINK) :
    (s.onLink who).reg q j = s.reg q j := by
  unfold State.onLink State.leaveL1
  split
  · split
    · exact State.reg_setBit_other _ _ _ _ _ _ _ h
    · rfl
  · rfl

end Sys2Proof.Machine
end

