-- ==== Sys2Proof/Laws/Memory.lean ====
section
/-!
SUPPORT. Memory: every operation keeps the canonical form; a byte written reads back and every other byte reads as before.
-/

namespace Sys2Proof.Machine

/-- The canonical form, as a property of all entries. -/
theorem Memory.wf_iff (m : List Host.Cell) :
    Memory.wf m = true ↔ (∀ c ∈ m, c.2 ≠ memDefault) ∧ m.Pairwise (fun c d => c.1 < d.1) := by
  induction m with
  | nil => simp [Memory.wf]
  | cons c t ih =>
    obtain ⟨a, v⟩ := c
    cases t with
    | nil => simp [Memory.wf]
    | cons d t =>
      obtain ⟨a', v'⟩ := d
      simp only [Memory.wf, Bool.and_eq_true, bne_iff_ne, decide_eq_true_eq, ih]
      constructor
      · rintro ⟨⟨h1, h2⟩, h3, h4⟩
        refine ⟨by simpa using ⟨h1, by simpa using h3⟩, List.pairwise_cons.2 ⟨?_, h4⟩⟩
        intro c hc
        rcases List.mem_cons.1 hc with rfl | hc
        · exact h2
        · exact Nat.lt_trans h2 ((List.pairwise_cons.1 h4).1 c hc)
      · rintro ⟨h1, h2⟩
        have h3 := List.pairwise_cons.1 h2
        exact ⟨⟨h1 (a, v) (by simp), h3.1 (a', v') (by simp)⟩, fun c hc => h1 c (by simp [hc]), h3.2⟩

theorem mem_memSet {m : List Host.Cell} {a : Nat} {v : Byte} {c : Host.Cell} (h : c ∈ memSet m a v) :
    c ∈ m ∨ (c = (a, v) ∧ v ≠ memDefault) := by
  induction m with
  | nil =>
    unfold memSet at h
    split at h
    · simp at h
    · exact Or.inr ⟨by simpa using h, ‹_›⟩
  | cons d t ih =>
    obtain ⟨a', v'⟩ := d
    unfold memSet at h
    split at h
    · split at h
      · exact Or.inl (by simp [h])
      · rcases List.mem_cons.1 h with h | h
        · exact Or.inr ⟨h, ‹_›⟩
        · exact Or.inl (by simp [h])
    · split at h
      · split at h
        · exact Or.inl h
        · rcases List.mem_cons.1 h with h | h
          · exact Or.inr ⟨h, ‹_›⟩
          · exact Or.inl h
      · rcases List.mem_cons.1 h with h | h
        · exact Or.inl (by simp [h])
        · rcases ih h with h | h
          · exact Or.inl (by simp [h])
          · exact Or.inr h

/-- A byte written keeps the canonical form. -/
theorem wf_memSet {m : List Host.Cell} (a : Nat) (v : Byte) (h : Memory.wf m = true) : Memory.wf (memSet m a v) = true := by
  rw [Memory.wf_iff] at h ⊢
  refine ⟨fun c hc => ?_, ?_⟩
  · rcases mem_memSet hc with hc | ⟨rfl, hv⟩
    · exact h.1 c hc
    · exact hv
  · obtain ⟨-, h⟩ := h
    induction m with
    | nil => unfold memSet; split <;> simp
    | cons d t ih =>
      obtain ⟨a', v'⟩ := d
      have h' := List.pairwise_cons.1 h
      unfold memSet
      split
      · subst ‹a' = a›
        split
        · exact h'.2
        · exact List.pairwise_cons.2 ⟨h'.1, h'.2⟩
      · split
        · split
          · exact h
          · refine List.pairwise_cons.2 ⟨fun c hc => ?_, h⟩
            rcases List.mem_cons.1 hc with rfl | hc
            · assumption
            · exact Nat.lt_trans ‹a < a'› (h'.1 c hc)
        · refine List.pairwise_cons.2 ⟨fun c hc => ?_, ih h'.2⟩
          rcases mem_memSet hc with hc | ⟨rfl, -⟩
          · exact h'.1 c hc
          · show a' < a; omega

/-- Bytes written keep the canonical form. -/
theorem wf_memWriteAt {m : List Host.Cell} (a : Nat) (bs : List Byte) (h : Memory.wf m = true) :
    Memory.wf (memWriteAt m a bs) = true := by
  induction bs generalizing m a with
  | nil => exact h
  | cons b bs ih => exact ih _ (wf_memSet _ _ h)

/-- Bytes forgotten keep the canonical form. -/
theorem wf_filter {m : List Host.Cell} (p : Host.Cell → Bool) (h : Memory.wf m = true) : Memory.wf (m.filter p) = true := by
  rw [Memory.wf_iff] at h ⊢
  exact ⟨fun c hc => h.1 c (List.mem_filter.1 hc).1, h.2.filter _⟩

theorem memGet_none {m : List Host.Cell} {b : Nat} (h : ∀ c ∈ m, c.1 ≠ b) : memGet m b = memDefault := by
  induction m with
  | nil => rfl
  | cons d t ih =>
    simp [memGet, h d (by simp), ih (fun c hc => h c (by simp [hc]))]

/-- Read after write: the byte written reads back, every other byte reads as before. -/
theorem memGet_memSet {m : List Host.Cell} (a : Nat) (v : Byte) (b : Nat) (h : Memory.wf m = true) :
    memGet (memSet m a v) b = if a = b then v else memGet m b := by
  obtain ⟨-, h⟩ := (Memory.wf_iff m).1 h
  induction m with
  | nil =>
    unfold memSet
    by_cases hv : v = memDefault <;> by_cases hb : a = b <;> simp [memGet, hv, hb]
  | cons d t ih =>
    obtain ⟨a', v'⟩ := d
    have h' := List.pairwise_cons.1 h
    have gone : ∀ {x : Nat}, x ≤ a' → memGet t x = memDefault := fun {x} hx =>
      memGet_none (fun c hc => by have := h'.1 c hc; simp at this; omega)
    unfold memSet
    split
    · subst ‹a' = a›
      by_cases hb : a' = b
      · subst hb
        by_cases hv : v = memDefault <;> simp [memGet, hv, gone (Nat.le_refl _)]
      · by_cases hv : v = memDefault <;> simp [memGet, hv, hb]
    · rename_i hne
      split
      · by_cases hv : v = memDefault
        · by_cases hb : a = b
          · subst hb; simp [memGet, hv, hne, gone (Nat.le_of_lt ‹_›)]
          · simp [hv, hb]
        · by_cases hb : a = b
          · subst hb; simp [memGet, hv]
          · simp [memGet, hv, hb]
      · by_cases hb : a' = b
        · subst hb; simp [memGet, Ne.symm hne]
        · simp only [memGet, hb, if_false]
          exact ih ((Memory.wf_iff _).2 ⟨fun c hc => (Memory.wf_iff _).1 ‹_› |>.1 c (by simp [hc]), h'.2⟩) h'.2

/-- A byte outside the bytes written reads as before. -/
theorem memGet_memWriteAt {m : List Host.Cell} (a : Nat) (bs : List Byte) (b : Nat) (h : Memory.wf m = true)
    (hb : b < a ∨ a + bs.length ≤ b) : memGet (memWriteAt m a bs) b = memGet m b := by
  induction bs generalizing m a with
  | nil => rfl
  | cons x bs ih =>
    simp only [List.length_cons] at hb
    unfold memWriteAt
    rw [ih _ (wf_memSet _ _ h) (by omega), memGet_memSet _ _ _ h]
    have : a ≠ b := by omega
    simp [this]

/-- The bytes written read back. -/
theorem memGet_memWriteAt_in {m : List Host.Cell} (a : Nat) (bs : List Byte) (k : Nat) (h : Memory.wf m = true)
    (hk : k < bs.length) : memGet (memWriteAt m a bs) (a + k) = bs[k] := by
  induction bs generalizing m a k with
  | nil => simp at hk
  | cons x bs ih =>
    unfold memWriteAt
    cases k with
    | zero =>
      rw [memGet_memWriteAt _ _ _ (wf_memSet _ _ h) (by omega), memGet_memSet _ _ _ h]; simp
    | succ k =>
      have := ih (a + 1) k (wf_memSet a x h) (by simpa using hk)
      rw [show a + (k + 1) = a + 1 + k by omega, this]; simp

@[simp] theorem State.wf_writeBytes (s : State) (sp a : Nat) (bs : List Byte) (h : Memory.wf s.mem = true) :
    Memory.wf (s.writeBytes sp a bs).mem = true := wf_memWriteAt _ _ h

@[simp] theorem State.wf_writeLe (s : State) (sp a n v : Nat) (h : Memory.wf s.mem = true) :
    Memory.wf (s.writeLe sp a n v).mem = true := wf_memWriteAt _ _ h

@[simp] theorem State.wf_eraseMem (s : State) (lo hi : Nat) (h : Memory.wf s.mem = true) :
    Memory.wf (s.eraseMem lo hi).mem = true := wf_filter _ h

end Sys2Proof.Machine
end

