-- ==== Sys2Proof/Machine/Samples.lean ====
section
/-!
DEFINITION. The sample arithmetic of the converters: NCO phase (R52, R53), the voice chain (R79, R81), baseband outputs (R84).
No command samples an output, so no command calls the output chain; it is here as the spec's definition of what the
connectors present. The unpublished interpolator (R80) is a constant of Config.
-/

namespace Sys2Proof.Machine

/-- NCO phase at sample position `n` (R52). -/
def ncoPhase (ftw poff n : Nat) : Nat := (ftw * n % 2 ^ 48 + poff % 2 ^ 32 * 2 ^ 16) % 2 ^ 48

/-- The 24-bit phase of RF DAC sample `smp` of footage cc `f` (R52). -/
def outputTheta (ftw poff f smp : Nat) : Nat := ncoPhase ftw poff ((16 * f + smp) % 2 ^ 48) / 2 ^ 24

/-- The 24-bit phase of RF ADC sample `r` of footage cc `f` (R53). -/
def inputTheta (ftw poff f r : Nat) : Nat := ncoPhase ftw poff ((16 * f + 2 * r) % 2 ^ 48) / 2 ^ 24

/-- `sat14` (R81). -/
def sat14 (x : Int) : Int := saturate 14 x

/-- The interpolated complex sample, phase and amplitude of one voice at one RF DAC sample. -/
structure VoiceSample where
  i : Int
  q : Int
  theta : Nat
  amp : Nat
  deriving DecidableEq, Repr

/-- A voice's contribution to the sum (R79). -/
def voiceTerm (v : VoiceSample) : Int :=
  let m := (v.i * cos24 v.theta - v.q * sin24 v.theta) / 2 ^ 15
  m * v.amp / 2 ^ 16

/-- The DAC code of one RF sample (R79). -/
def rfCode (vs : List VoiceSample) (shift : Nat) : Int :=
  sat14 ((vs.map voiceTerm).foldl (· + ·) 0 / 2 ^ (2 + shift))

/-- The sample was clamped (R81). -/
def rfClips (vs : List VoiceSample) (shift : Nat) : Bool :=
  let x := (vs.map voiceTerm).foldl (· + ·) 0 / 2 ^ (2 + shift)
  sat14 x != x

/-- The code of one baseband sample (R84). -/
def bbCode (sample gain offset : Int) : Int := sat14 (sample * gain / 2 ^ 14 + offset)

/-- The virtual-Z correction that keeps the phase continuous over a change of FTW at sample position `n1` (R54). -/
def continuousPoff (ftwOld ftwNew poff n1 : Nat) : Nat :=
  let d := wrapTo 48 (((ftwNew : Int) - ftwOld) * n1)
  (poff + 2 ^ 32 - d / 2 ^ 16 % 2 ^ 32) % 2 ^ 32

/-- The values of a complex interpolated sample from the words around it (R80): the coefficients are not published. -/
def interp8 (words : List (Int × Int)) (position : Nat) : Int × Int := Config.interp words position

end Sys2Proof.Machine
end

