-- ==== Sys2Proof/Tests/Slice0.lean ====
section
/-!
SUPPORT. Tests: ill-formed commands that the check refuses, numbers the spec works out in its examples, and for each statement of
Certificates/Slice0 with hypotheses one theorem `witness_<Name>` in which concrete states and operands meet the hypotheses of
each of its clauses. A clause whose hypotheses are among another's is met by that one's witness.
-/

namespace Sys2Proof.Tests

set_option maxRecDepth 100000
set_option Elab.async false

open Sys2Proof.Machine

/-! ### WellFormed refuses -/

theorem test_wf_msix_outside_bar4 : (Instr.registerWrite .host (.msixWrite 0x4000 0)).wf = false := by decide
theorem test_wf_msix_read_outside_bar4 : (Instr.dozeAccess .host (.msixRead 0x4000)).wf = false := by decide
theorem test_wf_bad_access_of_no_byte : (Instr.bar0BadAccess .host 0x100 0 false).wf = false := by decide
theorem test_wf_bad_access_too_long : (Instr.bar0BadAccess .host 0x100 4097 false).wf = false := by decide
theorem test_wf_bad_access_beyond_the_bars : (Instr.bar0BadAccess .host (2 ^ 28 + 2 ^ 16) 4 true).wf = false := by decide
theorem test_wf_stream_write_without_words : (Instr.streamPortWrite 0 1 2 []).wf = false := by decide
theorem test_wf_take_with_five_channels : (Instr.slateWrite 0 1 ⟨[[], [], [], [], []], []⟩ .completed).wf = false := by decide
theorem test_wf_mixture_of_one : (Instr.discriminatorFit 0 1 ⟨[(1, 2)], 0, false⟩).wf = false := by decide
theorem test_wf_nine_memory_channels :
    (Instr.ddr5TrainingDone 0 1 (List.replicate 9 ⟨1, true, false, 16⟩)).wf = false := by decide
theorem test_wf_short_superframe : (Instr.superframeReceive 0 1 (some (List.replicate 123 0))).wf = false := by decide
theorem test_wf_map_too_long : (Instr.mapReceive 0 1 (List.replicate 257 0)).wf = false := by decide
theorem test_wf_link_width : (Instr.perstDeassert 0 5 3).wf = false := by decide
theorem test_wf_link_speed : (Instr.perstDeassert 0 0 16).wf = false := by decide
theorem test_wf_bar2_read_of_no_byte : (Instr.bar2Access (.read 0 0 .clean)).wf = false := by decide
theorem test_wf_bar2_read_too_long : (Instr.bar2Access (.read 0 4097 .clean)).wf = false := by decide
theorem test_wf_bar2_write_of_no_byte : (Instr.bar2Access (.write 0 [])).wf = false := by decide
theorem test_wf_bar2_write_too_long : (Instr.bar2Access (.write 0 (List.replicate 4097 none))).wf = false := by decide +kernel
theorem test_wf_datagram_too_long :
    (Instr.requestEnqueue 0 ⟨false, 0, 0, false, List.replicate 65508 0⟩).wf = false := by decide +kernel
theorem test_wf_bad_frame_too_long :
    (Instr.burtisBadFrame 0 ⟨false, 0, 0, false, List.replicate 65508 0⟩).wf = false := by decide +kernel
theorem test_wf_notification_of_slot_0 : (Instr.subscriptionNotify 0 0 0 0).wf = false := by decide
theorem test_wf_lease_of_slot_0 : (Instr.sessionLeaseExpire 0 0).wf = false := by decide
theorem test_wf_ten_temperatures : (Instr.thermalSample 0 (List.replicate 10 0)).wf = false := by decide

/-! ### The spec's examples -/

/-- 01_architecture.md: XLOCK_FAULT0 = 0x649 is an occupancy mismatch of the crossing from region 9 into the hub. -/
theorem test_xlock_fault0 :
    faultBits (crossingKey (.regionHub 9 false)) ||| kindCode .occupancy <<< 8 ||| 1 <<< 10 = 0x649 := by decide

/-- 02_clapper_footage_phase.md: a drive at 4.9 GHz at footage 1,000,000, sample 3. -/
theorem test_nco_phase : ncoPhase 0x4E6666666666 0 (16 * 1000000 + 3) = 258605128452914 := by decide

/-- 02_clapper_footage_phase.md: after a virtual-Z rotation of 90 degrees, which adds 2^46. -/
theorem test_nco_phase_rotated :
    ncoPhase 0x4E6666666666 0x40000000 16000003 = (258605128452914 + 2 ^ 46) % 2 ^ 48 := by decide

/-- 03_reels_and_voices.md: voice 3 of RFO[75], in cluster 37, is at 0x0CA0_21DC. -/
theorem test_address_of_voice_amp : regAddr .VOICE_AMP (8 * 75 + 3) = 0x0CA021DC := by decide +kernel

/-- 03_reels_and_voices.md, 17_object_dictionary.md: 0x625B:03 is that voice's amplitude. -/
theorem test_object_of_voice_amp :
    (findObj 0x625B 3).map (fun e => e.1.place e.2) = some (.register .VOICE_AMP (8 * 75 + 3)) := by decide +kernel

/-- 09_takes_and_triggers.md: 0x7019:25 is TK_TERM of term 5 in region 9. -/
theorem test_object_of_take_term :
    (findObj 0x7019 0x25).map (fun e => e.1.place e.2) = some (.register .TK_TERM (64 * 9 + 5)) := by decide +kernel

/-- 06_kernel_engine_model.md: P0 = 0x0140 in the buffer at 0x0100 of 64 wraps, and the shadow L0 = 48 takes effect. -/
theorem test_circular_hand_over :
    let s := (((((State.reset.setReg .KRN_B 0 0x100).setReg .KRN_L 0 64).setReg .KRN_M 0 4).setReg .KRN_P 0 0x13C).writeCircular
      0 0 true 48)
    s.bit .KRN_LPEND 0 0 = true ∧ s.postModify 0 0 = (0x100, some (48, 0x100)) := by decide +kernel

/-- 06_kernel_engine_model.md: under L0 = 48 the step from 0x012C to 0x0130 wraps to 0x0100. -/
theorem test_circular_wrap :
    ((((State.reset.setReg .KRN_B 0 0x100).setReg .KRN_L 0 48).setReg .KRN_M 0 4).setReg .KRN_P 0 0x12C).postModify 0 0 =
      (0x100, none) := by decide +kernel

/-- 15_cihisin_links.md: LNK_RT = 17,640 ps gives DCC 9. -/
theorem test_link_delay : dccOf 17640 = 9 := by decide

/-- 17_object_dictionary.md: the answer to the WRITE of VOICE_AMP. -/
theorem test_write_answer :
    answerFrame [0x01, 0x04, 0x05, 0x03, 0x11, 0, 0, 0, 0x5B, 0x62, 0x03, 0, 0x02, 0, 0, 0, 0x00, 0x20] 0x0305 0 0 [] =
      [0x01, 0x84, 0x05, 0x03, 0x11, 0, 0, 0, 0x5B, 0x62, 0x03, 0, 0, 0, 0, 0] := by decide

/-- 17_object_dictionary.md: a full queue of 256 requests at 78 us gives AUX 20 ms. -/
theorem test_busy_hint :
    let s := State.reset.setFld .OD_QUEUE 0 31 16 78
    { s with od := { s.od with queue := List.replicate 256 { frame := [], addr := 0, port := 0, slot := 5 } } }.busyHint = 20 := by
  decide +kernel

/-- 17_object_dictionary.md: the BUSY answer to the READ of 0x2610:25. -/
theorem test_busy_answer :
    answerFrame [0x01, 0x03, 0x05, 0x03, 0x12, 0, 0, 0, 0x10, 0x26, 0x25, 0, 0, 0, 0, 0] 0x0305 0x30 20 [] =
      [0x01, 0x83, 0x05, 0x03, 0x12, 0, 0, 0, 0x10, 0x26, 0x25, 0x30, 0, 0, 0x14, 0] := by decide

/-- 21_bringup_and_examples.md: the trackers' entries at footage 12,800,000 are interpolated to 26,214,156,042 in module A and to
26,214,175,211 in module B. -/
theorem test_entry_stamps :
    let f : CmpCfg := { State.reset.cmpCfg (.tracker 12 0) with th := 1000, step := 2048, falling := false }
    entryStamp f (8 * 12800000) (-711) 2489 = 26214156042 ∧ entryStamp f (8 * 12800000) (-828) 2372 = 26214175211 := by
  decide +kernel

/-- 21_bringup_and_examples.md: module B completes the low 32 bits of a timestamp in cc 12,801,095. -/
theorem test_rebuild_timestamp : rebuildStamp 444352266 12801095 = 26214156042 := by decide

/-! ### Small states: features accepted, an epoch running, crossings locked, and one thing changed -/

/-- Every feature accepted and active. -/
def act : State := { (State.reset.setReg .FEAT_ACCEPT 0 0x3FFF).setReg .FEAT_CTRL 0 2 with now := 1000000 }

/-- The same in an epoch that began in cc 1000. -/
def run : State := { act with clap := { state := .running, epoch := some 1000 } }

def locks (ks : List Nat) (s : State) : State := { s with xl := ks.map (fun k => (k, { locked := true })) }
def asleep3 : State := act.setPower 5 { state := 3 }
def d3 : State := act.setFld .HIF_LINK 0 11 10 3
def small : State := { act with variant := .rq128 }
def heldDown : State := { act with host := { perst := true } }
def xlRel : State := { act with xl := [(5, { releaseAt := some 999990 })] }
def xlOn : State := locks [5, 159] act
def clapArmed : State := { act with clap := { state := .armed, armAt := 999000 } }
def clapArmedReg : State := { act with clap := { state := .armed, armAt := 999000, regAt := some (999900, 5) } }
def clapRunSeq : State := run.setBit .SCR_STATUS 3 0 true
def clapMaster : State := { act.setFld .CLAP_CTRL 0 1 0 1 with clap := { state := .armed, armAt := 999000, pulseAt := some 1000001, loopEnd := some 1000002 } }
def clapAlone : State := { act.setFld .CLAP_CTRL 0 1 0 2 with clap := { state := .armed, armAt := 999000, pulseAt := some 1000001 } }
def clapCheck : State := { act.setFld .CLAP_CTRL 0 1 0 1 with
  now := 2097149, clap := { state := .running, epoch := some 0, pulseBase := some 1048576, lastCheck := 1 } }
def clapCheckEdge : State := { clapCheck.setFld .CLAP_CTRL 0 19 16 8 with
  clap := { clapCheck.clap with winEdge := some (2097152 - 64, 0), winEdges := 1 } }
def tileLocked : State := ((act.setBit .CLK_STATUS 0 15 true).setBit .CLK_STATUS 0 1 true)
def tapSlew : State := { act.setFld .CLAP_TAP_REF 0 8 0 300 with clap := { slewAt := [(8, 1000000)] } }

/-! ### Reels, shadowed sets and Scripts -/

def seg : SegEntry := { base := 16, len := 32, fmt := 0 }
def plA : Playing := { index := 7, entry := seg, start := 999000, stop := 1000100, decideAt := 1000001 }
def plB : Playing := { plA with stop := 1000002, decided := true }
def plC : Playing := { plA with consumes := true, entry := { seg with stream := true, sid := 2 } }
def playing (u : Nat) (p : Playing) (s : State) : State := { s with play := { s.play with unit := [(u, { playing := some p })] } }
def unitA : State := playing 1279 plA run
def unitB : State := playing 1279 plB run
def unitC : State := playing 1279 plC run
def segStaged : State := { run with play := { staging := [(0, { region := 15, entry := 4095, w0 := some 0x100, w1 := some 0x10, w2 := some 0 })] } }
def segBad : State := { run with play := { staging := [(0, { region := 15, entry := 4095, w0 := some 0x100, w1 := some 7, w2 := some 0 })] } }
def streamHeld : State := { run.setReg .STRM_CFG 127 0x8100 with play := { stream := [(127, { held := [[1, 2]] })] } }
def setPend : State := { run.setBit (setStatus 63 15).1 (setStatus 63 15).2 0 true with play := { set := [(36 * 63 + 15, { pendAt := some 5, commitAt := some 1000002 })] } }
def setPendAt (k : Nat) : State := { run.setBit (setStatus 63 k).1 (setStatus 63 k).2 0 true with play := { set := [(36 * 63 + k, { pendAt := some 5, commitAt := some 1000002 })] } }
def setPendB : State := (setPendAt 19).setReg .BBO_GAIN 255 0x1234
def setPendT : State := (setPendAt 35).setReg .TONE_FTW_LO 1023 0x1234
def marker : State :=
  (((playing 1279 plA run).setReg .BBO_MKR 255 0x7F20).setBit .TIO_CFG 127 0 true).writeLe 2 (15 * 2 ^ 26 + 38 * 4) 4 0x4000

def scrBase : State := ((run.setBit .SCR_STATUS 511 0 true).setProgTime 63 7 999200).setReg .SCR_S (16 * 511 + 2) 999300
def scrAt (w : Nat) (s : State) : State := s.writeLe 3 (scriptAddr 63 0) 8 w
/-- The instruction of opcode `op` with the other bits `x`. -/
def scrI (op x : Nat) : State := scrAt (op * 2 ^ 58 + x) scrBase
def owns (s : State) : State := ((s.setReg .UNIT_OWNER0 63 0xFFFFFF).setReg .UNIT_OWNER1 63 0xFFFFFF).setReg .UNIT_OWNER2 63 0xFFF
def engine (x : EngineState) (s : State) : State := { s with scr := { s.scr with eng := [(511, x)] } }
def toneOwn (s : State) : State := (s.setReg .TONE_OWNER0 63 0xFFFFFF).setReg .TONE_OWNER1 63 0xFFFFFF

/-! ### Entries, receivers, fabric, router and interrupts -/

def queued (u : Nat) (x : Nat × UnitAction) (s : State) : State :=
  { s with play := { s.play with unit := [(20 * 63 + u, { queue := [x] })] } }
def entPlay : State := (queued 19 (999002, .play 7) run).writeLe 3 (segAddr 15 7 1) 4 32
def entAmp : State := queued 15 (999002, .setAmp 0x1234) run
def entAmpPend : State := entAmp.setBit .VOICE_STATUS (16 * 63 + 15) 0 true
def entCommit : State := queued 19 (999002, .commit) run
def aux (x : Nat × AuxAction) (s : State) : State := { s with scr := { s.scr with eng := [(511, { aux := [x] })] } }
def entAcq : State := (aux (999002, .acq 0x8000) run).setReg .TONE_CFG (16 * 63 + 15) 1
def entMark : State := locks ((Island.cluster 63).pathUp true) (aux (999002, .mark 9 3) run)
def entMarkBare : State := aux (999002, .mark 9 3) run
def entSplice : State :=
  { run with play := { run.play with unit := [(20 * 63 + 19, { queue := [(999002, .request 5)], playing := some { plA with decideAt := 1000050, stop := 1000100 } })] } }
def win : ToneWindow := { m0 := 499000, n := 4, box := true, ishift := 0, wbase := 0, rot := 0, th0 := 1, th1 := 2, th2 := 3 }
def rxWin : State := { run with rd := { window := [(16 * 63 + 15, [win])] } }
def rxRaw : State := (run.setReg .TK_RAWCMP_TH 63 0x00100100).setReg .TK_RAWCMP_CTRL 63 1
def rxRawAct : State := { rxRaw with rd := { cmp := [(cmpKey (.raw 15 3), { act := true })] } }
def rxTrk : State :=
  let s : State := ((run.setReg .RFI_CTRL 63 1).setReg .TRK_CTRL (256 * 63 + 255) 1)
  { s with rd := { cmp := [(cmpKey (.tracker 63 255), { blockN := 15, sumI := 100, sumQ := -33 })] } }
def rxDly : State := { (run.setReg .DLY_CTRL 15 0x00010000) with rd := { dly := [(15, { half := some ([1, 2, 3], 999900) })] } }
def fabOwn : State := { run with fab := { words := [{ slot := 16 * 63 + 5, word := 0x0E, x := 999997, reach := 0 }] } }
def fabOwnOk : State := { run with fab := { words := [{ slot := 16 * 63 + 5, word := 0x06, x := 999997, reach := 0 }] } }
def fabHub : State := { run with fab := { words := [{ slot := 16 * 63 + 5, word := 0x06, x := 999994, reach := 2 }] } }
def fabWait : State := { run with fab := { waiting := [{ slot := 16 * 63 + 5, word := 0x06, h := 999994, c := 1000003 }] } }
def fabView : State := { run with fab := { view := [(1280 * 63 + 1279, { word := 0x06, cc := 999990, ftg := 998990 })] } }
def evEmit : State := { run with router := { emitted := [{ chan := 127, cc := 1000003, lineage := 2 }, { chan := 127, cc := 1000003, lineage := 5 }] } }
def evLocal : State := { run with router := { emitted := [{ chan := 128 + 32 * 15 + 31, cc := 1000003, lineage := 2 }] } }
def evIn : State :=
  { (run.setReg .SCR_EVSEL (511 * 4 + 3) (BitVec.ofNat 32 (2 ^ 8 + 127))) with
    xl := (clusterKey 63 true :: clusterKey 63 false :: regionKey 15 true :: [regionKey 15 false]).map (fun k => (k, { locked := true }))
    router := { carried := [{ chan := 127, cc := 1000003 - 10, lineage := 2 }] } }
def evInTaken : State := { evIn with router := { evIn.router with task := [(scriptInput 63 7 3, { lineage := 1 })] } }
def ptRuns : State :=
  { ((((run.setReg .PT_PERIOD 31 1000).setReg .PT_PHASE 31 3).setReg .PT_CTRL 31 7).setReg .PT_COUNT 31 1) with router := { ptRun := [(31, 1000000)] } }
def tioIn : State := run.setReg .TIO_CFG 127 (2 + 4 * 9)
def tioPulse : State := { run with router := { tioEnd := [(127, 1000003)] } }
def icReset : State := { act with irq := {} }
def icPend (k : Nat) (t : Nat) (fast : Bool) : State := { act with irq := { src := [(k, { pend := true, en := true, target := t, fast := fast })] } }
def icSvc : State := { act with irq := { src := [(154, { insvc := true, owner := 35 })] } }

/-! ### Interrupt targets and kernel engines -/

def icCore : State := (icPend 330 3 true).setFld .PWR_STATUS 0 4 4 0
def msix (en fm : Bool) (pba : Word) (s : State) : State :=
  { s with irq := { s.irq with msix := { enable := en, funcMask := fm, table := [(31 * 4 + 3, 0)], pba := pba } } }
def icMsg : State := msix true false 0 (icPend 330 35 false)
def icMsgOff : State := msix false false 0 (icPend 330 35 false)
def icMsgMasked : State := msix true true 0 (icPend 330 35 false)
def icPba : State := msix true false 0x80000000 act
def icTimer : State := { act with irq := { tgt := [(35, { armed := false, timerEnd := 1000001 })] } }
def icTimerMsg : State := { icMsg with irq := { icMsg.irq with tgt := [(35, { armed := true, timerEnd := 1000001 })] } }

def krnBase : State :=
  let s : State := (((((run.setBit .KRN_STATUS 63 0 true).setReg .KRN_PC 63 0x123).setReg .KRN_P 255 0x1000).setReg .KRN_M 255 0xFFFE).setReg
    .KRN_P 252 0x7).setReg .KRN_M 252 3
  ((s.setReg .KRN_C (16 * 63 + 15) 0x4000C000).setReg .KRN_C (16 * 63 + 14) 0x80007FFF).setReg .KRN_C (16 * 63 + 2) 0x00030005
def krnAt (w : Nat) (s : State) : State := s.writeLe 3 (clusterBase 63 + 0x10000 + 8 * 0x123) 8 w
/-- A bundle with `mop` at M, `aop` at A and `cop` at C, and the other bits `x`. -/
def krnI (m a c x : Nat) : State := krnAt (m * 2 ^ 59 + a * 2 ^ 43 + c * 2 ^ 19 + x) krnBase
def krnStopped : State := ((run.setReg .KRN_PC_INIT 63 0x77).setReg .KRN_KSTAT 63 7)
def krnAttn : State :=
  (((krnBase.setReg .KRN_KSTAT 63 0xB).setReg .KRN_ATTN_EN 63 1).setReg .KRN_ATTN_CAUSE 63 1).setReg .KRN_VEC 63 0x400
def krnInCfg : State := (krnBase.setReg .KRN_IN_CFG 127 3)
def krnInFull : State := { krnInCfg with krn := { inp := [(127, List.replicate 64 (999990, 5))] } }
def krnInOne : State := { krnI 0 6 0 (1 * 2 ^ 35 + 3 * 2 ^ 39) with krn := { inp := [(127, [(999990, 0x00050006)])] } }
def krnPendW : State := { krnBase with krn := { pend := [(16 * 63 + 15, [{ at_ := 998000 }])] } }
def krnLoopEnd : State := ((krnI 0x10 0 0 0).setReg .KRN_LC1 63 1).setReg .KRN_LE1 63 0x123
def krnLset (s : State) : State := ((s.setReg .KRN_L 255 16).setReg .KRN_B 255 0xFF8).setReg .KRN_L 252 16
def toneDsrc (s : State) : State := s.setReg .TONE_CFG (16 * 63 + 9) 2

/-! ### Takes and calibration -/

/-- Region 15 set up for takes: one RAW reduction, 16 cc after the trigger, a ring of 64 KiB. -/
def tkSet (s : State) : State :=
  let s := ((s.setReg .TK_RING_SIZE 15 1).setReg .TK_POST_LO 15 16).setReg .TK_RED_CTRL (16 * 15 + 2) 1
  ((s.setReg .TK_RED_SHARE (16 * 15 + 2) 0x400).setPair .MEM_CAP_LO .MEM_CAP_HI 0 (2 ^ 36)).setReg .MEM_CTRL 0 0
def tkReady : State := tkSet run
def tkBad : State := tkReady.setReg .TK_RING_BASE_LO 15 64
def tkStopped : State := (tkSet run).setTkState 15 3
def tkSlots (s : State) : State := ((s.setReg .TK_LAG 15 10).setReg .TK_NSLOT 15 204).setPair .TK_TLEN_LO .TK_TLEN_HI 15 320
def tkArmed : State :=
  { ((tkSlots tkReady).setTkState 15 1) with take := { eng := [(15, { armAt := 998000, forces := [998993, 998990], lastEnd := 998000, redFrom := 998000 })] } }
def tkFull : State := tkArmed.setReg .TK_NSLOT 15 0
def take0 : Take := { q := 0, ft := 998990, p := 998990 * 8, toff := 0, sysTake := none, terms := 5, dead := 0, flags := 0x80 }
def tkCap (k : Take) : State :=
  { ((tkSlots tkReady).setTkState 15 2) with take := { eng := [(15, { armAt := 998000, takes := [k], lastFt := some k.ft, lastEnd := k.ft + 16, redFrom := 998000 })] } }
def tkEnded : State := tkCap { take0 with ft := 998980 }
def tkClosed : State := tkCap { take0 with ft := 998980, closed := true }
def tkRun : State := tkCap take0
def tkMask (stop : Nat) : State :=
  (((tkRun.setReg .TK_MASK_CTRL 63 (BitVec.ofNat 32 (1 + 2 * stop + 4 * 2))).setReg .TK_MASK_ME 63 16).setReg .TK_MASK_HI 63 100)

def stkReady : State := (run.setPair .MEM_CAP_LO .MEM_CAP_HI 0 (2 ^ 36)).setReg .STK_RING_SIZE 0 1
def stkBad : State := stkReady.setReg .STK_RING_BASE_LO 0 64
def stkOn : State := (stkReady.setFld .STK_STATUS 0 1 0 1).setReg .STK_HZN 0 100
def stkComing (ts : Nat) : State :=
  { stkOn with take := { sys := { armAt := 998000, arriving := [{ t := 255, ts := ts, at_ := 999001, link := false }] } } }
def stkJoined : State :=
  { (((stkOn.setReg .STK_CARE 0 1).setReg .STK_VAL 0 1).setReg .STK_TERM 0 0x00010000) with
    take := { sys := { armAt := 998000, joined := [{ t := 0, ts := (999003 - 100) * 2048 + 5, at_ := 998950, link := false }] } } }
def stkHeld : State := { stkJoined with take := { sys := { stkJoined.take.sys with holdEnd := 998904 * 2048 } } }
def sysTake0 : SysTake := { q := 0, x := 998903 * 2048 + 5, terms := 1, dead := 0, flags := 0, mask := 0, assertAt := 998990, asserted := true }
def stkDone : State := { stkOn with take := { sys := { armAt := 998000, takes := [sysTake0] } } }
def stkDue : State := { stkOn with take := { sys := { armAt := 998000, takes := [{ sysTake0 with asserted := false }] } } }

def calCore : State := run.setFld .PWR_STATUS 0 4 4 0
def calBusy (u kind steps : Nat) (s : State) : State := { s with cal := { s.cal with run := some { u := u, kind := kind, steps := steps } } }
def frozenAll (s : State) : State := ((s.setReg .CAL_FRZ 63 0xFFFF007F).setReg .CAL_FRZ 15 0xFFFF007F)
def calHist : State := { run with rd := { hist := [(63, [(9, 5, 6), (3, 1, 2)])] } }
def bgOn (s : State) : State := { s with served := tset s.served (256 * 0x2600 + 1) 1 }
def statEnd : State := { ((run.setReg .ADC_STAT_CTRL 63 0x0401)) with now := 1000 + 999007 + 1 - 3, cal := { statFrom := [(63, 1000)] } }
def statReady (s : State) : State := s.setReg .ADC_STAT_STATUS 63 1
def adcReady : State := statReady (bgOn calCore)
def adcBig : State :=
  State.forEach (List.range 4) (fun k s => s.setPair .ADC_S2_LO .ADC_S2_HI (252 + k) (2 ^ 20)) (adcReady.setReg .ADC_STAT_CTRL 63 0x0201)
def monEnd : State := { (run.setReg .MON_CTRL 63 0x0203) with cal := { monFrom := [(63, 1000)] } }
def discDue : State := bgOn { calCore with cal := { disc := [(1023, { fresh := 10000, total := 10000 })] } }
def bgOff (s : State) : State := { s with served := tset s.served (256 * 0x2600 + 1) 0 }
def autoOff (s : State) : State := { s with served := tset s.served (256 * 0x2695 + 0xFF) 0x222 }

/-! ### Bias dies, the Grip, memory and links -/

def dies : State := { (act.setReg .BIAS_DIE_STATUS 1 3).setReg .BIAS_DIE_STATUS 0 3 with bias := { act.bias with supplyUp := 3 } }
def dieDark : State := { act.setReg .BIAS_DIE_STATUS 1 0 with bias := { act.bias with supplyUp := 0 } }
def biasRamp (step : Nat) : State :=
  { dies.setFld .BIAS_STATUS 255 0 0 1 with bias := { dies.bias with ramp := [(255, { tgt := 100, step := step, div := 0, tick := 990000 })] } }
def biasConn : State := { dies with bias := { dies.bias with conn := [(255, 2)] } }
def biasStage (tgt : Nat) : State :=
  let s := ((dies.setReg .BIAS_TGT 255 (BitVec.ofNat 32 tgt)).setReg .BIAS_LIM_HI 255 100).setReg .BIAS_STEP 255 0x03000005
  { s with bias := { s.bias with stage := [(1, 2 ^ 127)] } }
def icRun : State := { dies.setReg .IC_CTRL 7 1 with now := 10 ^ 9, bias := { dies.bias with ic := [(7, { since := 0, settling := false })] } }
def icData : State := (dies.setReg .IC_DATA_LO 7 0x35000123).setReg .IC_DATA_HI 7 9

def grip (st : Nat) (x : GripChannel) (s : State) : State :=
  { s.setFld .GRIP_CH_STATUS 79 1 0 st with grip := { ch := [(79, x)] } }
def ddr (s : State) : State := (s.setReg .MEM_STATUS 0 1).setPair .MEM_CAP_LO .MEM_CAP_HI 0 (2 ^ 36)
def gripHeadOdd : State := act.setReg .GRIP_CH_HEAD_LO 79 32
def gripRun : State := grip 1 { nextAt := some (2, 64) } act
def gripSpent : State := grip 1 { nextAt := some (2, 64), count := 0x10000 } act
def gripHalt : State := grip 3 {} act
/-- A descriptor at 64 of the hub SRAM: 64 bytes from 0x1000 to 0x2000, BAR and LAST. -/
def descMem (s : State) : State :=
  (((s.writeLe 1 64 8 0x1000).writeLe 1 72 8 0x2000).writeLe 1 80 4 64).writeLe 1 84 4 0x21022
def gripFetch : State := descMem gripRun
def descA : GripDesc :=
  { id := 0, space := 2, addr := 0, src := 0x4000, dst := 0x8000, len := 256, ssp := 0, dsp := 1, bar := false, pace := false,
    irq := false, evt := false, last := false, begun := true, issued := 256 }
def gripBehind : State :=
  descMem (grip 1 { nextAt := some (2, 64), descs := [descA], count := 1, nextId := 1, flight := [{ id := 0, off := 64, len := 64, at_ := 999990 }] } act)
def gripTwo : State :=
  ddr (grip 1 { descs := [descA], count := 1, nextId := 1, flight := [{ id := 0, off := 64, len := 64, at_ := 999990 }, { id := 0, off := 128, len := 128, at_ := 999991 }] } act)

def dlyRing (s : State) : State :=
  { ((ddr s).setReg .DLY_CTRL 15 1).setReg .GRIP_DLY_SIZE 15 4 with
    rd := { s.rd with dly := [(15, { blocks := [(List.range 64).map (fun k => (BitVec.ofNat 8 k : Byte)), []] })] } }
def dlyReady : State := dlyRing act
def dlyWr : State := act.setReg .GRIP_DLY_WR 15 2
def scrub : State := ((ddr act).setReg .MEM_SCRUB 0 1).setReg .MEM_CH_STATUS 7 0x00400004
def memUsed : State := grip 1 { descs := [descA] } (ddr act)
def offline : State := ((ddr act).setReg .MEM_CTRL 0 1).setReg .MEM_CH_STATUS 7 0x00400004
def marchCfg (s : State) : State := ((s.setReg .MT_CTRL 7 0x240).setReg .MT_N1 7 7)
def marchRuns : State := (marchCfg offline).setFld .MT_STATUS 7 1 0 1
def outc : MarchOutcome := { steps := 8, lines := 0, mismatches := 0, firstFail := 0, corrected := [], uncorrectable := [] }

def linkIn (st : Nat) (x : LinkState) (s : State) : State :=
  { s.setFld .LNK_STATUS 23 1 0 st with lnk := { s.lnk with link := [(23, x)] } }
def lnkTrain : State := linkIn 1 { locked := true } (act.setReg .LNK_CTRL 23 1)
def lnkUp : State := linkIn 2 { locked := true, helloAt := 999999, helloRx := 999000, pingAt := 999999 } (act.setReg .LNK_CTRL 23 1)
def lnkStale : State := { lnkUp with now := 6000000 }
def lnkPinged : State := linkIn 2 { locked := true, pingOut := true } (act.setReg .LNK_CTRL 23 1)
def lnkGrid : State := { lnkUp with now := 1000005 }
def lnkSent : State := linkIn 2 { unacked := [⟨0, true, true, false, [1, 2]⟩], ackAt := 999000 } (act.setReg .LNK_CTRL 23 1)
def lnkMsg : State := linkIn 2 { msg := some [1, 2] } (act.setReg .LNK_CTRL 23 1)
def lnkFull : State := lnkUp.setReg .LNK_MSG_STATUS 23 3
def cutOn : State := { act with cut := some { start := 999999, whole := true } }
def cutScoped : State := { act with variant := .rq128 }
def noFeat7 : State := { (State.reset.setReg .FEAT_ACCEPT 0 1).setReg .FEAT_CTRL 0 2 with now := 1000000 }

/-! ### The host, power, and the object service -/

def d3Held : State := { act with host := { perst := true }, health := { act.health with railHold := 2 } }
def ltrDue : State := { act with host := { ltrEn := true } }
def sharedGo : State := { State.reset.setReg .FEAT_ACCEPT 0 0x3FFF with now := 1000000 }
def badGo : State := { State.reset.setReg .FEAT_ACCEPT 0 0xFFFFFFFF with now := 1000000 }
def bar2 : State := ddr act
def pw (x : RegionPower) (s : State) : State := s.setPower 15 x
def tol (v : Nat) (s : State) : State := s.setReg .PWR_TOL 15 (BitVec.ofNat 32 v)
def pwIdle : State := tol 0xFFFFFFFF (pw { idleSince := 5 } act)
def pwGoing (k : Nat) (st : Nat) : State := pw { state := st, going := some (k, 1000001) } act
def pwWake : State := pw { state := 2, wake := true } act
def pwImage : State := pw { state := 3, going := some (4, 1000001), imageBy := some 1000001 } act
def pwP1 : State := tol 1000 (pw { state := 1 } act)
def railsOut : State := { act with health := { act.health with railBad := 6, railHold := 6 } }
def rstIn : State := (act.setReg .PWR_RSTAT 0 0x8000).setReg .PWR_CSTAT_HI 0 0x80000000
def cool : State := { act with variant := .rq128 }
def warm : State := { cool with health := { cool.health with sampledAt := some 3 } }
def old : State := { act with now := 3600000000000 }
def wdOn : State := { (act.setReg .GAF_WD_CTRL 3 0x10001) with now := 10 ^ 7 }
def held2 : State := (act.setFld .PWR_STATUS 0 4 4 1)

/-- A Burtis frame. -/
def burtis (op session seq index sub : Nat) (payload : List Byte) : List Byte :=
  leBytes 1 1 ++ leBytes 1 op ++ leBytes 2 session ++ leBytes 4 seq ++ leBytes 2 index ++ leBytes 1 sub ++ leBytes 1 0 ++
    leBytes 2 payload.length ++ leBytes 2 0 ++ payload
/-- The same as a datagram from one host. -/
def from1 (f : List Byte) : Datagram := { netB := true, addr := 0xC0A80A01, port := 7000, fragment := false, bytes := f }
def sess : Session := { isOpen := true, gen := 2, netB := true, addr := 0xC0A80A01, port := 7000, leaseEnd := 2000000 }
/-- The session 5 of that host. -/
def open5 (x : Session) (s : State) : State := { s with od := { s.od with sess := [(5, x)] } }
def served : State := open5 sess act
def keptOne : State := open5 { sess with kept := [(9, [1, 2, 3])] } act
def asked (f : List Byte) (s : State) : State :=
  { s with od := { s.od with queue := [{ slot := 5, netB := true, addr := 0xC0A80A01, port := 7000, frame := f }] } }
def reqOf (f : List Byte) : Request := { slot := 5, netB := true, addr := 0xC0A80A01, port := 7000, frame := f }
def queueFull : State := { act with od := { act.od with queue := List.replicate 256 (reqOf [1]) } }
def req (op index sub : Nat) (payload : List Byte) : List Byte := burtis op 0x205 9 index sub payload
def fREADtap : List Byte := req 3 0x2003 1 []
def fREADnone : List Byte := req 3 0x2003 9 []
def fREADwo : List Byte := req 3 0x1020 1 []
def fWRITEip : List Byte := req 4 0x1040 1 [1, 2, 3, 4]
def fWRITEro : List Byte := req 4 0x2001 5 [1, 2, 3, 4]
def fWRITErwl : List Byte := req 4 0x1010 5 [1, 2, 3, 4]
def fWRITEtap : List Byte := req 4 0x2003 1 [1, 1]
def fRB (n : Byte) : List Byte := req 5 0x2003 0 [n]
def fWB (bs : List Byte) : List Byte := req 6 0x2003 1 bs
def fSUB (p : List Byte) : List Byte := req 7 0x2003 1 p
def fHELLO (session : Nat) (payload : List Byte) : List Byte := burtis 1 session 9 0 0 payload
def hello (q : Request) (s : State) : State := { s with od := { s.od with queue := [q] } }
def allOpen : State :=
  { act with od := { act.od with sess := (List.range 32).map (fun k => (k + 1, { sess with addr := 1 + k, port := 1 })) } }
def sub1 (last : Option (Nat × List Byte)) (mode : Nat) : Subscription :=
  { index := 0x2003, sub := 1, seq := 9, period := 5, mode := mode, count := 3, last := last, nextAt := 999999 }
def subscribed (last : Option (Nat × List Byte)) (mode : Nat) : State := open5 { sess with subs := [sub1 last mode] } act
def leaseOut : State := open5 { sess with leaseEnd := 1000000 } act

def mbWith (f : List Byte) (s : State) : State := s.writeBytes 3 (mailboxBase 3) f
def mbFrame : State := mbWith (burtis 3 0x84 9 0x2003 1 []) act
def mbOther : State := mbWith (burtis 3 0x83 9 0x2003 1 []) act
def mbPend : State := act.setReg .MB_STATUS 3 1
def mbReady : State := act.setReg .MB_STATUS 3 2
def mbWaiting : State := { act.setReg .MB_STATUS 3 3 with od := { act.od with waiting := [(3, (List.range 16).map (fun k => (BitVec.ofNat 8 k : Byte)))] } }
def img0 : SavedImage := { values := none, objects := 0, writes := 7 }
def saving (b : Bool) : State := { act with flash := { act.flash with saving := some (b, img0) } }
def objAt (s : State) (i j : Nat) : Obj :=
  match s.findRef i j with
  | .ok (.object o _) => o
  | _ => ⟨0, [], 0, 0, .bool, .ro, false, .served 0 0 0⟩
def posAt (s : State) (i j : Nat) : Nat :=
  match s.findRef i j with
  | .ok (.object _ p) => p
  | _ => 0

/-! ### Network time and the management ports -/

def wt (src : Nat) (s : State) : State := s.setFld .WT_CTRL 0 1 0 src
def noStep (s : State) : State := s.setFld .WT_STATUS 0 3 3 0
def discont (s : State) : State := { s with take := { s.take with discont := BitVec.allOnes 17 } }
def wtValid : State := act.setFld .PTP_STATUS 0 3 3 1
def ppsOn : State := { act.setReg .PPS_CTRL 0 0x0A03 with now := 999999997 }
def ppsHigh : State := { act with time := { act.time with ppsEnd := some 1000001 } }
def ppsSeen : State := ppsOn.setReg .PPS_STATUS 0 1
def clockA : ForeignClock :=
  { rank := [1, 2], clock := 0x1122334455667788, portNumber := 3, netB := true, interval := 1000000, last := 999000, previous := some 5 }
def ptp (x : PtpDomain) (s : State) : State :=
  { (s.setReg .PTP_CFG 1 0x31F00) with time := { s.time with ptp := [(1, x)] } }
def ptpOn : State := ptp {} act
def ptpHeard : State := ptp { foreign := [clockA], master := some clockA, nextSeq := 8 } act
def ptpSync : State := ptp { foreign := [clockA], master := some clockA, sync := some (5, 1000, 10) } act
def ptpReq : State := ptp { foreign := [clockA], master := some clockA, request := some (5, 3000), forward := some (1000, 2000, 7) } act
def ptpLost : State := { ptpHeard with now := 10 ^ 8 }
def exch : Exchange := { t1 := 1000, t2 := 6000, t3 := 9000, t4 := 15000, corrSync := 100, corrDresp := 50 }
def ptpDone (n : Nat) : State := ptp { foreign := [clockA], master := some clockA, exchange := some exch, exchanges := n } act
def ptpServo (n : Nat) : State := noStep ((wt 2 (ptpDone n)).setFld .WT_STATUS 0 1 0 2)
def msg (b : PtpBody) : PtpMessage :=
  { netB := true, udp := true, wellFormed := true, domainNumber := 0, clock := 0x1122334455667788, portNumber := 3, body := b }
def temps : State := (act.setReg .THERM_TEMP 3 0x00010140).setReg .THERM_TEMP 10 0x0001FFF0

/-! ### The hypotheses of the statements are met -/

theorem witness_StepRunsFrontCommand :
    ∃ (c : Instr) (rest : List Instr) (s : State), s.pending = c :: rest :=
  ⟨.cutCmd .host 0, [.loopMeas .host], { run with pending := [.cutCmd .host 0, .loopMeas .host] }, rfl⟩

theorem witness_IdleStepPassesOneCc :
    ∃ s : State, s.pending = [] :=
  ⟨run, rfl⟩

theorem witness_EveryStepKeepsCanonicalMemory :
    ∃ s t : State, s.Inv ∧ step s = .next t :=
  ⟨{ run with mem := [(5, 7)], pending := [.segEntryStage .host 0 0 1 9] }, _, by decide, rfl⟩

theorem witness_NoCommandTouchesQueueOrVariant :
    ∃ (c : Instr) (s t : State), exec c s = .next t :=
  ⟨.tapSlewStep 64 .ref, tapSlew, _, rfl⟩

theorem witness_CommandsThatStoreNothing :
    ∃ (c : Instr) (s t : State), mayStore c = false ∧ exec c s = .next t :=
  ⟨.tapSlewStep 64 .ref, tapSlew, _, rfl, rfl⟩

theorem witness_ClosedGatesStopAccesses :
    (∃ c : Instr, ∃ who : Requester, ∃ a : Nat, ∃ s : State, writeTarget c = some (who, a) ∧ s.canAccess who = false) ∧
    (∃ c : Instr, ∃ who : Requester, ∃ a : Nat, ∃ s : State, writeTarget c = some (who, a) ∧ s.canAccess who = true ∧ s.gate who a
    = .notLive) ∧
    (∃ c : Instr, ∃ who : Requester, ∃ a : Nat, ∃ s : State, writeTarget c = some (who, a) ∧ s.canAccess who = true ∧ s.gate who a
    = .asleep) ∧
    (∃ c : Instr, ∃ who : Requester, ∃ a : Nat, ∃ s : State, writeTarget c = some (who, a) ∧ s.canAccess who = true ∧ s.gate who a
    = .absent) ∧
    (∃ c : Instr, ∃ who : Requester, ∃ a : Nat, ∃ s : State, writeTarget c = some (who, a) ∧ s.canAccess who = true ∧ s.gate who a
    = .unsupported) ∧
    (∃ c : Instr, ∃ who : Requester, ∃ a : Nat, ∃ s : State, readTarget c = some (who, a) ∧ s.canAccess who = false) ∧
    (∃ c : Instr, ∃ who : Requester, ∃ a : Nat, ∃ s : State, readTarget c = some (who, a) ∧ s.canAccess who = true ∧ s.gate who a
    = .notLive) ∧
    (∃ c : Instr, ∃ who : Requester, ∃ a : Nat, ∃ s : State, readTarget c = some (who, a) ∧ s.canAccess who = true ∧ s.gate who a
    = .asleep) ∧
    (∃ c : Instr, ∃ who : Requester, ∃ a : Nat, ∃ s : State, readTarget c = some (who, a) ∧ s.canAccess who = true ∧ s.gate who a
    = .absent) ∧
    (∃ c : Instr, ∃ who : Requester, ∃ a : Nat, ∃ s : State, readTarget c = some (who, a) ∧ s.canAccess who = true ∧ s.gate who a
    = .unsupported) :=
  ⟨⟨.cutCmd .host 0, .host, 0x100, heldDown, by decide +kernel⟩,
   ⟨.voiceCommit .host 20 3, .host, (writeTarget (.voiceCommit .host 20 3)).map Prod.snd |>.getD 0, State.reset,
   by decide +kernel⟩,
   ⟨.voiceCommit .host 20 3, .host, (writeTarget (.voiceCommit .host 20 3)).map Prod.snd |>.getD 0, asleep3, by decide +kernel⟩,
   ⟨.voiceCommit .host 20 3, .host, (writeTarget (.voiceCommit .host 20 3)).map Prod.snd |>.getD 0, small, by decide +kernel⟩,
   ⟨.cutCmd .host 0, .host, 0x100, d3, by decide +kernel⟩,
   ⟨.irqClaim .host 7, .host, regAddr .IC_TGT_CLAIM 7, heldDown, by decide +kernel⟩,
   ⟨.irqClaim .host 7, .host, regAddr .IC_TGT_CLAIM 7, State.reset, by decide +kernel⟩,
   ⟨.calHistPop .host 20, .host, (readTarget (.calHistPop .host 20)).map Prod.snd |>.getD 0, asleep3, by decide +kernel⟩,
   ⟨.calHistPop .host 20, .host, (readTarget (.calHistPop .host 20)).map Prod.snd |>.getD 0, small, by decide +kernel⟩,
   ⟨.irqClaim .host 7, .host, regAddr .IC_TGT_CLAIM 7, d3, by decide +kernel⟩⟩

theorem witness_GateOfAnAddress :
    ∃ who : Requester, ∃ s : State, ((who = .host → s.inD3hot = false)) :=
  ⟨.host, run, by decide +kernel⟩

theorem witness_BusAccessesComplete :
    (∃ who : Requester, ∃ s : State, s.Open who 0x104 ∧ tfind s.snap (snapKey who .CUT_RMASK 0) = none) ∧
    (∃ who : Requester, ∃ s : State, ∃ addr : Nat, ∃ bytes : Nat, addr < 2 ^ 28 ∧ accessFits addr bytes = false ∧ s.Open who addr) ∧
    (∃ who : Requester, ∃ s : State, ∃ a : BitVec 28, s.canAccess who = true ∧ s.gate who a.toNat = .asleep ∧ accessFits a.toNat 4
    = true) ∧
    (∃ s : State, ∃ x : Crossing, (s.crossing (crossingKey x)).locked = true ∧ (s.crossing (crossingKey x)).faulted = false ∧
    s.hasRegion (keyRegion (crossingKey x)) = true) ∧
    (∃ dt : Nat, ∃ s : State, ∃ x : Crossing, ∃ r : Nat, (s.crossing (crossingKey x)).releaseAt = some r ∧ r ≤ s.now + dt) ∧
    (∃ who : Requester, ∃ s : State, s.OpenReg who .XLOCK_STATUS 0) :=
  ⟨⟨.host, run, by decide +kernel⟩,
   ⟨.host, run, 0x102, 2, by decide +kernel⟩,
   ⟨.host, asleep3, 0x0AB10000#28, by decide +kernel⟩,
   ⟨xlOn, .clusterRegion 2 true, by decide +kernel⟩,
   ⟨3, xlRel, .clusterRegion 2 true, 999990, by decide +kernel⟩,
   ⟨.host, run, by decide +kernel⟩⟩

theorem witness_ClapperCommandsComplete :
    (∃ who : Requester, ∃ s : State, s.OpenReg who .CLAP_CMD 0 ∧ (s.clap.state = .idle ∨ (s.clap.state = .running ∧ s.sequencing =
    false))) ∧
    (∃ who : Requester, ∃ s : State, s.OpenReg who .CLAP_CMD 0 ∧ s.clap.state = .running ∧ s.sequencing = true) ∧
    (∃ who : Requester, ∃ s : State, s.OpenReg who .CLAP_CMD 0 ∧ s.clap.state = .armed ∧ s.clap.regAt = none) ∧
    (∃ who : Requester, ∃ s : State, s.OpenReg who .CLAP_CMD 0 ∧ s.clap.state = .armed ∧ s.clap.regAt.isSome = true) ∧
    (∃ who : Requester, ∃ s : State, s.OpenReg who .CLAP_CMD 0 ∧ s.clap.state ≠ .armed) ∧
    (∃ who : Requester, ∃ s : State, s.OpenReg who .CLAP_CMD 0 ∧ s.clap.loopEnd = none) ∧
    (∃ who : Requester, ∃ s : State, s.OpenReg who .CLAP_CMD 0 ∧ s.clap.loopEnd.isSome = true) :=
  ⟨⟨.host, run, by decide +kernel⟩,
   ⟨.host, clapRunSeq, by decide +kernel⟩,
   ⟨.host, clapArmed, by decide +kernel⟩,
   ⟨.host, clapArmedReg, by decide +kernel⟩,
   ⟨.host, run, by decide +kernel⟩,
   ⟨.host, run, by decide +kernel⟩,
   ⟨.host, clapMaster, by decide +kernel⟩⟩

theorem witness_ClapperEdgesAndPulses :
    (∃ dt : Nat, ∃ s : State, s.role ≤ 1 ∧ s.clap.ignoreEdge = false ∧ s.clap.state = .armed ∧ s.clap.regAt = none ∧ s.clap.armAt
    < s.now + dt ∧ s.bit .CLAP_CTRL 0 2 = false) ∧
    (∃ dt : Nat, ∃ s : State, ∃ e, s.clap.pulseAt = some e ∧ e ≤ s.now + dt ∧ s.role = 2) ∧
    (∃ dt : Nat, ∃ s : State, ∃ e, s.clap.pulseBase = some e ∧ e < s.now + dt ∧ (s.now + dt - e) % 2 ^ 20 = 0) ∧
    (∃ dt : Nat, ∃ s : State, ∃ x, ∃ p, s.clap.regAt = some (x, p) ∧ x + 64 ≤ s.now + dt) :=
  ⟨⟨3, clapArmed, by decide +kernel⟩,
   ⟨3, clapAlone, 1000001, by decide +kernel⟩,
   ⟨3, clapCheck, 1048576, by decide +kernel⟩,
   ⟨3, clapArmedReg, 999900, 5, by decide +kernel⟩⟩

theorem witness_ClapperCheckJudges :
    (∃ dt : Nat, ∃ k : Nat, ∃ s : State, ∃ edge, s.role ≠ 2 ∧ s.epochRun = true ∧ (s.pass dt).ftg = k * 2 ^ 20 ∧ s.clap.lastCheck
    < k ∧ s.clap.regAt = none ∧ s.clap.winEdge = some edge ∧ s.clap.winEdges = 1 ∧ (s.displacement k edge).natAbs ≤ s.fld
    .CLAP_CTRL 0 19 16) ∧
    (∃ dt : Nat, ∃ k : Nat, ∃ s : State, s.role ≠ 2 ∧ s.epochRun = true ∧ (s.pass dt).ftg = k * 2 ^ 20 ∧ s.clap.lastCheck < k ∧
    s.clap.regAt = none ∧ s.clap.winEdge = none ∧ s.bit .CLAP_STATUS 0 2 = false) :=
  ⟨⟨3, 2, clapCheckEdge, (2097088, 0), by decide +kernel⟩,
   ⟨3, 2, clapCheck, by decide +kernel⟩⟩

theorem witness_ClocksAndTaps :
    (∃ who : Requester, ∃ s : State, s.OpenReg who .CLK_CTRL 0 ∧ s.clap.state = .idle) ∧
    (∃ s : State, ∃ tl : Tile, tl.val < s.variant.tiles ∧ s.bit .CLK_STATUS 0 (8 + tl.val) = true ∧ s.bit .CLK_STATUS 0 1 = true) ∧
    (∃ who : Requester, ∃ s : State, s.OpenReg who .CLAP_TAP_REF 0 ∧ s.clap.tapInAt = none) ∧
    (∃ dt : Nat, ∃ s : State, ∃ e, tfind s.clap.slewAt 8 = some e ∧ e ≤ s.now + dt ∧ s.fld .CLAP_TAP_REF 0 24 16 < s.fld
    .CLAP_TAP_REF 0 8 0) ∧
    (∃ dt : Nat, ∃ s : State, ∃ e : Nat, ∃ rt : BitVec 32, s.clap.loopEnd = some e ∧ e ≤ s.now + dt ∧ rt.toNat ≤ 8000000) :=
  ⟨⟨.host, act, by decide +kernel⟩,
   ⟨tileLocked, 7, by decide +kernel⟩,
   ⟨.host, run, by decide +kernel⟩,
   ⟨3, tapSlew, 1000000, by decide +kernel⟩,
   ⟨3, clapMaster, 1000002, 8000000, by decide +kernel⟩⟩

theorem witness_ReelsSegmentsAndStreams :
    (∃ who : Requester, ∃ n : Region, ∃ e : Fin 4096, ∃ s : State, ∃ w : Fin 3, s.Open who (segAddr n e w) ∧ w = 0) ∧
    (∃ who : Requester, ∃ n : Region, ∃ e : Fin 4096, ∃ s : State, ∃ w : Fin 3, s.Open who (segAddr n e w) ∧ w = 1) ∧
    (∃ who : Requester, ∃ n : Region, ∃ e : Fin 4096, ∃ s : State, ∃ w : Fin 3, s.Open who (segAddr n e w) ∧ w = 2) ∧
    (∃ who : Requester, ∃ n : Region, ∃ e : Fin 4096, ∃ v : Word, ∃ s : State, ∃ u, u = (s.throughOpen who (segAddr n e 3)) ∧ ∃ b,
    b = (u.stagingFor who n e) ∧ ∃ code, code = (segCheck (segDecode (b.w0.getD (u.segWord n e 0)) (b.w1.getD (u.segWord n e 1))
    (b.w2.getD (u.segWord n e 2)) v)) ∧ s.Open who (segAddr n e 3) ∧ code = Code.ok ∧ s.Inv) ∧
    (∃ who : Requester, ∃ n : Region, ∃ e : Fin 4096, ∃ v : Word, ∃ s : State, ∃ u, u = (s.throughOpen who (segAddr n e 3)) ∧ ∃ b,
    b = (u.stagingFor who n e) ∧ ∃ code, code = (segCheck (segDecode (b.w0.getD (u.segWord n e 0)) (b.w1.getD (u.segWord n e 1))
    (b.w2.getD (u.segWord n e 2)) v)) ∧ s.Open who (segAddr n e 3) ∧ code ≠ Code.ok) ∧
    (∃ dt : Nat, ∃ s : State, ∃ g : Cluster, ∃ u : UnitId, ∃ p : Playing, (s.unit g u).playing = some p ∧ p.decideAt ≤ s.now + dt
    ∧ p.decided = false ∧ (s.unit g u).branch = none ∧ (s.unit g u).request = none) ∧
    (∃ dt : Nat, ∃ s : State, ∃ g : Cluster, ∃ u : UnitId, ∃ p : Playing, (s.unit g u).playing = some p ∧ p.stop ≤ s.now + dt ∧
    p.decided = true ∧ p.succ = none ∧ (s.unit g u).request = none) ∧
    (∃ n : Region, ∃ s : State, ∃ st : Eighth, s.hasRegion n = true ∧ s.streamOn n st = false) ∧
    (∃ n : Region, ∃ s : State, ∃ st : Eighth, s.hasRegion n = true ∧ s.streamOn n st = true ∧ (s.stream n st).held ≠ []) ∧
    (∃ n : Region, ∃ dt : Nat, ∃ s : State, ∃ st : Eighth, ∃ ws : List Word, ∃ rest : List (List Word), (s.stream n st).held = ws
    :: rest ∧ (s.pass dt).streamFill n st + ws.length ≤ s.streamSize n st) :=
  ⟨⟨.host, 15, 4095, run, 0, by decide +kernel⟩,
   ⟨.host, 15, 4095, run, 1, by decide +kernel⟩,
   ⟨.host, 15, 4095, run, 2, by decide +kernel⟩,
   ⟨.host, 15, 4095, 0x0, run, _, rfl, _, rfl, _, rfl, by decide +kernel⟩,
   ⟨.host, 15, 4095, 0x0, segBad, _, rfl, _, rfl, _, rfl, by decide +kernel⟩,
   ⟨3, unitA, 63, 19, plA, by decide +kernel⟩,
   ⟨3, unitB, 63, 19, plB, by decide +kernel⟩,
   ⟨15, run, 7, by decide +kernel⟩,
   ⟨15, streamHeld, 7, by decide +kernel⟩,
   ⟨15, 3, streamHeld, 7, [1, 2], [], by decide +kernel⟩⟩

theorem witness_ShadowedSetsAndMarkers :
    (∃ who : Requester, ∃ v : Word, ∃ s : State, ∃ n : Region, ∃ st : Eighth, s.OpenReg who .STRM_CFG (8 * n + st) ∧
    s.regionHalted n = true ∧ streamCfgBad (s.streamCfgs n st (BitVec.ofNat 32 (bits v 15 0))) = true) ∧
    (∃ who : Requester, ∃ v : Word, ∃ s : State, ∃ n : Region, ∃ st : Eighth, s.OpenReg who .STRM_CFG (8 * n + st) ∧
    s.regionHalted n = true ∧ streamCfgBad (s.streamCfgs n st (BitVec.ofNat 32 (bits v 15 0))) = false) ∧
    (∃ who : Requester, ∃ g : Cluster, ∃ s : State, ∃ x : Fin 16, s.OpenReg who .VOICE_AMP (16 * g + x) ∧ s.setOpen g x = true) ∧
    (∃ who : Requester, ∃ g : Cluster, ∃ s : State, ∃ x : Fin 16, s.OpenReg who .VOICE_AMP (16 * g + x) ∧ s.setOpen g x = false) ∧
    (∃ who : Requester, ∃ g : Cluster, ∃ s : State, ∃ x : UnitId, s.OpenReg who (commitReg g x).1 (commitReg g x).2) ∧
    (∃ who : Requester, ∃ g : Cluster, ∃ s : State, s.OpenReg who .CL_COMMIT g) ∧
    (∃ g : Cluster, ∃ dt : Nat, ∃ s : State, ∃ x : Fin 16, s.setPending g x = true ∧ (s.shadow g x).pendAt ≠ some (s.now + dt) ∧
    (s.pass dt).handOverCycle g x = true) ∧
    (∃ g : Cluster, ∃ dt : Nat, ∃ s : State, ∃ b : Fin 4, s.setPending g (16 + b) = true ∧ (s.shadow g (16 + b)).pendAt ≠ some
    (s.now + dt) ∧ (s.pass dt).handOverCycle g (16 + b) = true) ∧
    (∃ g : Cluster, ∃ dt : Nat, ∃ s : State, ∃ x : Fin 16, s.setPending g (20 + x) = true ∧ (s.shadow g (20 + x)).pendAt ≠ some
    (s.now + dt) ∧ (s.pass dt).handOverCycle g (20 + x) = true ∧ (tget {} s.cal.disc (16 * g + x)).retry = none) ∧
    (∃ g : Cluster, ∃ dt : Nat, ∃ s : State, ∃ x : UnitId, ∃ p : Playing, (s.unit g x).playing = some p ∧ p.consumes = true ∧
    p.zero = false ∧ s.now + dt < p.stop ∧ (s.stream (g / 4) p.entry.sid).written < (s.stream (g / 4) p.entry.sid).read + min
    ((p.entry.loop + 1) * p.entry.len) ((s.now + dt + 1 - p.start) * fmtRate p.entry.fmt)) ∧
    (∃ g : Cluster, ∃ dt : Nat, ∃ s : State, ∃ r : MarkerRoute, (s.pass dt).markerOn g r = true ∧ s.fld (routeReg g r).1 (routeReg
    g r).2 6 5 = 1 ∧ s.bit .TIO_CFG (s.fld (routeReg g r).1 (routeReg g r).2 14 8) 0 = true) :=
  ⟨⟨.host, 0xFF00FF00, run, 15, 7, by decide +kernel⟩,
   ⟨.host, 0x0, run, 15, 7, by decide +kernel⟩,
   ⟨.host, 63, run, 15, by decide +kernel⟩,
   ⟨.host, 63, setPend, 15, by decide +kernel⟩,
   ⟨.host, 63, run, 19, by decide +kernel⟩,
   ⟨.host, 63, run, by decide +kernel⟩,
   ⟨63, 3, setPend, 15, by decide +kernel⟩,
   ⟨63, 3, setPendB, 3, by decide +kernel⟩,
   ⟨63, 3, setPendT, 15, by decide +kernel⟩,
   ⟨63, 3, unitC, 19, plC, by decide +kernel⟩,
   ⟨63, 3, marker, .bbo 3, by decide +kernel⟩⟩

theorem witness_ScriptControlCommands :
    (∃ who : Requester, ∃ g : Cluster, ∃ m : BitVec 8, ∃ s : State, s.OpenReg who .SCR_START g ∧ ((∀ e : Eighth, bitOf m.toNat e =
    true → s.startRefusal g e = none))) ∧
    (∃ who : Requester, ∃ g : Cluster, ∃ m : BitVec 8, ∃ s : State, s.OpenReg who .SCR_START g ∧ s.epochRun = false ∧ m ≠ 0) ∧
    (∃ who : Requester, ∃ g : Cluster, ∃ s : State, s.OpenReg who .SCR_STOP g) ∧
    (∃ who : Requester, ∃ g : Cluster, ∃ k : Fin 4, ∃ s : State, s.OpenReg who .SWG_CMD (4 * g + k)) ∧
    (∃ who : Requester, ∃ g : Cluster, ∃ k : Fin 4, ∃ r : SwgReg, ∃ s : State, s.OpenReg who (swgReg r).1 (4 * g + k) ∧
    s.clusterHalted g = true) ∧
    (∃ who : Requester, ∃ g : Cluster, ∃ k : Fin 4, ∃ r : SwgReg, ∃ v : Word, ∃ s : State, s.OpenReg who (swgReg r).1 (4 * g + k)
    ∧ s.clusterHalted g = false ∧ s.reg (swgReg r).1 (4 * g + k) ≠ v &&& BitVec.ofNat 32 (swgReg r).2) :=
  ⟨⟨.host, 63, 0xFF, run, by decide +kernel⟩,
   ⟨.host, 63, 0xFF, act, by decide +kernel⟩,
   ⟨.host, 63, run, by decide +kernel⟩,
   ⟨.host, 63, 3, run, by decide +kernel⟩,
   ⟨.host, 63, 3, .ctrl, run, by decide +kernel⟩,
   ⟨.host, 0, 3, .ctrl, 3, clapRunSeq, by decide +kernel⟩⟩

theorem witness_ScriptArithmetic :
    (∃ dt : Nat, ∃ g : Cluster, ∃ e : Eighth, ∃ w : BitVec 64, ∃ s : State, ∃ p, p = (s.pass dt) ∧ p.ScrReady g e 0x00 w) ∧
    (∃ dt : Nat, ∃ g : Cluster, ∃ e : Eighth, ∃ w : BitVec 64, ∃ s : State, ∃ p, p = (s.pass dt) ∧ p.ScrReady g e 0x20 w) ∧
    (∃ dt : Nat, ∃ g : Cluster, ∃ e : Eighth, ∃ w : BitVec 64, ∃ s : State, ∃ p, p = (s.pass dt) ∧ p.ScrReady g e 0x21 w) ∧
    (∃ dt : Nat, ∃ g : Cluster, ∃ e : Eighth, ∃ w : BitVec 64, ∃ s : State, ∃ p, p = (s.pass dt) ∧ p.ScrReady g e 0x22 w) ∧
    (∃ dt : Nat, ∃ g : Cluster, ∃ e : Eighth, ∃ w : BitVec 64, ∃ s : State, ∃ p, p = (s.pass dt) ∧ p.ScrReady g e 0x23 w) ∧
    (∃ dt : Nat, ∃ g : Cluster, ∃ e : Eighth, ∃ w : BitVec 64, ∃ s : State, ∃ p, p = (s.pass dt) ∧ p.ScrReady g e 0x04 w) ∧
    (∃ dt : Nat, ∃ g : Cluster, ∃ e : Eighth, ∃ w : BitVec 64, ∃ s : State, ∃ p, p = (s.pass dt) ∧ ∃ x, x = ((s.sPair g e (SI.sa
    w) + SI.imm32 w) % 2 ^ 64) ∧ p.ScrReady g e 0x05 w ∧ SI.sa w % 2 = 0 ∧ s.progTime g e ≤ x) ∧
    (∃ dt : Nat, ∃ g : Cluster, ∃ e : Eighth, ∃ w : BitVec 64, ∃ s : State, ∃ p, p = (s.pass dt) ∧ ∃ x, x = ((s.sPair g e (SI.sa
    w) + SI.imm32 w) % 2 ^ 64) ∧ p.ScrReady g e 0x05 w ∧ SI.sa w % 2 = 0 ∧ x < s.progTime g e) ∧
    (∃ dt : Nat, ∃ g : Cluster, ∃ e : Eighth, ∃ w : BitVec 64, ∃ s : State, ∃ p, p = (s.pass dt) ∧ p.ScrReady g e 0x06 w) ∧
    (∃ dt : Nat, ∃ g : Cluster, ∃ e : Eighth, ∃ w : BitVec 64, ∃ s : State, ∃ p, p = (s.pass dt) ∧ p.ScrReady g e 0x18 w ∧
    (s.swgCfg g (SI.gen w)).valid = true ∧ s.bit .SWG_CTRL (4 * g + SI.gen w) 3 = false ∧ (s.sweep g (SI.gen w)).step + 1 <
    (s.swgCfg g (SI.gen w)).length) :=
  ⟨⟨3, 63, 7, ((scrI 0 0x4_0000_0000_0000)).scriptWord (63) (((scrI 0 0x4_0000_0000_0000)).pc (63) (7)), (scrI 0
   0x4_0000_0000_0000), _, rfl, by decide +kernel⟩,
   ⟨3, 63, 7, ((scrI 0x20 0x0030_0000_0000_0005)).scriptWord (63) (((scrI 0x20 0x0030_0000_0000_0005)).pc (63) (7)), (scrI 0x20
   0x0030_0000_0000_0005), _, rfl, by decide +kernel⟩,
   ⟨3, 63, 7, ((scrI 0x21 0x0032_8000_FFFF_FFFF)).scriptWord (63) (((scrI 0x21 0x0032_8000_FFFF_FFFF)).pc (63) (7)), (scrI 0x21
   0x0032_8000_FFFF_FFFF), _, rfl, by decide +kernel⟩,
   ⟨3, 63, 7, ((scrI 0x22 0x0032_8000_0000_0001)).scriptWord (63) (((scrI 0x22 0x0032_8000_0000_0001)).pc (63) (7)), (scrI 0x22
   0x0032_8000_0000_0001), _, rfl, by decide +kernel⟩,
   ⟨3, 63, 7, ((scrI 0x23 0x0032_8000_0010_0000)).scriptWord (63) (((scrI 0x23 0x0032_8000_0010_0000)).pc (63) (7)), (scrI 0x23
   0x0032_8000_0010_0000), _, rfl, by decide +kernel⟩,
   ⟨3, 63, 7, ((scrI 0x04 0x0000_0000_0010_0000)).scriptWord (63) (((scrI 0x04 0x0000_0000_0010_0000)).pc (63) (7)), (scrI 0x04
   0x0000_0000_0010_0000), _, rfl, by decide +kernel⟩,
   ⟨3, 63, 7, ((scrI 0x05 0x0002_0000_0000_0010)).scriptWord (63) (((scrI 0x05 0x0002_0000_0000_0010)).pc (63) (7)), (scrI 0x05
   0x0002_0000_0000_0010), _, rfl, _, rfl, by decide +kernel⟩,
   ⟨3, 63, 7, ((scrI 0x05 0x0010_0000_0000_0000)).scriptWord (63) (((scrI 0x05 0x0010_0000_0000_0000)).pc (63) (7)), (scrI 0x05
   0x0010_0000_0000_0000), _, rfl, _, rfl, by decide +kernel⟩,
   ⟨3, 63, 7, ((scrI 0x06 0x0000_8000_0000_0003)).scriptWord (63) (((scrI 0x06 0x0000_8000_0000_0003)).pc (63) (7)), (scrI 0x06
   0x0000_8000_0000_0003), _, rfl, by decide +kernel⟩,
   ⟨3, 63, 7, (((scrI 0x18 0).setReg .SWG_N1 252 5)).scriptWord (63) ((((scrI 0x18 0).setReg .SWG_N1 252 5)).pc (63) (7)), ((scrI
   0x18 0).setReg .SWG_N1 252 5), _, rfl, by decide +kernel⟩⟩

theorem witness_ScriptFlowControl :
    (∃ dt : Nat, ∃ g : Cluster, ∃ e : Eighth, ∃ w : BitVec 64, ∃ s : State, ∃ p, p = (s.pass dt) ∧ p.ScrReady g e 0x10 w) ∧
    (∃ dt : Nat, ∃ g : Cluster, ∃ e : Eighth, ∃ w : BitVec 64, ∃ s : State, ∃ p, p = (s.pass dt) ∧ p.ScrReady g e 0x13 w ∧
    SI.brcCond w ≤ 7) ∧
    (∃ dt : Nat, ∃ g : Cluster, ∃ e : Eighth, ∃ w : BitVec 64, ∃ s : State, ∃ p, p = (s.pass dt) ∧ ∃ n, n = (if SI.reg w then
    (s.sreg g e (SI.sa w)).toNat else SI.loopImm w) ∧ p.ScrReady g e 0x14 w ∧ n = 0) ∧
    (∃ dt : Nat, ∃ g : Cluster, ∃ e : Eighth, ∃ w : BitVec 64, ∃ s : State, ∃ p, p = (s.pass dt) ∧ ∃ x, x = (s.eng g e) ∧ ∃ n, n =
    (if SI.reg w then (s.sreg g e (SI.sa w)).toNat else SI.loopImm w) ∧ p.ScrReady g e 0x14 w ∧ n ≠ 0 ∧ x.loops.length < 4) ∧
    (∃ dt : Nat, ∃ g : Cluster, ∃ e : Eighth, ∃ w : BitVec 64, ∃ s : State, ∃ p, p = (s.pass dt) ∧ ∃ x, x = (s.eng g e) ∧ ∃ start,
    ∃ rep, ∃ rest, p.ScrReady g e 0x15 w ∧ x.loops = (start, rep) :: rest ∧ 0 < rep) ∧
    (∃ dt : Nat, ∃ g : Cluster, ∃ e : Eighth, ∃ w : BitVec 64, ∃ s : State, ∃ p, p = (s.pass dt) ∧ ∃ x, x = (s.eng g e) ∧ ∃ start,
    ∃ rep, ∃ rest, p.ScrReady g e 0x15 w ∧ x.loops = (start, rep) :: rest ∧ rep = 0) ∧
    (∃ dt : Nat, ∃ g : Cluster, ∃ e : Eighth, ∃ w : BitVec 64, ∃ s : State, ∃ p, p = (s.pass dt) ∧ ∃ x, x = (s.eng g e) ∧
    p.ScrReady g e 0x16 w ∧ x.calls.length < 4) ∧
    (∃ dt : Nat, ∃ g : Cluster, ∃ e : Eighth, ∃ w : BitVec 64, ∃ s : State, ∃ p, p = (s.pass dt) ∧ ∃ x, x = (s.eng g e) ∧ ∃ a, ∃
    rest, p.ScrReady g e 0x17 w ∧ x.calls = a :: rest) ∧
    (∃ dt : Nat, ∃ g : Cluster, ∃ e : Eighth, ∃ w : BitVec 64, ∃ s : State, ∃ p, p = (s.pass dt) ∧ p.ScrReady g e 0x01 w) ∧
    (∃ dt : Nat, ∃ g : Cluster, ∃ e : Eighth, ∃ w : BitVec 64, ∃ s : State, ∃ p, p = (s.pass dt) ∧ ∃ x, x = (s.eng g e) ∧ ∃ c :
    Instr, ((p.ScrReady g e 0x17 w ∧ x.calls = [] ∧ c = .ret dt g e) ∨ (p.ScrReady g e 0x15 w ∧ x.loops = [] ∧ c = .endl dt g e) ∨
    (p.ScrReady g e 0x16 w ∧ 4 ≤ x.calls.length ∧ c = .call dt g e) ∨ (p.ScrReady g e 0x13 w ∧ 7 < SI.brcCond w ∧ c = .brc dt g
    e))) :=
  ⟨⟨3, 63, 7, ((scrI 0x10 0x55)).scriptWord (63) (((scrI 0x10 0x55)).pc (63) (7)), (scrI 0x10 0x55), _, rfl, by decide +kernel⟩,
   ⟨3, 63, 7, ((scrI 0x13 0x8000)).scriptWord (63) (((scrI 0x13 0x8000)).pc (63) (7)), (scrI 0x13 0x8000), _, rfl,
   by decide +kernel⟩,
   ⟨3, 63, 7, ((scrI 0x14 0)).scriptWord (63) (((scrI 0x14 0)).pc (63) (7)), (scrI 0x14 0), _, rfl, _, rfl, by decide +kernel⟩,
   ⟨3, 63, 7, ((scrI 0x14 0x10_0000)).scriptWord (63) (((scrI 0x14 0x10_0000)).pc (63) (7)), (scrI 0x14 0x10_0000), _, rfl, _,
   rfl, _, rfl, by decide +kernel⟩,
   ⟨3, 63, 7, ((engine { loops := [(4, 2)] } (scrI 0x15 0))).scriptWord (63) (((engine { loops := [(4, 2)] } (scrI 0x15 0))).pc
   (63) (7)), (engine { loops := [(4, 2)] } (scrI 0x15 0)), _, rfl, _, rfl, 4, 2, [], by decide +kernel⟩,
   ⟨3, 63, 7, ((engine { loops := [(4, 0)] } (scrI 0x15 0))).scriptWord (63) (((engine { loops := [(4, 0)] } (scrI 0x15 0))).pc
   (63) (7)), (engine { loops := [(4, 0)] } (scrI 0x15 0)), _, rfl, _, rfl, 4, 0, [], by decide +kernel⟩,
   ⟨3, 63, 7, ((scrI 0x16 0x77)).scriptWord (63) (((scrI 0x16 0x77)).pc (63) (7)), (scrI 0x16 0x77), _, rfl, _, rfl,
   by decide +kernel⟩,
   ⟨3, 63, 7, ((engine { calls := [9] } (scrI 0x17 0))).scriptWord (63) (((engine { calls := [9] } (scrI 0x17 0))).pc (63) (7)),
   (engine { calls := [9] } (scrI 0x17 0)), _, rfl, _, rfl, 9, [], by decide +kernel⟩,
   ⟨3, 63, 7, ((scrI 0x01 0x12)).scriptWord (63) (((scrI 0x01 0x12)).pc (63) (7)), (scrI 0x01 0x12), _, rfl, by decide +kernel⟩,
   ⟨3, 63, 7, ((scrI 0x17 0)).scriptWord (63) (((scrI 0x17 0)).pc (63) (7)), (scrI 0x17 0), _, rfl, _, rfl, .ret (3) (63) (7),
   by decide +kernel⟩⟩

theorem witness_ScriptTimedInstructions :
    (∃ dt : Nat, ∃ g : Cluster, ∃ e : Eighth, ∃ w : BitVec 64, ∃ s : State, ∃ p, p = (s.pass dt) ∧ ∃ u, u = (SI.unit w) ∧
    p.ScrReady g e 0x02 w ∧ u < 20 ∧ p.QueueTakes g e u) ∧
    (∃ dt : Nat, ∃ g : Cluster, ∃ e : Eighth, ∃ w : BitVec 64, ∃ s : State, ∃ p, p = (s.pass dt) ∧ ∃ u, u = (SI.unit w) ∧
    p.ScrReady g e 0x03 w ∧ u < 20 ∧ SI.bit47 w = false ∧ p.QueueTakes g e u) ∧
    (∃ dt : Nat, ∃ g : Cluster, ∃ e : Eighth, ∃ w : BitVec 64, ∃ s : State, ∃ p, p = (s.pass dt) ∧ ∃ u, u = (SI.unit w) ∧
    p.ScrReady g e 0x08 w ∧ u < 16 ∧ SI.sa w % 2 = 0 ∧ p.QueueTakes g e u) ∧
    (∃ dt : Nat, ∃ g : Cluster, ∃ e : Eighth, ∃ w : BitVec 64, ∃ s : State, ∃ p, p = (s.pass dt) ∧ ∃ u, u = (SI.unit w) ∧
    p.ScrReady g e 0x09 w ∧ u < 16 ∧ p.QueueTakes g e u) ∧
    (∃ dt : Nat, ∃ g : Cluster, ∃ e : Eighth, ∃ w : BitVec 64, ∃ s : State, ∃ p, p = (s.pass dt) ∧ ∃ u, u = (SI.unit w) ∧
    p.ScrReady g e 0x0A w ∧ u < 16 ∧ p.QueueTakes g e u) ∧
    (∃ dt : Nat, ∃ g : Cluster, ∃ e : Eighth, ∃ w : BitVec 64, ∃ s : State, ∃ p, p = (s.pass dt) ∧ ∃ u, u = (SI.unit w) ∧
    p.ScrReady g e 0x0B w ∧ u < 16 ∧ SI.bit47 w = false ∧ p.QueueTakes g e u) ∧
    (∃ dt : Nat, ∃ g : Cluster, ∃ e : Eighth, ∃ w : BitVec 64, ∃ s : State, ∃ p, p = (s.pass dt) ∧ p.ScrReady g e 0x0C w ∧ ((∀ v :
    UnitId, bitOf (SI.mask w) v = true → p.QueueTakes g e v))) ∧
    (∃ dt : Nat, ∃ g : Cluster, ∃ e : Eighth, ∃ w : BitVec 64, ∃ s : State, ∃ p, p = (s.pass dt) ∧ p.ScrReady g e 0x0D w ∧
    SI.tones w ≠ 0 ∧ ((∀ x : Fin 16, bitOf (SI.tones w) x = true → s.toneOwner g x = e)) ∧ p.AuxTakes g e) ∧
    (∃ dt : Nat, ∃ g : Cluster, ∃ e : Eighth, ∃ w : BitVec 64, ∃ s : State, ∃ p, p = (s.pass dt) ∧ p.ScrReady g e 0x0E w ∧
    ((SI.markL w = true → SI.markCh w ≤ 31)) ∧ p.AuxTakes g e) :=
  ⟨⟨3, 63, 7, ((owns (scrI 0x02 0x0260_0000_0000_0011))).scriptWord (63) (((owns (scrI 0x02 0x0260_0000_0000_0011))).pc (63) (7)),
   (owns (scrI 0x02 0x0260_0000_0000_0011)), _, rfl, _, rfl, by decide +kernel⟩,
   ⟨3, 63, 7, ((owns (scrI 0x03 0x0260_0000_0000_0011))).scriptWord (63) (((owns (scrI 0x03 0x0260_0000_0000_0011))).pc (63) (7)),
   (owns (scrI 0x03 0x0260_0000_0000_0011)), _, rfl, _, rfl, by decide +kernel⟩,
   ⟨3, 63, 7, ((owns (scrI 0x08 0x0060_0000_0000_0011))).scriptWord (63) (((owns (scrI 0x08 0x0060_0000_0000_0011))).pc (63) (7)),
   (owns (scrI 0x08 0x0060_0000_0000_0011)), _, rfl, _, rfl, by decide +kernel⟩,
   ⟨3, 63, 7, ((owns (scrI 0x09 0x0060_0000_0000_0011))).scriptWord (63) (((owns (scrI 0x09 0x0060_0000_0000_0011))).pc (63) (7)),
   (owns (scrI 0x09 0x0060_0000_0000_0011)), _, rfl, _, rfl, by decide +kernel⟩,
   ⟨3, 63, 7, ((owns (scrI 0x0A 0x0060_0000_0000_0011))).scriptWord (63) (((owns (scrI 0x0A 0x0060_0000_0000_0011))).pc (63) (7)),
   (owns (scrI 0x0A 0x0060_0000_0000_0011)), _, rfl, _, rfl, by decide +kernel⟩,
   ⟨3, 63, 7, ((owns (scrI 0x0B 0x0060_0000_0000_0011))).scriptWord (63) (((owns (scrI 0x0B 0x0060_0000_0000_0011))).pc (63) (7)),
   (owns (scrI 0x0B 0x0060_0000_0000_0011)), _, rfl, _, rfl, by decide +kernel⟩,
   ⟨3, 63, 7, ((owns (scrI 0x0C 0x8_0003))).scriptWord (63) (((owns (scrI 0x0C 0x8_0003))).pc (63) (7)), (owns (scrI 0x0C
   0x8_0003)), _, rfl, by decide +kernel⟩,
   ⟨3, 63, 7, ((toneOwn (scrI 0x0D 0x8001))).scriptWord (63) (((toneOwn (scrI 0x0D 0x8001))).pc (63) (7)), (toneOwn (scrI 0x0D
   0x8001)), _, rfl, by decide +kernel⟩,
   ⟨3, 63, 7, ((scrI 0x0E 0x0200_0000_0000_0000)).scriptWord (63) (((scrI 0x0E 0x0200_0000_0000_0000)).pc (63) (7)), (scrI 0x0E
   0x0200_0000_0000_0000), _, rfl, by decide +kernel⟩⟩

theorem witness_ScriptBranchesOnDecisions :
    (∃ dt : Nat, ∃ g : Cluster, ∃ e : Eighth, ∃ w : BitVec 64, ∃ s : State, ∃ i, i = (8 * g.val + e.val) ∧ ∃ p, p = (s.pass dt) ∧
    ∃ T, T = (s.progTime g e) ∧ ∃ dpl, dpl = (s.fld .SCR_CFG i 6 0) ∧ ∃ fits : Prop, fits = (SI.unit w = 31 ∨ (SI.unit w < 20 ∧
    s.unitOwner g (SI.unit w) = e)) ∧ p.ScrReady g e 0x11 w ∧ SI.slot w ≤ 1279 ∧ SI.brdCond w ≤ 4 ∧ fits ∧ p.ftg + dpl ≤ T) ∧
    (∃ dt : Nat, ∃ g : Cluster, ∃ e : Eighth, ∃ w : BitVec 64, ∃ s : State, ∃ i, i = (8 * g.val + e.val) ∧ ∃ p, p = (s.pass dt) ∧
    ∃ T, T = (s.progTime g e) ∧ ∃ dpl, dpl = (s.fld .SCR_CFG i 6 0) ∧ ∃ fits : Prop, fits = (SI.unit w = 31 ∨ (SI.unit w < 20 ∧
    s.unitOwner g (SI.unit w) = e)) ∧ p.ScrReady g e 0x11 w ∧ SI.slot w ≤ 1279 ∧ SI.brdCond w ≤ 4 ∧ fits ∧ T < p.ftg + dpl) ∧
    (∃ dt : Nat, ∃ g : Cluster, ∃ e : Eighth, ∃ w : BitVec 64, ∃ s : State, ∃ i, i = (8 * g.val + e.val) ∧ ∃ p, p = (s.pass dt) ∧
    ∃ T, T = (s.progTime g e) ∧ ∃ dpl, dpl = (s.fld .SCR_CFG i 6 0) ∧ ∃ fits : Prop, fits = (SI.unit w = 31 ∨ (SI.unit w < 20 ∧
    s.unitOwner g (SI.unit w) = e)) ∧ p.ScrReady g e 0x12 w ∧ fits ∧ p.ftg + dpl ≤ T) ∧
    (∃ dt : Nat, ∃ g : Cluster, ∃ e : Eighth, ∃ s : State, ∃ p, p = (s.pass dt) ∧ ∃ b : BranchWait, ∃ st : Nat, (s.eng g e).wait =
    some b ∧ b.d ≤ p.ftg ∧ SI.op b.word = 0x11 ∧ SI.unit b.word = 31 ∧ p.decisionState g (SI.slot b.word) b.d (SI.age b.word) =
    some st) ∧
    (∃ dt : Nat, ∃ g : Cluster, ∃ e : Eighth, ∃ s : State, ∃ p, p = (s.pass dt) ∧ ∃ b : BranchWait, ∃ tb : TaskBit, (s.eng g
    e).wait = some b ∧ b.d ≤ p.ftg ∧ SI.op b.word ≠ 0x11 ∧ SI.unit b.word = 31 ∧ p.taskBit (scriptInput g e (SI.latch b.word)) =
    some tb) ∧
    (∃ dt : Nat, ∃ g : Cluster, ∃ e : Eighth, ∃ s : State, ∃ p, p = (s.pass dt) ∧ ∃ u, ∃ seg, ∃ T', (s.eng g e).queued = some (u,
    seg, T') ∧ (s.unit g u).queue.length < 64 ∧ p.ftg + 2 ≤ T' ∧ sameMaturity (s.unit g u).queue T' < 4) :=
  ⟨⟨3, 63, 7, ((scrI 0x11 0x03E0_1400_0000_0005)).scriptWord (63) (((scrI 0x11 0x03E0_1400_0000_0005)).pc (63) (7)), (scrI 0x11
   0x03E0_1400_0000_0005), _, rfl, _, rfl, _, rfl, _, rfl, _, rfl, by decide +kernel⟩,
   ⟨3, 63, 7, (((scrI 0x11 0x03E0_1400_0000_0005).setProgTime 63 7 999003)).scriptWord (63) ((((scrI 0x11
   0x03E0_1400_0000_0005).setProgTime 63 7 999003)).pc (63) (7)), ((scrI 0x11 0x03E0_1400_0000_0005).setProgTime 63 7 999003), _,
   rfl, _, rfl, _, rfl, _, rfl, _, rfl, by decide +kernel⟩,
   ⟨3, 63, 7, (((scrI 0x12 0x03E0_0000_0000_0005))).scriptWord (63) ((((scrI 0x12 0x03E0_0000_0000_0005))).pc (63) (7)), ((scrI
   0x12 0x03E0_0000_0000_0005)), _, rfl, _, rfl, _, rfl, _, rfl, _, rfl, by decide +kernel⟩,
   ⟨3, 63, 7,
   ({ engine { wait := some { word := 0x11 * 2 ^ 58 + 31 * 2 ^ 53 + 5 * 2 ^ 42, t := 999200, d := 999000 } } scrBase with fab := { view := [(1280 * 63 + 5, { word := 0x06, cc := 999990, ftg := 998990 })] } }
   : State), _, rfl, ({ word := 0x11 * 2 ^ 58 + 31 * 2 ^ 53 + 5 * 2 ^ 42, t := 999200, d := 999000 } : BranchWait), 2,
   by decide +kernel⟩,
   ⟨3, 63, 7,
   ({ engine { wait := some { word := 0x12 * 2 ^ 58 + 31 * 2 ^ 53, t := 999200, d := 999000 } } scrBase with router := { task := [(scriptInput 63 7 0, { lineage := 1 })] } }
   : State), _, rfl, ({ word := 0x12 * 2 ^ 58 + 31 * 2 ^ 53, t := 999200, d := 999000 } : BranchWait), { lineage := 1 },
   by decide +kernel⟩,
   ⟨3, 63, 7, (engine { queued := some (19, 7, 999300) } scrBase), _, rfl, 19, 7, 999300, by decide +kernel⟩⟩

theorem witness_ScriptEntriesMature :
    (∃ dt : Nat, ∃ g : Cluster, ∃ u : UnitId, ∃ m : Nat, ∃ seg : Nat, ∃ s : State, ∃ p, p = (s.pass dt) ∧ ∃ rest, s.epochRun =
    true ∧ (s.unit g u).queue = (m, .play seg) :: rest ∧ m ≤ p.ftg ∧ (s.segEntry (g / 4) (p.entryIndex g u seg)).len ≠ 0) ∧
    (∃ dt : Nat, ∃ g : Cluster, ∃ u : UnitId, ∃ m : Nat, ∃ s : State, ∃ p, p = (s.pass dt) ∧ ∃ v : BitVec 16, ∃ rest, s.epochRun =
    true ∧ u.val < 16 ∧ (s.unit g u).queue = (m, .setAmp v) :: rest ∧ m ≤ p.ftg ∧ p.setOpen g u = true) ∧
    (∃ dt : Nat, ∃ g : Cluster, ∃ u : UnitId, ∃ m : Nat, ∃ s : State, ∃ p, p = (s.pass dt) ∧ ∃ v : BitVec 16, ∃ rest, s.epochRun =
    true ∧ u.val < 16 ∧ (s.unit g u).queue = (m, .setAmp v) :: rest ∧ m ≤ p.ftg ∧ p.setOpen g u = false) ∧
    (∃ dt : Nat, ∃ g : Cluster, ∃ u : UnitId, ∃ m : Nat, ∃ s : State, ∃ p, p = (s.pass dt) ∧ ∃ rest, s.epochRun = true ∧ (s.unit g
    u).queue = (m, .commit) :: rest ∧ m ≤ p.ftg) ∧
    (∃ dt : Nat, ∃ g : Cluster, ∃ e : Eighth, ∃ m : Nat, ∃ s : State, ∃ p, p = (s.pass dt) ∧ ∃ x : Fin 16, ∃ rest, s.epochRun =
    true ∧ (s.eng g e).aux = (m, .acq (BitVec.ofNat 16 (2 ^ x.val))) :: rest ∧ m ≤ p.ftg ∧ s.bit .RFI_CTRL g 0 = false ∧ s.bit
    .TONE_CFG (16 * g + x) 0 = true ∧ s.bit .TONE_CFG (16 * g + x) 1 = false ∧ p.toneBusy g x m = false ∧ tfind s.rd.offered (16 *
    g + x) ≠ some m ∧ s.setPending g (20 + x) = false) ∧
    (∃ dt : Nat, ∃ g : Cluster, ∃ e : Eighth, ∃ m : Nat, ∃ s : State, ∃ p, p = (s.pass dt) ∧ ∃ c, ∃ lin, ∃ rest, s.epochRun = true
    ∧ (s.eng g e).aux = (m, .mark c lin) :: rest ∧ m ≤ p.ftg ∧ lin < 8 ∧ p.islandAwake (.cluster g) = true ∧ p.pathLocked
    ((Island.cluster g).pathUp (chanGlobal c)) = true) ∧
    (∃ dt : Nat, ∃ g : Cluster, ∃ u : UnitId, ∃ m : Nat, ∃ seg : Nat, ∃ s : State, ∃ p, p = (s.pass dt) ∧ ∃ q, ∃ rest, s.epochRun
    = true ∧ (s.unit g u).queue = (m, .request seg) :: rest ∧ m ≤ p.ftg ∧ (s.unit g u).playing = some q ∧ (s.unit g u).request =
    none ∧ s.now + dt ≤ q.decideAt) :=
  ⟨⟨3, 63, 19, 999002, 7, owns entPlay, _, rfl, [], by decide +kernel⟩,
   ⟨3, 63, 15, 999002, entAmp, _, rfl, 0x1234, [], by decide +kernel⟩,
   ⟨3, 63, 15, 999002, entAmpPend, _, rfl, 0x1234, [], by decide +kernel⟩,
   ⟨3, 63, 19, 999002, entCommit, _, rfl, [], by decide +kernel⟩,
   ⟨3, 63, 7, 999002, entAcq, _, rfl, 15, [], by decide +kernel⟩,
   ⟨3, 63, 7, 999002, entMark, _, rfl, 9, 3, [], by decide +kernel⟩,
   ⟨3, 63, 19, 999002, 5, entSplice, _, rfl, { plA with decideAt := 1000050, stop := 1000100 }, [], by decide +kernel⟩⟩

theorem witness_ReadoutReceiversComplete :
    (∃ who : Requester, ∃ g : Cluster, ∃ s : State, s.OpenReg who .TONE_COMMIT g) ∧
    (∃ dt : Nat, ∃ g : Cluster, ∃ s : State, ∃ x : Fin 16, ∃ w : ToneWindow, ∃ rest, s.windows g x = w :: rest ∧ s.epochRun = true
    ∧ 2 * w.m1 + 28 ≤ (s.pass dt).ftg) ∧
    (∃ dt : Nat, ∃ s : State, ∃ n : Region, ∃ c : Fin 4, ∃ last : Nat, ∃ z : Int, (s.pass dt).streamReady (.raw n c) last = true ∧
    (s.cmp (.raw n c)).act = false ∧ s.bit .TK_RAWCMP_CTRL (4 * n + c) 1 = false ∧ signed 16 (s.fld .TK_RAWCMP_TH (4 * n + c) 15
    0) ≤ z) ∧
    (∃ dt : Nat, ∃ s : State, ∃ n : Region, ∃ c : Fin 4, ∃ last : Nat, ∃ z : Int, (s.pass dt).streamReady (.raw n c) last = true ∧
    (s.cmp (.raw n c)).act = true ∧ s.bit .TK_RAWCMP_CTRL (4 * n + c) 1 = false ∧ z < signed 16 (s.fld .TK_RAWCMP_TH (4 * n + c)
    15 0) - s.fld .TK_RAWCMP_TH (4 * n + c) 31 16) ∧
    (∃ who : Requester, ∃ g : Cluster, ∃ s : State, s.OpenReg who .RFI_CTRL g ∧ s.feat 1 = true ∧ s.clusterHalted g = true) ∧
    (∃ who : Requester, ∃ g : Cluster, ∃ s : State, s.OpenReg who .RFI_CTRL g ∧ s.feat 1 = true ∧ s.clusterHalted g = false) ∧
    (∃ dt : Nat, ∃ g : Cluster, ∃ s : State, ∃ k : Fin 256, ∃ last : Nat, s.epochRun = true ∧ s.regionAwake (g / 4) = true ∧
    (s.pass dt).regionAwake (g / 4) = true ∧ s.bit .RFI_CTRL g 0 = true ∧ s.bit .TRK_CTRL (256 * g + k) 0 = true ∧ 256 * last +
    1047 ≤ (s.pass dt).ftg ∧ s.outsideZone g k = false ∧ s.fld .TRK_CTRL (256 * g + k) 5 2 ≤ 4 ∧ (s.cmp (.tracker g k)).blockN =
    15) ∧
    (∃ dt : Nat, ∃ s : State, ∃ n : Region, ∃ h, ∃ f, (s.dailies n).half = some (h, f) ∧ f + 64 * s.fld .DLY_CTRL n 31 16 ≤ s.now
    + dt) :=
  ⟨⟨.host, 63, act, by decide +kernel⟩,
   ⟨3, 63, rxWin, 15, win, [], by decide +kernel⟩,
   ⟨3, rxRaw, 15, 3, 10, 500, by decide +kernel⟩,
   ⟨3, rxRawAct, 15, 3, 10, -500, by decide +kernel⟩,
   ⟨.host, 63, act, by decide +kernel⟩,
   ⟨.host, 63, run.setBit .SCR_STATUS 511 0 true, by decide +kernel⟩,
   ⟨3, 63, rxTrk, 255, 10, by decide +kernel⟩,
   ⟨3, rxDly, 15, [1, 2, 3], 999900, by decide +kernel⟩⟩

theorem witness_FabricWordsTravel :
    (∃ dt : Nat, ∃ g : Cluster, ∃ slot : Fin 1280, ∃ s : State, ∃ p, p = (s.pass dt) ∧ ∃ w, p.arrivingWord g slot = some w ∧
    s.epochRun = true ∧ p.regionAwake (g / 4) = true ∧ tfind s.fab.clearedAt g ≠ some (s.now + dt) ∧ wordLate w = true) ∧
    (∃ dt : Nat, ∃ g : Cluster, ∃ slot : Fin 1280, ∃ s : State, ∃ p, p = (s.pass dt) ∧ ∃ w, p.arrivingWord g slot = some w ∧
    s.epochRun = true ∧ p.regionAwake (g / 4) = true ∧ tfind s.fab.clearedAt g ≠ some (s.now + dt) ∧ wordLate w = false) ∧
    (∃ dt : Nat, ∃ slot : Fin 1280, ∃ s : State, ∃ p, p = (s.pass dt) ∧ ∃ w, p.hubArrival slot = some w ∧ s.epochRun = true) ∧
    (∃ dt : Nat, ∃ slot : Fin 1280, ∃ s : State, ∃ p, p = (s.pass dt) ∧ ∃ w, p.fab.waiting.find? (fun q => q.slot == slot.val &&
    decide (q.c ≤ p.now)) = some w ∧ s.epochRun = true) ∧
    (∃ who : Requester, ∃ s : State, ∃ j : Fin 80, s.OpenReg who .FAB_DFLT j ∧ s.epochRun = false) ∧
    (∃ who : Requester, ∃ s : State, ∃ j : Fin 80, s.OpenReg who .FAB_DFLT j ∧ s.epochRun = true) ∧
    (∃ who : Requester, ∃ g : Cluster, ∃ v : Word, ∃ s : State, s.OpenReg who .FAB_VIEW_SEL g ∧ 1280 ≤ bits v 10 0) :=
  ⟨⟨3, 63, 1013, fabOwn, _, rfl, 0x0E, by decide +kernel⟩,
   ⟨3, 63, 1013, fabOwnOk, _, rfl, 0x06, by decide +kernel⟩,
   ⟨3, 1013, fabHub, _, rfl, 0x06, by decide +kernel⟩,
   ⟨3, 1013, fabWait, _, rfl, { slot := 16 * 63 + 5, word := 0x06, h := 999994, c := 1000003 }, by decide +kernel⟩,
   ⟨.host, act, 79, by decide +kernel⟩,
   ⟨.host, fabOwn, 79, by decide +kernel⟩,
   ⟨.host, 63, 0x12345678, fabOwn, by decide +kernel⟩⟩

theorem witness_EventRouterCompletes :
    (∃ dt : Nat, ∃ s : State, ∃ ch : Channel, ∃ here, here = (s.router.emitted.filter (fun w => w.chan == chanKey ch && w.at w.cc
    (s.now + dt))) ∧ s.epochRun = true ∧ here ≠ []) ∧
    (∃ dt : Nat, ∃ s : State, ∃ p, p = (s.pass dt) ∧ ∃ g : Cluster, ∃ e : Eighth, ∃ l : Fin 4, ∃ c : Nat, ∃ w : EventWord,
    s.inputChan (.script g e l) = some c ∧ p.arriving (.cluster g) c = some w ∧ p.islandAwake (.cluster g) = true ∧ p.islandHeld
    (.cluster g) = false ∧ tfind s.router.delivered (scriptInput g e l) ≠ some (s.now + dt) ∧ p.taskBit (scriptInput g e l) =
    none) ∧
    (∃ dt : Nat, ∃ s : State, ∃ p, p = (s.pass dt) ∧ ∃ g : Cluster, ∃ e : Eighth, ∃ l : Fin 4, ∃ c : Nat, ∃ w : EventWord,
    s.inputChan (.script g e l) = some c ∧ p.arriving (.cluster g) c = some w ∧ p.islandAwake (.cluster g) = true ∧ p.islandHeld
    (.cluster g) = false ∧ tfind s.router.delivered (scriptInput g e l) ≠ some (s.now + dt) ∧ p.taskBit (scriptInput g e l) ≠
    none) ∧
    (∃ who : Requester, ∃ s : State, ∃ x : Fin 32, s.OpenReg who .PT_CMD x ∧ s.epochRun = false) ∧
    (∃ who : Requester, ∃ s : State, ∃ x : Fin 32, s.OpenReg who .PT_CMD x ∧ s.epochRun = true) ∧
    (∃ dt : Nat, ∃ s : State, ∃ p, p = (s.pass dt) ∧ ∃ x : Fin 32, ∃ f : Nat, tfind s.router.ptRun x = some f ∧ f ≤ s.now + dt ∧
    s.epochRun = true ∧ p.ftg % s.regNat .PT_PERIOD x = s.regNat .PT_PHASE x) ∧
    (∃ who : Requester, ∃ s : State, ∃ j : Fin 4, s.OpenReg who .EV_INJECT j ∧ s.epochRun = false) ∧
    (∃ who : Requester, ∃ s : State, ∃ j : Fin 4, s.OpenReg who .EV_INJECT j ∧ s.epochRun = true) ∧
    (∃ who : Requester, ∃ s : State, ∃ n : Region, ∃ u, u = (s.throughOpen who (regAddr .LEV_INJECT n)) ∧ s.OpenReg who
    .LEV_INJECT n ∧ s.epochRun = true ∧ u.regionAwake n = true) ∧
    (∃ s : State, ∃ l : Fin 128, s.active = true ∧ s.epochRun = true ∧ s.bit .TIO_CFG l 0 = false ∧ s.bit .TIO_CFG l 1 = true) ∧
    (∃ dt : Nat, ∃ s : State, ∃ l : Fin 128, ∃ e : Nat, tfind s.router.tioEnd l = some e ∧ e ≤ s.now + dt) :=
  ⟨⟨3, evEmit, .ev 127, _, rfl, by decide +kernel⟩,
   ⟨3, evIn, _, rfl, 63, 7, 3, 127, { chan := 127, cc := 1000003 - 10, lineage := 2 }, by decide +kernel⟩,
   ⟨3, evInTaken, _, rfl, 63, 7, 3, 127, { chan := 127, cc := 1000003 - 10, lineage := 2 }, by decide +kernel⟩,
   ⟨.host, act, 31, by decide +kernel⟩,
   ⟨.host, evEmit, 31, by decide +kernel⟩,
   ⟨3, ptRuns, _, rfl, 31, 1000000, by decide +kernel⟩,
   ⟨.host, act, 3, by decide +kernel⟩,
   ⟨.host, evEmit, 3, by decide +kernel⟩,
   ⟨.host, evEmit, 15, _, rfl, by decide +kernel⟩,
   ⟨tioIn, 127, by decide +kernel⟩,
   ⟨3, tioPulse, 127, 1000003, by decide +kernel⟩⟩

theorem witness_InterruptControllerCompletes :
    (∃ dt : Nat, ∃ k : Fin 512, ∃ s : State, ∃ p, p = (s.pass dt) ∧ ¬(464 ≤ k.val ∧ k.val ≤ 495) ∧ p.srcImpl k = true ∧ p.srcLive
    k = true ∧ levelSource k = false ∧ (s.source k).pend = false ∧ (s.source k).insvc = false) ∧
    (∃ dt : Nat, ∃ k : Fin 512, ∃ s : State, ∃ p, p = (s.pass dt) ∧ ∃ b : Bool, (s.levelCondition k = none ∨ s.levelCondition k =
    some b) ∧ p.srcImpl k = true ∧ p.srcLive k = true ∧ levelSource k = true ∧ (p.source k).insvc = false) ∧
    (∃ who : Requester, ∃ t0 : Fin 36, ∃ s : State, ∃ b, b = (s.bestClaim t0 false) ∧ s.OpenReg who .IC_TGT_CLAIM t0 ∧ b ≠ 0) ∧
    (∃ who : Requester, ∃ t0 : Fin 36, ∃ s : State, ∃ b, b = (s.bestClaim t0 true) ∧ s.OpenReg who .IC_TGT_FCLAIM t0 ∧ t0.val < 4
    ∧ b ≠ 0) ∧
    (∃ who : Requester, ∃ t0 : Fin 36, ∃ v : Word, ∃ s : State, ∃ b, b = (bits v 8 0) ∧ s.OpenReg who .IC_TGT_COMPLETE t0 ∧ (b ≠ 0
    ∧ (s.source b).insvc = true ∧ (s.source b).owner = t0.val)) ∧
    (∃ who : Requester, ∃ t0 : Fin 36, ∃ v : Word, ∃ s : State, ∃ b, b = (bits v 8 0) ∧ s.OpenReg who .IC_TGT_COMPLETE t0 ∧ ¬ (b ≠
    0 ∧ (s.source b).insvc = true ∧ (s.source b).owner = t0.val)) ∧
    (∃ who : Requester, ∃ s : State, ∃ j : Fin 16, s.OpenReg who .IC_EN_SET j) ∧
    (∃ who : Requester, ∃ s : State, ∃ j : Fin 16, s.OpenReg who .IC_EN_CLR j) ∧
    (∃ who : Requester, ∃ k : Fin 512, ∃ v : Word, ∃ s : State, s.OpenReg who .IC_SRC_CFG k ∧ s.srcImpl k = true ∧ 36 ≤ bits v 5
    0) ∧
    (∃ who : Requester, ∃ k : Fin 512, ∃ v : Word, ∃ s : State, s.OpenReg who .IC_SRC_CFG k ∧ s.srcImpl k = true ∧ bits v 5 0 <
    36) :=
  ⟨⟨3, 330, act, _, rfl, by decide +kernel⟩,
   ⟨3, 154, act, _, rfl, true, by decide +kernel⟩,
   ⟨.host, 35, icPend 330 35 false, _, rfl, by decide +kernel⟩,
   ⟨.host, 3, icPend 330 3 true, _, rfl, by decide +kernel⟩,
   ⟨.host, 35, 154, icSvc, _, rfl, by decide +kernel⟩,
   ⟨.host, 35, 154, act, _, rfl, by decide +kernel⟩,
   ⟨.host, act, 15, by decide +kernel⟩,
   ⟨.host, act, 15, by decide +kernel⟩,
   ⟨.host, 330, 0x24, act, by decide +kernel⟩,
   ⟨.host, 330, 154, act, by decide +kernel⟩⟩

theorem witness_InterruptLatchesAndMessages :
    (∃ who : Requester, ∃ j : Fin 16, ∃ s : State, s.OpenReg who .IC_PEND_SET j) ∧
    (∃ who : Requester, ∃ j : Fin 16, ∃ s : State, s.OpenReg who .IC_PEND_CLR j) ∧
    (∃ dt : Nat, ∃ k : Fin 4, ∃ s : State, ∃ p, p = (s.pass dt) ∧ s.coreRuns k = true ∧ (s.core k).fastBank = false ∧ p.bestClaim
    k true ≠ 0) ∧
    (∃ dt : Nat, ∃ vec : Fin 32, ∃ s : State, ∃ p, p = (s.pass dt) ∧ p.messageDue (vec + 4) = true ∧ s.inD3hot = false ∧
    s.irq.msix.enable = true ∧ s.vectorMasked vec = false) ∧
    (∃ dt : Nat, ∃ vec : Fin 32, ∃ s : State, ∃ p, p = (s.pass dt) ∧ p.messageDue (vec + 4) = true ∧ s.inD3hot = false ∧
    ((s.irq.msix.enable = false ∨ s.vectorMasked vec = true))) ∧
    (∃ dt : Nat, ∃ vec : Fin 32, ∃ s : State, (s.target (vec + 4)).timerEnd ≠ 0 ∧ (s.target (vec + 4)).timerEnd ≤ s.now + dt ∧
    (s.target (vec + 4)).armed = false) ∧
    (∃ dt : Nat, ∃ vec : Fin 32, ∃ s : State, ∃ p, p = (s.pass dt) ∧ (s.target (vec + 4)).timerEnd ≠ 0 ∧ (s.target (vec +
    4)).timerEnd ≤ s.now + dt ∧ p.wantsMessage (vec + 4) = true ∧ s.inD3hot = false ∧ s.irq.msix.enable = true ∧ s.vectorMasked
    vec = false) ∧
    (∃ who : Requester, ∃ t0 : Fin 36, ∃ s : State, s.OpenReg who .IC_TGT_IDLE t0 ∧ 4 ≤ t0.val) ∧
    (∃ who : Requester, ∃ t0 : Fin 36, ∃ s : State, s.OpenReg who .IC_TGT_IDLE t0 ∧ t0.val < 4) ∧
    (∃ vec : Fin 32, ∃ s : State, s.inD3hot = false ∧ s.irq.msix.enable = true ∧ s.irq.msix.funcMask = false ∧ bitOf
    s.irq.msix.pba.toNat vec = true) :=
  ⟨⟨.host, 10, act, by decide +kernel⟩,
   ⟨.host, 10, act, by decide +kernel⟩,
   ⟨3, 3, icCore, _, rfl, by decide +kernel⟩,
   ⟨3, 31, icMsg, _, rfl, by decide +kernel⟩,
   ⟨3, 31, icMsgOff, _, rfl, by decide +kernel⟩,
   ⟨3, 31, icTimer, by decide +kernel⟩,
   ⟨3, 31, icTimerMsg, _, rfl, by decide +kernel⟩,
   ⟨.host, 35, act, by decide +kernel⟩,
   ⟨.host, 3, act, by decide +kernel⟩,
   ⟨31, icPba, by decide +kernel⟩⟩

theorem witness_KernelEngineCommands :
    (∃ who : Requester, ∃ g : Cluster, ∃ s : State, s.OpenReg who .KRN_CTRL g ∧ s.epochRun = true ∧ s.krnRuns g = false) ∧
    (∃ who : Requester, ∃ g : Cluster, ∃ s : State, s.OpenReg who .KRN_CTRL g ∧ ((s.epochRun = false ∨ s.krnRuns g = true))) ∧
    (∃ who : Requester, ∃ g : Cluster, ∃ s : State, s.OpenReg who .KRN_CTRL g ∧ s.krnRuns g = true) ∧
    (∃ who : Requester, ∃ g : Cluster, ∃ s : State, s.OpenReg who .KRN_ATTN_SET g) ∧
    (∃ dt : Nat, ∃ g : Cluster, ∃ s : State, ∃ p, p = (s.pass dt) ∧ s.krnRuns g = true ∧ p.krnAttention g = true ∧ (s.krn!
    g).latchedAt < s.now + dt) ∧
    (∃ dt : Nat, ∃ g : Cluster, ∃ i : Fin 2, ∃ s : State, ∃ p, p = (s.pass dt) ∧ s.epochRun = true ∧ p.regionAwake (g / 4) = true
    ∧ s.fld .KRN_IN_CFG (2 * g + i) 2 0 = 3 ∧ 8 ≤ p.ftg ∧ (s.krnIn g i).length < 64) ∧
    (∃ dt : Nat, ∃ g : Cluster, ∃ i : Fin 2, ∃ s : State, ∃ p, p = (s.pass dt) ∧ s.epochRun = true ∧ p.regionAwake (g / 4) = true
    ∧ s.fld .KRN_IN_CFG (2 * g + i) 2 0 = 3 ∧ 8 ≤ p.ftg ∧ 64 ≤ (s.krnIn g i).length) ∧
    (∃ who : Requester, ∃ g : Cluster, ∃ i : Fin 2, ∃ v : Word, ∃ s : State, s.OpenReg who .KRN_IN_CFG (2 * g + i) ∧ ((4 < bits v
    2 0 ∨ 64 < bits v 22 16))) ∧
    (∃ who : Requester, ∃ g : Cluster, ∃ i : Fin 2, ∃ v : Word, ∃ s : State, s.OpenReg who .KRN_IN_CFG (2 * g + i) ∧ (bits v 2 0 =
    0 ∨ bits v 2 0 = 3 ∨ bits v 2 0 = 4) ∧ bits v 22 16 ≤ 64 ∧ s.krnRuns g = false) ∧
    (∃ dt : Nat, ∃ g : Cluster, ∃ s : State, ∃ p, p = (s.pass dt) ∧ ∃ x : Fin 16, ∃ w : KrnWindow, tget [] s.krn.pend (16 * g + x)
    = [w] ∧ w.missed = false ∧ w.at_ + s.fld .KRN_KDL (16 * g + x) 9 0 < p.ftg ∧ s.epochRun = true) ∧
    (∃ dt : Nat, ∃ g : Cluster, ∃ s : State, ∃ p, p = (s.pass dt) ∧ ∃ w : BitVec 64, p.KrnReady g w ∧ (s.krn! g).flight = [] ∧
    KB.cop w = 0 ∧ KB.aop w = 0 ∧ s.fld .KRN_LC1 g 15 0 = 1 ∧ s.fld .KRN_LE1 g 12 0 = s.krnPc g) :=
  ⟨⟨.host, 0, krnBase, by decide +kernel⟩,
   ⟨.host, 63, krnBase, by decide +kernel⟩,
   ⟨.host, 63, krnBase, by decide +kernel⟩,
   ⟨.host, 63, krnBase, by decide +kernel⟩,
   ⟨3, 63, krnAttn, _, rfl, by decide +kernel⟩,
   ⟨3, 63, 1, krnInCfg, _, rfl, by decide +kernel⟩,
   ⟨3, 63, 1, krnInFull, _, rfl, by decide +kernel⟩,
   ⟨.host, 63, 1, 0x00410000, krnBase, by decide +kernel⟩,
   ⟨.host, 0, 1, 0x12345678, krnBase, by decide +kernel⟩,
   ⟨3, 63, krnPendW, _, rfl, 15, { at_ := 998000 }, by decide +kernel⟩,
   ⟨3, 63, krnLoopEnd, _, rfl, (krnLoopEnd).krnBundle (63) ((krnLoopEnd).krnPc (63)), by decide +kernel⟩⟩

theorem witness_KernelBundlesIssue :
    (∃ c : Instr, ∃ dt : Nat, ∃ g : Nat, ∃ h : BitVec 64 → Bool, ∃ w : BitVec 64, ∃ s : State, ∃ p, p = (s.pass dt) ∧ kernelRow c
    = some (dt, g, h) ∧ h w = true ∧ p.KrnReady g w ∧ KB.aop w ≠ 2 ∧ KB.aop w ≠ 3 ∧ KB.aop w ≠ 5) ∧
    (∃ c : Instr, ∃ dt : Nat, ∃ g : Nat, ∃ h : BitVec 64 → Bool, ∃ w : BitVec 64, ∃ s : State, ∃ p, p = (s.pass dt) ∧ kernelRow c
    = some (dt, g, h) ∧ h w = true ∧ p.KrnReady g w ∧ s.Inv) :=
  ⟨⟨.krnNop (3) 63, 3, 63, hasNop, ((krnI 1 0 0 0)).krnBundle (63) (((krnI 1 0 0 0)).krnPc (63)), (krnI 1 0 0 0), _, rfl, rfl,
   by decide +kernel⟩,
   ⟨.krnNop (3) 63, 3, 63, hasNop, ((krnI 1 0 0 0)).krnBundle (63) (((krnI 1 0 0 0)).krnPc (63)), (krnI 1 0 0 0), _, rfl, rfl,
   by decide +kernel⟩⟩

theorem witness_KernelMSlotResults :
    (∃ dt : Nat, ∃ g : Cluster, ∃ w : BitVec 64, ∃ s : State, ∃ p, p = (s.pass dt) ∧ p.KrnReady g w ∧ KB.mop w = 0x01) ∧
    (∃ dt : Nat, ∃ g : Cluster, ∃ w : BitVec 64, ∃ s : State, ∃ p, p = (s.pass dt) ∧ p.KrnReady g w ∧ KB.mop w = 0x02) ∧
    (∃ dt : Nat, ∃ g : Cluster, ∃ w : BitVec 64, ∃ s : State, ∃ p, p = (s.pass dt) ∧ p.KrnReady g w ∧ KB.mop w = 0x03) ∧
    (∃ dt : Nat, ∃ g : Cluster, ∃ w : BitVec 64, ∃ s : State, ∃ p, p = (s.pass dt) ∧ p.KrnReady g w ∧ KB.mop w = 0x04) ∧
    (∃ dt : Nat, ∃ g : Cluster, ∃ w : BitVec 64, ∃ s : State, ∃ p, p = (s.pass dt) ∧ p.KrnReady g w ∧ KB.mop w = 0x05) ∧
    (∃ dt : Nat, ∃ g : Cluster, ∃ w : BitVec 64, ∃ s : State, ∃ p, p = (s.pass dt) ∧ p.KrnReady g w ∧ KB.mop w = 0x06) ∧
    (∃ dt : Nat, ∃ g : Cluster, ∃ w : BitVec 64, ∃ s : State, ∃ p, p = (s.pass dt) ∧ p.KrnReady g w ∧ KB.mop w = 0x07) ∧
    (∃ dt : Nat, ∃ g : Cluster, ∃ w : BitVec 64, ∃ s : State, ∃ p, p = (s.pass dt) ∧ p.KrnReady g w ∧ KB.mop w = 0x08) ∧
    (∃ dt : Nat, ∃ g : Cluster, ∃ w : BitVec 64, ∃ s : State, ∃ p, p = (s.pass dt) ∧ p.KrnReady g w ∧ KB.mop w = 0x09) ∧
    (∃ dt : Nat, ∃ g : Cluster, ∃ w : BitVec 64, ∃ s : State, ∃ p, p = (s.pass dt) ∧ p.KrnReady g w ∧ KB.mop w = 0x0A) ∧
    (∃ dt : Nat, ∃ g : Cluster, ∃ w : BitVec 64, ∃ s : State, ∃ p, p = (s.pass dt) ∧ p.KrnReady g w ∧ KB.mop w = 0x0B) ∧
    (∃ dt : Nat, ∃ g : Cluster, ∃ w : BitVec 64, ∃ s : State, ∃ p, p = (s.pass dt) ∧ p.KrnReady g w ∧ KB.mop w = 0x0C) ∧
    (∃ dt : Nat, ∃ g : Cluster, ∃ w : BitVec 64, ∃ s : State, ∃ p, p = (s.pass dt) ∧ p.KrnReady g w ∧ KB.mop w = 0x0D) ∧
    (∃ dt : Nat, ∃ g : Cluster, ∃ w : BitVec 64, ∃ s : State, ∃ p, p = (s.pass dt) ∧ p.KrnReady g w ∧ KB.mop w = 0x0E) ∧
    (∃ dt : Nat, ∃ g : Cluster, ∃ w : BitVec 64, ∃ s : State, ∃ p, p = (s.pass dt) ∧ p.KrnReady g w ∧ KB.mop w = 0x0F) ∧
    (∃ dt : Nat, ∃ g : Cluster, ∃ w : BitVec 64, ∃ s : State, ∃ p, p = (s.pass dt) ∧ p.KrnReady g w ∧ KB.mop w = 0x10) :=
  ⟨⟨3, 63, ((krnI 0x01 0 0 0x787800000000000)).krnBundle (63) (((krnI 0x01 0 0 0x787800000000000)).krnPc (63)), (krnI 0x01 0 0
   0x787800000000000), _, rfl, by decide +kernel⟩,
   ⟨3, 63, ((krnI 0x02 0 0 0x787800000000000)).krnBundle (63) (((krnI 0x02 0 0 0x787800000000000)).krnPc (63)), (krnI 0x02 0 0
   0x787800000000000), _, rfl, by decide +kernel⟩,
   ⟨3, 63, ((krnI 0x03 0 0 0x787800000000000)).krnBundle (63) (((krnI 0x03 0 0 0x787800000000000)).krnPc (63)), (krnI 0x03 0 0
   0x787800000000000), _, rfl, by decide +kernel⟩,
   ⟨3, 63, ((krnI 0x04 0 0 0x787800000000000)).krnBundle (63) (((krnI 0x04 0 0 0x787800000000000)).krnPc (63)), (krnI 0x04 0 0
   0x787800000000000), _, rfl, by decide +kernel⟩,
   ⟨3, 63, ((krnI 0x05 0 0 0x787800000000000)).krnBundle (63) (((krnI 0x05 0 0 0x787800000000000)).krnPc (63)), (krnI 0x05 0 0
   0x787800000000000), _, rfl, by decide +kernel⟩,
   ⟨3, 63, ((krnI 0x06 0 0 0x787800000000000)).krnBundle (63) (((krnI 0x06 0 0 0x787800000000000)).krnPc (63)), (krnI 0x06 0 0
   0x787800000000000), _, rfl, by decide +kernel⟩,
   ⟨3, 63, ((krnI 0x07 0 0 0x787800000000000)).krnBundle (63) (((krnI 0x07 0 0 0x787800000000000)).krnPc (63)), (krnI 0x07 0 0
   0x787800000000000), _, rfl, by decide +kernel⟩,
   ⟨3, 63, ((krnI 0x08 0 0 0x787800000000000)).krnBundle (63) (((krnI 0x08 0 0 0x787800000000000)).krnPc (63)), (krnI 0x08 0 0
   0x787800000000000), _, rfl, by decide +kernel⟩,
   ⟨3, 63, ((krnI 0x09 0 0 0x787800000000000)).krnBundle (63) (((krnI 0x09 0 0 0x787800000000000)).krnPc (63)), (krnI 0x09 0 0
   0x787800000000000), _, rfl, by decide +kernel⟩,
   ⟨3, 63, ((krnI 0x0A 0 0 0x787800000000000)).krnBundle (63) (((krnI 0x0A 0 0 0x787800000000000)).krnPc (63)), (krnI 0x0A 0 0
   0x787800000000000), _, rfl, by decide +kernel⟩,
   ⟨3, 63, ((krnI 0x0B 0 0 0x787800000000000)).krnBundle (63) (((krnI 0x0B 0 0 0x787800000000000)).krnPc (63)), (krnI 0x0B 0 0
   0x787800000000000), _, rfl, by decide +kernel⟩,
   ⟨3, 63, ((krnI 0x0C 0 0 0x787800000000000)).krnBundle (63) (((krnI 0x0C 0 0 0x787800000000000)).krnPc (63)), (krnI 0x0C 0 0
   0x787800000000000), _, rfl, by decide +kernel⟩,
   ⟨3, 63, ((krnI 0x0D 0 0 0x787800000000000)).krnBundle (63) (((krnI 0x0D 0 0 0x787800000000000)).krnPc (63)), (krnI 0x0D 0 0
   0x787800000000000), _, rfl, by decide +kernel⟩,
   ⟨3, 63, ((krnI 0x0E 0 0 0x787800000000000)).krnBundle (63) (((krnI 0x0E 0 0 0x787800000000000)).krnPc (63)), (krnI 0x0E 0 0
   0x787800000000000), _, rfl, by decide +kernel⟩,
   ⟨3, 63, ((krnI 0x0F 0 0 0x411000000000000)).krnBundle (63) (((krnI 0x0F 0 0 0x411000000000000)).krnPc (63)), (krnI 0x0F 0 0
   0x411000000000000), _, rfl, by decide +kernel⟩,
   ⟨3, 63, ((krnI 0x10 0 0 0x787800000000000)).krnBundle (63) (((krnI 0x10 0 0 0x787800000000000)).krnPc (63)), (krnI 0x10 0 0
   0x787800000000000), _, rfl, by decide +kernel⟩⟩

theorem witness_KernelACSlotResults :
    (∃ dt : Nat, ∃ g : Cluster, ∃ w : BitVec 64, ∃ s : State, ∃ p, p = (s.pass dt) ∧ p.KrnReady g w ∧ (s.krn! g).flight = [] ∧
    KB.aop w = 1) ∧
    (∃ dt : Nat, ∃ g : Cluster, ∃ w : BitVec 64, ∃ s : State, ∃ p, p = (s.pass dt) ∧ p.KrnReady g w ∧ (s.krn! g).flight = [] ∧
    KB.aop w = 2) ∧
    (∃ dt : Nat, ∃ g : Cluster, ∃ w : BitVec 64, ∃ s : State, ∃ p, p = (s.pass dt) ∧ p.KrnReady g w ∧ (s.krn! g).flight = [] ∧
    KB.aop w = 3) ∧
    (∃ dt : Nat, ∃ g : Cluster, ∃ w : BitVec 64, ∃ s : State, ∃ p, p = (s.pass dt) ∧ p.KrnReady g w ∧ (s.krn! g).flight = [] ∧
    KB.aop w = 4) ∧
    (∃ dt : Nat, ∃ g : Cluster, ∃ w : BitVec 64, ∃ s : State, ∃ p, p = (s.pass dt) ∧ p.KrnReady g w ∧ (s.krn! g).flight = [] ∧
    KB.aop w = 5) ∧
    (∃ dt : Nat, ∃ g : Cluster, ∃ w : BitVec 64, ∃ s : State, ∃ p, p = (s.pass dt) ∧ ∃ cc, ∃ v, ∃ rest, p.KrnReady g w ∧ (s.krn!
    g).flight = [] ∧ KB.aop w = 6 ∧ s.krnIn g (KB.inp w) = (cc, v) :: rest) ∧
    (∃ dt : Nat, ∃ g : Cluster, ∃ w : BitVec 64, ∃ s : State, ∃ p, p = (s.pass dt) ∧ p.KrnReady g w ∧ (s.krn! g).flight = [] ∧
    KB.aop w = 7) ∧
    (∃ dt : Nat, ∃ g : Cluster, ∃ w : BitVec 64, ∃ s : State, ∃ p, p = (s.pass dt) ∧ p.KrnReady g w ∧ (s.krn! g).flight = [] ∧
    KB.aop w = 8) ∧
    (∃ dt : Nat, ∃ g : Cluster, ∃ w : BitVec 64, ∃ s : State, ∃ p, p = (s.pass dt) ∧ p.KrnReady g w ∧ (s.krn! g).flight = [] ∧
    KB.aop w = 9) ∧
    (∃ dt : Nat, ∃ g : Cluster, ∃ w : BitVec 64, ∃ s : State, ∃ p, p = (s.pass dt) ∧ p.KrnReady g w ∧ (s.krn! g).flight = [] ∧
    KB.aop w = 0xA ∧ (s.fld .KRN_L (4 * g + KB.j w) 15 0 = 0 ∨ KB.imm w = 0)) ∧
    (∃ dt : Nat, ∃ g : Cluster, ∃ w : BitVec 64, ∃ s : State, ∃ p, p = (s.pass dt) ∧ p.KrnReady g w ∧ (s.krn! g).flight = [] ∧
    KB.aop w = 0xA ∧ s.fld .KRN_L (4 * g + KB.j w) 15 0 ≠ 0 ∧ KB.imm w ≠ 0) ∧
    (∃ dt : Nat, ∃ g : Cluster, ∃ w : BitVec 64, ∃ s : State, ∃ p, p = (s.pass dt) ∧ p.KrnReady g w ∧ (s.krn! g).flight = [] ∧
    KB.aop w = 0xB ∧ s.fld .KRN_L (4 * g + KB.j w) 15 0 = 0) ∧
    (∃ dt : Nat, ∃ g : Cluster, ∃ w : BitVec 64, ∃ s : State, ∃ p, p = (s.pass dt) ∧ p.KrnReady g w ∧ (s.krn! g).flight = [] ∧
    KB.aop w = 0xB ∧ s.fld .KRN_L (4 * g + KB.j w) 15 0 ≠ 0) ∧
    (∃ dt : Nat, ∃ g : Cluster, ∃ w : BitVec 64, ∃ s : State, ∃ p, p = (s.pass dt) ∧ ∃ i, i = (4 * g + KB.i w) ∧ p.KrnReady g w ∧
    (s.krn! g).flight = [] ∧ KB.aop w = 0xC ∧ s.fld .KRN_L i 15 0 = 0) ∧
    (∃ dt : Nat, ∃ g : Cluster, ∃ w : BitVec 64, ∃ s : State, ∃ p, p = (s.pass dt) ∧ p.KrnReady g w ∧ (s.krn! g).flight = [] ∧
    KB.cop w = 1) ∧
    (∃ dt : Nat, ∃ g : Cluster, ∃ w : BitVec 64, ∃ s : State, ∃ p, p = (s.pass dt) ∧ p.KrnReady g w ∧ (s.krn! g).flight = [] ∧
    KB.cop w = 2) ∧
    (∃ dt : Nat, ∃ g : Cluster, ∃ w : BitVec 64, ∃ s : State, ∃ p, p = (s.pass dt) ∧ p.KrnReady g w ∧ (s.krn! g).flight = [] ∧
    KB.cop w = 3 ∧ ((KB.cond w = 0 ∧ s.krnStatBit g 1 = true) ∨ (KB.cond w = 1 ∧ s.krnStatBit g 1 = false) ∨ (KB.cond w = 2 ∧
    s.krnStatBit g 0 = true) ∨ (KB.cond w = 3 ∧ s.krnStatBit g 0 = false))) ∧
    (∃ dt : Nat, ∃ g : Cluster, ∃ w : BitVec 64, ∃ s : State, ∃ p, p = (s.pass dt) ∧ ∃ c, ∃ n, n = (if KB.cop w = 4 then KB.cnt w
    else s.fld .KRN_P (4 * g + KB.lp w) 15 0) ∧ p.KrnReady g w ∧ (s.krn! g).flight = [] ∧ ((c = Instr.krnLoop dt g ∧ KB.cop w = 4)
    ∨ (c = Instr.loopr dt g ∧ KB.cop w = 5)) ∧ n = 0) ∧
    (∃ dt : Nat, ∃ g : Cluster, ∃ w : BitVec 64, ∃ s : State, ∃ p, p = (s.pass dt) ∧ p.KrnReady g w ∧ (s.krn! g).flight = [] ∧
    KB.cop w = 6) ∧
    (∃ dt : Nat, ∃ g : Cluster, ∃ w : BitVec 64, ∃ s : State, ∃ p, p = (s.pass dt) ∧ p.KrnReady g w ∧ (s.krn! g).flight = [] ∧
    KB.cop w = 7 ∧ s.bit .TONE_CFG (16 * g + KB.tone w) 1 = false) ∧
    (∃ dt : Nat, ∃ g : Cluster, ∃ w : BitVec 64, ∃ s : State, ∃ p, p = (s.pass dt) ∧ p.KrnReady g w ∧ (s.krn! g).flight = [] ∧
    KB.cop w = 7 ∧ s.bit .TONE_CFG (16 * g + KB.tone w) 1 = true ∧ s.epochRun = true ∧ tget [] s.krn.pend (16 * g + KB.tone w) =
    []) ∧
    (∃ dt : Nat, ∃ g : Cluster, ∃ w : BitVec 64, ∃ s : State, ∃ p, p = (s.pass dt) ∧ p.KrnReady g w ∧ (s.krn! g).flight = [] ∧
    KB.cop w = 8) ∧
    (∃ dt : Nat, ∃ g : Cluster, ∃ w : BitVec 64, ∃ s : State, ∃ p, p = (s.pass dt) ∧ p.KrnReady g w ∧ (s.krn! g).flight = [] ∧
    KB.cop w = 9) ∧
    (∃ dt : Nat, ∃ g : Cluster, ∃ w : BitVec 64, ∃ s : State, ∃ p, p = (s.pass dt) ∧ p.KrnReady g w ∧ (s.krn! g).flight = [] ∧
    KB.cop w = 0xA) :=
  ⟨⟨3, 63, ((krnI 0 1 0 0x7FF80000000)).krnBundle (63) (((krnI 0 1 0 0x7FF80000000)).krnPc (63)), (krnI 0 1 0 0x7FF80000000), _,
   rfl, by decide +kernel⟩,
   ⟨3, 63, ((krnI 0 2 0 0x7FF80000000)).krnBundle (63) (((krnI 0 2 0 0x7FF80000000)).krnPc (63)), (krnI 0 2 0 0x7FF80000000), _,
   rfl, by decide +kernel⟩,
   ⟨3, 63, ((krnI 0 3 0 0x7FF80000000)).krnBundle (63) (((krnI 0 3 0 0x7FF80000000)).krnPc (63)), (krnI 0 3 0 0x7FF80000000), _,
   rfl, by decide +kernel⟩,
   ⟨3, 63, ((krnI 0 4 0 0x19234000000)).krnBundle (63) (((krnI 0 4 0 0x19234000000)).krnPc (63)), (krnI 0 4 0 0x19234000000), _,
   rfl, by decide +kernel⟩,
   ⟨3, 63, ((krnI 0 5 0 0x19234000000)).krnBundle (63) (((krnI 0 5 0 0x19234000000)).krnPc (63)), (krnI 0 5 0 0x19234000000), _,
   rfl, by decide +kernel⟩,
   ⟨3, 63, (krnInOne).krnBundle (63) ((krnInOne).krnPc (63)), krnInOne, _, rfl, 999990, 0x00050006, [], by decide +kernel⟩,
   ⟨3, 63, ((krnI 0 7 0 0x7FF80000000)).krnBundle (63) (((krnI 0 7 0 0x7FF80000000)).krnPc (63)), (krnI 0 7 0 0x7FF80000000), _,
   rfl, by decide +kernel⟩,
   ⟨3, 63, ((krnI 0 8 0 0x7FF80000000)).krnBundle (63) (((krnI 0 8 0 0x7FF80000000)).krnPc (63)), (krnI 0 8 0 0x7FF80000000), _,
   rfl, by decide +kernel⟩,
   ⟨3, 63, ((krnI 0 9 0 0x7FF80000000)).krnBundle (63) (((krnI 0 9 0 0x7FF80000000)).krnPc (63)), (krnI 0 9 0 0x7FF80000000), _,
   rfl, by decide +kernel⟩,
   ⟨3, 63, ((krnI 0 10 0 0x7FF80000000)).krnBundle (63) (((krnI 0 10 0 0x7FF80000000)).krnPc (63)), (krnI 0 10 0 0x7FF80000000),
   _, rfl, by decide +kernel⟩,
   ⟨3, 63, ((krnLset (krnI 0 10 0 0x7FF80000000))).krnBundle (63) (((krnLset (krnI 0 10 0 0x7FF80000000))).krnPc (63)), (krnLset
   (krnI 0 10 0 0x7FF80000000)), _, rfl, by decide +kernel⟩,
   ⟨3, 63, ((krnI 0 11 0 0x7FF80000000)).krnBundle (63) (((krnI 0 11 0 0x7FF80000000)).krnPc (63)), (krnI 0 11 0 0x7FF80000000),
   _, rfl, by decide +kernel⟩,
   ⟨3, 63, ((krnLset (krnI 0 11 0 0x7FF80000000))).krnBundle (63) (((krnLset (krnI 0 11 0 0x7FF80000000))).krnPc (63)), (krnLset
   (krnI 0 11 0 0x7FF80000000)), _, rfl, by decide +kernel⟩,
   ⟨3, 63, ((krnI 0 12 0 0x7FF80000000)).krnBundle (63) (((krnI 0 12 0 0x7FF80000000)).krnPc (63)), (krnI 0 12 0 0x7FF80000000),
   _, rfl, _, rfl, by decide +kernel⟩,
   ⟨3, 63, ((krnI 0 0 1 0x1FFF)).krnBundle (63) (((krnI 0 0 1 0x1FFF)).krnPc (63)), (krnI 0 0 1 0x1FFF), _, rfl,
   by decide +kernel⟩,
   ⟨3, 63, ((krnI 0 0 2 0x1FFF)).krnBundle (63) (((krnI 0 0 2 0x1FFF)).krnPc (63)), (krnI 0 0 2 0x1FFF), _, rfl,
   by decide +kernel⟩,
   ⟨3, 63, ((krnI 0 0 3 0x18001)).krnBundle (63) (((krnI 0 0 3 0x18001)).krnPc (63)), (krnI 0 0 3 0x18001), _, rfl,
   by decide +kernel⟩,
   ⟨3, 63, ((krnI 0 0 4 0x0)).krnBundle (63) (((krnI 0 0 4 0x0)).krnPc (63)), (krnI 0 0 4 0x0), _, rfl, .krnLoop (3) (63), _, rfl,
   by decide +kernel⟩,
   ⟨3, 63, (((krnI 0 0 6 0).setReg .KRN_KSTAT 63 16)).krnBundle (63) ((((krnI 0 0 6 0).setReg .KRN_KSTAT 63 16)).krnPc (63)),
   ((krnI 0 0 6 0).setReg .KRN_KSTAT 63 16), _, rfl, by decide +kernel⟩,
   ⟨3, 63, ((krnI 0 0 7 0x1FFF)).krnBundle (63) (((krnI 0 0 7 0x1FFF)).krnPc (63)), (krnI 0 0 7 0x1FFF), _, rfl,
   by decide +kernel⟩,
   ⟨3, 63, ((toneDsrc (krnI 0 0 7 0x27C02))).krnBundle (63) (((toneDsrc (krnI 0 0 7 0x27C02))).krnPc (63)), (toneDsrc (krnI 0 0 7
   0x27C02)), _, rfl, by decide +kernel⟩,
   ⟨3, 63, ((krnI 0 0 8 0x1FFF)).krnBundle (63) (((krnI 0 0 8 0x1FFF)).krnPc (63)), (krnI 0 0 8 0x1FFF), _, rfl,
   by decide +kernel⟩,
   ⟨3, 63, ((krnI 0 0 9 0x1FFF)).krnBundle (63) (((krnI 0 0 9 0x1FFF)).krnPc (63)), (krnI 0 0 9 0x1FFF), _, rfl,
   by decide +kernel⟩,
   ⟨3, 63, ((krnI 0 0 10 0x1FFF)).krnBundle (63) (((krnI 0 0 10 0x1FFF)).krnPc (63)), (krnI 0 0 10 0x1FFF), _, rfl,
   by decide +kernel⟩⟩

theorem witness_TakeEnginesComplete :
    (∃ who : Requester, ∃ n : Region, ∃ s : State, ∃ u, u = (s.throughOpen who (regAddr .TK_CMD n)) ∧ s.OpenReg who .TK_CMD n ∧
    u.tkState n ≠ 1 ∧ u.tkState n ≠ 2 ∧ lowestCode (u.armChecks n (u.lagOf n)) = none) ∧
    (∃ who : Requester, ∃ n : Region, ∃ s : State, ∃ u, u = (s.throughOpen who (regAddr .TK_CMD n)) ∧ s.OpenReg who .TK_CMD n ∧
    u.tkState n = 1) ∧
    (∃ who : Requester, ∃ n : Region, ∃ s : State, ∃ u, u = (s.throughOpen who (regAddr .TK_CMD n)) ∧ s.OpenReg who .TK_CMD n ∧
    u.tkState n = 2) ∧
    (∃ who : Requester, ∃ n : Region, ∃ s : State, ∃ u, u = (s.throughOpen who (regAddr .TK_CMD n)) ∧ s.OpenReg who .TK_CMD n ∧
    (u.tkState n = 0 ∨ u.tkState n = 3)) ∧
    (∃ who : Requester, ∃ n : Region, ∃ s : State, ∃ u, u = (s.throughOpen who (regAddr .TK_CMD n)) ∧ s.OpenReg who .TK_CMD n ∧
    u.epochRun = true ∧ (u.tkState n = 1 ∨ u.tkState n = 2)) ∧
    (∃ who : Requester, ∃ n : Region, ∃ s : State, ∃ u, u = (s.throughOpen who (regAddr .TK_CMD n)) ∧ s.OpenReg who .TK_CMD n ∧
    (u.epochRun = false ∨ (u.tkState n ≠ 1 ∧ u.tkState n ≠ 2))) ∧
    (∃ dt : Nat, ∃ n : Region, ∃ s : State, ∃ p, p = (s.pass dt) ∧ s.epochRun = true ∧ (s.tkState n = 1 ∨ s.tkState n = 2) ∧ s.fld
    .TK_LAG n 15 0 ≤ p.ftg ∧ (s.takeEngine n).armAt ≤ p.ftg - s.fld .TK_LAG n 15 0 ∧ p.ftg - s.fld .TK_LAG n 15 0 ∈ (s.takeEngine
    n).forces ∧ s.accepting n (p.ftg - s.fld .TK_LAG n 15 0) = true) ∧
    (∃ dt : Nat, ∃ n : Region, ∃ s : State, ∃ p, p = (s.pass dt) ∧ s.epochRun = true ∧ (s.tkState n = 1 ∨ s.tkState n = 2) ∧ s.fld
    .TK_LAG n 15 0 ≤ p.ftg ∧ (s.takeEngine n).armAt ≤ p.ftg - s.fld .TK_LAG n 15 0 ∧ p.ftg - s.fld .TK_LAG n 15 0 ∈ (s.takeEngine
    n).forces ∧ s.accepting n (p.ftg - s.fld .TK_LAG n 15 0) = false) ∧
    (∃ dt : Nat, ∃ n : Region, ∃ s : State, ∃ p, p = (s.pass dt) ∧ s.tkState n = 2 ∧ (s.takeEngine n).lastEnd ≤ p.ftg) ∧
    (∃ who : Requester, ∃ n : Region, ∃ v : Word, ∃ s : State, ∃ u, u = (s.throughOpen who (regAddr .TK_CMD n)) ∧ ∃ u, u =
    (s.throughOpen who (regAddr .TK_RD n)) ∧ s.OpenReg who .TK_RD n ∧ u.regNat .TK_TRIG n < v.toNat) ∧
    (∃ who : Requester, ∃ n : Region, ∃ v : Word, ∃ s : State, ∃ u, u = (s.throughOpen who (regAddr .TK_CMD n)) ∧ ∃ u, u =
    (s.throughOpen who (regAddr .TK_RD n)) ∧ s.OpenReg who .TK_RD n ∧ v.toNat ≤ u.regNat .TK_TRIG n) :=
  ⟨⟨.host, 15, tkReady, _, rfl, by decide +kernel⟩,
   ⟨.host, 15, tkArmed, _, rfl, by decide +kernel⟩,
   ⟨.host, 15, tkEnded, _, rfl, by decide +kernel⟩,
   ⟨.host, 15, tkReady, _, rfl, by decide +kernel⟩,
   ⟨.host, 15, tkArmed, _, rfl, by decide +kernel⟩,
   ⟨.host, 15, tkReady, _, rfl, by decide +kernel⟩,
   ⟨3, 15, tkArmed, _, rfl, by decide +kernel⟩,
   ⟨3, 15, tkFull, _, rfl, by decide +kernel⟩,
   ⟨3, 15, tkEnded, _, rfl, by decide +kernel⟩,
   ⟨.host, 15, 1, tkReady, _, rfl, _, rfl, by decide +kernel⟩,
   ⟨.host, 15, 0, tkReady, _, rfl, _, rfl, by decide +kernel⟩⟩

theorem witness_SlatesAndEarlyEnds :
    (∃ n : Region, ∃ k : Take, ∃ rest : List Take, ∃ s : State, (s.takeEngine n).takes = k :: rest ∧ k.closed = true ∧ s.Inv) ∧
    (∃ n : Region, ∃ k : Take, ∃ rest : List Take, ∃ s : State, (s.takeEngine n).takes = k :: rest ∧ k.closed = true ∧ k.status =
    0) ∧
    (∃ dt : Nat, ∃ n : Region, ∃ k : Take, ∃ s : State, ∃ p, p = (s.pass dt) ∧ ∃ fl : Nat, (s.takeEngine n).takes = [k] ∧ k.fstop
    = none ∧ k.ft ≤ fl ∧ fl < k.ft + s.tkPost n ∧ fl ≤ p.ftg) ∧
    (∃ dt : Nat, ∃ n : Region, ∃ k : Take, ∃ s : State, ∃ p, p = (s.pass dt) ∧ ∃ i : Fin 4, ∃ pos : Nat, ∃ r : Reduction, ∃ x :
    OutputSample, (s.takeEngine n).takes = [k] ∧ k.fstop = none ∧ k.flags &&& 2 = 0 ∧ (s.reductions n).find? (fun r => r.i ==
    s.fld .TK_MASK_CTRL (4 * n + i) 5 2) = some r ∧ s.bit .TK_MASK_CTRL (4 * n + i) 0 = true ∧ s.violates (4 * n + i) r.kind x =
    true ∧ s.coveredEnd n r pos + 9 ≤ p.ftg ∧ k.ft + (s.reg .TK_MASK_MS (4 * n + i)).toInt ≤ (pos / 8 : Nat) ∧ ((pos / 8 : Nat) :
    Int) < k.ft + (s.reg .TK_MASK_ME (4 * n + i)).toInt ∧ k.ft ≤ pos / 8 + s.tkPre n ∧ pos / 8 < k.ft + s.tkPost n ∧ s.bit
    .TK_MASK_CTRL (4 * n + i) 1 = true) ∧
    (∃ dt : Nat, ∃ n : Region, ∃ k : Take, ∃ s : State, ∃ p, p = (s.pass dt) ∧ ∃ i : Fin 4, ∃ pos : Nat, ∃ r : Reduction, ∃ x :
    OutputSample, (s.takeEngine n).takes = [k] ∧ k.fstop = none ∧ k.flags &&& 2 = 0 ∧ (s.reductions n).find? (fun r => r.i ==
    s.fld .TK_MASK_CTRL (4 * n + i) 5 2) = some r ∧ s.bit .TK_MASK_CTRL (4 * n + i) 0 = true ∧ s.violates (4 * n + i) r.kind x =
    true ∧ s.coveredEnd n r pos + 9 ≤ p.ftg ∧ k.ft + (s.reg .TK_MASK_MS (4 * n + i)).toInt ≤ (pos / 8 : Nat) ∧ ((pos / 8 : Nat) :
    Int) < k.ft + (s.reg .TK_MASK_ME (4 * n + i)).toInt ∧ k.ft ≤ pos / 8 + s.tkPre n ∧ pos / 8 < k.ft + s.tkPost n ∧ s.bit
    .TK_MASK_CTRL (4 * n + i) 1 = false) :=
  ⟨⟨15, { take0 with ft := 998980, closed := true }, [], tkClosed, by decide +kernel⟩,
   ⟨15, { take0 with ft := 998980, closed := true }, [], tkClosed, by decide +kernel⟩,
   ⟨3, 15, { take0 with ft := 998980, closed := true }, tkClosed, _, rfl, 998995, by decide +kernel⟩,
   ⟨3, 15, take0, tkMask 1, _, rfl, 3, 998992 * 8 + 3, { i := 2, kind := 0, k := 0, sel := 0 }, (101, 0), by decide +kernel⟩,
   ⟨3, 15, take0, tkMask 0, _, rfl, 3, 998992 * 8 + 3, { i := 2, kind := 0, k := 0, sel := 0 }, (101, 0), by decide +kernel⟩⟩

theorem witness_SystemTakesComplete :
    (∃ who : Requester, ∃ s : State, ∃ base, base = (s.regNat .STK_RING_BASE_LO + s.fld .STK_RING_BASE_HI 0 9 0 * 2 ^ 32) ∧
    s.OpenReg who .STK_CMD 0 ∧ s.stkArmed = false ∧ base % 65536 = 0 ∧ s.epochRun = true ∧ base + s.fld .STK_RING_SIZE 0 26 0 *
    65536 ≤ s.memCap) ∧
    (∃ who : Requester, ∃ s : State, ∃ base, base = (s.regNat .STK_RING_BASE_LO + s.fld .STK_RING_BASE_HI 0 9 0 * 2 ^ 32) ∧
    s.OpenReg who .STK_CMD 0 ∧ s.stkArmed = false ∧ base % 65536 ≠ 0) ∧
    (∃ who : Requester, ∃ s : State, s.OpenReg who .STK_CMD 0 ∧ s.stkArmed = true) ∧
    (∃ dt : Nat, ∃ s : State, ∃ p, p = (s.pass dt) ∧ ∃ x : Fin 256, ∃ k : SysStamp, s.take.sys.arriving = [k] ∧ k.t = x.val ∧
    k.at_ ≤ p.ftg ∧ k.ts / 2048 + s.fld .STK_HZN 0 15 0 < k.at_) ∧
    (∃ dt : Nat, ∃ s : State, ∃ p, p = (s.pass dt) ∧ ∃ x : Fin 256, ∃ k : SysStamp, s.take.sys.arriving = [k] ∧ k.t = x.val ∧
    k.at_ ≤ p.ftg ∧ k.at_ ≤ k.ts / 2048 + s.fld .STK_HZN 0 15 0) ∧
    (∃ dt : Nat, ∃ s : State, ∃ p, p = (s.pass dt) ∧ ∃ u : Fin 2048, ∃ f, f = (p.ftg - s.fld .STK_HZN 0 15 0) ∧ ∃ x, x = (2048 * f
    + u.val) ∧ s.epochRun = true ∧ s.stkArmed = true ∧ s.fld .STK_HZN 0 15 0 ≤ p.ftg ∧ s.take.sys.armAt ≤ f ∧ s.sysPatternAt x =
    true ∧ ((x = 0 ∨ s.sysPatternAt (x - 1) = false)) ∧ (x < s.take.sys.holdEnd ∨ s.stkFull = true)) ∧
    (∃ dt : Nat, ∃ s : State, ∃ p, p = (s.pass dt) ∧ ∃ u : Fin 2048, ∃ f, f = (p.ftg - s.fld .STK_HZN 0 15 0) ∧ ∃ x, x = (2048 * f
    + u.val) ∧ s.epochRun = true ∧ s.stkArmed = true ∧ s.fld .STK_HZN 0 15 0 ≤ p.ftg ∧ s.take.sys.armAt ≤ f ∧ s.sysPatternAt x =
    true ∧ ((x = 0 ∨ s.sysPatternAt (x - 1) = false)) ∧ s.take.sys.holdEnd ≤ x ∧ s.stkFull = false ∧ s.pair .STK_WIN_START_LO
    .STK_WIN_START_HI ≤ f ∧ ((s.pair .STK_WIN_END_LO .STK_WIN_END_HI = 0 ∨ f < s.pair .STK_WIN_END_LO .STK_WIN_END_HI))) ∧
    (∃ dt : Nat, ∃ s : State, ∃ p, p = (s.pass dt) ∧ ∃ k : SysTake, ∃ rest : List SysTake, s.take.sys.takes = k :: rest ∧
    k.asserted = true ∧ ((∀ n ∈ setBitsOf 16 k.mask, p.regionDone n k = true)) ∧ s.Inv) ∧
    (∃ who : Requester, ∃ v : Word, ∃ s : State, s.OpenReg who .STK_RD 0 ∧ s.regNat .STK_TRIG < v.toNat) ∧
    (∃ who : Requester, ∃ v : Word, ∃ s : State, s.OpenReg who .STK_RD 0 ∧ v.toNat ≤ s.regNat .STK_TRIG) :=
  ⟨⟨.host, stkReady, _, rfl, by decide +kernel⟩,
   ⟨.host, stkBad, _, rfl, by decide +kernel⟩,
   ⟨.host, stkOn, by decide +kernel⟩,
   ⟨3, stkComing (998000 * 2048), _, rfl, 255, { t := 255, ts := 998000 * 2048, at_ := 999001, link := false }, by decide +kernel⟩,
   ⟨3, stkComing (998950 * 2048), _, rfl, 255, { t := 255, ts := 998950 * 2048, at_ := 999001, link := false }, by decide +kernel⟩,
   ⟨3, stkHeld, _, rfl, 5, _, rfl, _, rfl, by decide +kernel⟩,
   ⟨3, stkJoined, _, rfl, 5, _, rfl, _, rfl, by decide +kernel⟩,
   ⟨3, stkDone, _, rfl, sysTake0, [], by decide +kernel⟩,
   ⟨.host, 1, stkReady, by decide +kernel⟩,
   ⟨.host, 0, stkReady, by decide +kernel⟩⟩

theorem witness_CalibrationRuns :
    (∃ v : Word, ∃ s : State, s.active = true ∧ s.coreRuns 0 = true ∧ s.calRunCode (bits v 11 0) (bits v 15 12) = Code.ok) ∧
    (∃ v : Word, ∃ s : State, s.active = true ∧ s.coreRuns 0 = true ∧ s.calRunCode (bits v 11 0) (bits v 15 12) ≠ Code.ok) ∧
    (∃ dt : Nat, ∃ s : State, ∃ p, p = (s.pass dt) ∧ ∃ r : CalRun, s.cal.run = some r ∧ s.coreRuns 0 = true ∧ ((r.kind = 1 → 64 ≤
    r.steps)) ∧ ((r.kind = 3 → 0 < r.steps)) ∧ p.frozen r.u = true) ∧
    (∃ who : Requester, ∃ g : Cluster, ∃ s : State, s.OpenReg who .CAL_HIST_POP g ∧ tget [] s.rd.hist g = []) ∧
    (∃ who : Requester, ∃ s : State, ∃ r : FreezeReg, ∃ u, u = (s.throughOpen who (regAddr (freezeHome r).1 (freezeHome r).2.1)) ∧
    s.OpenReg who (freezeHome r).1 (freezeHome r).2.1 ∧ u.freezeReach r = true) ∧
    (∃ who : Requester, ∃ s : State, ∃ r : FreezeReg, ∃ u, u = (s.throughOpen who (regAddr (freezeHome r).1 (freezeHome r).2.1)) ∧
    s.OpenReg who (freezeHome r).1 (freezeHome r).2.1 ∧ u.freezeReach r = false) :=
  ⟨⟨0x40, calCore, by decide +kernel⟩,
   ⟨0xFFF, calCore, by decide +kernel⟩,
   ⟨3, frozenAll (calBusy 63 1 64 calCore), _, rfl, { u := 63, kind := 1, steps := 64 }, by decide +kernel⟩,
   ⟨.host, 63, calCore, by decide +kernel⟩,
   ⟨.host, calCore, .cluster 63, _, rfl, by decide +kernel⟩,
   ⟨.host, calCore, .bias 1 3, _, rfl, by decide +kernel⟩⟩

theorem witness_CalibrationUpdates :
    (∃ dt : Nat, ∃ g : Cluster, ∃ s : State, ∃ p, p = (s.pass dt) ∧ p.statBlockEnds g = true ∧ s.bit .ADC_STAT_STATUS g 0 = true) ∧
    (∃ g : Cluster, ∃ s : State, s.mayUpdate g = true ∧ s.bit .ADC_STAT_STATUS g 0 = true ∧ s.bit .ADC_STAT_STATUS g 2 = false ∧
    s.bit .ADC_STAT_STATUS g 3 = false ∧ (s.latchedEstimate g).vb < 16 * 2 ^ 64) ∧
    (∃ g : Cluster, ∃ s : State, s.mayUpdate g = true ∧ s.bit .ADC_STAT_STATUS g 0 = true ∧ s.bit .ADC_STAT_STATUS g 2 = false ∧
    s.bit .ADC_STAT_STATUS g 3 = false ∧ 16 * 2 ^ 64 ≤ (s.latchedEstimate g).vb) ∧
    (∃ dt : Nat, ∃ g : Cluster, ∃ s : State, ∃ p, p = (s.pass dt) ∧ s.mayUpdate g = true ∧ s.bit .ADC_STAT_STATUS g 0 = true ∧
    s.bit .ADC_STAT_STATUS g 2 = false ∧ s.bit .ADC_STAT_STATUS g 3 = false ∧ p.frozen g = true) ∧
    (∃ dt : Nat, ∃ g : Cluster, ∃ s : State, ∃ p, p = (s.pass dt) ∧ p.regionAwake (g / 4) = true ∧ s.fld .MON_CTRL g 2 0 < 6 ∧
    tget 0 s.cal.monFrom g + 2 ^ s.fld .MON_CTRL g 12 8 ≤ s.now + dt ∧ s.bit .MON_STATUS g 0 = true) ∧
    (∃ dt : Nat, ∃ g : Cluster, ∃ s : State, ∃ p, p = (s.pass dt) ∧ p.regionAwake (g / 4) = true ∧ s.fld .MON_CTRL g 2 0 < 6 ∧
    tget 0 s.cal.monFrom g + 2 ^ s.fld .MON_CTRL g 12 8 ≤ s.now + dt ∧ p.background (monUnit g (s.fld .MON_CTRL g 2 0)) = false) ∧
    (∃ x : Fin 1024, ∃ s : State, ∃ f : MixtureFit, s.fitDue x = true ∧ f.weak = true) ∧
    (∃ x : Fin 1024, ∃ s : State, ∃ f : MixtureFit, s.fitDue x = true ∧ f.weak = false ∧ bitOf (s.calOpt (0x200 + x)) 8 = false) :=
  ⟨⟨3, 63, statReady statEnd, _, rfl, by decide +kernel⟩,
   ⟨63, statReady statEnd, by decide +kernel⟩,
   ⟨63, adcBig, by decide +kernel⟩,
   ⟨3, 63, frozenAll adcBig, _, rfl, by decide +kernel⟩,
   ⟨3, 63, monEnd.setReg .MON_STATUS 63 1, _, rfl, by decide +kernel⟩,
   ⟨3, 63, bgOff monEnd, _, rfl, by decide +kernel⟩,
   ⟨1023, autoOff discDue, ⟨[(10, 20), (-10, 5), (7, 7)], 3, true⟩, by decide +kernel⟩,
   ⟨1023, autoOff discDue, ⟨[(10, 20), (-10, 5)], 3, false⟩, by decide +kernel⟩⟩

theorem witness_BiasDiesComplete :
    (∃ die : Fin 2, ∃ s : State, bitOf s.health.shutDies.toNat (9 + die) = false ∧ s.flash.newest = none) ∧
    (∃ die : Fin 2, ∃ s : State, dieBit s.bias.supplyUp die = true) ∧
    (∃ die : Fin 2, ∃ s : State, s.bit .BIAS_DIE_STATUS die 0 = true) :=
  ⟨⟨1, act, by decide +kernel⟩,
   ⟨1, dies, by decide +kernel⟩,
   ⟨1, dies, by decide +kernel⟩⟩

theorem witness_BiasOutputsComplete :
    (∃ who : Requester, ∃ k : Fin 256, ∃ s : State, s.OpenReg who .BIAS_CTRL k ∧ s.dieLive (k / 128) = false) ∧
    (∃ who : Requester, ∃ k : Fin 256, ∃ v : Word, ∃ s : State, s.OpenReg who .BIAS_CTRL k ∧ s.dieLive (k / 128) = true ∧ bits v 1
    0 = 3) ∧
    (∃ who : Requester, ∃ k : Fin 256, ∃ v : Word, ∃ s : State, s.OpenReg who .BIAS_CTRL k ∧ s.dieLive (k / 128) = true ∧ bits v 1
    0 ≠ 3 ∧ s.ramping k = true ∧ bits v 1 0 ≠ s.fld .BIAS_CTRL k 1 0) ∧
    (∃ who : Requester, ∃ k : Fin 256, ∃ v : Word, ∃ s : State, s.OpenReg who .BIAS_CTRL k ∧ s.dieLive (k / 128) = true ∧ bits v 1
    0 ≠ 3 ∧ s.ramping k = false) ∧
    (∃ k : Fin 256, ∃ s : State, ∃ c, tfind s.bias.conn k = some c) ∧
    (∃ who : Requester, ∃ die : Fin 2, ∃ i : Fin 4, ∃ s : State, s.OpenReg who .BIAS_GO (4 * die + i) ∧ s.dieLive die = true) ∧
    (∃ who : Requester, ∃ die : Fin 2, ∃ i : Fin 4, ∃ s : State, s.OpenReg who .BIAS_GO (4 * die + i) ∧ s.dieLive die = false) ∧
    (∃ who : Requester, ∃ die : Fin 2, ∃ s : State, s.OpenReg who .BIAS_DIE_CMD die ∧ s.dieLive die = false) ∧
    (∃ who : Requester, ∃ die : Fin 2, ∃ s : State, s.OpenReg who .BIAS_DIE_CMD die ∧ s.dieLive die = true) ∧
    (∃ who : Requester, ∃ die : Fin 2, ∃ i : Fin 4, ∃ s : State, s.OpenReg who .BIAS_STOP (4 * die + i) ∧ s.dieLive die = true) ∧
    (∃ dt : Nat, ∃ k : Fin 256, ∃ s : State, ∃ r : Ramp, ∃ act, act = (signed 20 (s.fld .BIAS_ACT k 19 0)) ∧ ∃ new, new = (if
    r.step = 0 ∨ (r.tgt - act).natAbs ≤ r.step then r.tgt else if act < r.tgt then act + r.step else act - r.step) ∧ tfind
    s.bias.ramp k = some r ∧ r.tick + r.least ≤ s.now + dt ∧ new = r.tgt) ∧
    (∃ dt : Nat, ∃ k : Fin 256, ∃ s : State, ∃ r : Ramp, ∃ act, act = (signed 20 (s.fld .BIAS_ACT k 19 0)) ∧ ∃ new, new = (if
    r.step = 0 ∨ (r.tgt - act).natAbs ≤ r.step then r.tgt else if act < r.tgt then act + r.step else act - r.step) ∧ tfind
    s.bias.ramp k = some r ∧ r.tick + r.least ≤ s.now + dt ∧ new ≠ r.tgt) :=
  ⟨⟨.host, 255, act, by decide +kernel⟩,
   ⟨.host, 255, 0xFFFFFFFF, dies, by decide +kernel⟩,
   ⟨.host, 255, 2, biasRamp 5, by decide +kernel⟩,
   ⟨.host, 255, 2, dies, by decide +kernel⟩,
   ⟨255, biasConn, 2, by decide +kernel⟩,
   ⟨.host, 1, 3, dies, by decide +kernel⟩,
   ⟨.host, 1, 3, act, by decide +kernel⟩,
   ⟨.host, 1, act, by decide +kernel⟩,
   ⟨.host, 1, dies, by decide +kernel⟩,
   ⟨.host, 1, 3, dies, by decide +kernel⟩,
   ⟨3, 255, biasRamp 0, { tgt := 100, step := 0, div := 0, tick := 990000 }, _, rfl, _, rfl, by decide +kernel⟩,
   ⟨3, 255, biasRamp 5, { tgt := 100, step := 5, div := 0, tick := 990000 }, _, rfl, _, rfl, by decide +kernel⟩⟩

theorem witness_ConvertersComplete :
    (∃ dt : Nat, ∃ c : Fin 8, ∃ s : State, ∃ p, p = (s.pass dt) ∧ dieBit s.bias.supplyUp (c / 4) = true ∧ s.bit .IC_CTRL c 0 =
    true ∧ cyclesPassed (s.icCycles c (tget {} s.bias.ic c).settling) (tget {} s.bias.ic c).since (s.now + dt) = true ∧ p.srcLive
    (8 + c) = true) ∧
    (∃ who : Requester, ∃ c : Fin 8, ∃ s : State, s.OpenReg who .IC_DATA_LO c ∧ s.dieLive (c / 4) = false) ∧
    (∃ who : Requester, ∃ c : Fin 8, ∃ s : State, s.OpenReg who .IC_DATA_LO c ∧ s.dieLive (c / 4) = true) ∧
    (∃ who : Requester, ∃ c : Fin 8, ∃ v : Word, ∃ s : State, ∃ r : IcReg, s.OpenReg who (icReg r) c ∧ s.dieLive (c / 4) = true ∧
    s.icBad c r v = true) ∧
    (∃ who : Requester, ∃ c : Fin 8, ∃ v : Word, ∃ s : State, ∃ r : IcReg, s.OpenReg who (icReg r) c ∧ s.dieLive (c / 4) = true ∧
    s.icBad c r v = false) :=
  ⟨⟨3, 7, icRun, _, rfl, by decide +kernel⟩,
   ⟨.host, 7, act, by decide +kernel⟩,
   ⟨.host, 7, dies, by decide +kernel⟩,
   ⟨.host, 7, 0x7F000064, dies, .period, by decide +kernel⟩,
   ⟨.host, 7, 0x7F000064, dies, .ctrl, by decide +kernel⟩⟩

theorem witness_GripCommandsComplete :
    (∃ who : Requester, ∃ c : Fin 80, ∃ s : State, s.OpenReg who .GRIP_CH_CTRL c ∧ (s.gripState c = 1 ∨ s.gripState c = 2)) ∧
    (∃ who : Requester, ∃ c : Fin 80, ∃ s : State, s.OpenReg who .GRIP_CH_CTRL c ∧ (s.gripState c = 0 ∨ s.gripState c = 3) ∧
    (s.gripHead c).2 % 64 = 0) ∧
    (∃ who : Requester, ∃ c : Fin 80, ∃ s : State, s.OpenReg who .GRIP_CH_CTRL c ∧ (s.gripState c = 0 ∨ s.gripState c = 3) ∧
    (s.gripHead c).2 % 64 ≠ 0) ∧
    (∃ who : Requester, ∃ c : Fin 80, ∃ s : State, s.OpenReg who .GRIP_CH_CTRL c ∧ s.gripState c = 1 ∧ (s.grp c).flight = []) ∧
    (∃ who : Requester, ∃ c : Fin 80, ∃ s : State, s.OpenReg who .GRIP_CH_CTRL c ∧ s.gripState c = 3 ∧ s.taskBit (gripStartInput
    c) = none) ∧
    (∃ c : Fin 80, ∃ s : State, ∃ sp : Nat, ∃ a : Nat, (s.grp c).nextAt = some (sp, a) ∧ s.gripState c = 1 ∧ (s.grp c).descs = []
    ∧ (s.grp c).flight = [] ∧ ¬(sp = 0 ∧ s.inD3hot = true) ∧ s.regNat .GRIP_CH_BUDGET c ≤ (s.grp c).count ∧ a % 64 = 0 ∧
    lowestCode (s.spaceErrors sp a 64 false) = none) ∧
    (∃ dt : Nat, ∃ c : Fin 80, ∃ s : State, ∃ p, p = (s.pass dt) ∧ ∃ ans : GripAnswer, ∃ sp : Nat, ∃ a : Nat, ∃ f, f = (descOf
    (s.grp c).nextId sp a (p.gripRead sp a 32 ans)) ∧ (s.grp c).nextAt = some (sp, a) ∧ s.gripState c = 1 ∧ (s.grp c).descs.length
    < 5 ∧ ¬(sp = 0 ∧ s.inD3hot = true) ∧ (s.grp c).count < s.regNat .GRIP_CH_BUDGET c ∧ a % 64 = 0 ∧ lowestCode (p.spaceErrors sp
    a 64 false) = none ∧ answerError sp ans = none ∧ lowestCode (p.descErrors f.1 f.2.1 f.2.2 (s.gripHead c)) = none) ∧
    (∃ c : Fin 80, ∃ s : State, ∃ d : GripDesc, ∃ o : GripOp, ∃ o2 : GripOp, (s.grp c).descs = [d] ∧ (s.grp c).flight = [o, o2] ∧
    o.id = d.id ∧ o2.id = d.id ∧ d.dsp = 1 ∧ d.ssp = 0 ∧ d.begun = true ∧ d.issued = d.len ∧ s.gripState c = 1 ∧ s.Inv) :=
  ⟨⟨.host, 79, gripRun, by decide +kernel⟩,
   ⟨.host, 79, act, by decide +kernel⟩,
   ⟨.host, 79, gripHeadOdd, by decide +kernel⟩,
   ⟨.host, 79, gripRun, by decide +kernel⟩,
   ⟨.host, 79, gripHalt, by decide +kernel⟩,
   ⟨79, gripSpent, 2, 64, by decide +kernel⟩,
   ⟨3, 79, gripFetch, _, rfl, .data [1, 2], 2, 64, _, rfl, by decide +kernel⟩,
   ⟨79, gripTwo, descA, { id := 0, off := 64, len := 64, at_ := 999990 }, { id := 0, off := 128, len := 128, at_ := 999991 },
   by decide +kernel⟩⟩

theorem witness_DailiesAndMemoryComplete :
    (∃ dt : Nat, ∃ n : Region, ∃ s : State, ∃ p, p = (s.pass dt) ∧ ∃ b, ∃ rest, (s.dailies n).blocks = b :: rest ∧ p.dailiesReady
    n = true ∧ s.Inv) ∧
    (∃ who : Requester, ∃ n : Region, ∃ v : Word, ∃ s : State, s.OpenReg who .GRIP_DLY_RD n ∧ s.regNat .GRIP_DLY_WR n < v.toNat) ∧
    (∃ who : Requester, ∃ n : Region, ∃ v : Word, ∃ s : State, s.OpenReg who .GRIP_DLY_RD n ∧ v.toNat ≤ s.regNat .GRIP_DLY_WR n) ∧
    (∃ s : State, s.bit .MEM_STATUS 0 0 = false) ∧
    (∃ m : Fin 8, ∃ s : State, s.bit .MEM_SCRUB 0 0 = true ∧ s.bit .MEM_STATUS 0 0 = true ∧ s.bit .MEM_CH_STATUS m 2 = true) ∧
    (∃ who : Requester, ∃ v : Word, ∃ s : State, s.OpenReg who .MEM_CTRL 0 ∧ bits v 0 0 = 1 ∧ s.bit .MEM_CTRL 0 0 = false ∧
    s.memInUse = true) ∧
    (∃ who : Requester, ∃ v : Word, ∃ s : State, s.OpenReg who .MEM_CTRL 0 ∧ (bits v 0 0 = 0 ∨ s.memInUse = false)) ∧
    (∃ who : Requester, ∃ m : Fin 8, ∃ s : State, s.OpenReg who .MT_CMD m ∧ (s.bit .MEM_CTRL 0 0 = false ∨ s.mtRuns m = true)) ∧
    (∃ who : Requester, ∃ m : Fin 8, ∃ s : State, s.OpenReg who .MT_CMD m ∧ s.bit .MEM_CTRL 0 0 = true ∧ s.mtRuns m = false ∧
    (s.mtCfg m).valid = true ∧ s.fld .MT_CTRL m 23 20 ≤ 12 ∧ ((∀ q ∈ s.mtRun m (s.mtCfg m).length, (q.2 + 1) * (64 * s.mtLines m)
    ≤ s.channelBytes m))) ∧
    (∃ who : Requester, ∃ m : Fin 8, ∃ s : State, s.OpenReg who .MT_CMD m ∧ s.mtRuns m = true) ∧
    (∃ m : Fin 8, ∃ s : State, ∃ o : MarchOutcome, s.mtRuns m = true ∧ o.corrected = [] ∧ o.uncorrectable = [] ∧ o.mismatches = 0) :=
  ⟨⟨3, 15, dlyReady, _, rfl, (List.range 64).map (fun k => (BitVec.ofNat 8 k : Byte)), [[]], by decide +kernel⟩,
   ⟨.host, 15, 1, act, by decide +kernel⟩,
   ⟨.host, 15, 0, act, by decide +kernel⟩,
   ⟨act, by decide +kernel⟩,
   ⟨7, scrub, by decide +kernel⟩,
   ⟨.host, 1, dlyReady, by decide +kernel⟩,
   ⟨.host, 1, act, by decide +kernel⟩,
   ⟨.host, 7, act, by decide +kernel⟩,
   ⟨.host, 7, offline, by decide +kernel⟩,
   ⟨.host, 7, marchRuns, by decide +kernel⟩,
   ⟨7, marchRuns, outc, by decide +kernel⟩⟩

theorem witness_LinksComplete :
    (∃ who : Requester, ∃ l : Link, ∃ s : State, s.OpenReg who .LNK_CTRL l ∧ s.linkState l = 0 ∧ s.bit .LNK_CTRL l 0 = false) ∧
    (∃ who : Requester, ∃ l : Link, ∃ s : State, s.OpenReg who .LNK_CTRL l ∧ s.linkState l = 1 ∧ s.bit .LNK_CTRL l 0 = true) ∧
    (∃ dt : Nat, ∃ l : Link, ∃ s : State, 2 ≤ s.linkState l ∧ (s.link l).helloAt ≤ s.now + dt) ∧
    (∃ l : Link, ∃ s : State, s.linkState l = 1 ∧ (s.link l).locked = true) ∧
    (∃ dt : Nat, ∃ l : Link, ∃ s : State, 2 ≤ s.linkState l ∧ (s.link l).helloRx + 3 * 10 ^ 6 ≤ s.now + dt) ∧
    (∃ dt : Nat, ∃ l : Link, ∃ s : State, 2 ≤ s.linkState l ∧ (s.link l).pingAt ≤ s.now + dt) ∧
    (∃ l : Link, ∃ s : State, ∃ rt : BitVec 24, s.linkState l = 2 ∧ (s.link l).pingOut = true ∧ rt.toNat ≤ 125750) ∧
    (∃ dt : Nat, ∃ l : Link, ∃ s : State, s.linkState l ≠ 0 ∧ (s.pass dt).linkGrid % 8 = 0 ∧ (s.link l).lastSend ≠ some (s.now +
    dt)) ∧
    (∃ l : Link, ∃ s : State, s.linkState l = 2 ∧ (s.link l).errs = []) ∧
    (∃ dt : Nat, ∃ l : Link, ∃ s : State, (s.link l).unacked ≠ [] ∧ (s.link l).ackAt + 512 ≤ s.now + dt ∧ s.linkState l ≠ 0) ∧
    (∃ who : Requester, ∃ l : Link, ∃ s : State, s.OpenReg who .LNK_MSG_CTRL l ∧ (s.link l).msg.isSome = true) ∧
    (∃ who : Requester, ∃ l : Link, ∃ s : State, ∃ n : BitVec 9, s.OpenReg who .LNK_MSG_CTRL l ∧ (s.link l).msg = none ∧ ((n = 0 ∨
    256 < n.toNat))) ∧
    (∃ who : Requester, ∃ l : Link, ∃ s : State, ∃ n : BitVec 9, s.OpenReg who .LNK_MSG_CTRL l ∧ (s.link l).msg = none ∧ n ≠ 0 ∧
    n.toNat ≤ 256) ∧
    (∃ who : Requester, ∃ l : Link, ∃ s : State, s.OpenReg who .LNK_MSG_STATUS l) :=
  ⟨⟨.host, 23, act, by decide +kernel⟩,
   ⟨.host, 23, lnkTrain, by decide +kernel⟩,
   ⟨3, 23, lnkUp, by decide +kernel⟩,
   ⟨23, lnkTrain, by decide +kernel⟩,
   ⟨3, 23, lnkStale, by decide +kernel⟩,
   ⟨3, 23, lnkUp, by decide +kernel⟩,
   ⟨23, lnkPinged, 17640, by decide +kernel⟩,
   ⟨0, 23, lnkTrain, by decide +kernel⟩,
   ⟨23, lnkUp, by decide +kernel⟩,
   ⟨3, 23, lnkSent, by decide +kernel⟩,
   ⟨.host, 23, lnkMsg, by decide +kernel⟩,
   ⟨.host, 23, act, 0, by decide +kernel⟩,
   ⟨.host, 23, act, 256, by decide +kernel⟩,
   ⟨.host, 23, act, by decide +kernel⟩⟩

theorem witness_CutCommands :
    (∃ who : Requester, ∃ k : Fin 4, ∃ s : State, s.OpenReg who .CUT_CMD 0 ∧ ((k = 3 ∨ (k ≠ 0 ∧ s.feat 7 = false)))) ∧
    (∃ s : State, ∃ c : CutState, s.cut = some c) :=
  ⟨⟨.host, 3, act, by decide +kernel⟩,
   ⟨cutOn, { start := 999999, whole := true }, by decide +kernel⟩⟩

theorem witness_HostPowerAndResets :
    (∃ s : State, s.host.perst = false) ∧
    (∃ s : State, s.host.perst = true ∧ s.health.shutdown = false ∧ s.health.railHold &&& 0xFC03 ≠ 0) ∧
    (∃ s : State, s.host.perst = true ∧ s.health.shutdown = false ∧ s.health.railHold = 0 ∧ s.flash.newest = none) ∧
    (∃ s : State, s.held = false ∧ s.flash.newest = none ∧ s.servedAt 0x1010 0xA 0 ≠ 1) ∧
    (∃ s : State, s.inD3hot = true) ∧
    (∃ dt : Nat, ∃ s : State, s.held = false ∧ s.inD3hot = false ∧ s.hostReads = 0 ∧ ((∀ v < 32, (s.pass dt).messageDue (v + 4) =
    false))) ∧
    (∃ s : State, s.host.ltrEn = true ∧ s.host.ltrSent = none ∧ s.held = false ∧ s.inD3hot = false) :=
  ⟨⟨act, by decide +kernel⟩,
   ⟨d3Held, by decide +kernel⟩,
   ⟨heldDown, by decide +kernel⟩,
   ⟨act, by decide +kernel⟩,
   ⟨d3, by decide +kernel⟩,
   ⟨3, act, by decide +kernel⟩,
   ⟨ltrDue, by decide +kernel⟩⟩

theorem witness_FeaturesAndTheBar2Window :
    (∃ who : Requester, ∃ s : State, s.OpenReg who .FEAT_CTRL 0 ∧ s.goAccepted = true) ∧
    (∃ who : Requester, ∃ s : State, s.OpenReg who .FEAT_CTRL 0 ∧ s.goAccepted = false ∧ s.featAcceptable = false) ∧
    (∃ who : Requester, ∃ s : State, s.OpenReg who .FEAT_CTRL 0 ∧ s.goAccepted = false ∧ s.featAcceptable = true ∧ s.flash.newest
    = none) ∧
    (∃ who : Requester, ∃ v : BitVec 64, ∃ s : State, s.OpenReg who .HIF_BAR2_BASE_LO 0 ∧ v.toNat % 2 ^ 30 ≠ 0) ∧
    (∃ who : Requester, ∃ v : BitVec 64, ∃ s : State, s.OpenReg who .HIF_BAR2_BASE_LO 0 ∧ v.toNat % 2 ^ 30 = 0) ∧
    (∃ s : State, ∃ x : Nat, s.held = false ∧ s.inD3hot = false ∧ x < 2 ^ s.host.bar2Log ∧ s.bar2Open x = true) ∧
    (∃ s : State, ∃ x : Nat, s.held = false ∧ s.inD3hot = false ∧ x < 2 ^ s.host.bar2Log ∧ s.bar2Open x = false) :=
  ⟨⟨.host, act, by decide +kernel⟩,
   ⟨.host, badGo, by decide +kernel⟩,
   ⟨.host, sharedGo, by decide +kernel⟩,
   ⟨.host, 0x123, act, by decide +kernel⟩,
   ⟨.host, 0x40000000, act, by decide +kernel⟩,
   ⟨bar2, 256, by decide +kernel⟩,
   ⟨act, 256, by decide +kernel⟩⟩

theorem witness_RegionPowerStates :
    (∃ dt : Nat, ∃ n : Region, ∃ s : State, ∃ p, p = (s.pass dt) ∧ ∃ x, x = (p.regionPower n) ∧ s.hasRegion n = true ∧ x.going =
    none ∧ x.wake = false ∧ x.state < 4 ∧ x.state + 1 ≤ p.allowed n ∧ p.idleFor n (x.state + 1) = true ∧ (if x.state = 0 then
    x.idleSince else x.deepSince) + entryDwell (x.state + 1) ≤ s.now + dt) ∧
    (∃ dt : Nat, ∃ n : Region, ∃ s : State, ∃ p, p = (s.pass dt) ∧ ∃ x, x = (p.regionPower n) ∧ ∃ k, ∃ by_, x.going = some (k,
    by_) ∧ x.state < k ∧ k < 3 ∧ x.wake = false ∧ p.idleFor n k = true ∧ by_ ≤ s.now + dt) ∧
    (∃ dt : Nat, ∃ n : Region, ∃ s : State, ∃ p, p = (s.pass dt) ∧ ∃ x, x = (p.regionPower n) ∧ x.going = none ∧ x.wake = true ∧ 0
    < x.state ∧ x.state < 3) ∧
    (∃ dt : Nat, ∃ n : Region, ∃ s : State, ∃ p, p = (s.pass dt) ∧ ∃ x, x = (p.regionPower n) ∧ ∃ by_, x.going = some (0, by_) ∧
    x.state < 3) ∧
    (∃ dt : Nat, ∃ n : Region, ∃ s : State, ∃ p, p = (s.pass dt) ∧ ∃ x, x = (p.regionPower n) ∧ ∃ b, x.imageBy = some b ∧ b ≤
    s.now + dt) ∧
    (∃ who : Requester, ∃ s : State, s.OpenReg who .PWR_WAKE 0) ∧
    (∃ who : Requester, ∃ n : Region, ∃ v : Word, ∃ s : State, s.OpenReg who .PWR_TOL n ∧ v.toNat < 200 ∧ (s.regionPower n).state
    = 1 ∧ (s.regionPower n).going = none ∧ (s.regionPower n).wake = false) :=
  ⟨⟨3, 15, pwIdle, _, rfl, _, rfl, by decide +kernel⟩,
   ⟨3, 15, pwGoing 2 1, _, rfl, _, rfl, 2, 1000001, by decide +kernel⟩,
   ⟨3, 15, pwWake, _, rfl, _, rfl, by decide +kernel⟩,
   ⟨3, 15, pwGoing 0 2, _, rfl, _, rfl, 1000001, by decide +kernel⟩,
   ⟨3, 15, pwImage, _, rfl, _, rfl, 1000001, by decide +kernel⟩,
   ⟨.host, act, by decide +kernel⟩,
   ⟨.host, 15, 100, pwP1, by decide +kernel⟩⟩

theorem witness_ResetsAndSupplies :
    (∃ who : Requester, ∃ n : Region, ∃ s : State, s.OpenReg who .PWR_RRESET 0 ∧ s.hasRegion n = true ∧ bitOf (s.regNat
    .PWR_RSTAT) n = false) ∧
    (∃ who : Requester, ∃ g : Cluster, ∃ s : State, s.OpenReg who .PWR_CRESET_LO 0 ∧ s.hasCluster g = true ∧ bitOf (s.regNat
    .PWR_RSTAT) (g / 4) = false ∧ bitOf (s.pair .PWR_CSTAT_LO .PWR_CSTAT_HI) g = false) ∧
    (∃ n : Region, ∃ s : State, bitOf s.health.railHold.toNat (2 + n / 2) = false) ∧
    (∃ n : Region, ∃ s : State, s.hasRegion n = true ∧ bitOf (s.regNat .PWR_RSTAT) n = false ∧ (2 * (n / 2) = n.val)) ∧
    (∃ s : State, s.health.railBad = 6 ∧ s.health.railHold = 6) :=
  ⟨⟨.host, 15, act, by decide +kernel⟩,
   ⟨.host, 63, act, by decide +kernel⟩,
   ⟨15, act, by decide +kernel⟩,
   ⟨14, act, by decide +kernel⟩,
   ⟨railsOut, by decide +kernel⟩⟩

theorem witness_ThermalLimitsAndWatchdogs :
    (∃ dt : Nat, ∃ s : State, ∃ ts : List (BitVec 16), ((∀ t0, s.health.sampledAt = some t0 → t0 + 1000000 ≤ s.now + dt)) ∧
    s.variant = .rq128 ∧ ts = List.replicate 11 (320 : BitVec 16) ∧ 60 ≤ s.fld .THERM_WARN 0 7 0 ∧ s.health.warnDies = 0 ∧
    s.health.critDies = 0 ∧ s.health.shutDies = 0) ∧
    (∃ dt : Nat, ∃ s : State, s.health.wearAt + 3600000000000 ≤ s.now + dt) ∧
    (∃ dt : Nat, ∃ k : Fin 4, ∃ s : State, s.wdRuns k = true ∧ tget 0 s.health.wdKick k + 1000000 * s.fld .GAF_WD_CTRL k 15 0 ≤
    s.now + dt ∧ s.health.expiries = []) ∧
    (∃ who : Requester, ∃ k : Fin 4, ∃ s : State, s.OpenReg who .GAF_WD_KICK k) ∧
    (∃ who : Requester, ∃ s : State, s.OpenReg who .GAF_CMD 0) :=
  ⟨⟨3, cool, List.replicate 11 (320 : BitVec 16), by decide +kernel⟩,
   ⟨3, old, by decide +kernel⟩,
   ⟨3, 0, old, by decide +kernel⟩,
   ⟨.host, 3, act, by decide +kernel⟩,
   ⟨.host, act, by decide +kernel⟩⟩

theorem witness_RequestsEnterTheQueue :
    (∃ d : Datagram, ∃ s : State, ∃ f, f = (d.bytes) ∧ s.held = false ∧ noFrame d = false ∧ headerBad f = false ∧ frameLength f ≤
    1400 ∧ frameOpcode f = 1 ∧ s.queueRefuses 0 = false) ∧
    (∃ d : Datagram, ∃ s : State, ∃ f, f = (d.bytes) ∧ ∃ slot : Nat, s.held = false ∧ noFrame d = false ∧ headerBad f = false ∧
    frameLength f ≤ 1400 ∧ frameOpcode f ≠ 1 ∧ s.namedSession d = some slot ∧ s.queueRefuses slot = false ∧ (s.session
    slot).keptFor (frameSeq f) = none ∧ ((∀ q ∈ s.od.queue, q.slot = slot → frameSeq q.frame ≠ frameSeq f))) ∧
    (∃ d : Datagram, ∃ s : State, ∃ f, f = (d.bytes) ∧ ∃ slot : Nat, ∃ k : List Byte, s.held = false ∧ noFrame d = false ∧
    headerBad f = false ∧ frameLength f ≤ 1400 ∧ frameOpcode f ≠ 1 ∧ s.namedSession d = some slot ∧ (s.session slot).keptFor
    (frameSeq f) = some k) ∧
    (∃ d : Datagram, ∃ s : State, ∃ f, f = (d.bytes) ∧ s.held = false ∧ noFrame d = false ∧ headerBad f = false ∧ frameOpcode f ≠
    1 ∧ s.namedSession d = none ∧ s.queueRefuses 0 = false) ∧
    (∃ d : Datagram, ∃ s : State, ∃ f, f = (d.bytes) ∧ s.held = false ∧ noFrame d = false ∧ headerBad f = false ∧ frameOpcode f =
    1 ∧ 256 ≤ s.od.queue.length) ∧
    (∃ d : Datagram, ∃ s : State, s.held = false ∧ noFrame d = true ∧ d.fragment = false) ∧
    (∃ d : Datagram, ∃ s : State, s.held = false ∧ d.fragment = true) ∧
    (∃ d : Datagram, ∃ s : State, ∃ f, f = (d.bytes) ∧ s.held = false ∧ noFrame d = false ∧ headerBad f = true ∧ frameLength f ≤
    1400 ∧ frameOpcode f = 1 ∧ s.queueRefuses 0 = false) :=
  ⟨⟨from1 (burtis 1 0 9 0 0 []), act, _, rfl, by decide +kernel⟩,
   ⟨from1 fREADtap, served, _, rfl, 5, by decide +kernel⟩,
   ⟨from1 fREADtap, keptOne, _, rfl, 5, [1, 2, 3], by decide +kernel⟩,
   ⟨from1 fREADtap, act, _, rfl, by decide +kernel⟩,
   ⟨from1 (burtis 1 0 9 0 0 []), queueFull, _, rfl, by decide +kernel⟩,
   ⟨from1 [1, 2], act, by decide +kernel⟩,
   ⟨{ from1 fREADtap with fragment := true }, act, by decide +kernel⟩,
   ⟨from1 ((burtis 1 0 9 0 0 []).set 11 1), act, _, rfl, by decide +kernel⟩⟩

theorem witness_ObjectAccessCodes :
    (∃ o : Obj, ∃ pos : Nat, ∃ s : State, ∃ index : Nat, ∃ sub : Nat, s.findRef index sub = .ok (.object o pos)) ∧
    (∃ s : State, ∃ index : Nat, ∃ sub : Nat, ∃ n : Nat, s.findRef index sub = .ok (.count n)) ∧
    (∃ dt : Nat, ∃ core : Fin 2, ∃ r : Request, ∃ rest : List Request, ∃ o : Obj, ∃ pos : Nat, ∃ s : State, ∃ p, p = (s.pass dt) ∧
    ∃ q : State, q = ({ p with od := { p.od with queue := rest } }) ∧ ∃ f, f = (r.frame) ∧ s.od.queue = r :: rest ∧ s.coreRuns
    core = true ∧ q.findRef (frameIndex f) (frameSub f) = .ok (.object o pos) ∧ frameOpcode f = 4 ∧ ((framePayload f).length =
    o.type.size ∧ o.outOfRange (leNat (framePayload f)) = false) ∧ (o.acc = .ro ∨ o.acc = .const)) ∧
    (∃ dt : Nat, ∃ core : Fin 2, ∃ r : Request, ∃ rest : List Request, ∃ o : Obj, ∃ pos : Nat, ∃ s : State, ∃ p, p = (s.pass dt) ∧
    ∃ q : State, q = ({ p with od := { p.od with queue := rest } }) ∧ ∃ f, f = (r.frame) ∧ s.od.queue = r :: rest ∧ s.coreRuns
    core = true ∧ q.findRef (frameIndex f) (frameSub f) = .ok (.object o pos) ∧ frameOpcode f = 4 ∧ ((framePayload f).length =
    o.type.size ∧ o.outOfRange (leNat (framePayload f)) = false) ∧ o.acc = .rwl ∧ q.objLocked (o.place pos) = true) ∧
    (∃ dt : Nat, ∃ core : Fin 2, ∃ r : Request, ∃ rest : List Request, ∃ o : Obj, ∃ pos : Nat, ∃ s : State, ∃ p, p = (s.pass dt) ∧
    ∃ q : State, q = ({ p with od := { p.od with queue := rest } }) ∧ ∃ f, f = (r.frame) ∧ s.od.queue = r :: rest ∧ s.coreRuns
    core = true ∧ q.findRef (frameIndex f) (frameSub f) = .ok (.object o pos) ∧ frameOpcode f = 3 ∧ o.acc = .wo) :=
  ⟨⟨objAt (asked fREADtap served) 0x2001 5, posAt (asked fREADtap served) 0x1010 5, asked fREADtap served, 0x2001, 5,
   by decide +kernel⟩,
   ⟨asked fREADtap served, 0x2001, 0, 5, by decide +kernel⟩,
   ⟨3, 1, reqOf fWRITEro, [], objAt (asked fWRITEro served) 0x2001 5, posAt (asked fWRITEro served) 0x1010 5, asked fWRITEro
   served, _, rfl, _, rfl, _, rfl, by decide +kernel⟩,
   ⟨3, 1, reqOf fWRITErwl, [], objAt (asked fWRITErwl served) 0x1010 5, posAt (asked fWRITErwl served) 0x1010 5, asked fWRITErwl
   served, _, rfl, _, rfl, _, rfl, by decide +kernel⟩,
   ⟨3, 1, reqOf fREADwo, [], objAt (asked fREADwo served) 0x1020 1, posAt (asked fREADwo served) 0x1010 5, asked fREADwo served,
   _, rfl, _, rfl, _, rfl, by decide +kernel⟩⟩

theorem witness_ObjectRequestsAreServed :
    (∃ dt : Nat, ∃ core : Fin 2, ∃ r : Request, ∃ rest : List Request, ∃ s : State, ∃ p, p = (s.pass dt) ∧ ∃ q : State, q =
    ({ p with od := { p.od with queue := rest } }) ∧ ∃ f, f = (r.frame) ∧ ∃ ref, ref = (q.findRef (frameIndex f) (frameSub f)) ∧ ∃
    o : Obj, ∃ pos : Nat, ∃ hi : Nat, ∃ lo : Nat, ∃ g : Reg, s.od.queue = r :: rest ∧ s.coreRuns core = true ∧ frameOpcode f = 3 ∧
    ref = .ok (.object o pos) ∧ o.home = .field g hi lo ∧ o.acc ≠ .wo ∧ q.gate (.gaffer (coreOf core)) (regAddr g pos) = .open ∧
    windowRegion (regAddr g pos) = none) ∧
    (∃ dt : Nat, ∃ core : Fin 2, ∃ r : Request, ∃ rest : List Request, ∃ s : State, ∃ p, p = (s.pass dt) ∧ ∃ q : State, q =
    ({ p with od := { p.od with queue := rest } }) ∧ ∃ f, f = (r.frame) ∧ ∃ ref, ref = (q.findRef (frameIndex f) (frameSub f)) ∧ ∃
    c : Nat, s.od.queue = r :: rest ∧ s.coreRuns core = true ∧ frameOpcode f = 3 ∧ ref = .error c) ∧
    (∃ dt : Nat, ∃ core : Fin 2, ∃ r : Request, ∃ rest : List Request, ∃ s : State, ∃ p, p = (s.pass dt) ∧ ∃ q : State, q =
    ({ p with od := { p.od with queue := rest } }) ∧ ∃ f, f = (r.frame) ∧ ∃ ref, ref = (q.findRef (frameIndex f) (frameSub f)) ∧ ∃
    o : Obj, ∃ pos : Nat, ∃ d : Nat, ∃ lo : Nat, ∃ hi : Nat, s.od.queue = r :: rest ∧ s.coreRuns core = true ∧ frameOpcode f = 4 ∧
    ref = .ok (.object o pos) ∧ o.home = .served d lo hi ∧ o.acc = .rw ∧ (framePayload f).length = o.type.size ∧ o.outOfRange
    (leNat (framePayload f)) = false ∧ (frameIndex f, frameSub f) ≠ (0x1F81, 1)) ∧
    (∃ core : Fin 2, ∃ r : Request, ∃ rest : List Request, ∃ s : State, ∃ f, f = (r.frame) ∧ ∃ n : Byte, s.od.queue = r :: rest ∧
    s.coreRuns core = true ∧ frameOpcode f = 5 ∧ framePayload f = [n] ∧ (n = 0 ∨ 128 < n.toNat ∨ 256 < frameSub f + n.toNat)) ∧
    (∃ core : Fin 2, ∃ r : Request, ∃ rest : List Request, ∃ s : State, ∃ f, f = (r.frame) ∧ ∃ n : Byte, s.od.queue = r :: rest ∧
    s.coreRuns core = true ∧ frameOpcode f = 5 ∧ framePayload f = [n] ∧ 1 ≤ n.toNat ∧ n.toNat ≤ 128 ∧ frameSub f + n.toNat ≤ 256) ∧
    (∃ core : Fin 2, ∃ r : Request, ∃ rest : List Request, ∃ s : State, ∃ f, f = (r.frame) ∧ s.od.queue = r :: rest ∧ s.coreRuns
    core = true ∧ frameOpcode f = 6) :=
  ⟨⟨3, 1, reqOf fREADtap, [], asked fREADtap served, _, rfl, _, rfl, _, rfl, _, rfl, objAt (asked fREADtap served) 0x2003 1, posAt
   (asked fREADtap served) 0x1010 5, 8, 0, .CLAP_TAP_REF, by decide +kernel⟩,
   ⟨3, 1, reqOf fREADnone, [], asked fREADnone served, _, rfl, _, rfl, _, rfl, _, rfl, Code.unknownObject, by decide +kernel⟩,
   ⟨3, 1, reqOf fWRITEip, [], asked fWRITEip served, _, rfl, _, rfl, _, rfl, _, rfl, objAt (asked fWRITEip served) 0x1040 1, posAt
   (asked fWRITEip served) 0x1010 5, 0xC0A80A0A, 0, 0xFFFFFFFF, by decide +kernel⟩,
   ⟨1, reqOf (fRB 0), [], asked (fRB 0) served, _, rfl, 0, by decide +kernel⟩,
   ⟨1, reqOf (fRB 3), [], asked (fRB 3) served, _, rfl, 3, by decide +kernel⟩,
   ⟨1, reqOf (fWB [2, 2, 0, 1, 1, 2, 0, 3, 3]), [], asked (fWB [2, 2, 0, 1, 1, 2, 0, 3, 3]) served, _, rfl, by decide +kernel⟩⟩

theorem witness_SessionsAndSubscriptions :
    (∃ core : Fin 2, ∃ r : Request, ∃ rest : List Request, ∃ k : Nat, ∃ s : State, ∃ f, f = (r.frame) ∧ (s.od.queue = r :: rest ∧
    s.coreRuns core = true ∧ frameOpcode f = 1) ∧ r.mailbox = none ∧ frameLength f ≤ 32 ∧ s.sessionOf r.addr r.port = none ∧
    s.freeSlot = some k) ∧
    (∃ core : Fin 2, ∃ r : Request, ∃ rest : List Request, ∃ k : Nat, ∃ s : State, ∃ f, f = (r.frame) ∧ (s.od.queue = r :: rest ∧
    s.coreRuns core = true ∧ frameOpcode f = 1) ∧ r.mailbox = none ∧ frameLength f ≤ 32 ∧ s.sessionOf r.addr r.port = some k) ∧
    (∃ core : Fin 2, ∃ r : Request, ∃ rest : List Request, ∃ s : State, ∃ f, f = (r.frame) ∧ (s.od.queue = r :: rest ∧ s.coreRuns
    core = true ∧ frameOpcode f = 1) ∧ r.mailbox = none ∧ frameLength f ≤ 32 ∧ s.sessionOf r.addr r.port = none ∧ s.freeSlot =
    none) ∧
    (∃ core : Fin 2, ∃ r : Request, ∃ rest : List Request, ∃ k : Nat, ∃ s : State, ∃ f, f = (r.frame) ∧ (s.od.queue = r :: rest ∧
    s.coreRuns core = true ∧ frameOpcode f = 1) ∧ r.mailbox = some k ∧ frameLength f ≤ 32) ∧
    (∃ core : Fin 2, ∃ r : Request, ∃ rest : List Request, ∃ s : State, ∃ f, f = (r.frame) ∧ (s.od.queue = r :: rest ∧ s.coreRuns
    core = true ∧ frameOpcode f = 2) ∧ r.mailbox = none) ∧
    (∃ dt : Nat, ∃ core : Fin 2, ∃ r : Request, ∃ rest : List Request, ∃ s : State, ∃ p, p = (s.pass dt) ∧ ∃ q : State, q =
    ({ p with od := { p.od with queue := rest } }) ∧ ∃ f, f = (r.frame) ∧ (s.od.queue = r :: rest ∧ s.coreRuns core = true ∧
    frameOpcode f = 7) ∧ q.subscribeCode r.slot (frameIndex f) (frameSub f) (framePayload f) = none) ∧
    (∃ core : Fin 2, ∃ r : Request, ∃ rest : List Request, ∃ s : State, ∃ f, f = (r.frame) ∧ (s.od.queue = r :: rest ∧ s.coreRuns
    core = true ∧ frameOpcode f = 8)) ∧
    (∃ dt : Nat, ∃ s : State, ∃ p, p = (s.pass dt) ∧ ∃ slot : Fin 33, ∃ index : BitVec 16, ∃ sub : BitVec 8, ∃ z : Subscription, ∃
    v, v = (p.objRead 0 z.index z.sub) ∧ s.gafferServes = true ∧ (s.session slot).isOpen = true ∧ (s.session slot).subs.find? (fun
    x => !otherSub index.toNat sub.toNat x) = some z ∧ z.nextAt ≤ s.now + dt ∧ (z.mode = 1 ∨ z.last ≠ some (v.1, v.2.1))) ∧
    (∃ dt : Nat, ∃ s : State, ∃ p, p = (s.pass dt) ∧ ∃ slot : Fin 33, ∃ index : BitVec 16, ∃ sub : BitVec 8, ∃ z : Subscription, ∃
    v, v = (p.objRead 0 z.index z.sub) ∧ s.gafferServes = true ∧ (s.session slot).isOpen = true ∧ (s.session slot).subs.find? (fun
    x => !otherSub index.toNat sub.toNat x) = some z ∧ z.nextAt ≤ s.now + dt ∧ z.mode ≠ 1 ∧ z.last = some (v.1, v.2.1)) ∧
    (∃ dt : Nat, ∃ s : State, ∃ slot : Fin 33, slot.val ≠ 0 ∧ (s.session slot).isOpen = true ∧ (s.session slot).leaseEnd ≤ s.now +
    dt) :=
  ⟨⟨1, { reqOf (fHELLO 0 []) with slot := 0 }, [], 1, hello { reqOf (fHELLO 0 []) with slot := 0 } act, _, rfl, by decide +kernel⟩,
   ⟨1, reqOf (fHELLO 0 []), [], 5, asked (fHELLO 0 []) served, _, rfl, by decide +kernel⟩,
   ⟨1, { reqOf (fHELLO 0 []) with slot := 0 }, [], hello { reqOf (fHELLO 0 []) with slot := 0 } allOpen, _, rfl,
   by decide +kernel⟩,
   ⟨1, { reqOf (fHELLO 0 []) with slot := 0x84, mailbox := some 3 }, [], 3, hello
   { reqOf (fHELLO 0 []) with slot := 0x84, mailbox := some 3 } act, _, rfl, by decide +kernel⟩,
   ⟨1, reqOf (req 2 0 0 []), [], asked (req 2 0 0 []) served, _, rfl, by decide +kernel⟩,
   ⟨3, 1, reqOf (fSUB [5, 0, 0]), [], asked (fSUB [5, 0, 0]) served, _, rfl, _, rfl, _, rfl, by decide +kernel⟩,
   ⟨1, reqOf (req 8 0 0 []), [], asked (req 8 0 0 []) served, _, rfl, by decide +kernel⟩,
   ⟨3, asked (fSUB [5, 0, 0]) (subscribed none 1), _, rfl, 5, 0x2003, 1, sub1 none 1, _, rfl, by decide +kernel⟩,
   ⟨3, subscribed (some (0, [0, 1])) 2, _, rfl, 5, 0x2003, 1, sub1 (some (0, [0, 1])) 2, _, rfl, by decide +kernel⟩,
   ⟨3, leaseOut, 5, by decide +kernel⟩⟩

theorem witness_MailboxesAndSavedImages :
    (∃ who : Requester, ∃ k : Fin 4, ∃ s : State, s.OpenReg who .MB_CTRL k ∧ s.bit .MB_STATUS k 0 = true) ∧
    (∃ who : Requester, ∃ k : Fin 4, ∃ s : State, ∃ len, len = (s.le 3 (mailboxBase k + 12) 2) ∧ ∃ f, f = (s.bytes 3 (mailboxBase
    k) (16 + min 1400 len)) ∧ s.OpenReg who .MB_CTRL k ∧ s.bit .MB_STATUS k 0 = false ∧ frameSession f = 0x81 + k ∧ len ≤ 1400 ∧
    headerBad f = false ∧ frameOpcode f ≠ 7 ∧ s.queueRefuses (0x81 + k) = false ∧ (s.session (0x81 + k)).keptFor (frameSeq f) =
    none ∧ ((∀ x ∈ s.od.queue, x.slot = 0x81 + k → frameSeq x.frame ≠ frameSeq f))) ∧
    (∃ who : Requester, ∃ k : Fin 4, ∃ s : State, ∃ len, len = (s.le 3 (mailboxBase k + 12) 2) ∧ ∃ f, f = (s.bytes 3 (mailboxBase
    k) (16 + min 1400 len)) ∧ s.OpenReg who .MB_CTRL k ∧ s.bit .MB_STATUS k 0 = false ∧ s.bit .MB_STATUS k 1 = false ∧
    frameSession f ≠ 0x81 + k ∧ frameOpcode f ≠ 1 ∧ s.queueRefuses (0x81 + k) = false ∧ s.Inv) ∧
    (∃ who : Requester, ∃ k : Fin 4, ∃ s : State, s.OpenReg who .MB_CTRL k ∧ tfind s.od.waiting k.val = none) ∧
    (∃ v : Word, ∃ s : State, s.gafferServes = true ∧ v = 0x6576_6173 ∧ s.flash.saving = none) ∧
    (∃ v : Word, ∃ s : State, s.gafferServes = true ∧ v = 0x6576_6173 ∧ s.flash.saving.isSome = true) ∧
    (∃ v : Word, ∃ s : State, s.gafferServes = true ∧ v ≠ 0x6576_6173) ∧
    (∃ v : Word, ∃ s : State, s.gafferServes = true ∧ v = 0x6461_6F6C ∧ s.flash.saving = none) ∧
    (∃ v : Word, ∃ s : State, s.gafferServes = true ∧ v = 0x6461_6F6C ∧ s.flash.saving.isSome = true) ∧
    (∃ v : Word, ∃ s : State, s.gafferServes = true ∧ v ≠ 0x6461_6F6C) ∧
    (∃ s : State, ∃ second : Bool, ∃ img : SavedImage, s.flash.saving = some (second, img)) :=
  ⟨⟨.host, 3, mbPend, by decide +kernel⟩,
   ⟨.host, 3, mbFrame, _, rfl, _, rfl, by decide +kernel⟩,
   ⟨.host, 3, act, _, rfl, _, rfl, by decide +kernel⟩,
   ⟨.host, 3, act, by decide +kernel⟩,
   ⟨0x65766173, act, by decide +kernel⟩,
   ⟨0x65766173, saving true, by decide +kernel⟩,
   ⟨0x64616F6C, act, by decide +kernel⟩,
   ⟨0x64616F6C, act, by decide +kernel⟩,
   ⟨0x64616F6C, saving true, by decide +kernel⟩,
   ⟨0x65766173, act, by decide +kernel⟩,
   ⟨saving true, true, img0, by decide +kernel⟩⟩

theorem witness_WallTimeOwner :
    (∃ who : Requester, ∃ v : BitVec 64, ∃ s : State, ∃ src, src = (s.fld .WT_CTRL 0 1 0) ∧ ∃ served : Prop, served = (who =
    .gaffer 0 ∨ who = .gaffer 1) ∧ s.OpenReg who .WT_INC_LO 0 ∧ incMin ≤ v.toNat ∧ v.toNat ≤ incMax ∧ src ≠ 0 ∧ ¬ served) ∧
    (∃ who : Requester, ∃ v : BitVec 64, ∃ s : State, ∃ src, src = (s.fld .WT_CTRL 0 1 0) ∧ ∃ served : Prop, served = (who =
    .gaffer 0 ∨ who = .gaffer 1) ∧ s.OpenReg who .WT_INC_LO 0 ∧ incMin ≤ v.toNat ∧ v.toNat ≤ incMax ∧ src ≠ 0 ∧ served) ∧
    (∃ who : Requester, ∃ v : BitVec 64, ∃ s : State, ∃ src, src = (s.fld .WT_CTRL 0 1 0) ∧ s.OpenReg who .WT_INC_LO 0 ∧ incMin ≤
    v.toNat ∧ v.toNat ≤ incMax ∧ src = 0) ∧
    (∃ who : Requester, ∃ w : Word, ∃ s : State, ∃ src, src = (s.fld .WT_CTRL 0 1 0) ∧ ∃ served : Prop, served = (who = .gaffer 0
    ∨ who = .gaffer 1) ∧ s.OpenReg who .WT_INC_LO 0 ∧ src ≠ 0 ∧ ¬ served ∧ incMin ≤ halfWord false s.wallInc w ∧ halfWord false
    s.wallInc w ≤ incMax) ∧
    (∃ who : Requester, ∃ w : Word, ∃ s : State, ∃ src, src = (s.fld .WT_CTRL 0 1 0) ∧ ∃ served : Prop, served = (who = .gaffer 0
    ∨ who = .gaffer 1) ∧ s.OpenReg who .WT_INC_LO 0 ∧ src ≠ 0 ∧ ¬ served ∧ incMin ≤ halfWord true s.wallInc w ∧ halfWord true
    s.wallInc w ≤ incMax) :=
  ⟨⟨.host, 0x100000005, wt 1 act, _, rfl, _, rfl, by decide +kernel⟩,
   ⟨.gaffer 1, 0x100000005, wt 1 act, _, rfl, _, rfl, by decide +kernel⟩,
   ⟨.host, 0x100000005, act, _, rfl, by decide +kernel⟩,
   ⟨.host, 1, wt 1 act, _, rfl, _, rfl, by decide +kernel⟩,
   ⟨.host, 1, wt 1 act, _, rfl, _, rfl, by decide +kernel⟩⟩

theorem witness_NewTimeEpoch :
    (∃ who : Requester, ∃ s : State, s.OpenReg who .WT_CMD 0 ∧ s.bit .WT_STATUS 0 3 = false) ∧
    (∃ who : Requester, ∃ s : State, s.OpenReg who .WT_CMD 0 ∧ s.bit .WT_STATUS 0 3 = true) ∧
    (∃ n : Region, ∃ s : State, ∃ k : Take, ∃ rest : List Take, ∃ port : TakePort, s.Inv ∧ (s.takeEngine n).takes = k :: rest ∧
    k.closed = true ∧ ((port = .completed ∨ port = .timeout true ∨ port = .poison true)) ∧ s.take.discont.getLsbD n = true) ∧
    (∃ dt : Nat, ∃ s : State, ∃ k : SysTake, ∃ rest : List SysTake, s.Inv ∧ s.take.sys.takes = k :: rest ∧ k.asserted = true ∧ ((∀
    i ∈ setBitsOf 16 k.mask, (s.pass dt).regionDone i k = true)) ∧ s.take.discont.getLsbD 16 = true) ∧
    (∃ who : Requester, ∃ s : State, ∃ v : Word, bits v 1 0 = 3 ∧ s.OpenReg who .WT_CMD 0) :=
  ⟨⟨.host, noStep act, by decide +kernel⟩,
   ⟨.host, act, by decide +kernel⟩,
   ⟨15, discont tkClosed, { take0 with ft := 998980, closed := true }, [], .completed, by decide +kernel⟩,
   ⟨3, discont stkDone, sysTake0, [], by decide +kernel⟩,
   ⟨.host, act, 3, by decide +kernel⟩⟩

theorem witness_WallTimeAndPps :
    (∃ who : Requester, ∃ s : State, s.OpenReg who .WT_CMD 0 ∧ s.bit .WT_STATUS 0 3 = false) ∧
    (∃ who : Requester, ∃ s : State, s.OpenReg who .WT_CMD 0 ∧ s.bit .WT_STATUS 0 3 = true) ∧
    (∃ who : Requester, ∃ s : State, s.OpenReg who .WT_NOW 0) ∧
    (∃ who : Requester, ∃ v : Word, ∃ s : State, ∃ src, src = (bits v 1 0) ∧ ∃ bad : Prop, bad = (src = 3 ∨ (src = 2 ∧ s.feat 5 =
    false) ∨ bits v 15 8 = 0) ∧ s.OpenReg who .WT_CTRL 0 ∧ bad) ∧
    (∃ who : Requester, ∃ v : Word, ∃ s : State, ∃ src, src = (bits v 1 0) ∧ ∃ bad : Prop, bad = (src = 3 ∨ (src = 2 ∧ s.feat 5 =
    false) ∨ bits v 15 8 = 0) ∧ ∃ moves : Prop, moves = (src ≠ s.fld .WT_CTRL 0 1 0 ∧ src ≠ 0) ∧ s.OpenReg who .WT_CTRL 0 ∧ ¬ bad
    ∧ moves ∧ s.bit .PTP_STATUS (src - 1) 3 = false) ∧
    (∃ who : Requester, ∃ v : Word, ∃ s : State, ∃ src, src = (bits v 1 0) ∧ ∃ bad : Prop, bad = (src = 3 ∨ (src = 2 ∧ s.feat 5 =
    false) ∨ bits v 15 8 = 0) ∧ ∃ moves : Prop, moves = (src ≠ s.fld .WT_CTRL 0 1 0 ∧ src ≠ 0) ∧ s.OpenReg who .WT_CTRL 0 ∧ ¬ bad
    ∧ ((moves → s.bit .PTP_STATUS (src - 1) 3 = true))) ∧
    (∃ dt : Nat, ∃ s : State, ∃ p, p = (s.pass dt) ∧ p.active = true ∧ s.bit .PPS_CTRL 0 0 = true ∧ s.time.ppsEnd = none ∧
    s.time.steppedAt ≠ some (s.now + dt) ∧ 0 < s.now + dt ∧ s.wallAt (s.now + dt) % (10 ^ 9 * 2 ^ 32) < s.wallAt (s.now + dt) -
    s.wallAt (s.now + dt - 1)) ∧
    (∃ dt : Nat, ∃ s : State, ∃ c, s.time.ppsEnd = some c ∧ c ≤ s.now + dt) ∧
    (∃ dt : Nat, ∃ s : State, ∃ p, p = (s.pass dt) ∧ p.active = true ∧ s.bit .PPS_CTRL 0 1 = true) ∧
    (∃ who : Requester, ∃ s : State, s.OpenReg who .PPS_IN_TS_LO 0) :=
  ⟨⟨.host, noStep act, by decide +kernel⟩,
   ⟨.host, act, by decide +kernel⟩,
   ⟨.host, act, by decide +kernel⟩,
   ⟨.host, 3, act, _, rfl, _, rfl, by decide +kernel⟩,
   ⟨.host, 0x401, act, _, rfl, _, rfl, _, rfl, by decide +kernel⟩,
   ⟨.host, 0x400, act, _, rfl, _, rfl, _, rfl, by decide +kernel⟩,
   ⟨3, ppsOn, _, rfl, by decide +kernel⟩,
   ⟨3, ppsHigh, 1000001, by decide +kernel⟩,
   ⟨3, ppsOn, _, rfl, by decide +kernel⟩,
   ⟨.host, act, by decide +kernel⟩⟩

theorem witness_DomainsAndServo :
    (∃ dt : Nat, ∃ d : Domain, ∃ m : PtpMessage, ∃ s : State, ∃ p, p = (s.pass dt) ∧ ∃ usable : Bool, usable = (m.wellFormed &&
    m.domainNumber == s.fld .PTP_CFG d 7 0 && s.bit .PTP_CFG d (if m.netB then 9 else 8) && s.bit .PTP_CFG d (if m.udp then 11
    else 10)) ∧ p.domainOn d = true ∧ m.body ≠ .other ∧ usable = false) ∧
    (∃ dt : Nat, ∃ d : Domain, ∃ m : PtpMessage, ∃ s : State, ∃ p, p = (s.pass dt) ∧ ∃ usable : Bool, usable = (m.wellFormed &&
    m.domainNumber == s.fld .PTP_CFG d 7 0 && s.bit .PTP_CFG d (if m.netB then 9 else 8) && s.bit .PTP_CFG d (if m.udp then 11
    else 10)) ∧ ∃ rank : List Nat, ∃ li : Int, p.domainOn d = true ∧ usable = true ∧ m.body = .announce rank li) ∧
    (∃ dt : Nat, ∃ d : Domain, ∃ m : PtpMessage, ∃ s : State, ∃ p, p = (s.pass dt) ∧ ∃ x, x = (s.ptp d) ∧ ∃ usable : Bool, usable
    = (m.wellFormed && m.domainNumber == s.fld .PTP_CFG d 7 0 && s.bit .PTP_CFG d (if m.netB then 9 else 8) && s.bit .PTP_CFG d
    (if m.udp then 11 else 10)) ∧ ∃ heard : Bool, heard = (x.master.any (fun f => f.clock == m.clock && f.portNumber ==
    m.portNumber && f.netB == m.netB)) ∧ ∃ seq : Nat, ∃ t1 : Int, ∃ c : Int, p.domainOn d = true ∧ usable = true ∧ m.body = .sync
    true seq t1 c ∧ heard = true) ∧
    (∃ dt : Nat, ∃ d : Domain, ∃ m : PtpMessage, ∃ s : State, ∃ p, p = (s.pass dt) ∧ ∃ x, x = (s.ptp d) ∧ ∃ usable : Bool, usable
    = (m.wellFormed && m.domainNumber == s.fld .PTP_CFG d 7 0 && s.bit .PTP_CFG d (if m.netB then 9 else 8) && s.bit .PTP_CFG d
    (if m.udp then 11 else 10)) ∧ ∃ heard : Bool, heard = (x.master.any (fun f => f.clock == m.clock && f.portNumber ==
    m.portNumber && f.netB == m.netB)) ∧ ∃ seq : Nat, ∃ t1 : Int, ∃ c : Int, p.domainOn d = true ∧ usable = true ∧ m.body = .sync
    false seq t1 c ∧ heard = true) ∧
    (∃ dt : Nat, ∃ d : Domain, ∃ m : PtpMessage, ∃ s : State, ∃ p, p = (s.pass dt) ∧ ∃ x, x = (s.ptp d) ∧ ∃ usable : Bool, usable
    = (m.wellFormed && m.domainNumber == s.fld .PTP_CFG d 7 0 && s.bit .PTP_CFG d (if m.netB then 9 else 8) && s.bit .PTP_CFG d
    (if m.udp then 11 else 10)) ∧ ∃ heard : Bool, heard = (x.master.any (fun f => f.clock == m.clock && f.portNumber ==
    m.portNumber && f.netB == m.netB)) ∧ ∃ seq : Nat, ∃ t1 : Int, ∃ t2 : Int, ∃ c : Int, ∃ c' : Int, p.domainOn d = true ∧ usable
    = true ∧ m.body = .followUp seq t1 c ∧ heard = true ∧ x.sync = some (seq, t2, c')) ∧
    (∃ dt : Nat, ∃ d : Domain, ∃ m : PtpMessage, ∃ s : State, ∃ p, p = (s.pass dt) ∧ ∃ x, x = (s.ptp d) ∧ ∃ usable : Bool, usable
    = (m.wellFormed && m.domainNumber == s.fld .PTP_CFG d 7 0 && s.bit .PTP_CFG d (if m.netB then 9 else 8) && s.bit .PTP_CFG d
    (if m.udp then 11 else 10)) ∧ ∃ heard : Bool, heard = (x.master.any (fun f => f.clock == m.clock && f.portNumber ==
    m.portNumber && f.netB == m.netB)) ∧ ∃ seq : Nat, ∃ t1 : Int, ∃ t2 : Int, ∃ t3 : Int, ∃ t4 : Int, ∃ c : Int, ∃ c' : Int, ∃ li
    : Int, p.domainOn d = true ∧ usable = true ∧ m.body = .delayResp seq t4 c li ∧ heard = true ∧ x.request = some (seq, t3) ∧
    x.forward = some (t1, t2, c')) ∧
    (∃ dt : Nat, ∃ d : Domain, ∃ s : State, ∃ p, p = (s.pass dt) ∧ ∃ x, x = (s.ptp d) ∧ ∃ f : ForeignClock, x.master = some f ∧
    p.domainOn d = true ∧ x.requestAt ≤ s.now + dt) ∧
    (∃ dt : Nat, ∃ d : Domain, ∃ s : State, ∃ x, x = (s.ptp d) ∧ ∃ a : ForeignClock, ∃ f : ForeignClock, x.master = some a ∧
    x.foreign.find? a.same = some f ∧ f.last + s.fld .PTP_CFG d 19 16 * f.interval ≤ s.now + dt) ∧
    (∃ dt : Nat, ∃ d : Domain, ∃ s : State, ∃ p, p = (s.pass dt) ∧ ∃ x, x = (s.ptp d) ∧ ∃ e : Exchange, x.exchange = some e ∧
    p.domainOn d = true ∧ s.coreRuns 0 = true ∧ x.exchanges < 3) ∧
    (∃ dt : Nat, ∃ d : Domain, ∃ s : State, ∃ p, p = (s.pass dt) ∧ ∃ x, x = (s.ptp d) ∧ ∃ e : Exchange, ∃ asym, asym =
    (s.asymmetry d) ∧ ∃ ms, ms = (e.t2 - e.t1 - e.corrSync - asym) ∧ ∃ sm, sm = (e.t4 - e.t3 - e.corrDresp + asym) ∧ ∃ mpd, mpd =
    ((ms + sm).tdiv 2) ∧ ∃ ofs, ofs = (mpd - ms) ∧ x.exchange = some e ∧ p.domainOn d = true ∧ s.coreRuns 0 = true ∧ s.fld
    .WT_CTRL 0 1 0 ≠ 0 ∧ s.srcAct = d + 1 ∧ s.bit .WT_STATUS 0 3 = false ∧ s.smallOffset ofs = true) ∧
    (∃ dt : Nat, ∃ d : Domain, ∃ s : State, ∃ p, p = (s.pass dt) ∧ ∃ x, x = (s.ptp d) ∧ ∃ e : Exchange, x.exchange = some e ∧
    p.domainOn d = true ∧ s.coreRuns 0 = true ∧ s.srcAct ≠ d + 1 ∧ s.time.switchTo ≠ some d.val ∧ s.bit .WT_CTRL 0 2 = false) :=
  ⟨⟨3, 1, { msg (.announce [1, 2] 1) with domainNumber := 3 }, ptpOn, _, rfl, _, rfl, by decide +kernel⟩,
   ⟨3, 1, msg (.announce [1, 2] 1), ptpOn, _, rfl, _, rfl, [1, 2], 1, by decide +kernel⟩,
   ⟨3, 1, msg (.sync true 5 1000 10), ptpHeard, _, rfl, _, rfl, _, rfl, _, rfl, 5, 1000, 10, by decide +kernel⟩,
   ⟨3, 1, msg (.sync false 5 1000 10), ptpHeard, _, rfl, _, rfl, _, rfl, _, rfl, 5, 1000, 10, by decide +kernel⟩,
   ⟨3, 1, msg (.followUp 5 1000 10), ptpSync, _, rfl, _, rfl, _, rfl, _, rfl, 5, 1000, 1000, 10, 10, by decide +kernel⟩,
   ⟨3, 1, msg (.delayResp 5 4000 10 1), ptpReq, _, rfl, _, rfl, _, rfl, _, rfl, 5, 1000, 2000, 3000, 4000, 10, 7, 1,
   by decide +kernel⟩,
   ⟨3, 1, ptpHeard, _, rfl, _, rfl, clockA, by decide +kernel⟩,
   ⟨3, 1, ptpLost, _, rfl, clockA, clockA, by decide +kernel⟩,
   ⟨3, 1, ptpDone 2, _, rfl, _, rfl, exch, by decide +kernel⟩,
   ⟨3, 1, ptpServo 5, _, rfl, _, rfl, exch, _, rfl, _, rfl, _, rfl, _, rfl, _, rfl, by decide +kernel⟩,
   ⟨3, 1, ptpDone 2, _, rfl, _, rfl, exch, by decide +kernel⟩⟩

theorem witness_ManagementPortsAnswer :
    (∃ s : State, ∃ t : Int, s.aonUp = true ∧ s.hottest (List.range 9) = some t) ∧
    (∃ s : State, ∃ t : Int, s.aonUp = true ∧ s.hottest [9, 10] = some t) ∧
    (∃ s : State, ∃ code : Byte, ∃ write : Bool, s.aonUp = true ∧ (write = true ∨ code ∉ pmbusReads)) :=
  ⟨⟨temps, 320, by decide +kernel⟩,
   ⟨temps, -16, by decide +kernel⟩,
   ⟨act, 0x01, true, by decide +kernel⟩⟩

end Sys2Proof.Tests
end

-- ==== Proofs of the scope statements ====
section
/-!
PROOFS. The statements about the whole machine: every command keeps the queue, the variant and the canonical form of the
memories, and an access goes no further than its gate.

The first part says once, for every function of the model between `exec` and the fields of the state, what it does to the queue,
the variant and the memories (`State.kept`): most leave all three as they are (`kept_…`), those that store bytes or lose them
keep the queue, the variant and the canonical form (`keeps_…`). Each of these lemmas follows the branches of its function and
cites the lemmas of the functions that it calls, down to `kept_update`, `wf_writeBytes` and `wf_eraseMem`.
-/

namespace Sys2Proof.Machine

/-! ## Functions that store nothing -/

/-- The queue, the variant and the memories: what a command that stores nothing leaves as it was. -/
abbrev Kept := List Instr × Variant × List Host.Cell

/-- The queue, the variant and the memories of a state. -/
def State.kept (s : State) : Kept := (s.pending, s.variant, s.mem)

theorem State.kept_eq_iff {s t : State} :
    t.kept = s.kept ↔ t.pending = s.pending ∧ t.variant = s.variant ∧ t.mem = s.mem := by
  simp [State.kept]

/-- An update of the other fields leaves them. -/
@[simp] theorem State.kept_update (s : State) (now : Nat) (regs : Table Word) (snap : Table Word) (xl : Table CrossingState)
    (clap : ClapperState) (play : PlayState) (scr : ScriptState) (rd : ReadoutState) (krn : KernelState) (fab : FabricState)
    (take : TakeState) (cal : CalState) (bias : BiasState) (router : RouterState) (cut : Option CutState) (irq : IrqState)
    (grip : GripState) (host : HostState) (lnk : LinksState) (served : Table Nat) (od : OdState) (flash : FlashState)
    (time : TimeState) (power : Table RegionPower) (health : HealthState) (jtag : JtagRegister) (freeCtr : Nat)
    (out : List Out) :
    State.kept { s with now, regs, snap, xl, clap, play, scr, rd, krn, fab, take, cal, bias, router, cut, irq, grip, host,
                        lnk, served, od, flash, time, power, health, jtag, freeCtr, out } = s.kept := by
  unfold State.kept
  rfl

/-! ### Machine/Ops.lean -/

@[simp] theorem State.kept_forEach {α : Type} (l : List α) (f : α → State → State) (s : State)
    (h : ∀ a s, (f a s).kept = s.kept) : (State.forEach l f s).kept = s.kept :=
  State.forEach_field l f s State.kept h

/-- The same for a fold that carries a value beside the state. -/
theorem kept_foldl_snd {α β : Type} (l : List α) (f : β × State → α → β × State) (a : β × State)
    (h : ∀ a x, (f a x).2.kept = a.2.kept) : (l.foldl f a).2.kept = a.2.kept := by
  induction l generalizing a with
  | nil => rfl
  | cons x l ih => exact (ih _).trans (h a x)

@[simp] theorem State.kept_ite (c : Prop) [Decidable c] (s t : State) :
    (if c then s else t).kept = if c then s.kept else t.kept := apply_ite State.kept c s t
@[simp] theorem State.kept_setReg (s : State) (r : Reg) (i : Nat) (w : Word) : (s.setReg r i w).kept = s.kept := by rfl
@[simp] theorem State.kept_setFld (s : State) (r : Reg) (i hi lo v : Nat) : (s.setFld r i hi lo v).kept = s.kept := by
  simp [State.setFld]
@[simp] theorem State.kept_setBit (s : State) (r : Reg) (i b : Nat) (v : Bool) : (s.setBit r i b v).kept = s.kept := by
  simp [State.setBit]
@[simp] theorem State.kept_setPair (s : State) (lo hi : Reg) (i v : Nat) : (s.setPair lo hi i v).kept = s.kept := by
  simp [State.setPair]
@[simp] theorem State.kept_count (s : State) (r : Reg) (i : Nat) (k : Nat) : (s.count r i k).kept = s.kept := by
  simp [State.count]
@[simp] theorem State.kept_countWrap (s : State) (r : Reg) (i : Nat) (k : Nat) : (s.countWrap r i k).kept = s.kept := by
  simp [State.countWrap]
@[simp] theorem State.kept_resetReg (s : State) (r : Reg) (i : Nat) : (s.resetReg r i).kept = s.kept := by rfl
@[simp] theorem State.kept_resetRegs (s : State) (rs : List Reg) (p : Nat → Bool) : (s.resetRegs rs p).kept = s.kept := by rfl
@[simp] theorem State.kept_free (s : State) (n : Nat) : (s.free n).2.kept = s.kept := by rfl
@[simp] theorem State.kept_emit (s : State) (o : Out) : (s.emit o).kept = s.kept := by rfl

/-! ### Machine/Idle.lean -/

@[simp] theorem State.kept_setPower (s : State) (n : Nat) (p : RegionPower) : (s.setPower n p).kept = s.kept := by rfl
@[simp] theorem State.kept_settleIdle (s : State) (t : Nat) : (s.settleIdle t).kept = s.kept := by
  simp [State.settleIdle]

/-! ### Machine/Interrupts.lean -/

@[simp] theorem State.kept_setSource (s : State) (k : Nat) (x : IrqSource) : (s.setSource k x).kept = s.kept := by rfl
@[simp] theorem State.kept_logError (s : State) (status source : Nat) : (s.logError status source).kept = s.kept := by rfl

@[simp] theorem State.kept_logFault (s : State) (k : Nat) : (s.logFault k).kept = s.kept := by
  simp only [State.logFault]
  repeat' split
  all_goals simp

@[simp] theorem State.kept_raise (s : State) (k : Nat) : (s.raise k).kept = s.kept := by
  simp [State.raise]
@[simp] theorem State.kept_setLine (s : State) (k : Nat) (on : Bool) : (s.setLine k on).kept = s.kept := by
  simp [State.setLine]
@[simp] theorem State.kept_pass (s : State) (dt : Nat) : (s.pass dt).kept = s.kept := by
  simp [State.pass]
@[simp] theorem State.kept_setTarget (s : State) (t : Nat) (x : IrqTarget) : (s.setTarget t x).kept = s.kept := by rfl
@[simp] theorem State.kept_claim (s : State) (t : Nat) (fast : Bool) : (s.claim t fast).2.kept = s.kept := by
  simp only [State.claim]
  split <;> simp
@[simp] theorem State.kept_complete (s : State) (t k : Nat) : (s.complete t k).kept = s.kept := by
  simp [State.complete]
@[simp] theorem State.kept_rearm (s : State) (t : Nat) : (s.rearm t).kept = s.kept := by
  simp [State.rearm]
@[simp] theorem State.kept_setMsix (s : State) (m : Msix) : (s.setMsix m).kept = s.kept := by rfl
@[simp] theorem State.kept_transmit (s : State) (v : Nat) : (s.transmit v).kept = s.kept := by
  simp [State.transmit]
@[simp] theorem State.kept_holdPending (s : State) (v : Nat) : (s.holdPending v).kept = s.kept := by
  simp [State.holdPending]
@[simp] theorem State.kept_signalPme (s : State) (t : Nat) : (s.signalPme t).kept = s.kept := by
  simp only [State.signalPme, State.kept_ite, ite_self, State.kept_setBit, State.kept_emit, State.kept_setMsix]
@[simp] theorem State.kept_sendMessage (s : State) (v : Nat) : (s.sendMessage v).kept = s.kept := by
  simp [State.sendMessage]
@[simp] theorem State.kept_releasePending (s : State) (v : Nat) : (s.releasePending v).kept = s.kept := by
  simp [State.releasePending]
@[simp] theorem State.kept_setCore (s : State) (k : Nat) (x : GafferCore) : (s.setCore k x).kept = s.kept := by rfl
@[simp] theorem State.kept_irqCoreReset (s : State) (k : Nat) : (s.irqCoreReset k).kept = s.kept := by
  simp [State.irqCoreReset]
@[simp] theorem State.kept_irqFlr (s : State) : (s.irqFlr).kept = s.kept := by
  simp [State.irqFlr]

/-! ### Machine/Access.lean -/

@[simp] theorem State.kept_clearViews (s : State) (p : Nat → Bool) : (s.clearViews p).kept = s.kept := by
  simp [State.clearViews]
@[simp] theorem State.kept_countTransition (s : State) (n : Nat) : (s.countTransition n).kept = s.kept := by
  simp [State.countTransition]
@[simp] theorem State.kept_arriveRun (s : State) (n : Nat) : (s.arriveRun n).kept = s.kept := by
  simp [State.arriveRun]
@[simp] theorem State.kept_wakeShallow (s : State) (n : Nat) : (s.wakeShallow n).kept = s.kept := by
  simp [State.wakeShallow]
@[simp] theorem State.kept_leaveL1 (s : State) : (s.leaveL1).kept = s.kept := by
  simp [State.leaveL1]
@[simp] theorem State.kept_onLink (s : State) (who : Requester) : (s.onLink who).kept = s.kept := by
  simp [State.onLink]
@[simp] theorem State.kept_throughOpen (s : State) (who : Requester) (a : Nat) : (s.throughOpen who a).kept = s.kept := by
  unfold State.throughOpen
  split <;> simp
@[simp] theorem State.kept_throughGate (s : State) (who : Requester) (a : Nat) (g : Gate) :
    (s.throughGate who a g).kept = s.kept := by
  cases g <;> simp [State.throughGate]

@[simp] theorem State.kept_access (s : State) (who : Requester) (a : Nat) (op : State → State)
    (h : ∀ t, (op t).kept = t.kept) : (s.access who a op).kept = s.kept := by
  unfold State.access
  split
  · rfl
  · split <;> simp [h]

@[simp] theorem State.kept_accessRead (s : State) (who : Requester) (a : Nat) (op : State → BitVec 64 × State)
    (h : ∀ t, (op t).2.kept = t.kept) : (s.accessRead who a op).kept = s.kept := by
  unfold State.accessRead
  split
  · rfl
  · split <;> simp [h]

@[simp] theorem State.kept_capture (s : State) (who : Requester) (r : Reg) (i : Nat) (w : Word) :
    (s.capture who r i w).kept = s.kept := by rfl
@[simp] theorem State.kept_regAccess (s : State) (who : Requester) (r : Reg) (i : Nat) (op : State → State)
    (h : ∀ t, (op t).kept = t.kept) : (s.regAccess who r i op).kept = s.kept :=
  s.kept_access who _ op h
@[simp] theorem State.kept_regAccessRead (s : State) (who : Requester) (r : Reg) (i : Nat)
    (op : State → BitVec 64 × State) (h : ∀ t, (op t).2.kept = t.kept) : (s.regAccessRead who r i op).kept = s.kept :=
  s.kept_accessRead who _ op h
@[simp] theorem State.kept_setCalUnit (s : State) (u : Nat) (x : CalUnit) : (s.setCalUnit u x).kept = s.kept := by rfl
@[simp] theorem State.kept_trimWritten (s : State) (u : Nat) : (s.trimWritten u).kept = s.kept := by
  simp [State.trimWritten]
@[simp] theorem State.kept_trimGate (s : State) (who : Requester) (u : Nat) (op : State → State)
    (h : ∀ t, (op t).kept = t.kept) : (s.trimGate who u op).kept = s.kept := by
  simp [State.trimGate, h]

/-! ### Machine/InterruptRows.lean -/

@[simp] theorem kept_irqEdgeOp (src : Nat) (s : State) : (irqEdgeOp src s).kept = s.kept := by
  simp [irqEdgeOp]
@[simp] theorem kept_irqLevelOp (src : Nat) (level : Bool) (s : State) : (irqLevelOp src level s).kept = s.kept := by
  unfold irqLevelOp
  split <;> simp
@[simp] theorem kept_claimOp (t : Nat) (s : State) : (claimOp t s).2.kept = s.kept := by
  simp [claimOp]
@[simp] theorem kept_fclaimOp (t : Nat) (s : State) : (fclaimOp t s).2.kept = s.kept := by
  unfold fclaimOp
  split <;> simp
@[simp] theorem kept_completeOp (t : Nat) (v : Word) (s : State) : (completeOp t v s).kept = s.kept := by
  simp [completeOp]
@[simp] theorem State.kept_forSources (s : State) (j : Nat) (w : Word) (f : Nat → State → State)
    (h : ∀ k t, (f k t).kept = t.kept) : (s.forSources j w f).kept = s.kept := by
  simp [State.forSources, h]
@[simp] theorem kept_pendSetOne (k : Nat) (s : State) : (pendSetOne k s).kept = s.kept := by
  simp [pendSetOne]
@[simp] theorem kept_icPendSetOp (j : Nat) (w : Word) (s : State) : (icPendSetOp j w s).kept = s.kept := by
  simp [icPendSetOp]
@[simp] theorem kept_pendClrOne (k : Nat) (s : State) : (pendClrOne k s).kept = s.kept := by
  simp [pendClrOne]
@[simp] theorem kept_icPendClrOp (j : Nat) (w : Word) (s : State) : (icPendClrOp j w s).kept = s.kept := by
  simp [icPendClrOp]
@[simp] theorem kept_icEnSetOp (j : Nat) (w : Word) (s : State) : (icEnSetOp j w s).kept = s.kept := by
  simp [icEnSetOp]
@[simp] theorem kept_icEnClrOp (j : Nat) (w : Word) (s : State) : (icEnClrOp j w s).kept = s.kept := by
  simp [icEnClrOp]
@[simp] theorem kept_icSrcCfgOp (k : Nat) (v : Word) (s : State) : (icSrcCfgOp k v s).kept = s.kept := by
  simp [icSrcCfgOp]
@[simp] theorem kept_fastEntryOp (k : Nat) (returned : Bool) (s : State) : (fastEntryOp k returned s).kept = s.kept := by
  simp [fastEntryOp]
@[simp] theorem kept_msixSendOp (v : Nat) (s : State) : (msixSendOp v s).kept = s.kept := by
  simp [msixSendOp]
@[simp] theorem kept_moderationOp (v : Nat) (s : State) : (moderationOp v s).kept = s.kept := by
  simp [moderationOp]
@[simp] theorem kept_icTgtIdleOp (t : Nat) (v : Word) (s : State) : (icTgtIdleOp t v s).kept = s.kept := by
  simp [icTgtIdleOp]
@[simp] theorem kept_msixUnmaskOp (v : Nat) (s : State) : (msixUnmaskOp v s).kept = s.kept := by
  simp [msixUnmaskOp]
@[simp] theorem kept_msixEnableOp (enable funcMask : Bool) (s : State) : (msixEnableOp enable funcMask s).kept = s.kept := by
  simp [msixEnableOp]

/-! ### Machine/Router.lean -/

@[simp] theorem State.kept_setCrossing (s : State) (k : Nat) (x : CrossingState) : (s.setCrossing k x).kept = s.kept := by rfl
@[simp] theorem State.kept_flagLoop (s : State) (c : Nat) : (s.flagLoop c).kept = s.kept := by
  simp [State.flagLoop]
@[simp] theorem State.kept_emitEvent (s : State) (i : Island) (c cc lineage : Nat) :
    (s.emitEvent i c cc lineage).kept = s.kept := by
  simp [State.emitEvent]
@[simp] theorem kept_combineOp (c : Nat) (s : State) : (combineOp c s).kept = s.kept := by
  simp [combineOp]
@[simp] theorem State.kept_setTask (s : State) (k : Nat) (b : TaskBit) : (s.setTask k b).kept = s.kept := by rfl
@[simp] theorem State.kept_clearTask (s : State) (k : Nat) : (s.clearTask k).kept = s.kept := by rfl
@[simp] theorem State.kept_countLost (s : State) (c : Nat) : (s.countLost c).kept = s.kept := by
  simp [State.countLost]
@[simp] theorem State.kept_evResult (s : State) (code : Nat) : (s.evResult code).kept = s.kept := by
  simp [State.evResult]
@[simp] theorem State.kept_ptBegin (s : State) (p first : Nat) : (s.ptBegin p first).kept = s.kept := by
  simp [State.ptBegin]
@[simp] theorem State.kept_ptHalt (s : State) (p : Nat) : (s.ptHalt p).kept = s.kept := by rfl
@[simp] theorem kept_ptStartOp (p : Nat) (s : State) : (ptStartOp p s).kept = s.kept := by
  simp [ptStartOp]
@[simp] theorem kept_ptStopOp (p : Nat) (s : State) : (ptStopOp p s).kept = s.kept := by
  simp [ptStopOp]
@[simp] theorem kept_ptCmdOp (p : Nat) (v : Word) (s : State) : (ptCmdOp p v s).kept = s.kept := by
  simp [ptCmdOp]
@[simp] theorem kept_ptEmitOp (p : Nat) (s : State) : (ptEmitOp p s).kept = s.kept := by
  unfold ptEmitOp
  split <;> simp
@[simp] theorem kept_evInjectOp (j : Nat) (w : Word) (s : State) : (evInjectOp j w s).kept = s.kept := by
  simp [evInjectOp]
@[simp] theorem kept_levInjectOp (n : Nat) (w : Word) (s : State) : (levInjectOp n w s).kept = s.kept := by
  simp [levInjectOp]
@[simp] theorem kept_tioEndOp (l : Nat) (s : State) : (tioEndOp l s).kept = s.kept := by
  unfold tioEndOp
  split <;> simp
@[simp] theorem State.kept_clearTasks (s : State) (p : Nat → Bool) : (s.clearTasks p).kept = s.kept := by rfl

/-! ### Machine/Clapper.lean -/

@[simp] theorem State.kept_clapResult (s : State) (code : Nat) : (s.clapResult code).kept = s.kept := by
  simp [State.clapResult]
@[simp] theorem State.kept_slip (s : State) (kind index delta : Nat) : (s.slip kind index delta).kept = s.kept := by
  simp [State.slip]

@[simp] theorem State.kept_crossingFindings (s : State) (found : List (Nat × CrossingKind)) :
    (s.crossingFindings found).kept = s.kept := by
  simp only [State.crossingFindings]
  split <;> simp

@[simp] theorem kept_fabricFaultOp (found : List CrossingFinding) (s : State) : (fabricFaultOp found s).kept = s.kept := by
  simp [fabricFaultOp]
@[simp] theorem kept_crossingLockOp (k : Nat) (s : State) : (crossingLockOp k s).kept = s.kept := by
  unfold crossingLockOp
  split <;> simp
@[simp] theorem State.kept_releaseAfter (s : State) (t k : Nat) : (s.releaseAfter t k).kept = s.kept := by
  simp [State.releaseAfter]
@[simp] theorem State.kept_unlockRegion (s : State) (n : Nat) : (s.unlockRegion n).kept = s.kept := by
  simp [State.unlockRegion]
@[simp] theorem kept_xlockClearOp (s : State) : (xlockClearOp s).kept = s.kept := by
  simp [xlockClearOp]
@[simp] theorem State.kept_relockAll (s : State) : (s.relockAll).kept = s.kept := by
  simp [State.relockAll]
@[simp] theorem kept_clkCtrlOp (v : Word) (s : State) : (clkCtrlOp v s).kept = s.kept := by
  simp [clkCtrlOp]

@[simp] theorem kept_pllLockOp (pll : Pll) (inRange : Bool) (s : State) : (pllLockOp pll inRange s).kept = s.kept := by
  simp only [pllLockOp, State.kept_ite, State.kept_setBit, State.kept_relockAll]
  repeat' split
  all_goals simp only [State.kept_setBit]

@[simp] theorem kept_referenceLostOp (s : State) : (referenceLostOp s).kept = s.kept := by
  simp [referenceLostOp]
@[simp] theorem kept_tileUnlockOp (t : Nat) (s : State) : (tileUnlockOp t s).kept = s.kept := by
  simp [tileUnlockOp]
@[simp] theorem State.kept_arm (s : State) : (s.arm).kept = s.kept := by
  simp [State.arm]
@[simp] theorem kept_clapArmOp (s : State) : (clapArmOp s).kept = s.kept := by
  unfold clapArmOp
  split <;> simp
@[simp] theorem kept_clapDisarmOp (s : State) : (clapDisarmOp s).kept = s.kept := by
  unfold clapDisarmOp
  split <;> simp
@[simp] theorem State.kept_setEdgePos (s : State) (pos : Nat) : (s.setEdgePos pos).kept = s.kept := by
  simp [State.setEdgePos]
@[simp] theorem State.kept_registerEpoch (s : State) (pos : Nat) : (s.registerEpoch pos).kept = s.kept := by rfl
@[simp] theorem State.kept_reemit (s : State) (pos : Nat) : (s.reemit pos).kept = s.kept := by
  simp [State.reemit]
@[simp] theorem State.kept_judgeEdge (s : State) (f pos : Nat) : (s.judgeEdge f pos).kept = s.kept := by
  unfold State.judgeEdge
  split <;> simp
@[simp] theorem State.kept_clapEdge (s : State) (pos : Nat) : (s.clapEdge pos).kept = s.kept := by
  simp [State.clapEdge]
@[simp] theorem kept_clapperEdgeOp (pos : Nat) (s : State) : (clapperEdgeOp pos s).kept = s.kept := by
  simp [clapperEdgeOp]
@[simp] theorem kept_epochPulseOp (s : State) : (epochPulseOp s).kept = s.kept := by
  unfold epochPulseOp
  split <;> simp
@[simp] theorem kept_checkPulseOp (s : State) : (checkPulseOp s).kept = s.kept := by
  unfold checkPulseOp
  split <;> simp
@[simp] theorem State.kept_settleTapIn (s : State) : (s.settleTapIn).kept = s.kept := by
  unfold State.settleTapIn
  split <;> simp

@[simp] theorem kept_clapTapOp (tap : ClapTap) (v : Word) (s : State) : (clapTapOp tap v s).kept = s.kept := by
  simp only [clapTapOp]
  repeat' split
  all_goals simp only [State.kept_update, State.kept_setFld, State.kept_settleTapIn]

@[simp] theorem kept_clapTapGatedOp (who : Requester) (tap : ClapTap) (v : Word) (s : State) :
    (clapTapGatedOp who tap v s).kept = s.kept := by
  unfold clapTapGatedOp
  split <;> simp

@[simp] theorem kept_tapSlewOp (tap : ClapTap) (s : State) : (tapSlewOp tap s).kept = s.kept := by
  simp only [tapSlewOp]
  repeat' split
  all_goals simp only [State.kept_update, State.kept_setFld, State.kept_settleTapIn]

@[simp] theorem kept_loopMeasOp (s : State) : (loopMeasOp s).kept = s.kept := by
  simp [loopMeasOp]

@[simp] theorem kept_loopDoneOp (rt : Option (BitVec 32)) (spread : BitVec 16) (s : State) :
    (loopDoneOp rt spread s).kept = s.kept := by
  simp only [loopDoneOp]
  repeat' split
  all_goals simp only [State.kept_update, State.kept_setReg, State.kept_setBit, State.kept_clapResult]

@[simp] theorem kept_clapCmdOp (v : Word) (s : State) : (clapCmdOp v s).kept = s.kept := by
  unfold clapCmdOp
  split <;> simp
@[simp] theorem kept_clapCtrlOp (v : Word) (s : State) : (clapCtrlOp v s).kept = s.kept := by
  simp only [clapCtrlOp, State.kept_ite, ite_self, State.kept_setFld, State.kept_setBit, State.kept_clapResult]

/-! ### Machine/Voices.lean -/

@[simp] theorem State.kept_clResult (s : State) (g code : Nat) : (s.clResult g code).kept = s.kept := by
  simp [State.clResult]
@[simp] theorem State.kept_setUnit (s : State) (g u : Nat) (x : UnitState) : (s.setUnit g u x).kept = s.kept := by rfl
@[simp] theorem State.kept_spliceLost (s : State) (g u : Nat) : (s.spliceLost g u).kept = s.kept := by
  simp [State.spliceLost]
@[simp] theorem State.kept_engineLate (s : State) (g e : Nat) : (s.engineLate g e).kept = s.kept := by
  simp [State.engineLate]
@[simp] theorem State.kept_setShadow (s : State) (g k : Nat) (x : SetState) : (s.setShadow g k x).kept = s.kept := by rfl
@[simp] theorem State.kept_shadowPut (s : State) (g k : Nat) (r : Reg) (i hi lo v : Nat) :
    (s.shadowPut g k r i hi lo v).kept = s.kept := by
  simp [State.shadowPut]
@[simp] theorem State.kept_commitSet (s : State) (script : Bool) (g k : Nat) : (s.commitSet script g k).kept = s.kept := by
  simp [State.commitSet]
@[simp] theorem State.kept_handWindows (s : State) (g t : Nat) : (s.handWindows g t).kept = s.kept := by
  simp [State.handWindows]
@[simp] theorem State.kept_copyActive (s : State) (g k : Nat) : (s.copyActive g k).kept = s.kept := by
  simp [State.copyActive]
@[simp] theorem State.kept_retryFit (s : State) (g k : Nat) : (s.retryFit g k).kept = s.kept := by
  simp only [State.retryFit]
  split <;> simp
@[simp] theorem State.kept_handOver (s : State) (g k : Nat) : (s.handOver g k).kept = s.kept := by
  simp [State.handOver]
@[simp] theorem kept_handOverOp (g k : Nat) (s : State) : (handOverOp g k s).kept = s.kept := by
  simp [handOverOp]
@[simp] theorem kept_shadowWriteOp (g : Nat) (r : ShadowReg) (v : Word) (s : State) :
    (shadowWriteOp g r v s).kept = s.kept := by
  simp [shadowWriteOp]

@[simp] theorem kept_shadowGatedOp (who : Requester) (g : Nat) (r : ShadowReg) (v : Word) (s : State) :
    (shadowGatedOp who g r v s).kept = s.kept := by
  unfold shadowGatedOp
  split <;> simp

@[simp] theorem kept_voiceCommitOp (g u : Nat) (s : State) : (voiceCommitOp g u s).kept = s.kept := by
  simp [voiceCommitOp]
@[simp] theorem kept_clCommitOp (g : Nat) (mask : Word) (s : State) : (clCommitOp g mask s).kept = s.kept := by
  simp [clCommitOp]
@[simp] theorem State.kept_setStaging (s : State) (who : Requester) (b : Staging) : (s.setStaging who b).kept = s.kept := by rfl
@[simp] theorem kept_segStageOp (who : Requester) (n e w : Nat) (v : Word) (s : State) :
    (segStageOp who n e w v s).kept = s.kept := by
  simp [segStageOp]
@[simp] theorem State.kept_setStream (s : State) (n i : Nat) (x : StreamState) : (s.setStream n i x).kept = s.kept := by rfl
@[simp] theorem State.kept_endSegment (s : State) (g u : Nat) : (s.endSegment g u).kept = s.kept := by
  unfold State.endSegment
  split <;> simp
@[simp] theorem State.kept_setTake (s : State) (n : Nat) (x : TakeEngine) : (s.setTake n x).kept = s.kept := by rfl
@[simp] theorem State.kept_takeMark (s : State) (n b : Nat) : (s.takeMark n b).kept = s.kept := by
  simp [State.takeMark]
@[simp] theorem State.kept_flagUnderrun (s : State) (g u : Nat) (p : Playing) : (s.flagUnderrun g u p).kept = s.kept := by
  simp [State.flagUnderrun]
@[simp] theorem State.kept_startSegment (s : State) (g u index : Nat) (x : SegEntry) (src : Option SuccessorFrom) :
    (s.startSegment g u index x src).kept = s.kept := by
  simp [State.startSegment]
@[simp] theorem State.kept_startNamed (s : State) (g u seg : Nat) (src : Option SuccessorFrom) :
    (s.startNamed g u seg src).kept = s.kept := by
  simp [State.startNamed]
@[simp] theorem State.kept_fixSuccessor (s : State) (g u : Nat) (p : Playing) : (s.fixSuccessor g u p).kept = s.kept := by
  simp only [State.fixSuccessor]
  split <;> simp
@[simp] theorem kept_spliceDecideOp (g u : Nat) (s : State) : (spliceDecideOp g u s).kept = s.kept := by
  unfold spliceDecideOp
  split <;> simp

@[simp] theorem kept_spliceOp (g u : Nat) (s : State) : (spliceOp g u s).kept = s.kept := by
  simp only [spliceOp]
  repeat' split
  all_goals simp only [State.kept_setUnit, State.kept_endSegment, State.kept_startSegment, State.kept_startNamed,
    State.kept_fixSuccessor]

@[simp] theorem State.kept_dropSuccessor (s : State) (g u : Nat) : (s.dropSuccessor g u).kept = s.kept := by
  unfold State.dropSuccessor
  split <;> simp
@[simp] theorem State.kept_matureRequest (s : State) (g u seg m : Nat) : (s.matureRequest g u seg m).kept = s.kept := by
  unfold State.matureRequest
  split <;> simp
@[simp] theorem kept_underrunOp (g u : Nat) (s : State) : (underrunOp g u s).kept = s.kept := by
  unfold underrunOp
  split <;> simp
@[simp] theorem State.kept_emptyStream (s : State) (n i : Nat) : (s.emptyStream n i).kept = s.kept := by
  simp [State.emptyStream]
@[simp] theorem kept_strmCfgOp (n i : Nat) (v : Word) (s : State) : (strmCfgOp n i v s).kept = s.kept := by
  simp [strmCfgOp]

@[simp] theorem kept_markerEdgeOp (g : Nat) (route : MarkerRoute) (s : State) : (markerEdgeOp g route s).kept = s.kept := by
  simp only [markerEdgeOp]
  repeat' split
  all_goals simp

@[simp] theorem kept_markerRouteOp (r : Reg) (i g : Nat) (v : Word) (s : State) :
    (markerRouteOp r i g v s).kept = s.kept := by
  simp [markerRouteOp]
@[simp] theorem State.kept_stopUnit (s : State) (g u : Nat) : (s.stopUnit g u).kept = s.kept := by
  simp [State.stopUnit]
@[simp] theorem State.kept_resetUnits (s : State) (g : Nat) : (s.resetUnits g).kept = s.kept := by
  simp [State.resetUnits]

/-! ### Machine/Fabric.lean -/

@[simp] theorem State.kept_putDefault (s : State) (j : Nat) (v : Word) : (s.putDefault j v).kept = s.kept := by
  simp [State.putDefault]
@[simp] theorem kept_fabDfltOp (j : Nat) (v : Word) (s : State) : (fabDfltOp j v s).kept = s.kept := by
  simp [fabDfltOp]
@[simp] theorem State.kept_applyDefaults (s : State) : (s.applyDefaults).kept = s.kept := by
  simp [State.applyDefaults]
@[simp] theorem State.kept_enterFabric (s : State) (g slot : Nat) (w : BitVec 8) (x : Nat) :
    (s.enterFabric g slot w x).kept = s.kept := by
  simp [State.enterFabric]
@[simp] theorem State.kept_nextSeq (s : State) (slot : Nat) : (s.nextSeq slot).2.kept = s.kept := by rfl
@[simp] theorem kept_fabricDeliveryOp (g slot : Nat) (s : State) : (fabricDeliveryOp g slot s).kept = s.kept := by
  unfold fabricDeliveryOp
  split <;> simp
@[simp] theorem kept_hubReadOp (slot : Nat) (s : State) : (hubReadOp slot s).kept = s.kept := by
  unfold hubReadOp
  split <;> simp
@[simp] theorem kept_hubSendOp (slot : Nat) (s : State) : (hubSendOp slot s).kept = s.kept := by
  unfold hubSendOp
  split <;> simp
@[simp] theorem kept_fabViewOp (g : Nat) (v : Word) (s : State) : (fabViewOp g v s).kept = s.kept := by
  simp only [fabViewOp]
  split <;> simp
@[simp] theorem State.kept_fabricEpoch (s : State) : (s.fabricEpoch).kept = s.kept := by
  simp [State.fabricEpoch]

/-! ### Machine/Script.lean -/

@[simp] theorem State.kept_setEng (s : State) (g e : Nat) (x : EngineState) : (s.setEng g e x).kept = s.kept := by rfl
@[simp] theorem State.kept_setPc (s : State) (g e pc : Nat) : (s.setPc g e pc).kept = s.kept := by
  simp [State.setPc]
@[simp] theorem State.kept_setProgTime (s : State) (g e t : Nat) : (s.setProgTime g e t).kept = s.kept := by
  simp [State.setProgTime]
@[simp] theorem State.kept_setSreg (s : State) (g e j : Nat) (v : Word) : (s.setSreg g e j v).kept = s.kept := by
  simp [State.setSreg]
@[simp] theorem State.kept_setWaits (s : State) (g e : Nat) (dp ahead q : Bool) :
    (s.setWaits g e dp ahead q).kept = s.kept := by
  simp [State.setWaits]
@[simp] theorem State.kept_haltWith (s : State) (g e code : Nat) (error : Bool) :
    (s.haltWith g e code error).kept = s.kept := by
  simp [State.haltWith]
@[simp] theorem State.kept_haltSignal (s : State) (g e : Nat) : (s.haltSignal g e).kept = s.kept := by
  simp [State.haltSignal]
@[simp] theorem State.kept_errorHalt (s : State) (g e code : Nat) : (s.errorHalt g e code).kept = s.kept := by
  simp [State.errorHalt]
@[simp] theorem State.kept_issue (s : State) (g e op : Nat) (meaning : BitVec 64 → State → State)
    (h : ∀ w t, (meaning w t).kept = t.kept) : (s.issue g e op meaning).kept = s.kept := by
  simp [State.issue, h]
@[simp] theorem State.kept_nextPc (s : State) (g e : Nat) : (s.nextPc g e).kept = s.kept := by
  simp [State.nextPc]

@[simp] theorem State.kept_guard (s : State) (g e : Nat) (cs : List (Bool × Nat)) (k : State → State)
    (h : ∀ t, (k t).kept = t.kept) : (s.guard g e cs k).kept = s.kept := by
  unfold State.guard
  split <;> simp [h]

@[simp] theorem State.kept_pushUnit (s : State) (g u m : Nat) (a : UnitAction) : (s.pushUnit g u m a).kept = s.kept := by
  simp [State.pushUnit]
@[simp] theorem State.kept_stallQueue (s : State) (g e : Nat) : (s.stallQueue g e).kept = s.kept := by
  simp [State.stallQueue]
@[simp] theorem State.kept_placeTimed (s : State) (g e : Nat) (us : List Nat) (act : UnitAction) (after : State → State)
    (h : ∀ t, (after t).kept = t.kept) : (s.placeTimed g e us act after).kept = s.kept := by
  simp [State.placeTimed, h]
@[simp] theorem State.kept_placeAux (s : State) (g e : Nat) (act : AuxAction) : (s.placeAux g e act).kept = s.kept := by
  simp [State.placeAux]
@[simp] theorem State.kept_startEngine (s : State) (g e : Nat) : (s.startEngine g e).kept = s.kept := by
  simp [State.startEngine]

@[simp] theorem kept_scrStartOp (g : Nat) (mask : Nat) (s : State) : (scrStartOp g mask s).kept = s.kept := by
  unfold scrStartOp
  rw [State.kept_clResult]
  refine State.kept_forEach _ _ _ fun e t => ?_
  split <;> simp

@[simp] theorem State.kept_pcPastWait (s : State) (g e : Nat) : (s.pcPastWait g e).kept = s.kept := by
  simp [State.pcPastWait]
@[simp] theorem State.kept_stopEngine (s : State) (g e code : Nat) : (s.stopEngine g e code).kept = s.kept := by
  simp [State.stopEngine]
@[simp] theorem State.kept_flushEngine (s : State) (g e : Nat) : (s.flushEngine g e).kept = s.kept := by
  simp [State.flushEngine]
@[simp] theorem kept_scrStopOp (g mask flush : Nat) (s : State) : (scrStopOp g mask flush s).kept = s.kept := by
  simp [scrStopOp]
@[simp] theorem kept_scrStopFlushOp (g mask : Nat) (s : State) : (scrStopFlushOp g mask s).kept = s.kept := by
  simp [scrStopFlushOp]
@[simp] theorem kept_haltOp (g e : Nat) (w : BitVec 64) (s : State) : (haltOp g e w s).kept = s.kept := by
  simp [haltOp]
@[simp] theorem kept_playOp (g e : Nat) (w : BitVec 64) (s : State) : (playOp g e w s).kept = s.kept := by
  simp [playOp]
@[simp] theorem kept_playdOp (g e : Nat) (w : BitVec 64) (s : State) : (playdOp g e w s).kept = s.kept := by
  simp [playdOp]
@[simp] theorem kept_waitOp (g e : Nat) (w : BitVec 64) (s : State) : (waitOp g e w s).kept = s.kept := by
  simp [waitOp]
@[simp] theorem kept_waituOp (g e : Nat) (w : BitVec 64) (s : State) : (waituOp g e w s).kept = s.kept := by
  simp [waituOp]
@[simp] theorem kept_clapOp (g e : Nat) (w : BitVec 64) (s : State) : (clapOp g e w s).kept = s.kept := by
  simp [clapOp]
@[simp] theorem kept_setfOp (g e : Nat) (w : BitVec 64) (s : State) : (setfOp g e w s).kept = s.kept := by
  simp [setfOp]
@[simp] theorem kept_setpOp (g e : Nat) (w : BitVec 64) (s : State) : (setpOp g e w s).kept = s.kept := by
  simp [setpOp]
@[simp] theorem kept_rotpOp (g e : Nat) (w : BitVec 64) (s : State) : (rotpOp g e w s).kept = s.kept := by
  simp [rotpOp]
@[simp] theorem kept_setaOp (g e : Nat) (w : BitVec 64) (s : State) : (setaOp g e w s).kept = s.kept := by
  simp [setaOp]
@[simp] theorem kept_commitOp (g e : Nat) (w : BitVec 64) (s : State) : (commitOp g e w s).kept = s.kept := by
  simp [commitOp]
@[simp] theorem kept_acqOp (g e : Nat) (w : BitVec 64) (s : State) : (acqOp g e w s).kept = s.kept := by
  simp [acqOp]
@[simp] theorem kept_markOp (g e : Nat) (w : BitVec 64) (s : State) : (markOp g e w s).kept = s.kept := by
  simp [markOp]
@[simp] theorem State.kept_substitute (s : State) (g e : Nat) : (s.substitute g e).kept = s.kept := by
  simp [State.substitute]
@[simp] theorem State.kept_setLineage (s : State) (g e : Nat) (l : Option Nat) : (s.setLineage g e l).kept = s.kept := by
  unfold State.setLineage
  split <;> simp
@[simp] theorem State.kept_branchTo (s : State) (g e : Nat) (taken : Bool) (w : BitVec 64) :
    (s.branchTo g e taken w).kept = s.kept := by
  simp [State.branchTo]
@[simp] theorem State.kept_issueBranch (s : State) (g e : Nat) (w : BitVec 64) (behind : State → State)
    (h : ∀ t, (behind t).kept = t.kept) : (s.issueBranch g e w behind).kept = s.kept := by
  simp [State.issueBranch, h]
@[simp] theorem kept_brdOp (g e : Nat) (w : BitVec 64) (s : State) : (brdOp g e w s).kept = s.kept := by
  simp [brdOp]
@[simp] theorem kept_breOp (g e : Nat) (w : BitVec 64) (s : State) : (breOp g e w s).kept = s.kept := by
  simp [breOp]
@[simp] theorem State.kept_placeBranchPlay (s : State) (g e u seg t : Nat) :
    (s.placeBranchPlay g e u seg t).kept = s.kept := by
  simp [State.placeBranchPlay]
@[simp] theorem State.kept_takeSegment (s : State) (g e u seg t : Nat) : (s.takeSegment g e u seg t).kept = s.kept := by
  simp only [State.takeSegment]
  split <;> simp

@[simp] theorem kept_branchDecideOp (g e : Nat) (s : State) : (branchDecideOp g e s).kept = s.kept := by
  simp only [branchDecideOp]
  repeat' split
  all_goals simp only [State.kept_clearTask, State.kept_setEng, State.kept_setWaits, State.kept_substitute,
    State.kept_setLineage, State.kept_branchTo, State.kept_takeSegment]

@[simp] theorem kept_queuedPlaceOp (g e : Nat) (s : State) : (queuedPlaceOp g e s).kept = s.kept := by
  unfold queuedPlaceOp
  split <;> simp
@[simp] theorem kept_brcOp (g e : Nat) (w : BitVec 64) (s : State) : (brcOp g e w s).kept = s.kept := by
  simp [brcOp]
@[simp] theorem kept_loopOp (g e : Nat) (w : BitVec 64) (s : State) : (loopOp g e w s).kept = s.kept := by
  simp [loopOp]
@[simp] theorem kept_endlOp (g e : Nat) (w : BitVec 64) (s : State) : (endlOp g e w s).kept = s.kept := by
  simp only [endlOp]
  split <;> simp
@[simp] theorem kept_callOp (g e : Nat) (w : BitVec 64) (s : State) : (callOp g e w s).kept = s.kept := by
  simp [callOp]
@[simp] theorem kept_retOp (g e : Nat) (w : BitVec 64) (s : State) : (retOp g e w s).kept = s.kept := by
  simp only [retOp]
  split <;> simp
@[simp] theorem State.kept_setSweep (s : State) (g k : Nat) (x : SweepState) : (s.setSweep g k x).kept = s.kept := by rfl
@[simp] theorem State.kept_swgRestart (s : State) (g k : Nat) : (s.swgRestart g k).kept = s.kept := by
  simp [State.swgRestart]
@[simp] theorem State.kept_swgAdvance (s : State) (g k : Nat) : (s.swgAdvance g k).kept = s.kept := by
  simp only [State.swgAdvance, State.kept_ite, ite_self, State.kept_setBit, State.kept_setSweep]
@[simp] theorem kept_swpOp (g e : Nat) (w : BitVec 64) (s : State) : (swpOp g e w s).kept = s.kept := by
  simp [swpOp]
@[simp] theorem kept_ldiOp (g e : Nat) (w : BitVec 64) (s : State) : (ldiOp g e w s).kept = s.kept := by
  simp [ldiOp]
@[simp] theorem State.kept_setNzcv (s : State) (g e f : Nat) : (s.setNzcv g e f).kept = s.kept := by
  simp [State.setNzcv]
@[simp] theorem kept_addOp (g e : Nat) (w : BitVec 64) (s : State) : (addOp g e w s).kept = s.kept := by
  simp [addOp]
@[simp] theorem kept_subOp (g e : Nat) (w : BitVec 64) (s : State) : (subOp g e w s).kept = s.kept := by
  simp [subOp]
@[simp] theorem kept_cmpOp (g e : Nat) (w : BitVec 64) (s : State) : (cmpOp g e w s).kept = s.kept := by
  simp [cmpOp]

theorem State.kept_headEntry {s t : State} {g u m : Nat} {a : UnitAction} (h : s.headEntry g u = some (m, a, t)) :
    t.kept = s.kept := by
  unfold State.headEntry at h
  split at h
  · cases h
  · split at h
    · split at h
      · obtain ⟨-, -, rfl⟩ := by simpa using h
        simp
      · cases h
    · cases h

@[simp] theorem kept_playMatureOp (g u : Nat) (s : State) : (playMatureOp g u s).kept = s.kept := by
  unfold playMatureOp
  split
  next h => simp [State.kept_headEntry h]
  · rfl

@[simp] theorem State.kept_applyWrite (s : State) (g u : Nat) (a : UnitAction) : (s.applyWrite g u a).kept = s.kept := by
  cases a <;> simp [State.applyWrite]

@[simp] theorem kept_shadowMatureOp (g u : Nat) (s : State) : (shadowMatureOp g u s).kept = s.kept := by
  unfold shadowMatureOp
  split
  case h_4 h => simp [State.kept_headEntry h]
  all_goals rfl

@[simp] theorem kept_commitMatureOp (g u : Nat) (s : State) : (commitMatureOp g u s).kept = s.kept := by
  unfold commitMatureOp
  split
  next h => simp [State.kept_headEntry h]
  · rfl

@[simp] theorem kept_requestMatureOp (g u : Nat) (s : State) : (requestMatureOp g u s).kept = s.kept := by
  unfold requestMatureOp
  split
  next h => simp [State.kept_headEntry h]
  · rfl

@[simp] theorem kept_markMatureOp (g e : Nat) (s : State) : (markMatureOp g e s).kept = s.kept := by
  simp only [markMatureOp]
  split <;> simp
@[simp] theorem kept_swgRestartOp (g k : Nat) (s : State) : (swgRestartOp g k s).kept = s.kept := by
  simp [swgRestartOp]
@[simp] theorem kept_swgConfigOp (g k : Nat) (r : SwgReg) (v : Word) (s : State) : (swgConfigOp g k r v s).kept = s.kept := by
  simp [swgConfigOp]
@[simp] theorem State.kept_resetScripts (s : State) (g : Nat) : (s.resetScripts g).kept = s.kept := by
  simp only [State.resetScripts, State.kept_forEach, implies_true, State.kept_setReg, State.kept_clearTask, State.kept_setEng,
    State.kept_setSreg, State.kept_stopEngine, State.kept_swgRestart]
@[simp] theorem State.kept_cutScripts (s : State) (g : Nat) : (s.cutScripts g).kept = s.kept := by
  simp [State.cutScripts]

/-! ### Machine/Kernel.lean -/

@[simp] theorem State.kept_setKrnPc (s : State) (g pc : Nat) : (s.setKrnPc g pc).kept = s.kept := by
  simp [State.setKrnPc]
@[simp] theorem State.kept_setKrn (s : State) (g : Nat) (x : KrnEngine) : (s.setKrn g x).kept = s.kept := by rfl
@[simp] theorem State.kept_krnLatch (s : State) (g b : Nat) : (s.krnLatch g b).kept = s.kept := by
  simp [State.krnLatch]
@[simp] theorem State.kept_setKstat (s : State) (g v : Nat) : (s.setKstat g v).kept = s.kept := by
  simp [State.setKstat]
@[simp] theorem State.kept_writeCircular (s : State) (g i : Nat) (len : Bool) (v : Nat) :
    (s.writeCircular g i len v).kept = s.kept := by
  simp [State.writeCircular]

@[simp] theorem State.kept_landOne (g : Nat) (w : KrnWrite) (s : State) : (State.landOne g w s).kept = s.kept := by
  simp only [State.landOne]
  repeat' split
  all_goals simp only [State.kept_setReg, State.kept_setBit, State.kept_setPair, State.kept_writeCircular]

@[simp] theorem State.kept_landList (s : State) (g : Nat) (ws : List KrnWrite) : (s.landList g ws).kept = s.kept := by
  simp [State.landList]
@[simp] theorem State.kept_endBundle (s : State) (g : Nat) : (s.endBundle g).kept = s.kept := by
  simp [State.endBundle]
@[simp] theorem State.kept_landAll (s : State) (g : Nat) : (s.landAll g).kept = s.kept := by
  simp [State.landAll]
@[simp] theorem State.kept_setKrnIn (s : State) (g i : Nat) (q : List (Nat × Word)) : (s.setKrnIn g i q).kept = s.kept := by rfl
@[simp] theorem State.kept_krnWatermark (s : State) (g i : Nat) : (s.krnWatermark g i).kept = s.kept := by
  simp [State.krnWatermark]
@[simp] theorem State.kept_setWindows (s : State) (g t : Nat) (ws : List ToneWindow) :
    (s.setWindows g t ws).kept = s.kept := by rfl

@[simp] theorem kept_krnInWordOp (g i : Nat) (w : Word) (s : State) : (krnInWordOp g i w s).kept = s.kept := by
  simp only [krnInWordOp]
  repeat' split
  all_goals simp

@[simp] theorem State.kept_settlePend (s : State) (g t : Nat) : (s.settlePend g t).kept = s.kept := by
  simp [State.settlePend]
@[simp] theorem State.kept_krnEmit (s : State) (g t state x : Nat) (valid late : Bool) :
    (s.krnEmit g t state x valid late).kept = s.kept := by
  simp [State.krnEmit]

@[simp] theorem State.kept_krnDecide (s : State) (g t state : Nat) : (s.krnDecide g t state).kept = s.kept := by
  simp only [State.krnDecide]
  repeat' split
  all_goals simp

@[simp] theorem kept_krnMissOp (g t : Nat) (s : State) : (krnMissOp g t s).kept = s.kept := by
  simp [krnMissOp]
@[simp] theorem State.kept_krnHalt (s : State) (g code : Nat) (error : Bool) : (s.krnHalt g code error).kept = s.kept := by
  simp [State.krnHalt]
@[simp] theorem State.kept_krnHaltSignal (s : State) (g : Nat) : (s.krnHaltSignal g).kept = s.kept := by
  simp [State.krnHaltSignal]
@[simp] theorem State.kept_krnResult (s : State) (g code : Nat) : (s.krnResult g code).kept = s.kept := by
  simp [State.krnResult]
@[simp] theorem State.kept_emptyStreams (s : State) (g : Nat) : (s.emptyStreams g).kept = s.kept := by
  simp [State.emptyStreams]
@[simp] theorem State.kept_keepPend (s : State) (g : Nat) (p : KrnWindow → Bool) : (s.keepPend g p).kept = s.kept := by
  simp [State.keepPend]
@[simp] theorem kept_krnStartOp (g : Nat) (s : State) : (krnStartOp g s).kept = s.kept := by
  simp [krnStartOp]
@[simp] theorem kept_krnStopOp (g : Nat) (s : State) : (krnStopOp g s).kept = s.kept := by
  simp [krnStopOp]
@[simp] theorem kept_krnCtrlOp (g : Nat) (v : Word) (s : State) : (krnCtrlOp g v s).kept = s.kept := by
  simp [krnCtrlOp]
@[simp] theorem State.kept_resetKernel (s : State) (g : Nat) : (s.resetKernel g).kept = s.kept := by
  simp [State.resetKernel]
@[simp] theorem State.kept_cutKernel (s : State) (g : Nat) : (s.cutKernel g).kept = s.kept := by
  simp [State.cutKernel]
@[simp] theorem State.kept_krnOutt (s : State) (g : Nat) (v : Word) : (s.krnOutt g v).kept = s.kept := by
  simp [State.krnOutt]
@[simp] theorem State.kept_loopRule (s : State) (g pc : Nat) : (s.loopRule g pc).2.kept = s.kept := by
  simp only [State.loopRule, State.kept_ite, ite_self, State.kept_setReg, apply_ite Prod.snd]

/-! ### Machine/KernelRows.lean -/

@[simp] theorem kept_krnAttnSetOp (g : Nat) (s : State) : (krnAttnSetOp g s).kept = s.kept := by
  simp [krnAttnSetOp]
@[simp] theorem kept_divertOp (g : Nat) (s : State) : (divertOp g s).kept = s.kept := by
  simp [divertOp]
@[simp] theorem kept_krnInCfgOp (g i : Nat) (v : Word) (s : State) : (krnInCfgOp g i v s).kept = s.kept := by
  simp [krnInCfgOp]

/-! ### Machine/Time.lean -/

@[simp] theorem State.kept_wtResult (s : State) (code : Nat) : (s.wtResult code).kept = s.kept := by
  simp [State.wtResult]
@[simp] theorem State.kept_newSegment (s : State) (w inc : Nat) : (s.newSegment w inc).kept = s.kept := by rfl
@[simp] theorem State.kept_setInc (s : State) (inc : Nat) : (s.setInc inc).kept = s.kept := by
  simp [State.setInc]
@[simp] theorem kept_wtIncOp (who : Requester) (v : BitVec 64) (s : State) : (wtIncOp who v s).kept = s.kept := by
  simp [wtIncOp]
@[simp] theorem State.kept_setTriple (s : State) (r : Reg) (v : Nat) : (s.setTriple r v).kept = s.kept := by
  simp [State.setTriple]
@[simp] theorem State.kept_stepWall (s : State) (d : Int) : (s.stepWall d).kept = s.kept := by
  simp [State.stepWall]
@[simp] theorem kept_wtStepOp (s : State) : (wtStepOp s).kept = s.kept := by
  simp [wtStepOp]
@[simp] theorem kept_wtNewEpochOp (s : State) : (wtNewEpochOp s).kept = s.kept := by
  simp [wtNewEpochOp]
@[simp] theorem kept_wtCmdOp (v : Word) (s : State) : (wtCmdOp v s).kept = s.kept := by
  unfold wtCmdOp
  split <;> simp
@[simp] theorem kept_wtNowOp (who : Requester) (s : State) : (wtNowOp who s).2.kept = s.kept := by
  simp [wtNowOp]
@[simp] theorem State.kept_setPtp (s : State) (d : Nat) (x : PtpDomain) : (s.setPtp d x).kept = s.kept := by rfl
@[simp] theorem State.kept_ptpMove (s : State) (d st : Nat) : (s.ptpMove d st).kept = s.kept := by
  simp [State.ptpMove]
@[simp] theorem State.kept_setMaster (s : State) (d : Nat) (m : Option ForeignClock) : (s.setMaster d m).kept = s.kept := by
  unfold State.setMaster
  split <;> simp
@[simp] theorem State.kept_selectMaster (s : State) (d : Nat) : (s.selectMaster d).kept = s.kept := by
  simp [State.selectMaster]

@[simp] theorem State.kept_ptpUse (s : State) (d : Nat) (m : PtpMessage) (q : Nat) : (s.ptpUse d m q).kept = s.kept := by
  simp only [State.ptpUse]
  repeat' split
  all_goals simp only [State.kept_setPtp, State.kept_selectMaster]

@[simp] theorem kept_ptpReceiveOp (m : PtpMessage) (q : Nat) (s : State) : (ptpReceiveOp m q s).kept = s.kept := by
  simp [ptpReceiveOp]
@[simp] theorem kept_delayReqOp (d q : Nat) (s : State) : (delayReqOp d q s).kept = s.kept := by
  simp only [delayReqOp]
  split <;> simp

@[simp] theorem kept_announceTimeoutOp (d : Nat) (s : State) : (announceTimeoutOp d s).kept = s.kept := by
  simp only [announceTimeoutOp]
  repeat' split
  all_goals simp only [State.kept_setPtp, State.kept_selectMaster]

@[simp] theorem State.kept_switchDomain (s : State) (d : Nat) : (s.switchDomain d).kept = s.kept := by
  simp [State.switchDomain]
@[simp] theorem State.kept_servoRegs (s : State) (d : Nat) (e : Exchange) (mpd ofs : Int) (rate : Nat) :
    (s.servoRegs d e mpd ofs rate).kept = s.kept := by
  simp [State.servoRegs]
@[simp] theorem State.kept_servoState (s : State) (d : Nat) : (s.servoState d).kept = s.kept := by
  simp [State.servoState]
@[simp] theorem State.kept_servoSwitch (s : State) (d : Nat) (ofs : Int) : (s.servoSwitch d ofs).kept = s.kept := by
  simp [State.servoSwitch]
@[simp] theorem State.kept_servoSteer (s : State) (d : Nat) (ofs : Int) : (s.servoSteer d ofs).kept = s.kept := by
  simp [State.servoSteer]
@[simp] theorem kept_servoOp (d : Nat) (s : State) : (servoOp d s).kept = s.kept := by
  unfold servoOp
  split <;> simp
@[simp] theorem kept_wtCtrlOp (v : Word) (s : State) : (wtCtrlOp v s).kept = s.kept := by
  simp [wtCtrlOp]
@[simp] theorem kept_ptpCfgOp (d : Nat) (v : Word) (s : State) : (ptpCfgOp d v s).kept = s.kept := by
  simp [ptpCfgOp]
@[simp] theorem kept_ppsRiseOp (s : State) : (ppsRiseOp s).kept = s.kept := by
  simp [ppsRiseOp]
@[simp] theorem kept_ppsFallOp (s : State) : (ppsFallOp s).kept = s.kept := by
  unfold ppsFallOp
  split <;> simp
@[simp] theorem kept_ppsCaptureOp (q : Nat) (s : State) : (ppsCaptureOp q s).kept = s.kept := by
  simp [ppsCaptureOp]
@[simp] theorem kept_ppsClaimOp (who : Requester) (s : State) : (ppsClaimOp who s).2.kept = s.kept := by
  simp [ppsClaimOp]
@[simp] theorem kept_ppsCtrlOp (v : Word) (s : State) : (ppsCtrlOp v s).kept = s.kept := by
  simp [ppsCtrlOp]

/-! ### Machine/Takes.lean -/

@[simp] theorem State.kept_addInterval (s : State) (n : Nat) (x : TermInterval) : (s.addInterval n x).kept = s.kept := by
  simp [State.addInterval]
@[simp] theorem State.kept_endInterval (s : State) (n k c : Nat) : (s.endInterval n k c).kept = s.kept := by
  simp [State.endInterval]
@[simp] theorem State.kept_setLink (s : State) (l : Nat) (x : LinkState) : (s.setLink l x).kept = s.kept := by rfl
@[simp] theorem State.kept_linkStamp (s : State) (kind index ts at_ : Nat) :
    (s.linkStamp kind index ts at_).kept = s.kept := by
  simp [State.linkStamp]
@[simp] theorem State.kept_sysStamp (s : State) (kind index ts at_ : Nat) (link : Bool) :
    (s.sysStamp kind index ts at_ link).kept = s.kept := by
  simp [State.sysStamp]
@[simp] theorem State.kept_setTkState (s : State) (n st : Nat) : (s.setTkState n st).kept = s.kept := by
  simp [State.setTkState]
@[simp] theorem State.kept_tkResult (s : State) (n code : Nat) : (s.tkResult n code).kept = s.kept := by
  simp [State.tkResult]
@[simp] theorem State.kept_settleRing (s : State) (n at_ : Nat) : (s.settleRing n at_).kept = s.kept := by
  simp only [State.settleRing]
  split <;> simp
@[simp] theorem State.kept_settleReds (s : State) (n : Nat) : (s.settleReds n).kept = s.kept := by
  simp [State.settleReds]
@[simp] theorem State.kept_tkRest (s : State) (n st : Nat) : (s.tkRest n st).kept = s.kept := by
  simp only [State.tkRest, State.kept_forEach, implies_true, State.kept_update, State.kept_setTake, State.kept_setTkState,
    State.kept_settleReds]

@[simp] theorem kept_tkArmOp (n : Nat) (s : State) : (tkArmOp n s).kept = s.kept := by
  unfold tkArmOp
  split
  · exact s.kept_tkResult n _
  · extract_lets -underBinder lag
    split
    · exact s.kept_tkResult n _
    · simp only [State.kept_tkResult, State.kept_settleRing, State.kept_setTkState, State.kept_forEach, State.kept_update,
        State.kept_setReg, State.kept_setPair, State.kept_setTake, implies_true]

@[simp] theorem kept_tkDisarmOp (n : Nat) (s : State) : (tkDisarmOp n s).kept = s.kept := by
  unfold tkDisarmOp
  split <;> simp
@[simp] theorem kept_tkForceOp (n : Nat) (s : State) : (tkForceOp n s).kept = s.kept := by
  simp [tkForceOp]
@[simp] theorem kept_tkCmdOp (n : Nat) (v : Word) (s : State) : (tkCmdOp n v s).kept = s.kept := by
  unfold tkCmdOp
  split <;> simp

@[simp] theorem State.kept_takeTrigger (s : State) (n p : Nat) (forced : Bool) :
    (s.takeTrigger n p forced).kept = s.kept := by
  simp only [State.takeTrigger]
  split <;> simp

@[simp] theorem kept_regionTriggerOp (n r : Nat) (s : State) : (regionTriggerOp n r s).kept = s.kept := by
  simp [regionTriggerOp]
@[simp] theorem State.kept_closeTakes (s : State) (n : Nat) : (s.closeTakes n).kept = s.kept := by
  simp [State.closeTakes]
@[simp] theorem kept_captureEndOp (n : Nat) (s : State) : (captureEndOp n s).kept = s.kept := by
  simp [captureEndOp]

@[simp] theorem State.kept_stopTake (s : State) (n q fstop code flag : Nat) :
    (s.stopTake n q fstop code flag).kept = s.kept := by
  simp only [State.stopTake]
  repeat' split
  all_goals simp

@[simp] theorem kept_takeOverflowOp (n fl : Nat) (s : State) : (takeOverflowOp n fl s).kept = s.kept := by
  unfold takeOverflowOp
  split <;> simp

@[simp] theorem kept_maskViolationOp (n i pos : Nat) (v : OutputSample) (s : State) :
    (maskViolationOp n i pos v s).kept = s.kept := by
  simp only [maskViolationOp]
  repeat' split
  all_goals simp only [State.kept_setBit, State.kept_count, State.kept_raise, State.kept_setTake, State.kept_stopTake]

@[simp] theorem State.kept_cutTake (s : State) (n : Nat) : (s.cutTake n).kept = s.kept := by
  simp [State.cutTake]
@[simp] theorem State.kept_resetTake (s : State) (n : Nat) : (s.resetTake n).kept = s.kept := by
  simp [State.resetTake]
@[simp] theorem State.kept_takeMarks (s : State) (e : Nat) : (s.takeMarks e).2.kept = s.kept := by rfl
@[simp] theorem kept_tkRdOp (n : Nat) (v : Word) (s : State) : (tkRdOp n v s).kept = s.kept := by
  simp [tkRdOp]
@[simp] theorem State.kept_setSys (s : State) (x : SysEngine) : (s.setSys x).kept = s.kept := by rfl
@[simp] theorem State.kept_stkResult (s : State) (code : Nat) : (s.stkResult code).kept = s.kept := by
  simp [State.stkResult]
@[simp] theorem State.kept_settleSysRing (s : State) (at_ : Nat) : (s.settleSysRing at_).kept = s.kept := by
  simp only [State.settleSysRing]
  split <;> simp
@[simp] theorem kept_sysArrivalOp (t : Nat) (s : State) : (sysArrivalOp t s).kept = s.kept := by
  simp only [sysArrivalOp]
  split <;> simp
@[simp] theorem State.kept_stkEvent (s : State) (lo : Nat) : (s.stkEvent lo).kept = s.kept := by
  simp [State.stkEvent]
@[simp] theorem kept_systemTriggerOp (u : Nat) (s : State) : (systemTriggerOp u s).kept = s.kept := by
  simp [systemTriggerOp]
@[simp] theorem kept_systemAssertOp (s : State) : (systemAssertOp s).kept = s.kept := by
  simp [systemAssertOp]

@[simp] theorem kept_stkArmOp (s : State) : (stkArmOp s).kept = s.kept := by
  unfold stkArmOp
  split
  · exact s.kept_stkResult _
  · extract_lets -underBinder base
    split
    · exact s.kept_stkResult _
    · simp only [State.kept_stkResult, State.kept_settleSysRing, State.kept_setFld, State.kept_forEach, State.kept_setReg,
        State.kept_setSys, implies_true]

@[simp] theorem kept_stkDisarmOp (s : State) : (stkDisarmOp s).kept = s.kept := by
  simp [stkDisarmOp]
@[simp] theorem kept_stkCmdOp (v : Word) (s : State) : (stkCmdOp v s).kept = s.kept := by
  unfold stkCmdOp
  split <;> simp
@[simp] theorem kept_stkRdOp (v : Word) (s : State) : (stkRdOp v s).kept = s.kept := by
  simp [stkRdOp]

/-! ### Machine/Readout.lean -/

@[simp] theorem State.kept_rfiResult (s : State) (g code : Nat) : (s.rfiResult g code).kept = s.kept := by
  simp [State.rfiResult]
@[simp] theorem kept_toneCommitOp (g mask : Nat) (s : State) : (toneCommitOp g mask s).kept = s.kept := by
  simp [toneCommitOp]
@[simp] theorem State.kept_offerAcq (s : State) (g t a : Nat) : (s.offerAcq g t a).kept = s.kept := by
  simp only [State.offerAcq, State.kept_ite, ite_self, State.kept_update, State.kept_setBit, State.kept_handOver,
    State.kept_setWindows]
@[simp] theorem kept_acqMatureOp (g e : Nat) (s : State) : (acqMatureOp g e s).kept = s.kept := by
  simp only [acqMatureOp]
  split <;> simp only [State.kept_ite, ite_self, State.kept_forEach, implies_true, State.kept_setEng, State.kept_offerAcq]
@[simp] theorem State.kept_endWindows (s : State) (g : Nat) : (s.endWindows g).kept = s.kept := by
  simp [State.endWindows]
@[simp] theorem State.kept_setDailies (s : State) (n : Nat) (d : DailiesState) : (s.setDailies n d).kept = s.kept := by rfl

@[simp] theorem State.kept_addRecord (s : State) (n : Nat) (head : List Byte) (kind : Nat) :
    (s.addRecord n head kind).kept = s.kept := by
  unfold State.addRecord
  split
  · rfl
  · extract_lets rs t d r
    have ht : t.kept = s.kept := s.kept_setReg _ _ _
    split
    · rw [State.kept_setDailies, ht]
    · split <;> simp only [State.kept_count, State.kept_setBit, State.kept_setDailies, ht]

@[simp] theorem State.kept_padBlock (s : State) (n : Nat) : (s.padBlock n).kept = s.kept := by
  simp only [State.padBlock]
  split <;> simp only [State.kept_setDailies]
@[simp] theorem kept_dailiesPadOp (n : Nat) (s : State) : (dailiesPadOp n s).kept = s.kept := by
  unfold dailiesPadOp
  split <;> simp
@[simp] theorem State.kept_countOverrange (s : State) (g : Nat) (o : Overrange) : (s.countOverrange g o).kept = s.kept := by
  simp [State.countOverrange]
@[simp] theorem State.kept_histCopy (s : State) (g t : Nat) (yi yq : Word) : (s.histCopy g t yi yq).kept = s.kept := by
  simp [State.histCopy]

@[simp] theorem kept_toneResultOp (g t : Nat) (zs : List (Int × Int)) (ovr : Overrange) (s : State) :
    (toneResultOp g t zs ovr s).kept = s.kept := by
  simp only [toneResultOp]
  split <;> simp only [State.kept_ite, ite_self, State.kept_setReg, State.kept_setFld, State.kept_setBit, State.kept_setPair,
    State.kept_enterFabric, State.kept_nextSeq, State.kept_setWindows, State.kept_addRecord, State.kept_countOverrange,
    State.kept_histCopy]

@[simp] theorem State.kept_countEntry (s : State) (c : Comparator) : (s.countEntry c).kept = s.kept := by
  cases c <;> simp [State.countEntry]
@[simp] theorem State.kept_setCmp (s : State) (c : Comparator) (x : CmpState) : (s.setCmp c x).kept = s.kept := by rfl

@[simp] theorem State.kept_cmpSample (s : State) (c : Comparator) (pos : Nat) (z : Int × Int) :
    (s.cmpSample c pos z).kept = s.kept := by
  simp only [State.cmpSample, State.kept_ite, ite_self, State.kept_forEach, implies_true, State.kept_addInterval,
    State.kept_endInterval, State.kept_sysStamp, State.kept_countEntry, State.kept_setCmp]

@[simp] theorem State.kept_cmpSamples (s : State) (c : Comparator) (last : Nat) (zs : List (Int × Int)) :
    (s.cmpSamples c last zs).kept = s.kept :=
  kept_foldl_snd _ _ _ fun _ _ => by simp
@[simp] theorem State.kept_flagZone (s : State) (c : Comparator) : (s.flagZone c).kept = s.kept := by
  unfold State.flagZone
  split <;> simp
@[simp] theorem kept_comparatorEntryOp (c : Comparator) (last : Nat) (zs : List (Int × Int)) (s : State) :
    (comparatorEntryOp c last zs s).kept = s.kept := by
  simp [comparatorEntryOp]
@[simp] theorem kept_comparatorClearOp (c : Comparator) (last : Nat) (zs : List (Int × Int)) (s : State) :
    (comparatorClearOp c last zs s).kept = s.kept := by
  simp [comparatorClearOp]

@[simp] theorem kept_trackerRecordOp (g k : Nat) (c : Comparator) (last : Nat) (zs : List (Int × Int)) (ovr : Overrange)
    (s : State) : (trackerRecordOp g k c last zs ovr s).kept = s.kept := by
  simp only [trackerRecordOp, State.kept_ite, ite_self, State.kept_setReg, State.kept_addRecord, State.kept_countOverrange,
    State.kept_setCmp, State.kept_cmpSamples, State.kept_flagZone]

@[simp] theorem State.kept_restartCmp (s : State) (c : Comparator) (enabled : Bool) :
    (s.restartCmp c enabled).kept = s.kept := by
  cases c <;> simp only [State.restartCmp, State.kept_ite, State.kept_setReg, State.kept_setCmp, State.kept_endInterval,
    ite_self]

@[simp] theorem kept_rfiCtrlOp (g : Cluster) (v : Word) (s : State) : (rfiCtrlOp g v s).kept = s.kept := by
  simp only [rfiCtrlOp, State.kept_ite, ite_self, State.kept_forEach, implies_true, State.kept_setReg, State.kept_rfiResult,
    State.kept_endWindows, State.kept_restartCmp]

/-! ### Machine/Calibration.lean -/

@[simp] theorem State.kept_raiseCal (s : State) (u : Nat) : (s.raiseCal u).kept = s.kept := by
  unfold State.raiseCal
  split <;> simp
@[simp] theorem State.kept_calPublish (s : State) (u status a b c : Nat) : (s.calPublish u status a b c).kept = s.kept := by
  simp only [State.calPublish, State.kept_ite, ite_self, State.kept_setCalUnit, State.kept_raiseCal]
@[simp] theorem State.kept_calNoSignal (s : State) (u : Nat) : (s.calNoSignal u).kept = s.kept := by
  simp [State.calNoSignal]
@[simp] theorem State.kept_moveTrim (s : State) (u : Nat) (t : Reg × Nat × Nat × Nat) (isSigned : Bool) (d : Int) :
    (s.moveTrim u t isSigned d).2.kept = s.kept := by
  simp only [State.moveTrim, State.kept_setFld, State.kept_trimWritten]

@[simp] theorem State.kept_moveTrims (s : State) (u : Nat) (ms : List ((Reg × Nat × Nat × Nat) × Bool × Int)) :
    (s.moveTrims u ms).2.kept = s.kept := by
  unfold State.moveTrims
  split
  · rfl
  · exact kept_foldl_snd _ _ _ fun _ _ => by simp

@[simp] theorem State.kept_applyFit (s : State) (t rot : Nat) (th : List Int) : (s.applyFit t rot th).kept = s.kept := by
  simp only [State.applyFit, State.kept_ite, ite_self, State.kept_update, State.kept_setReg, State.kept_setBit,
    State.kept_trimWritten, State.kept_commitSet]

@[simp] theorem State.kept_calRun (s : State) (v : Word) : (s.calRun v).2.kept = s.kept := by
  simp only [State.calRun]
  repeat' split
  all_goals simp only [State.kept_update, State.kept_setBit, State.kept_wakeShallow]

@[simp] theorem State.kept_setServed (s : State) (index sub v : Nat) : (s.setServed index sub v).kept = s.kept := by rfl
@[simp] theorem State.kept_countServed (s : State) (index sub : Nat) (saturates : Bool) :
    (s.countServed index sub saturates).kept = s.kept := by
  simp [State.countServed]
@[simp] theorem State.kept_servedWrite (s : State) : (s.servedWrite).kept = s.kept := by
  simp [State.servedWrite]
@[simp] theorem State.kept_calRunServed (s : State) (v : Word) : (s.calRunServed v).2.kept = s.kept := by
  simp [State.calRunServed]
@[simp] theorem kept_calRunOp (v : Word) (s : State) : (calRunOp v s).kept = s.kept := by
  simp [calRunOp]
@[simp] theorem State.kept_endRun (s : State) (r : CalRun) (status : Nat) : (s.endRun r status).kept = s.kept := by
  unfold State.endRun
  split <;> simp
@[simp] theorem State.kept_putTrim (s : State) (u : Nat) (p : Nat × Nat) : (s.putTrim u p).kept = s.kept := by
  unfold State.putTrim
  split <;> simp

@[simp] theorem kept_calRunEndOp (status : Nat) (writes : List (Nat × Nat)) (a b c : Nat) (s : State) :
    (calRunEndOp status writes a b c s).kept = s.kept := by
  simp only [calRunEndOp]
  repeat' split
  all_goals simp only [State.kept_forEach, implies_true, State.kept_calPublish, State.kept_applyFit, State.kept_endRun,
    State.kept_putTrim]

@[simp] theorem State.kept_stepRun (s : State) : (s.stepRun).kept = s.kept := by
  unfold State.stepRun
  split <;> simp
@[simp] theorem State.kept_setQuad (s : State) (lo hi : Reg) (g : Nat) (q : Int × Int × Int × Int) :
    (s.setQuad lo hi g q).kept = s.kept := by
  simp [State.setQuad]
@[simp] theorem kept_statBlockEndOp (g : Nat) (xs : List Int) (s : State) : (statBlockEndOp g xs s).kept = s.kept := by
  simp only [statBlockEndOp, State.kept_ite, ite_self, State.kept_setFld, State.kept_setBit, State.kept_setPair,
    State.kept_setQuad]

@[simp] theorem State.kept_freeList (s : State) (n w : Nat) : (s.freeList n w).2.kept = s.kept := by
  induction n generalizing s with
  | zero => rfl
  | succ n ih => simp [State.freeList, ih]

@[simp] theorem State.kept_interleaveResiduals (s : State) (x : InterleaveEstimate) :
    (s.interleaveResiduals x).2.kept = s.kept := by
  simp only [State.interleaveResiduals]
  repeat' split
  all_goals simp only [State.kept_free]

@[simp] theorem kept_interleaveUpdateOp (g : Nat) (s : State) : (interleaveUpdateOp g s).kept = s.kept := by
  simp only [interleaveUpdateOp, State.kept_ite, ite_self, State.kept_setBit, State.kept_calPublish, State.kept_calNoSignal,
    State.kept_moveTrims, State.kept_stepRun, State.kept_freeList, State.kept_interleaveResiduals, apply_ite Prod.snd]
@[simp] theorem State.kept_monVisit (s : State) (g sel : Nat) : (s.monVisit g sel).kept = s.kept := by
  unfold State.monVisit
  split <;> simp

@[simp] theorem kept_monitorBlockEndOp (g : Nat) (m : MonitorBlock) (s : State) :
    (monitorBlockEndOp g m s).kept = s.kept := by
  simp only [monitorBlockEndOp, State.kept_ite, ite_self, State.kept_update, State.kept_setBit, State.kept_setPair,
    State.kept_calPublish, State.kept_moveTrims, State.kept_monVisit]

@[simp] theorem State.kept_setDisc (s : State) (t : Nat) (d : DiscUnit) : (s.setDisc t d).kept = s.kept := by rfl
@[simp] theorem kept_histPopOp (who : Requester) (g : Nat) (s : State) : (histPopOp who g s).2.kept = s.kept := by
  simp only [histPopOp]
  split <;> simp only [State.kept_ite, ite_self, State.kept_update, State.kept_setReg, State.kept_setDisc]

@[simp] theorem kept_discriminatorFitOp (t : Nat) (f : MixtureFit) (s : State) :
    (discriminatorFitOp t f s).kept = s.kept := by
  simp only [discriminatorFitOp, State.kept_ite, ite_self, State.kept_free, State.kept_calPublish, State.kept_calNoSignal,
    State.kept_applyFit, State.kept_stepRun, State.kept_setDisc, apply_ite Prod.snd]

@[simp] theorem kept_freezeWriteOp (r : FreezeReg) (v : Word) (s : State) : (freezeWriteOp r v s).kept = s.kept := by
  simp only [freezeWriteOp, State.kept_ite]
  repeat' split
  all_goals simp only [State.kept_forEach, implies_true, State.kept_update, State.kept_setReg, State.kept_raise,
    State.kept_takeMark]

@[simp] theorem State.kept_resetCal (s : State) (g : Nat) : (s.resetCal g).kept = s.kept := by
  simp only [State.resetCal, State.kept_update, State.kept_resetRegs]
  split <;> simp only [State.kept_ite, ite_self, State.kept_endRun]
@[simp] theorem State.kept_cutCal (s : State) (g : Nat) : (s.cutCal g).kept = s.kept := by
  unfold State.cutCal
  split <;> simp
@[simp] theorem State.kept_cutHubCal (s : State) : (s.cutHubCal).kept = s.kept := by
  unfold State.cutHubCal
  split <;> simp
@[simp] theorem kept_adcStatCtrlOp (g : Nat) (v : Word) (s : State) : (adcStatCtrlOp g v s).kept = s.kept := by
  simp [adcStatCtrlOp]
@[simp] theorem kept_monCtrlOp (g : Nat) (v : Word) (s : State) : (monCtrlOp g v s).kept = s.kept := by
  simp [monCtrlOp]

/-! ### Machine/Bias.lean -/

@[simp] theorem State.kept_biasLines (s : State) : (s.biasLines).kept = s.kept := by
  simp [State.biasLines]
@[simp] theorem State.kept_resetDie (s : State) (die : Nat) : (s.resetDie die).kept = s.kept := by
  simp [State.resetDie]
@[simp] theorem kept_biasRiseOp (die : Nat) (extrefOk : Bool) (s : State) : (biasRiseOp die extrefOk s).kept = s.kept := by
  simp [biasRiseOp]
@[simp] theorem kept_biasFaultOp (die : Nat) (s : State) : (biasFaultOp die s).kept = s.kept := by
  simp [biasFaultOp]
@[simp] theorem State.kept_stopRamp (s : State) (code k : Nat) : (s.stopRamp code k).kept = s.kept := by
  unfold State.stopRamp
  split <;> simp
@[simp] theorem State.kept_cutRamps (s : State) (die : Nat) : (s.cutRamps die).kept = s.kept := by
  simp [State.cutRamps]
@[simp] theorem kept_linkDownOp (die : Nat) (s : State) : (linkDownOp die s).kept = s.kept := by
  simp [linkDownOp]
@[simp] theorem kept_linkUpOp (die : Nat) (s : State) : (linkUpOp die s).kept = s.kept := by
  simp [linkUpOp]
@[simp] theorem State.kept_dieAccess (s : State) (who : Requester) (r : Reg) (i die : Nat) (op : State → State)
    (h : ∀ t, (op t).kept = t.kept) : (s.dieAccess who r i die op).kept = s.kept := by
  simp [State.dieAccess, h]
@[simp] theorem State.kept_biasResult (s : State) (k code : Nat) : (s.biasResult k code).kept = s.kept := by
  simp [State.biasResult]
@[simp] theorem kept_biasConnOp (k : Nat) (v : Word) (s : State) : (biasConnOp k v s).kept = s.kept := by
  simp [biasConnOp]
@[simp] theorem kept_biasConnDoneOp (k : Nat) (s : State) : (biasConnDoneOp k s).kept = s.kept := by
  unfold biasConnDoneOp
  split <;> simp
@[simp] theorem kept_biasStageOp (die i : Nat) (mask : Word) (s : State) : (biasStageOp die i mask s).kept = s.kept := by rfl
@[simp] theorem State.kept_startRamp (s : State) (k : Nat) : (s.startRamp k).kept = s.kept := by
  simp only [State.startRamp, State.kept_ite, ite_self, State.kept_update, State.kept_setBit, State.kept_biasResult]
@[simp] theorem kept_biasGoOp (die : Nat) (s : State) : (biasGoOp die s).kept = s.kept := by
  simp [biasGoOp]
@[simp] theorem kept_biasStopAllOp (die : Nat) (s : State) : (biasStopAllOp die s).kept = s.kept := by
  simp [biasStopAllOp]
@[simp] theorem kept_biasCmdOp (die : Nat) (v : Word) (s : State) : (biasCmdOp die v s).kept = s.kept := by
  simp [biasCmdOp]
@[simp] theorem kept_biasStopOp (die i : Nat) (mask : Word) (s : State) : (biasStopOp die i mask s).kept = s.kept := by
  simp [biasStopOp]
@[simp] theorem kept_rampStepOp (k : Nat) (s : State) : (rampStepOp k s).kept = s.kept := by
  simp only [rampStepOp]
  split <;> simp only [State.kept_ite, ite_self, State.kept_update, State.kept_setFld, State.kept_setBit]
@[simp] theorem kept_biasStepOp (k : Nat) (v : Word) (s : State) : (biasStepOp k v s).kept = s.kept := by
  simp [biasStepOp]
@[simp] theorem kept_biasLimOp (hi : Bool) (k : Nat) (v : Word) (s : State) : (biasLimOp hi k v s).kept = s.kept := by
  simp [biasLimOp]
@[simp] theorem State.kept_cutBias (s : State) : (s.cutBias).kept = s.kept := by
  simp [State.cutBias]
@[simp] theorem State.kept_icRestart (s : State) (c : Nat) : (s.icRestart c).kept = s.kept := by
  simp [State.icRestart]
@[simp] theorem State.kept_publishExtref (s : State) (die : Nat) : (s.publishExtref die).kept = s.kept := by
  unfold State.publishExtref
  split <;> simp

@[simp] theorem kept_icResultOp (c : Nat) (raw : Int) (extrefOk : Bool) (s : State) :
    (icResultOp c raw extrefOk s).kept = s.kept := by
  simp only [icResultOp, State.kept_ite, ite_self, State.kept_update, State.kept_setReg, State.kept_setFld, State.kept_setBit,
    State.kept_raise, State.kept_setLine, State.kept_publishExtref]

@[simp] theorem kept_icClaimOp (who : Requester) (c : Nat) (s : State) : (icClaimOp who c s).2.kept = s.kept := by
  unfold icClaimOp
  split <;> simp
@[simp] theorem kept_icConfigOp (c : Nat) (r : IcReg) (v : Word) (s : State) : (icConfigOp c r v s).kept = s.kept := by
  simp only [icConfigOp, State.kept_ite, ite_self, State.kept_setReg, State.kept_setFld, State.kept_icRestart]

/-! ### Machine/Grip.lean -/

@[simp] theorem State.kept_setGrp (s : State) (c : Nat) (x : GripChannel) : (s.setGrp c x).kept = s.kept := by rfl
@[simp] theorem State.kept_setGripState (s : State) (c st : Nat) : (s.setGripState c st).kept = s.kept := by
  simp [State.setGripState]
@[simp] theorem State.kept_gripResult (s : State) (c code : Nat) : (s.gripResult c code).kept = s.kept := by
  simp [State.gripResult]
@[simp] theorem State.kept_issueOp (s : State) (c : Nat) : (s.issueOp c).kept = s.kept := by
  simp only [State.issueOp]
  split <;> simp only [State.kept_ite, ite_self, State.kept_update, State.kept_leaveL1, State.kept_setGrp]

@[simp] theorem kept_issueAll (n : Nat) (s : State) : (issueAll n s).kept = s.kept := by
  induction n generalizing s with
  | zero => rfl
  | succ n ih =>
    unfold issueAll
    split <;> simp [ih]

@[simp] theorem State.kept_gripIssue (s : State) : (s.gripIssue).kept = s.kept := by
  simp [State.gripIssue]
@[simp] theorem State.kept_gripReport (s : State) (c : Nat) : (s.gripReport c).kept = s.kept := by
  unfold State.gripReport
  split <;> simp

@[simp] theorem State.kept_gripHalt (s : State) (c code : Nat) (err : Bool) (d : Option GripDesc) :
    (s.gripHalt c code err d).kept = s.kept := by
  simp only [State.gripHalt, State.kept_ite, ite_self, State.kept_setFld, State.kept_setBit, State.kept_raise,
    State.kept_setGrp, State.kept_setGripState, State.kept_gripReport]

@[simp] theorem State.kept_gripStart (s : State) (c : Nat) (lineage : Option Nat) :
    (s.gripStart c lineage).kept = s.kept := by
  simp only [State.gripStart, State.kept_ite, ite_self, State.kept_setReg, State.kept_setPair, State.kept_setGrp,
    State.kept_setGripState, State.kept_gripHalt]

@[simp] theorem State.kept_gripIdleNow (s : State) (c : Nat) : (s.gripIdleNow c).kept = s.kept := by
  simp only [State.gripIdleNow]
  split <;> simp only [State.kept_ite, ite_self, State.kept_setTask, State.kept_gripStart]
@[simp] theorem State.kept_descDone (s : State) (c : Nat) (d : GripDesc) : (s.descDone c d).kept = s.kept := by
  simp only [State.descDone, State.kept_ite, ite_self, State.kept_countWrap, State.kept_raise, State.kept_emitEvent,
    State.kept_setGrp, State.kept_setGripState, State.kept_gripIdleNow]

theorem State.kept_beginNext {s t : State} {c : Nat} (h : s.beginNext c = some t) : t.kept = s.kept := by
  unfold State.beginNext at h
  extract_lets -underBinder x at h
  split at h
  · cases h
  · extract_lets k oldest paced u at h
    split at h
    · cases h
    · obtain rfl := Option.some.inj h
      have hu : u.kept = s.kept := s.kept_setGrp _ _
      split
      · split
        · rw [State.kept_setTask, hu]
        · exact hu
      · exact hu

@[simp] theorem kept_gripSettle (n c : Nat) (s : State) : (gripSettle n c s).kept = s.kept := by
  induction n generalizing s with
  | zero => rfl
  | succ n ih =>
    simp only [gripSettle]
    split
    · split <;> simp [ih]
    · split
      next h => rw [ih, State.kept_beginNext h]
      · split <;> simp

@[simp] theorem State.kept_gripGoOn (s : State) (c : Nat) : (s.gripGoOn c).kept = s.kept := by
  simp [State.gripGoOn]
@[simp] theorem kept_gripGoOp (c : Nat) (s : State) : (gripGoOp c s).kept = s.kept := by
  simp [gripGoOp]
@[simp] theorem kept_gripStopOp (c : Nat) (s : State) : (gripStopOp c s).kept = s.kept := by
  simp [gripStopOp]
@[simp] theorem kept_gripClrOp (c : Nat) (s : State) : (gripClrOp c s).kept = s.kept := by
  simp [gripClrOp]
@[simp] theorem kept_gripCtrlOp (c : Nat) (v : Word) (s : State) : (gripCtrlOp c v s).kept = s.kept := by
  unfold gripCtrlOp
  split <;> simp
@[simp] theorem State.kept_eccError (s : State) (a : Nat) (ue : Bool) (device : Nat) :
    (s.eccError a ue device).kept = s.kept := by
  simp [State.eccError]
@[simp] theorem State.kept_noteEcc (s : State) (sp a : Nat) (ans : GripAnswer) : (s.noteEcc sp a ans).kept = s.kept := by
  cases ans <;> simp [State.noteEcc]

@[simp] theorem kept_descriptorFetchOp (c : Nat) (ans : GripAnswer) (s : State) :
    (descriptorFetchOp c ans s).kept = s.kept := by
  simp only [descriptorFetchOp]
  repeat' split
  all_goals simp only [State.kept_forEach, implies_true, State.kept_wakeShallow, State.kept_setGrp, State.kept_gripHalt,
    State.kept_gripGoOn, State.kept_noteEcc]

@[simp] theorem State.kept_dropOp (s : State) (c i : Nat) : (s.dropOp c i).kept = s.kept := by
  simp [State.dropOp]
@[simp] theorem State.kept_noteDone (s : State) (c : Nat) (o : GripOp) : (s.noteDone c o).kept = s.kept := by
  simp [State.noteDone]
@[simp] theorem State.kept_dailiesError (s : State) (n code : Nat) : (s.dailiesError n code).kept = s.kept := by
  simp [State.dailiesError]

@[simp] theorem kept_gripTimeoutOp (c : Nat) (p : GripPort) (s : State) : (gripTimeoutOp c p s).kept = s.kept := by
  simp only [gripTimeoutOp]
  repeat' split
  all_goals simp only [State.kept_raise, State.kept_setGrp, State.kept_gripIssue, State.kept_gripHalt, State.kept_gripGoOn,
    State.kept_dropOp, State.kept_dailiesError]

@[simp] theorem kept_dlyRdOp (n : Nat) (v : Word) (s : State) : (dlyRdOp n v s).kept = s.kept := by
  simp [dlyRdOp]
@[simp] theorem State.kept_cutGrip (s : State) (c : Nat) : (s.cutGrip c).kept = s.kept := by
  simp [State.cutGrip]

@[simp] theorem kept_gripRwlOp (c : Nat) (r : Reg) (mask v : Word) (bad : Option Nat) (s : State) :
    (gripRwlOp c r mask v bad s).kept = s.kept := by
  unfold gripRwlOp
  split <;> (split <;> simp)

@[simp] theorem kept_gripEvinOp (c : Nat) (v : Word) (s : State) : (gripEvinOp c v s).kept = s.kept := by
  simp [gripEvinOp]
@[simp] theorem kept_gripCfgOp (c : Nat) (v : Word) (s : State) : (gripCfgOp c v s).kept = s.kept := by
  simp [gripCfgOp]
@[simp] theorem kept_gripBudgetOp (c : Nat) (v : Word) (s : State) : (gripBudgetOp c v s).kept = s.kept := by
  simp [gripBudgetOp]
@[simp] theorem kept_gripEvoutOp (c : Nat) (v : Word) (s : State) : (gripEvoutOp c v s).kept = s.kept := by
  simp [gripEvoutOp]

@[simp] theorem kept_dlyRingOp (n : Nat) (r : Reg) (mask v : Word) (bad : Option Nat) (s : State) :
    (dlyRingOp n r mask v bad s).kept = s.kept := by
  unfold dlyRingOp
  split <;> (split <;> simp)

/-! ### Machine/MemoryTest.lean -/

@[simp] theorem State.kept_memResult (s : State) (code : Nat) : (s.memResult code).kept = s.kept := by
  simp [State.memResult]

@[simp] theorem kept_trainingOp (speed : Nat) (chs : List DimmChannel) (s : State) :
    (trainingOp speed chs s).kept = s.kept := by
  simp only [trainingOp, State.kept_ite, ite_self, State.kept_forEach, implies_true, State.kept_setReg, State.kept_setFld,
    State.kept_setBit, State.kept_setPair]

@[simp] theorem kept_scrubOp (m a : Nat) (r : EccResult) (s : State) : (scrubOp m a r s).kept = s.kept := by
  simp only [scrubOp]
  repeat' split
  all_goals simp

@[simp] theorem kept_memCtrlOp (v : Word) (s : State) : (memCtrlOp v s).kept = s.kept := by
  simp [memCtrlOp]
@[simp] theorem kept_memScrubOp (v : Word) (s : State) : (memScrubOp v s).kept = s.kept := by
  simp [memScrubOp]
@[simp] theorem State.kept_mtResult (s : State) (m code : Nat) : (s.mtResult m code).kept = s.kept := by
  simp [State.mtResult]
@[simp] theorem kept_mtStartOp (m : Nat) (s : State) : (mtStartOp m s).kept = s.kept := by
  simp [mtStartOp]
@[simp] theorem kept_mtRwlOp (m : Nat) (r : Reg) (i : Nat) (mask v : Word) (s : State) :
    (mtRwlOp m r i mask v s).kept = s.kept := by
  simp [mtRwlOp]

/-! ### Machine/Delivery.lean -/

@[simp] theorem State.kept_nextCc (s : State) (op : State → State) (h : ∀ t, (op t).kept = t.kept) :
    (s.nextCc op).kept = s.kept := by
  simp [State.nextCc, h]

@[simp] theorem State.kept_consume (s : State) (k lineage : Nat) (i : EventInput) :
    (s.consume k lineage i).kept = s.kept := by
  cases i with
  | script g e l =>
    simp only [State.consume]
    split
    · split <;> simp
    · simp
  | take n j =>
    simp only [State.consume]
    split <;> rw [State.kept_nextCc _ _ (by simp), State.kept_setTask]
  | kernel | pacingTimer | gripStart | gripPace | tio => simp [State.consume]

@[simp] theorem kept_eventDeliveryOp (i : EventInput) (s : State) : (eventDeliveryOp i s).kept = s.kept := by
  simp only [eventDeliveryOp]
  repeat' split
  all_goals simp only [State.kept_update, State.kept_countLost, State.kept_consume]

@[simp] theorem kept_tioInputEdgeOp (l r high : Nat) (s : State) : (tioInputEdgeOp l r high s).kept = s.kept := by
  simp only [tioInputEdgeOp, State.kept_ite, ite_self, State.kept_forEach, implies_true, State.kept_emitEvent,
    State.kept_addInterval, State.kept_sysStamp]

/-! ### Machine/Links.lean -/

@[simp] theorem State.kept_linkResult (s : State) (l code : Nat) : (s.linkResult l code).kept = s.kept := by
  simp [State.linkResult]
@[simp] theorem State.kept_linkCause (s : State) (l b : Nat) : (s.linkCause l b).kept = s.kept := by
  simp [State.linkCause]
@[simp] theorem State.kept_setLinkState (s : State) (l st : Nat) : (s.setLinkState l st).kept = s.kept := by
  simp [State.setLinkState]
@[simp] theorem State.kept_rxWord (s : State) (r : Nat) (w : BitVec 8) : (s.rxWord r w).kept = s.kept := by rfl
@[simp] theorem State.kept_rxSubstitute (s : State) (l : Nat) (p : Nat → Bool) : (s.rxSubstitute l p).kept = s.kept := by
  simp [State.rxSubstitute]
@[simp] theorem State.kept_setHops (s : State) (r : Nat) : (s.setHops r).kept = s.kept := by
  unfold State.setHops
  split <;> simp
@[simp] theorem kept_lnkRxmapOp (r : Nat) (v : Word) (s : State) : (lnkRxmapOp r v s).kept = s.kept := by
  simp [lnkRxmapOp]
@[simp] theorem State.kept_setLat (s : State) (l : Nat) : (s.setLat l).kept = s.kept := by
  simp [State.setLat]

@[simp] theorem State.kept_unlockClass (s : State) (l : Nat) (sfn : Bool) (st : Nat) :
    (s.unlockClass l sfn st).kept = s.kept := by
  simp only [State.unlockClass, State.kept_ite, ite_self, State.kept_setBit, State.kept_setLink, State.kept_linkCause,
    State.kept_setLinkState, State.kept_rxSubstitute, State.kept_setLat]

@[simp] theorem State.kept_linkDrop (s : State) (l st : Nat) : (s.linkDrop l st).kept = s.kept := by
  simp [State.linkDrop]
@[simp] theorem State.kept_queueMgmt (s : State) (l : Nat) (m : List Nat) : (s.queueMgmt l m).kept = s.kept := by
  simp [State.queueMgmt]
@[simp] theorem kept_lnkCtrlOp (l : Nat) (v : Word) (s : State) : (lnkCtrlOp l v s).kept = s.kept := by
  simp only [lnkCtrlOp, State.kept_ite, ite_self, State.kept_setFld, State.kept_emit, State.kept_setLink,
    State.kept_linkResult, State.kept_setLinkState, State.kept_setLat, State.kept_linkDrop]
@[simp] theorem kept_laneLossOp (l : Nat) (s : State) : (laneLossOp l s).kept = s.kept := by
  simp [laneLossOp]
@[simp] theorem kept_laneLockOp (l : Nat) (s : State) : (laneLockOp l s).kept = s.kept := by
  simp [laneLockOp]
@[simp] theorem kept_helloSendOp (l : Nat) (s : State) : (helloSendOp l s).kept = s.kept := by
  simp [helloSendOp]
@[simp] theorem kept_helloReceiveOp (l : Nat) (h : LinkHello) (s : State) : (helloReceiveOp l h s).kept = s.kept := by
  simp only [helloReceiveOp, State.kept_ite, ite_self, State.kept_setReg, State.kept_setBit, State.kept_setLink,
    State.kept_setLinkState]
@[simp] theorem kept_helloTimeoutOp (l : Nat) (s : State) : (helloTimeoutOp l s).kept = s.kept := by
  simp [helloTimeoutOp]
@[simp] theorem kept_byeReceiveOp (l : Nat) (s : State) : (byeReceiveOp l s).kept = s.kept := by
  simp [byeReceiveOp]
@[simp] theorem kept_pingSendOp (l : Nat) (s : State) : (pingSendOp l s).kept = s.kept := by
  simp [pingSendOp]
@[simp] theorem kept_pongReceiveOp (l : Nat) (rt : BitVec 24) (s : State) : (pongReceiveOp l rt s).kept = s.kept := by
  simp only [pongReceiveOp, State.kept_ite, ite_self, State.kept_setFld, State.kept_setLink, State.kept_setLat,
    State.kept_unlockClass]
@[simp] theorem kept_mapReceiveOp (l : Nat) (hops : List Nat) (s : State) : (mapReceiveOp l hops s).kept = s.kept := by
  simp [mapReceiveOp]

@[simp] theorem State.kept_txDecision (s : State) (l k : Nat) : (s.txDecision l k).2.kept = s.kept := by
  simp only [State.txDecision]
  repeat' split
  all_goals simp only [State.kept_setBit, State.kept_count]

@[simp] theorem State.kept_txEvent (s : State) (l i : Nat) : (s.txEvent l i).2.kept = s.kept := by
  simp only [State.txEvent]
  repeat' split
  all_goals simp only [State.kept_count]

theorem kept_txRun (f : State → Nat → Byte × State) (h : ∀ t k, (f t k).2.kept = t.kept) (ks : List Nat) (s : State) :
    (txRun f ks s).2.kept = s.kept := by
  induction ks generalizing s with
  | nil => rfl
  | cons k ks ih => simp [txRun, ih, h]

@[simp] theorem State.kept_txStamps (s : State) (l : Nat) : (s.txStamps l).2.kept = s.kept := by
  simp only [State.txStamps, State.kept_ite, State.kept_count, State.kept_setLink, ite_self]

@[simp] theorem kept_superframeSendOp (l : Nat) (s : State) : (superframeSendOp l s).kept = s.kept := by
  unfold superframeSendOp
  extract_lets x j dec evt ts t clap retx bulk y u v f
  have ht : t.kept = s.kept := by
    rw [State.kept_txStamps, kept_txRun _ fun t i => t.kept_txEvent l i, kept_txRun _ fun t i => t.kept_txDecision l _]
  have hu : u.kept = s.kept := (t.kept_setLink l _).trans ht
  have hv : v.kept = s.kept := by
    unfold v
    split <;> simp [hu]
  split <;> simp [hv]

@[simp] theorem State.kept_linkAck (s : State) (l back : Nat) : (s.linkAck l back).kept = s.kept := by
  simp only [State.linkAck]
  split <;> simp only [State.kept_ite, ite_self, State.kept_setBit, State.kept_setLink, State.kept_linkCause]

@[simp] theorem State.kept_linkClap (s : State) (l : Nat) (chk : Bool) (dly : Nat) :
    (s.linkClap l chk dly).kept = s.kept := by
  simp only [State.linkClap, State.kept_ite, ite_self, State.kept_update, State.kept_setBit, State.kept_setEdgePos,
    State.kept_judgeEdge]

@[simp] theorem State.kept_linkRealTime (s : State) (l : Nat) (bs : List Byte) : (s.linkRealTime l bs).kept = s.kept := by
  simp only [State.linkRealTime, State.kept_ite, ite_self, State.kept_forEach, implies_true, State.kept_emitEvent,
    State.kept_sysStamp, State.kept_rxWord]
@[simp] theorem State.kept_linkErrored (s : State) (l : Nat) : (s.linkErrored l).kept = s.kept := by
  simp [State.linkErrored]
@[simp] theorem kept_bulkRetransmitOp (l : Nat) (s : State) : (bulkRetransmitOp l s).kept = s.kept := by
  simp [bulkRetransmitOp]
@[simp] theorem kept_linkMsgSendOp (l len : Nat) (s : State) : (linkMsgSendOp l len s).kept = s.kept := by
  simp only [linkMsgSendOp, State.kept_ite, ite_self, State.kept_setFld, State.kept_setBit, State.kept_setLink,
    State.kept_linkResult]
@[simp] theorem kept_lnkMsgCtrlOp (l : Nat) (v : Word) (s : State) : (lnkMsgCtrlOp l v s).kept = s.kept := by
  simp [lnkMsgCtrlOp]
@[simp] theorem kept_rxfullClearOp (l : Nat) (s : State) : (rxfullClearOp l s).kept = s.kept := by
  simp [rxfullClearOp]
@[simp] theorem kept_lnkTxmapOp (i : Nat) (v : Word) (s : State) : (lnkTxmapOp i v s).kept = s.kept := by
  simp [lnkTxmapOp]
@[simp] theorem kept_lnkTstxOp (c : Nat) (v : Word) (s : State) : (lnkTstxOp c v s).kept = s.kept := by
  simp [lnkTstxOp]
@[simp] theorem kept_lnkModidOp (v : Word) (s : State) : (lnkModidOp v s).kept = s.kept := by
  simp [lnkModidOp]

@[simp] theorem State.kept_linkEpoch (s : State) : s.linkEpoch.kept = s.kept := by
  unfold State.linkEpoch
  rw [State.kept_update]
  refine State.kept_forEach _ _ _ fun l t => ?_
  dsimp only
  split <;> simp

@[simp] theorem State.kept_linkCheck (s : State) (ready : List Nat) : (s.linkCheck ready).kept = s.kept := by
  simp [State.linkCheck]

/-! ### Machine/Cut.lean -/

@[simp] theorem State.kept_muteOutputs (s : State) (g : Nat) : (s.muteOutputs g).kept = s.kept := by
  simp [State.muteOutputs]
@[simp] theorem State.kept_cutCluster (s : State) (g : Nat) : (s.cutCluster g).kept = s.kept := by
  simp [State.cutCluster]
@[simp] theorem State.kept_cutEffects (s : State) (whole : Bool) (regions clusters : List Nat) :
    (s.cutEffects whole regions clusters).kept = s.kept := by
  simp [State.cutEffects]
@[simp] theorem State.kept_cutDone (s : State) (start : Nat) : (s.cutDone start).kept = s.kept := by
  simp [State.cutDone]

@[simp] theorem State.kept_startCut (s : State) (whole : Bool) (rmask cmask : Nat) :
    (s.startCut whole rmask cmask).kept = s.kept := by
  simp only [State.startCut, State.kept_ite, ite_self, State.kept_update, State.kept_setBit, State.kept_cutEffects,
    State.kept_cutDone]

@[simp] theorem State.kept_countCut (s : State) (k : Nat) : (s.countCut k).kept = s.kept := by
  simp [State.countCut]
@[simp] theorem State.kept_moduleCut (s : State) : (s.moduleCut).kept = s.kept := by
  simp [State.moduleCut]

@[simp] theorem kept_cutCmdOp (scope : Nat) (s : State) : (cutCmdOp scope s).kept = s.kept := by
  simp only [cutCmdOp, State.kept_ite, State.kept_setFld]
  repeat' split
  all_goals simp only [State.kept_setFld, State.kept_startCut, State.kept_countCut]

@[simp] theorem kept_cutCompleteOp (s : State) : (cutCompleteOp s).kept = s.kept := by
  unfold cutCompleteOp
  split <;> simp

/-! ### Machine/Power.lean -/

@[simp] theorem State.kept_pwrResult (s : State) (code : Nat) : (s.pwrResult code).kept = s.kept := by
  simp [State.pwrResult]
@[simp] theorem kept_powerEntryOp (n : Nat) (s : State) : (powerEntryOp n s).kept = s.kept := by
  simp [powerEntryOp]
@[simp] theorem State.kept_clusterOff (s : State) (g : Nat) : (s.clusterOff g).kept = s.kept := by
  simp [State.clusterOff]
@[simp] theorem State.kept_tilePllStops (s : State) (n : Nat) : (s.tilePllStops n).kept = s.kept := by
  simp [State.tilePllStops]
@[simp] theorem State.kept_waitReload (s : State) (n : Nat) : (s.waitReload n).kept = s.kept := by
  simp [State.waitReload]
@[simp] theorem State.kept_beginExit (s : State) (n t : Nat) : (s.beginExit n t).kept = s.kept := by
  simp [State.beginExit]
@[simp] theorem kept_powerExitOp (n : Nat) (s : State) : (powerExitOp n s).kept = s.kept := by
  unfold powerExitOp
  split <;> simp
@[simp] theorem kept_powerExitDoneOp (n : Nat) (s : State) : (powerExitDoneOp n s).kept = s.kept := by
  simp only [powerExitDoneOp]
  split <;> simp only [State.kept_ite, ite_self, State.kept_setBit, State.kept_setPower, State.kept_arriveRun]
@[simp] theorem kept_imageTimeoutOp (n : Nat) (s : State) : (imageTimeoutOp n s).kept = s.kept := by
  simp [imageTimeoutOp]
@[simp] theorem State.kept_wakeRegion (s : State) (n : Nat) : (s.wakeRegion n).kept = s.kept := by
  simp [State.wakeRegion]
@[simp] theorem kept_pwrWakeOp (mask : Nat) (s : State) : (pwrWakeOp mask s).kept = s.kept := by
  simp [pwrWakeOp]
@[simp] theorem kept_pwrTolOp (n : Nat) (v : Word) (s : State) : (pwrTolOp n v s).kept = s.kept := by
  simp [pwrTolOp]
@[simp] theorem State.kept_resetCluster (s : State) (g : Nat) : (s.resetCluster g).kept = s.kept := by
  simp [State.resetCluster]
@[simp] theorem State.kept_clusterReset (s : State) (g : Nat) : (s.clusterReset g).kept = s.kept := by
  simp [State.clusterReset]
@[simp] theorem kept_clusterResetOp (mask : Nat) (s : State) : (clusterResetOp mask s).kept = s.kept := by
  simp [clusterResetOp]

@[simp] theorem State.kept_resetNode (s : State) (n : Nat) : (s.resetNode n).kept = s.kept := by
  simp only [State.resetNode, State.kept_ite, ite_self, State.kept_forEach, implies_true, State.kept_update,
    State.kept_setBit, State.kept_resetRegs, State.kept_clearTasks, State.kept_unlockRegion, State.kept_emptyStream,
    State.kept_resetTake, State.kept_padBlock, State.kept_waitReload]

@[simp] theorem State.kept_regionReset (s : State) (n : Nat) : (s.regionReset n).kept = s.kept := by
  simp [State.regionReset]
@[simp] theorem kept_regionResetOp (mask : Nat) (s : State) : (regionResetOp mask s).kept = s.kept := by
  simp [regionResetOp]
@[simp] theorem kept_resetCompleteOp (c : ResetScope) (s : State) : (resetCompleteOp c s).kept = s.kept := by
  cases c <;> simp only [resetCompleteOp, State.kept_ite, State.kept_update, State.kept_setBit, State.kept_setPair, ite_self]
@[simp] theorem State.kept_noteRails (s : State) : (s.noteRails).kept = s.kept := by
  simp only [State.noteRails, State.kept_setBit]
@[simp] theorem State.kept_criticalDie (s : State) (d : Nat) : (s.criticalDie d).kept = s.kept := by
  simp [State.criticalDie]
@[simp] theorem State.kept_thermalLines (s : State) : (s.thermalLines).kept = s.kept := by
  simp [State.thermalLines]
@[simp] theorem kept_wearImageOp (s : State) : (wearImageOp s).kept = s.kept := by
  simp [wearImageOp]
@[simp] theorem kept_thermWarnOp (v : Word) (s : State) : (thermWarnOp v s).kept = s.kept := by
  simp [thermWarnOp]
@[simp] theorem State.kept_wdKick (s : State) (k : Nat) : (s.wdKick k).kept = s.kept := by rfl
@[simp] theorem State.kept_resetCore (s : State) (k : Nat) : (s.resetCore k).kept = s.kept := by
  simp [State.resetCore]
@[simp] theorem kept_watchdogOp (k : Nat) (s : State) : (watchdogOp k s).kept = s.kept := by
  simp only [watchdogOp, State.kept_ite, ite_self, State.kept_update, State.kept_setFld, State.kept_setBit, State.kept_raise,
    State.kept_irqCoreReset, State.kept_resetCore]
@[simp] theorem kept_gafKickOp (k : Nat) (s : State) : (gafKickOp k s).kept = s.kept := by
  simp [gafKickOp]
@[simp] theorem kept_gafRestartOp (s : State) : (gafRestartOp s).kept = s.kept := by
  simp [gafRestartOp]
@[simp] theorem kept_gafWdCtrlOp (k : Nat) (v : Word) (s : State) : (gafWdCtrlOp k v s).kept = s.kept := by
  simp [gafWdCtrlOp]

/-! ### Machine/Mailbox.lean -/

@[simp] theorem State.kept_setSession (s : State) (slot : Nat) (x : Session) : (s.setSession slot x).kept = s.kept := by rfl
@[simp] theorem State.kept_renew (s : State) (slot : Nat) : (s.renew slot).kept = s.kept := by
  simp [State.renew]
@[simp] theorem State.kept_closeSession (s : State) (slot : Nat) : (s.closeSession slot).kept = s.kept := by
  simp [State.closeSession]
@[simp] theorem State.kept_keep (s : State) (slot seq : Nat) (f : List Byte) : (s.keep slot seq f).kept = s.kept := by
  simp [State.keep]
@[simp] theorem kept_leaseExpireOp (slot : Nat) (s : State) : (leaseExpireOp slot s).kept = s.kept := by
  simp [leaseExpireOp]
@[simp] theorem State.kept_setReady (s : State) (k : Nat) (on : Bool) : (s.setReady k on).kept = s.kept := by
  simp [State.setReady]
@[simp] theorem State.kept_setPeakDepth (s : State) (v : Nat) : (s.setPeakDepth v).kept = s.kept := by
  simp [State.setPeakDepth]
@[simp] theorem State.kept_enqueue (s : State) (r : Request) : (s.enqueue r).kept = s.kept := by
  simp [State.enqueue]
@[simp] theorem State.kept_mbResult (s : State) (k code : Nat) : (s.mbResult k code).kept = s.kept := by
  simp [State.mbResult]
@[simp] theorem State.kept_mbFlr (s : State) : (s.mbFlr).kept = s.kept := by
  simp [State.mbFlr]

/-! ### Machine/Host.lean -/

@[simp] theorem State.kept_hifResult (s : State) (code : Nat) : (s.hifResult code).kept = s.kept := by
  simp [State.hifResult]

@[simp] theorem State.kept_flrReset (s : State) : (s.flrReset).kept = s.kept := by
  simp only [State.flrReset, State.kept_ite, ite_self, State.kept_forEach, implies_true, State.kept_update, State.kept_setFld,
    State.kept_setBit, State.kept_resetRegs, State.kept_setPower, State.kept_irqFlr, State.kept_emptyStream,
    State.kept_moduleCut, State.kept_mbFlr]

@[simp] theorem kept_d3hotOp (s : State) : (d3hotOp s).kept = s.kept := by
  simp [d3hotOp]
@[simp] theorem kept_d0Op (s : State) : (d0Op s).kept = s.kept := by
  simp [d0Op]
@[simp] theorem kept_l1Op (s : State) : (l1Op s).kept = s.kept := by
  simp [l1Op]
@[simp] theorem kept_ltrSendOp (s : State) : (ltrSendOp s).kept = s.kept := by
  simp only [ltrSendOp, State.kept_ite, ite_self, State.kept_update, State.kept_setBit, State.kept_emit]
@[simp] theorem kept_hifLtrOp (busy : Bool) (v : Word) (s : State) : (hifLtrOp busy v s).kept = s.kept := by
  simp [hifLtrOp]
@[simp] theorem kept_bar2BaseOp (v : Nat) (s : State) : (bar2BaseOp v s).kept = s.kept := by
  simp [bar2BaseOp]

/-! ### Machine/Epoch.lean -/

@[simp] theorem State.kept_routerEpoch (s : State) : (s.routerEpoch).kept = s.kept := by
  simp [State.routerEpoch]
@[simp] theorem State.kept_lockToEpoch (s : State) (e : Nat) : (s.lockToEpoch e).kept = s.kept := by
  simp [State.lockToEpoch]
@[simp] theorem State.kept_triggerEpoch (s : State) : (s.triggerEpoch).kept = s.kept := by
  simp [State.triggerEpoch]

@[simp] theorem kept_epochStartOp (s : State) : (epochStartOp s).kept = s.kept := by
  simp only [epochStartOp]
  split <;> simp only [State.kept_ite, ite_self, State.kept_update, State.kept_setFld, State.kept_resetReg, State.kept_raise,
    State.kept_fabricEpoch, State.kept_setTriple, State.kept_linkEpoch, State.kept_routerEpoch, State.kept_lockToEpoch,
    State.kept_triggerEpoch]

@[simp] theorem State.kept_judgeCheck (s : State) (k : Nat) : (s.judgeCheck k).2.kept = s.kept := by
  simp only [State.judgeCheck]
  repeat' split
  all_goals simp only [State.kept_slip]

@[simp] theorem State.kept_reloadRegions (s : State) : (s.reloadRegions).kept = s.kept := by
  simp [State.reloadRegions]

@[simp] theorem State.kept_checkAt (s : State) (k : Nat) (obs : CheckObservation) : (s.checkAt k obs).kept = s.kept := by
  simp only [State.checkAt, State.kept_ite, ite_self, State.kept_forEach, implies_true, State.kept_update, State.kept_setReg,
    State.kept_slip, State.kept_crossingFindings, State.kept_applyDefaults, State.kept_linkCheck, State.kept_reloadRegions]
  split <;> simp only [State.kept_judgeCheck]

@[simp] theorem kept_clapperCheckOp (obs : CheckObservation) (s : State) : (clapperCheckOp obs s).kept = s.kept := by
  simp [clapperCheckOp]

/-! ### Machine/Ports.lean -/

@[simp] theorem State.kept_portAnswer (s : State) (o : Out) : (s.portAnswer o).kept = s.kept := by
  simp [State.portAnswer]
@[simp] theorem kept_statusWordOp (smb : Bool) (s : State) : (statusWordOp smb s).kept = s.kept := by
  simp [statusWordOp]
@[simp] theorem kept_temperatureOp (smb : Bool) (ds : List Nat) (s : State) : (temperatureOp smb ds s).kept = s.kept := by
  unfold temperatureOp
  split <;> simp
@[simp] theorem kept_readPinOp (smb : Bool) (watts : Nat) (s : State) : (readPinOp smb watts s).kept = s.kept := by
  simp [readPinOp]
@[simp] theorem kept_revisionOp (smb : Bool) (s : State) : (revisionOp smb s).kept = s.kept := by
  simp [revisionOp]
@[simp] theorem kept_unsupportedOp (smb : Bool) (code : Byte) (write : Bool) (s : State) :
    (unsupportedOp smb code write s).kept = s.kept := by
  simp [unsupportedOp]
@[simp] theorem State.kept_jtagSelect (s : State) (r : JtagRegister) (bits : List Bool) :
    (s.jtagSelect r bits).kept = s.kept := by
  simp [State.jtagSelect]

/-! ### Machine/Views.lean -/

theorem kept_claimRead {who : Requester} {r : Reg} {i : Nat} {op : State → BitVec 64 × State}
    (h : claimRead who r i = some op) (s : State) : (op s).2.kept = s.kept := by
  unfold claimRead at h
  split at h
  case h_5 =>
    split at h
    · obtain rfl := Option.some.inj h
      exact kept_wtNowOp who s
    · cases h
  case h_7 => cases h
  all_goals
    obtain rfl := Option.some.inj h
    simp

@[simp] theorem kept_readReg32 (who : Requester) (r : Reg) (i : Nat) (s : State) : (readReg32 who r i s).2.kept = s.kept := by
  unfold readReg32
  split
  next h => exact kept_claimRead h s
  · split
    · simp
    · dsimp only
      split <;> simp

@[simp] theorem kept_readPair (who : Requester) (r h : Reg) (i : Nat) (s : State) :
    (readPair who r h i s).2.kept = s.kept := by
  unfold readPair
  dsimp only
  split
  next h => simp [kept_claimRead h s]
  · rfl

/-! ### Machine/Writes.lean -/

@[simp] theorem State.kept_report (s : State) (r : Reg) (i code : Nat) : (s.report r i code).kept = s.kept := by
  unfold State.report
  split <;> simp
@[simp] theorem State.kept_cmpEnable (s : State) (c : Comparator) (was on : Bool) : (s.cmpEnable c was on).kept = s.kept := by
  simp [State.cmpEnable]

@[simp] theorem State.kept_afterWrite (s : State) (r : Reg) (i : Nat) (old : Word) :
    (s.afterWrite r i old).kept = s.kept := by
  simp only [State.afterWrite]
  split <;> simp only [State.kept_ite, ite_self, State.kept_setReg, State.kept_setCmp, State.kept_restartCmp,
    State.kept_cmpEnable]

@[simp] theorem kept_plainWrite (r : Reg) (i : Nat) (v : Word) (s : State) : (plainWrite r i v s).kept = s.kept := by
  simp only [plainWrite, State.kept_ite, ite_self, State.kept_setReg, State.kept_report, State.kept_afterWrite]
@[simp] theorem kept_dlyCtrlOp (n : Nat) (v : Word) (s : State) : (dlyCtrlOp n v s).kept = s.kept := by
  simp [dlyCtrlOp]
@[simp] theorem kept_featAcceptOp (i : Nat) (v : Word) (s : State) : (featAcceptOp i v s).kept = s.kept := by
  simp [featAcceptOp]
@[simp] theorem State.kept_freeMarch (s : State) : (s.freeMarch).2.kept = s.kept := by
  simp [State.freeMarch]

theorem kept_writeA {who : Requester} {r : Reg} {i : Nat} {v : Word} {op : State → State}
    (h : writeA who r i v = some op) (s : State) : (op s).kept = s.kept := by
  unfold writeA at h
  split at h
  case h_24 => cases h
  all_goals
    obtain rfl := Option.some.inj h
    simp

theorem kept_writeB {r : Reg} {i : Nat} {v : Word} {op : State → State}
    (h : writeB r i v = some op) (s : State) : (op s).kept = s.kept := by
  unfold writeB at h
  split at h
  case h_32 =>
    split at h
    · obtain rfl := Option.some.inj h
      rfl
    · cases h
  case h_33 => cases h
  all_goals
    obtain rfl := Option.some.inj h
    simp

/-! ### Machine/Bus.lean -/

@[simp] theorem kept_readAt (who : Requester) (a n : Nat) (s : State) : (readAt who a n s).2.kept = s.kept := by
  simp only [readAt]
  repeat' split
  all_goals simp only [kept_readReg32, kept_readPair]

@[simp] theorem kept_badAccess (who : Requester) (a : Nat) (read : Bool) (s : State) :
    (badAccess who a read s).kept = s.kept := by
  simp only [badAccess, State.kept_ite, ite_self, State.kept_setBit, State.kept_emit, State.kept_throughGate]
@[simp] theorem kept_busRead (who : Requester) (a n : Nat) (s : State) : (busRead who a n s).kept = s.kept := by
  simp [busRead]
@[simp] theorem kept_bar4 (s : State) (op : State → State) (h : ∀ t, (op t).kept = t.kept) : (bar4 s op).kept = s.kept := by
  simp [bar4, h]
@[simp] theorem kept_bar4Write (w : Nat) (v : Word) (s : State) : (bar4Write w v s).kept = s.kept := by
  simp [bar4Write]
@[simp] theorem kept_hostOnly (who : Requester) (op : State → State) (s : State) (h : ∀ t, (op t).kept = t.kept) :
    (hostOnly who op s).kept = s.kept := by
  simp [hostOnly, h]
@[simp] theorem kept_badAccessOp (who : Requester) (addr bytes : Nat) (write : Bool) (s : State) :
    (badAccessOp who addr bytes write s).kept = s.kept := by
  simp [badAccessOp]

/-! ### Machine/Objects.lean -/

@[simp] theorem State.kept_objThrough (s : State) (core : Fin 4) (p : ObjPlace) : (s.objThrough core p).kept = s.kept := by
  unfold State.objThrough
  split <;> simp

@[simp] theorem State.kept_readHome (s : State) (core : Fin 4) (o : Obj) (index sub pos : Nat) :
    (s.readHome core o index sub pos).2.kept = s.kept := by
  simp only [State.readHome]
  repeat' split
  all_goals simp only [State.kept_setPeakDepth, kept_readPair]

@[simp] theorem State.kept_objRead (s : State) (core : Fin 4) (index sub : Nat) :
    (s.objRead core index sub).2.2.kept = s.kept := by
  simp only [State.objRead]
  repeat' split
  all_goals simp only [State.kept_objThrough, State.kept_readHome]

@[simp] theorem State.kept_saveStatus (s : State) (code : Nat) (busy : Bool) (n : Nat) :
    (s.saveStatus code busy n).kept = s.kept := by
  simp [State.saveStatus]

@[simp] theorem State.kept_saveCommand (s : State) (values : Option (Table Word × Table Nat)) (objects : Nat) :
    (s.saveCommand values objects).2.kept = s.kept := by
  unfold State.saveCommand
  split <;> simp

@[simp] theorem kept_imageCompleteOp (ok : Bool) (s : State) : (imageCompleteOp ok s).kept = s.kept := by
  simp only [imageCompleteOp]
  split <;> simp only [State.kept_ite, ite_self, State.kept_update, State.kept_raise, State.kept_saveStatus]
@[simp] theorem State.kept_saveObject (s : State) (restore : Bool) : (s.saveObject restore).2.kept = s.kept := by
  unfold State.saveObject
  split <;> simp
@[simp] theorem State.kept_loadActive (s : State) : (s.loadActive).kept = s.kept := by
  simp [State.loadActive]
@[simp] theorem State.kept_featResult (s : State) (code : Nat) : (s.featResult code).kept = s.kept := by
  simp [State.featResult]
@[simp] theorem State.kept_acceptedNow (s : State) : (s.acceptedNow).kept = s.kept := by rfl

/-! ### Machine/Service.lean -/

@[simp] theorem kept_readEntries (core : Fin 4) (index n sub room : Nat) (s : State) :
    (readEntries core index n sub room s).2.2.kept = s.kept := by
  induction n generalizing sub room s with
  | zero => rfl
  | succ n ih =>
    simp only [readEntries]
    split <;> simp [ih]

@[simp] theorem State.kept_notify (s : State) (slot : Nat) (x : Subscription) : (s.notify slot x).kept = s.kept := by
  simp only [State.notify, State.kept_ite, ite_self, State.kept_emit, State.kept_countServed, State.kept_setSession,
    State.kept_objRead]
@[simp] theorem kept_notifyOp (slot index sub : Nat) (s : State) : (notifyOp slot index sub s).kept = s.kept := by
  simp only [notifyOp]
  split <;> simp only [State.kept_ite, ite_self, State.kept_notify]
@[simp] theorem State.kept_percent (s : State) (v : Nat) : (s.percent v).2.kept = s.kept := by
  simp only [State.percent, State.kept_ite, ite_self, State.kept_free, apply_ite Prod.snd]
@[simp] theorem State.kept_leaseLeft (s : State) (slot : Nat) : (s.leaseLeft slot).2.kept = s.kept := by
  unfold State.leaseLeft
  split <;> simp
@[simp] theorem kept_loadUpdateOp (g : GafferLoad) (s : State) : (loadUpdateOp g s).kept = s.kept := by
  simp [loadUpdateOp]

/-! ## Functions that store -/

/-- What every command keeps, between the queue, the variant and the memories before it and after it: the queue and the variant
as they are, and the memories in canonical form if they were in it. -/
structure Keeps (k k' : Kept) : Prop where
  pending : k'.1 = k.1
  variant : k'.2.1 = k.2.1
  canonical : Memory.wf k.2.2 = true → Memory.wf k'.2.2 = true

@[simp] theorem Keeps.refl {k : Kept} : Keeps k k := ⟨rfl, rfl, id⟩

theorem Keeps.trans {k k' k'' : Kept} (h : Keeps k k') (h' : Keeps k' k'') : Keeps k k'' :=
  ⟨h'.pending.trans h.pending, h'.variant.trans h.variant, h'.canonical ∘ h.canonical⟩

@[simp] theorem keeps_ite {k k' k'' : Kept} {c : Prop} [Decidable c] :
    Keeps k (if c then k' else k'') ↔ (c → Keeps k k') ∧ (¬c → Keeps k k'') := by
  split <;> simp [*]

/-! ### Machine/Ops.lean -/

@[simp] theorem State.keeps_writeBytes {k₀ : Kept} (s : State) (sp a : Nat) (bs : List Byte) (h : Keeps k₀ s.kept) :
    Keeps k₀ (s.writeBytes sp a bs).kept :=
  ⟨h.pending, h.variant, fun hk => s.wf_writeBytes sp a bs (h.canonical hk)⟩
@[simp] theorem State.keeps_writeLe {k₀ : Kept} (s : State) (sp a n v : Nat) (h : Keeps k₀ s.kept) :
    Keeps k₀ (s.writeLe sp a n v).kept :=
  s.keeps_writeBytes sp a _ h
@[simp] theorem State.keeps_eraseMem {k₀ : Kept} (s : State) (lo hi : Nat) (h : Keeps k₀ s.kept) :
    Keeps k₀ (s.eraseMem lo hi).kept :=
  ⟨h.pending, h.variant, fun hk => s.wf_eraseMem lo hi (h.canonical hk)⟩

@[simp] theorem State.keeps_forEach {k₀ : Kept} {α : Type} (l : List α) (f : α → State → State) (s : State)
    (hf : ∀ a t, Keeps t.kept (f a t).kept) (h : Keeps k₀ s.kept) : Keeps k₀ (State.forEach l f s).kept := by
  induction l generalizing s with
  | nil => exact h
  | cons a l ih => exact ih (f a s) (h.trans (hf a s))

/-- The same for a loop written as a fold. -/
theorem keeps_foldl {k₀ : Kept} {α : Type} (l : List α) (f : State → α → State) (s : State)
    (hf : ∀ t a, Keeps t.kept (f t a).kept) (h : Keeps k₀ s.kept) : Keeps k₀ (l.foldl f s).kept :=
  State.keeps_forEach l (fun a t => f t a) s (fun a t => hf t a) h

/-! ### Machine/Access.lean -/

@[simp] theorem State.keeps_access {k₀ : Kept} (s : State) (who : Requester) (a : Nat) (op : State → State)
    (hop : ∀ t, Keeps t.kept (op t).kept) (h : Keeps k₀ s.kept) : Keeps k₀ (s.access who a op).kept := by
  unfold State.access
  split
  · exact h
  · split
    · exact h.trans (by simpa using hop (s.throughOpen who a))
    · simpa using h

@[simp] theorem State.keeps_regAccess {k₀ : Kept} (s : State) (who : Requester) (r : Reg) (i : Nat) (op : State → State)
    (hop : ∀ t, Keeps t.kept (op t).kept) (h : Keeps k₀ s.kept) : Keeps k₀ (s.regAccess who r i op).kept :=
  s.keeps_access who _ op hop h

/-! ### Machine/Voices.lean -/

@[simp] theorem keeps_segCommitOp {k₀ : Kept} (who : Requester) (n e : Nat) (v : Word) (s : State) (h : Keeps k₀ s.kept) :
    Keeps k₀ (segCommitOp who n e v s).kept := by
  unfold segCommitOp
  extract_lets b held t w0 w1 w2 code u
  have ht : Keeps k₀ t.kept := by simpa [t] using h
  have hu : Keeps k₀ u.kept := by
    unfold u
    split
    · exact State.keeps_writeLe _ _ _ _ _ <| State.keeps_writeLe _ _ _ _ _ <| State.keeps_writeLe _ _ _ _ _ <|
        t.keeps_writeLe _ _ _ _ ht
    · exact ht
  simpa using hu

@[simp] theorem State.keeps_appendBlock {k₀ : Kept} (s : State) (n i : Nat) (ws : List Word) (h : Keeps k₀ s.kept) :
    Keeps k₀ (s.appendBlock n i ws).kept := by
  unfold State.appendBlock
  extract_lets x size base rd put t
  have ht : Keeps k₀ t.kept := keeps_foldl _ put s (fun u p => by unfold put; split <;> simp) h
  simpa using ht

@[simp] theorem keeps_streamWriteOp {k₀ : Kept} (n i : Nat) (ws : List Word) (s : State) (h : Keeps k₀ s.kept) :
    Keeps k₀ (streamWriteOp n i ws s).kept := by
  simp [streamWriteOp, h]

@[simp] theorem keeps_streamHeldOp {k₀ : Kept} (n i : Nat) (s : State) (h : Keeps k₀ s.kept) :
    Keeps k₀ (streamHeldOp n i s).kept := by
  unfold streamHeldOp
  split <;> simp [h]

/-! ### Machine/Kernel.lean -/

@[simp] theorem State.keeps_krnStore {k₀ : Kept} (s : State) (g p : Nat) (v : Word) (h : Keeps k₀ s.kept) :
    Keeps k₀ (s.krnStore g p v).kept := by
  simp only [State.krnStore, State.kept_update, State.keeps_writeLe, h]

@[simp] theorem State.keeps_aEffect {k₀ : Kept} (s : State) (g : Nat) (w : BitVec 64) (h : Keeps k₀ s.kept) :
    Keeps k₀ (s.aEffect g w).kept := by
  unfold State.aEffect
  split <;> simp [h]

@[simp] theorem State.keeps_issueBundle {k₀ : Kept} (s : State) (g : Nat) (w : BitVec 64) (h : Keeps k₀ s.kept) :
    Keeps k₀ (s.issueBundle g w).kept := by
  simp only [State.issueBundle]
  repeat' split
  all_goals simp only [State.kept_setKrnPc, State.kept_setKrn, State.kept_endBundle, State.kept_krnDecide, State.kept_krnHalt,
    State.kept_krnHaltSignal, State.keeps_aEffect, State.kept_loopRule, h]

@[simp] theorem State.keeps_krnIssue {k₀ : Kept} (s : State) (g : Nat) (holds : BitVec 64 → Bool) (h : Keeps k₀ s.kept) :
    Keeps k₀ (s.krnIssue g holds).kept := by
  simp only [State.krnIssue]
  repeat' split
  all_goals simp only [State.kept_count, State.kept_setKrn, State.kept_krnHalt, State.kept_krnHaltSignal,
    State.keeps_issueBundle, h]

/-! ### Machine/Takes.lean -/

@[simp] theorem State.keeps_putSlate {k₀ : Kept} (s : State) (n : Nat) (k : Take) (status : Nat) (rest : List Take)
    (h : Keeps k₀ s.kept) : Keeps k₀ (s.putSlate n k status rest).kept := by
  simp [State.putSlate, h]
@[simp] theorem State.keeps_failTake {k₀ : Kept} (s : State) (n : Nat) (k : Take) (rest : List Take) (code : Nat)
    (slate : Bool) (h : Keeps k₀ s.kept) : Keeps k₀ (s.failTake n k rest code slate).kept := by
  simp [State.failTake, h]

@[simp] theorem keeps_slateWriteOp {k₀ : Kept} (n : Nat) (samples : TakeSamples) (port : TakePort) (s : State)
    (h : Keeps k₀ s.kept) : Keeps k₀ (slateWriteOp n samples port s).kept := by
  unfold slateWriteOp
  split
  · exact h
  · split
    · exact h
    · split
      · exact State.keeps_putSlate _ _ _ _ _ (State.keeps_forEach _ _ s (fun p t => t.keeps_writeBytes _ _ _ .refl) h)
      · exact s.keeps_failTake _ _ _ _ _ h
      · exact s.keeps_failTake _ _ _ _ _ h

@[simp] theorem keeps_systemSlateOp {k₀ : Kept} (s : State) (h : Keeps k₀ s.kept) : Keeps k₀ (systemSlateOp s).kept := by
  simp only [systemSlateOp]
  repeat' split
  all_goals simp only [State.kept_countWrap, State.keeps_writeBytes, State.kept_free, State.kept_raise, State.kept_takeMarks,
    State.kept_setSys, State.kept_stkEvent, h]

/-! ### Machine/ClusterMem.lean -/

@[simp] theorem State.keeps_scriptPut {k₀ : Kept} (s : State) (g a : Nat) (w : BitVec 64) (h : Keeps k₀ s.kept) :
    Keeps k₀ (s.scriptPut g a w).kept := by
  simp [State.scriptPut, h]
@[simp] theorem State.keeps_bundlePut {k₀ : Kept} (s : State) (g a : Nat) (w : BitVec 64) (h : Keeps k₀ s.kept) :
    Keeps k₀ (s.bundlePut g a w).kept := by
  simp [State.bundlePut, h]
@[simp] theorem State.keeps_dataPut {k₀ : Kept} (s : State) (g p : Nat) (w : Word) (h : Keeps k₀ s.kept) :
    Keeps k₀ (s.dataPut g p w).kept := by
  simp [State.dataPut, h]
@[simp] theorem State.keeps_weightPut {k₀ : Kept} (s : State) (g a : Nat) (w : Word) (h : Keeps k₀ s.kept) :
    Keeps k₀ (s.weightPut g a w).kept := by
  simp [State.weightPut, h]
@[simp] theorem State.keeps_clusterPut {k₀ : Kept} (s : State) (g o : Nat) (w : BitVec 64) (h : Keeps k₀ s.kept) :
    Keeps k₀ (s.clusterPut g o w).kept := by
  simp [State.clusterPut, h]
@[simp] theorem State.keeps_clusterWrite {k₀ : Kept} (s : State) (g o : Nat) (bs : List Byte) (h : Keeps k₀ s.kept) :
    Keeps k₀ (s.clusterWrite g o bs).kept :=
  keeps_foldl _ _ s (fun t _ => t.keeps_clusterPut _ _ _ .refl) h

@[simp] theorem State.keeps_scriptPut32 {k₀ : Kept} (s : State) (who : Requester) (g o : Nat) (v : Word)
    (h : Keeps k₀ s.kept) : Keeps k₀ (s.scriptPut32 who g o v).kept := by
  simp only [State.scriptPut32]
  repeat' split
  all_goals simp only [State.kept_update, State.keeps_scriptPut, h]

@[simp] theorem State.keeps_bundlePut32 {k₀ : Kept} (s : State) (who : Requester) (g o : Nat) (v : Word)
    (h : Keeps k₀ s.kept) : Keeps k₀ (s.bundlePut32 who g o v).kept := by
  simp only [State.bundlePut32]
  repeat' split
  all_goals simp only [State.kept_update, State.keeps_bundlePut, h]

/-! ### Machine/Grip.lean -/

@[simp] theorem State.keeps_gripWrite {k₀ : Kept} (s : State) (sp a : Nat) (bs : List Byte) (h : Keeps k₀ s.kept) :
    Keeps k₀ (s.gripWrite sp a bs).kept := by
  unfold State.gripWrite
  split
  · exact keeps_foldl _ _ s (fun t _ => keeps_streamWriteOp _ _ _ t .refl) h
  · split <;> simp [h]

@[simp] theorem keeps_operationCompleteOp {k₀ : Kept} (c i : Nat) (ans : GripAnswer) (s : State) (h : Keeps k₀ s.kept) :
    Keeps k₀ (operationCompleteOp c i ans s).kept := by
  unfold operationCompleteOp
  extract_lets -underBinder x
  split
  · split <;> simpa using h
  · split
    · simpa using h
    · split
      · exact h
      · extract_lets -underBinder t
        have ht : Keeps k₀ t.kept := by simpa [t] using h
        split
        · dsimp only
          rw [State.kept_gripGoOn]
          split <;> simpa using ht
        · simpa using t.keeps_gripWrite _ _ _ ht

@[simp] theorem keeps_dailiesWriteOp {k₀ : Kept} (n : Nat) (s : State) (h : Keeps k₀ s.kept) :
    Keeps k₀ (dailiesWriteOp n s).kept := by
  simp only [dailiesWriteOp]
  repeat' split
  all_goals simp only [State.kept_countWrap, State.keeps_writeBytes, State.kept_raise, State.kept_leaveL1,
    State.kept_setDailies, h]

/-! ### Machine/MemoryTest.lean -/

@[simp] theorem State.keeps_marchLine {k₀ : Kept} (s : State) (m e a : Nat) (h : Keeps k₀ s.kept) :
    Keeps k₀ (s.marchLine m e a).kept :=
  State.keeps_forEach _ _ s (fun _ t => State.keeps_forEach _ _ t (fun _ u => u.keeps_writeLe _ _ _ _ .refl) .refl) h

@[simp] theorem State.keeps_marchApply {k₀ : Kept} (s : State) (m : Nat) (p : MarchOutcome) (h : Keeps k₀ s.kept) :
    Keeps k₀ (s.marchApply m p).kept := by
  unfold State.marchApply
  extract_lets step run s1 s2 s3 s4 s5 s6
  have hstep : ∀ lines q t, Keeps t.kept (step lines q t).kept := fun lines q t =>
    State.keeps_forEach _ _ t (fun l u => u.keeps_marchLine _ _ _ .refl) .refl
  have h2 : Keeps k₀ s2.kept := State.keeps_forEach _ _ s1 (hstep (some p.lines)) (State.keeps_forEach _ _ s (hstep none) h)
  have h4 : s4.kept = s2.kept := by simp [s4, s3]
  have h6 : s6.kept = s2.kept := by
    unfold s6
    split <;> simp [s5, h4]
  simpa [h6] using h2

@[simp] theorem State.keeps_marchEnds {k₀ : Kept} (s : State) (m : Nat) (p : MarchOutcome) (h : Keeps k₀ s.kept) :
    Keeps k₀ (s.marchEnds m p).kept := by
  simp [State.marchEnds, h]
@[simp] theorem keeps_mtAbortOp {k₀ : Kept} (m : Nat) (p : MarchOutcome) (s : State) (h : Keeps k₀ s.kept) :
    Keeps k₀ (mtAbortOp m p s).kept := by
  simp [mtAbortOp, h]
@[simp] theorem keeps_marchEndOp {k₀ : Kept} (m : Nat) (p : MarchOutcome) (s : State) (h : Keeps k₀ s.kept) :
    Keeps k₀ (marchEndOp m p s).kept := by
  simp [marchEndOp, h]

/-! ### Machine/Links.lean -/

@[simp] theorem State.keeps_linkBulk {k₀ : Kept} (s : State) (l : Nat) (f : BulkFrame) (h : Keeps k₀ s.kept) :
    Keeps k₀ (s.linkBulk l f).kept := by
  simp only [State.linkBulk, State.kept_ite, keeps_ite, implies_true, and_self, State.kept_setFld, State.kept_setBit,
    State.keeps_writeBytes, State.kept_setLink, State.kept_linkCause, h]

@[simp] theorem State.keeps_linkIntact {k₀ : Kept} (s : State) (l : Nat) (bs : List Byte) (h : Keeps k₀ s.kept) :
    Keeps k₀ (s.linkIntact l bs).kept := by
  simp only [State.linkIntact, State.kept_ite, keeps_ite, implies_true, and_self, State.kept_setLink, State.kept_unlockClass,
    State.kept_linkAck, State.keeps_linkBulk, State.kept_linkClap, State.kept_linkRealTime, h]

@[simp] theorem keeps_superframeReceiveOp {k₀ : Kept} (l : Nat) (frame : Option (List Byte)) (s : State)
    (h : Keeps k₀ s.kept) : Keeps k₀ (superframeReceiveOp l frame s).kept := by
  simp only [superframeReceiveOp]
  repeat' split
  all_goals simp only [State.kept_linkErrored, State.keeps_linkIntact, h]

/-! ### Machine/Power.lean -/

@[simp] theorem State.keeps_regionOff {k₀ : Kept} (s : State) (n : Nat) (h : Keeps k₀ s.kept) :
    Keeps k₀ (s.regionOff n).kept := by
  unfold State.regionOff
  extract_lets s1 s2 s3 s4
  have h3 : s3.kept = s.kept := by simp [s3, s2, s1]
  have h4 : Keeps k₀ s4.kept := State.keeps_eraseMem _ _ _ (s3.keeps_eraseMem _ _ (by rwa [h3]))
  simpa using h4

@[simp] theorem keeps_powerEntryDoneOp {k₀ : Kept} (n : Nat) (s : State) (h : Keeps k₀ s.kept) :
    Keeps k₀ (powerEntryDoneOp n s).kept := by
  simp only [powerEntryDoneOp]
  repeat' split
  all_goals simp only [State.kept_setPower, State.kept_countTransition, State.kept_unlockRegion, State.keeps_regionOff,
    State.kept_tilePllStops, h]

/-- A reset of the logic side leaves the queue and the variant, and every memory unwritten. -/
theorem State.kept_logicReset (s : State) : s.logicReset.kept = (s.pending, s.variant, []) := by
  have h : ((s.cutRamps 0).cutRamps 1).kept = s.kept := by simp
  obtain ⟨hp, hv, -⟩ := State.kept_eq_iff.1 h
  simp only [State.logicReset, State.kept, State.reset, hp, hv]

@[simp] theorem State.keeps_logicReset {k₀ : Kept} (s : State) (h : Keeps k₀ s.kept) : Keeps k₀ s.logicReset.kept := by
  rw [State.kept_logicReset]
  exact ⟨h.pending, h.variant, fun _ => rfl⟩
@[simp] theorem State.keeps_powerOn {k₀ : Kept} (s : State) (h : Keeps k₀ s.kept) : Keeps k₀ (s.powerOn).kept := by
  simp [State.powerOn, h]

@[simp] theorem keeps_railFaultOp {k₀ : Kept} (rail : Nat) (s : State) (h : Keeps k₀ s.kept) :
    Keeps k₀ (railFaultOp rail s).kept := by
  simp only [railFaultOp, State.kept_ite, keeps_ite, implies_true, and_self, State.kept_forEach, State.kept_update,
    State.kept_setBit, State.kept_setLine, State.kept_muteOutputs, State.kept_moduleCut, State.kept_regionReset,
    State.keeps_logicReset, State.kept_noteRails, h]

@[simp] theorem keeps_railBack {k₀ : Kept} (rail : Nat) (s : State) (h : Keeps k₀ s.kept) :
    Keeps k₀ (railBack rail s).2.kept := by
  simp only [railBack]
  repeat' split
  all_goals simp only [State.kept_update, State.kept_setLine, State.keeps_logicReset, State.kept_noteRails,
    State.keeps_powerOn, h]

@[simp] theorem State.keeps_shutdownDie {k₀ : Kept} (s : State) (d : Nat) (h : Keeps k₀ s.kept) :
    Keeps k₀ (s.shutdownDie d).kept := by
  simp [State.shutdownDie, h]

@[simp] theorem State.keeps_readDie {k₀ : Kept} (s : State) (d : Nat) (t : Int) (h : Keeps k₀ s.kept) :
    Keeps k₀ (s.readDie d t).kept := by
  simp only [State.readDie, State.kept_ite, keeps_ite, implies_true, and_self, State.kept_update, State.kept_setReg,
    State.kept_setBit, State.kept_criticalDie, State.keeps_shutdownDie, h]

@[simp] theorem keeps_thermalOp {k₀ : Kept} (temps : List (BitVec 16)) (s : State) (h : Keeps k₀ s.kept) :
    Keeps k₀ (thermalOp temps s).kept := by
  unfold thermalOp
  split
  · exact h
  · dsimp only
    rw [State.kept_thermalLines]
    refine State.keeps_forEach _ _ _ (fun d t => ?_) (by simpa using h)
    split
    · split <;> simp
    · exact .refl

/-! ### Machine/Mailbox.lean -/

@[simp] theorem State.keeps_mbWrite {k₀ : Kept} (s : State) (k : Nat) (f : List Byte) (h : Keeps k₀ s.kept) :
    Keeps k₀ (s.mbWrite k f).kept := by
  simp [State.mbWrite, h]
@[simp] theorem State.keeps_mbRespond {k₀ : Kept} (s : State) (k : Nat) (f : List Byte) (h : Keeps k₀ s.kept) :
    Keeps k₀ (s.mbRespond k f).kept := by
  simp [State.mbRespond, h]

@[simp] theorem State.keeps_answer {k₀ : Kept} (s : State) (r : Request) (f : List Byte) (h : Keeps k₀ s.kept) :
    Keeps k₀ (s.answer r f).kept := by
  simp only [State.answer]
  repeat' split
  all_goals simp only [State.kept_emit, State.kept_countServed, State.keeps_mbRespond, h]

@[simp] theorem State.keeps_submit {k₀ : Kept} (s : State) (r : Request) (bad : List (Bool × Nat)) (h : Keeps k₀ s.kept) :
    Keeps k₀ (s.submit r bad).kept := by
  simp only [State.submit]
  repeat' split
  all_goals simp only [State.kept_countServed, State.kept_renew, State.keeps_answer, State.kept_enqueue, h]

@[simp] theorem State.keeps_receiveFrame {k₀ : Kept} (s : State) (d : Datagram) (h : Keeps k₀ s.kept) :
    Keeps k₀ (s.receiveFrame d).kept := by
  simp [State.receiveFrame, h]
@[simp] theorem keeps_requestEnqueueOp {k₀ : Kept} (d : Datagram) (s : State) (h : Keeps k₀ s.kept) :
    Keeps k₀ (requestEnqueueOp d s).kept := by
  simp [requestEnqueueOp, h]
@[simp] theorem keeps_badFrameOp {k₀ : Kept} (d : Datagram) (s : State) (h : Keeps k₀ s.kept) :
    Keeps k₀ (badFrameOp d s).kept := by
  simp [badFrameOp, h]

@[simp] theorem keeps_mbSubmitOp {k₀ : Kept} (k : Nat) (s : State) (h : Keeps k₀ s.kept) :
    Keeps k₀ (mbSubmitOp k s).kept := by
  simp only [mbSubmitOp, State.kept_ite, keeps_ite, implies_true, and_self, State.kept_setBit, State.keeps_submit,
    State.kept_mbResult, h]

@[simp] theorem keeps_mbReleaseOp {k₀ : Kept} (k : Nat) (s : State) (h : Keeps k₀ s.kept) :
    Keeps k₀ (mbReleaseOp k s).kept := by
  simp only [mbReleaseOp]
  repeat' split
  all_goals simp only [State.kept_update, State.kept_setReady, State.keeps_mbWrite, State.kept_mbResult, h]

@[simp] theorem keeps_mbCtrlOp {k₀ : Kept} (k : Nat) (v : Word) (s : State) (h : Keeps k₀ s.kept) :
    Keeps k₀ (mbCtrlOp k v s).kept := by
  unfold mbCtrlOp
  split <;> simp [h]

/-! ### Machine/Host.lean -/

@[simp] theorem keeps_perstAssertOp {k₀ : Kept} (s : State) (h : Keeps k₀ s.kept) : Keeps k₀ (perstAssertOp s).kept := by
  simp [perstAssertOp, h]
@[simp] theorem keeps_perstRelease {k₀ : Kept} (speed width : Nat) (s : State) (h : Keeps k₀ s.kept) :
    Keeps k₀ (perstRelease speed width s).kept := by
  simp [perstRelease, h]

@[simp] theorem State.keeps_writeEnabled {k₀ : Kept} (s : State) (a : Nat) (bs : List (Option Byte)) (h : Keeps k₀ s.kept) :
    Keeps k₀ (s.writeEnabled a bs).kept := by
  induction bs generalizing s a with
  | nil => exact h
  | cons b bs ih => cases b <;> simp [State.writeEnabled, ih, h]

@[simp] theorem keeps_bar2AccessOp {k₀ : Kept} (op : Bar2Op) (s : State) (h : Keeps k₀ s.kept) :
    Keeps k₀ (bar2AccessOp op s).kept := by
  simp only [bar2AccessOp]
  repeat' split
  all_goals simp only [State.kept_setBit, State.kept_emit, State.kept_eccError, State.keeps_writeEnabled, h]

/-! ### Machine/Writes.lean -/

@[simp] theorem keeps_mtCmdOp {k₀ : Kept} (m : Nat) (v : Word) (s : State) (h : Keeps k₀ s.kept) :
    Keeps k₀ (mtCmdOp m v s).kept := by
  simp [mtCmdOp, h]

theorem keeps_writeC {who : Requester} {r : Reg} {i : Nat} {v : Word} {op : State → State}
    (h : writeC who r i v = some op) (s : State) : Keeps s.kept (op s).kept := by
  unfold writeC at h
  split at h
  case h_46 => cases h
  all_goals
    obtain rfl := Option.some.inj h
    simp

theorem keeps_commandWrite {who : Requester} {r : Reg} {i : Nat} {v : Word} {op : State → State}
    (h : commandWrite who r i v = some op) (s : State) : Keeps s.kept (op s).kept := by
  unfold commandWrite at h
  split at h
  · obtain rfl := Option.some.inj h
    simp
  · obtain rfl := Option.some.inj h
    simp
  · rcases Option.or_eq_some_iff.1 h with h | ⟨-, h⟩
    · simp [kept_writeA h s]
    · rcases Option.or_eq_some_iff.1 h with h | ⟨-, h⟩
      · simp [kept_writeB h s]
      · exact keeps_writeC h s

@[simp] theorem keeps_writeReg {k₀ : Kept} (who : Requester) (r : Reg) (i : Nat) (v : Word) (s : State)
    (h : Keeps k₀ s.kept) : Keeps k₀ (writeReg who r i v s).kept := by
  unfold writeReg
  extract_lets reach
  split
  · exact h
  · split
    · simpa using h
    · split
      next op hop => exact h.trans (keeps_commandWrite hop s)
      · split
        · split <;> simpa using h
        · split <;> simpa using h

@[simp] theorem keeps_writePair {k₀ : Kept} (who : Requester) (r h : Reg) (i : Nat) (v : BitVec 64) (s : State)
    (hk : Keeps k₀ s.kept) : Keeps k₀ (writePair who r h i v s).kept := by
  simp only [writePair]
  repeat' split
  all_goals simp only [State.kept_setFld, kept_wtIncOp, kept_clusterResetOp, kept_bar2BaseOp, keeps_writeReg, hk]

/-! ### Machine/Bus.lean -/

@[simp] theorem keeps_segWrite {k₀ : Kept} (who : Requester) (n o : Nat) (v : Word) (s : State) (h : Keeps k₀ s.kept) :
    Keeps k₀ (segWrite who n o v s).kept := by
  simp [segWrite, h]
@[simp] theorem keeps_clusterWrite32 {k₀ : Kept} (who : Requester) (g o : Nat) (v : Word) (s : State) (h : Keeps k₀ s.kept) :
    Keeps k₀ (clusterWrite32 who g o v s).kept := by
  simp [clusterWrite32, h]

@[simp] theorem keeps_memoryWrite {k₀ : Kept} (who : Requester) (m : Mapped) (a n : Nat) (v : BitVec 64) (s : State)
    (h : Keeps k₀ s.kept) : Keeps k₀ (memoryWrite who m a n v s).kept := by
  simp only [memoryWrite]
  repeat' split
  all_goals simp only [State.keeps_writeLe, State.keeps_clusterPut, keeps_segWrite, keeps_clusterWrite32, h]

theorem keeps_writeAt {k₀ : Kept} {go : State → State} (hgo : ∀ t, Keeps t.kept (go t).kept) (who : Requester) (a n : Nat)
    (v : BitVec 64) (s : State) (h : Keeps k₀ s.kept) : Keeps k₀ (writeAt go who a n v s).kept := by
  unfold writeAt
  split
  · simp [h]
  · split
    · split
      · exact h.trans (hgo s)
      · exact h
    · split
      · split <;> simp [h]
      · simp [h]
    · exact h

theorem keeps_busWrite {k₀ : Kept} {go : State → State} (hgo : ∀ t, Keeps t.kept (go t).kept) (who : Requester) (a n : Nat)
    (v : BitVec 64) (s : State) (h : Keeps k₀ s.kept) : Keeps k₀ (busWrite go who a n v s).kept := by
  unfold busWrite
  split
  · exact s.keeps_access who a _ (fun t => keeps_writeAt hgo who a n v t .refl) h
  · simpa using h

theorem keeps_registerOp {k₀ : Kept} {go : State → State} (hgo : ∀ t, Keeps t.kept (go t).kept) (who : Requester) (op : BusOp)
    (s : State) (h : Keeps k₀ s.kept) : Keeps k₀ (registerOp go who op s).kept := by
  cases op with
  | write32 a v => exact keeps_busWrite hgo who _ _ _ s h
  | write64 a v => exact keeps_busWrite hgo who _ _ _ s h
  | read32 | read64 | msixRead | msixWrite => simpa [registerOp] using h

@[simp] theorem keeps_dozeOp {k₀ : Kept} (who : Requester) (op : BusOp) (s : State) (h : Keeps k₀ s.kept) :
    Keeps k₀ (dozeOp who op s).kept := by
  unfold dozeOp
  split
  · split
    · exact keeps_registerOp (fun _ => .refl) who op s h
    · exact h
  · exact h

/-! ### Machine/Objects.lean -/

theorem keeps_reported {k₀ : Kept} (r : Reg) (i : Nat) (op : State → State) (s : State)
    (hop : ∀ t, Keeps t.kept (op t).kept) (h : Keeps k₀ s.kept) : Keeps k₀ (reported r i op s).2.kept := by
  unfold reported
  split
  next q j hi lo _ =>
    have ht := h.trans (by simpa using hop (s.setFld q j hi lo (2 ^ (hi + 1 - lo) - 1)))
    dsimp only
    split <;> simpa using ht
  · exact h.trans (hop s)

@[simp] theorem keeps_putHome {k₀ : Kept} (r : Reg) (i hi lo v : Nat) (s : State) (h : Keeps k₀ s.kept) :
    Keeps k₀ (putHome r i hi lo v s).2.kept :=
  keeps_reported r i _ s (fun t => keeps_writeReg _ _ _ _ t .refl) h

@[simp] theorem Obj.keeps_writeHome {k₀ : Kept} (o : Obj) (pos v : Nat) (s : State) (h : Keeps k₀ s.kept) :
    Keeps k₀ (o.writeHome pos v s).2.kept := by
  unfold Obj.writeHome
  split
  case h_2 => exact keeps_reported _ _ _ s (fun t => keeps_writePair _ _ _ _ _ t .refl) h
  case h_4 => exact keeps_putHome _ _ _ _ _ _ (keeps_putHome _ _ _ _ _ _ (keeps_putHome _ _ _ _ _ _ h))
  case h_8 => split <;> simp [h]
  all_goals simp [h]

theorem State.keeps_writeValue {k₀ : Kept} (s : State) {go : State → State} (hgo : ∀ t, Keeps t.kept (go t).kept)
    (v : ObjValue) (index sub n : Nat) (h : Keeps k₀ s.kept) : Keeps k₀ (s.writeValue go v index sub n).2.kept := by
  cases v
  case featGo =>
    simp only [State.writeValue]
    split
    · exact h.trans (hgo s)
    · exact h
  all_goals simpa [State.writeValue] using h

theorem State.keeps_objStore {k₀ : Kept} (s : State) {go : State → State} (hgo : ∀ t, Keeps t.kept (go t).kept) (core : Fin 4)
    (o : Obj) (index sub pos n : Nat) (h : Keeps k₀ s.kept) : Keeps k₀ (s.objStore go core o index sub pos n).2.kept := by
  unfold State.objStore
  split
  · simpa using h
  · exact s.keeps_writeValue hgo _ index sub n h
  · split <;> simp [h]

theorem State.keeps_objWrite {k₀ : Kept} (s : State) {go : State → State} (hgo : ∀ t, Keeps t.kept (go t).kept) (core : Fin 4)
    (index sub : Nat) (bs : List Byte) (h : Keeps k₀ s.kept) : Keeps k₀ (s.objWrite go core index sub bs).2.kept := by
  unfold State.objWrite
  split
  · exact h
  · exact h
  next o pos _ =>
    split
    · exact h
    · have hr := s.keeps_objStore hgo core o index sub pos (leNat bs) h
      dsimp only
      split <;> simpa using hr

@[simp] theorem State.keeps_loadOne {k₀ : Kept} (s img : State) (x : Nat × Nat × Obj × Nat) (h : Keeps k₀ s.kept) :
    Keeps k₀ (s.loadOne img x).kept := by
  unfold State.loadOne
  extract_lets -underBinder o pos bs
  split
  · exact h
  · split
    · simpa using h
    · have hr : Keeps k₀ (s.objStore id 0 o x.1 x.2.1 pos (leNat bs)).2.kept :=
        s.keeps_objStore (fun _ => .refl) 0 o x.1 x.2.1 pos (leNat bs) h
      dsimp only
      split <;> simpa using hr

@[simp] theorem State.keeps_load {k₀ : Kept} (s : State) (p : Nat → ObjPlace → Bool) (h : Keeps k₀ s.kept) :
    Keeps k₀ (s.load p).kept := by
  unfold State.load
  split <;> simp [h]

@[simp] theorem State.keeps_loadDies {k₀ : Kept} (s : State) (h : Keeps k₀ s.kept) : Keeps k₀ (s.loadDies).kept := by
  simp [State.loadDies, h]
@[simp] theorem State.keeps_loadLive {k₀ : Kept} (s : State) (h : Keeps k₀ s.kept) : Keeps k₀ (s.loadLive).kept := by
  simp [State.loadLive, h]
@[simp] theorem keeps_featGoOp {k₀ : Kept} (s : State) (h : Keeps k₀ s.kept) : Keeps k₀ (featGoOp s).kept := by
  simp [featGoOp, h]

@[simp] theorem keeps_objectCommand {k₀ : Kept} (index sub : Nat) (v : Word) (s : State) (h : Keeps k₀ s.kept) :
    Keeps k₀ (objectCommand index sub v s).kept := by
  simp only [objectCommand, State.kept_ite, keeps_ite, Keeps.refl, implies_true, and_self, State.kept_emit,
    State.keeps_objWrite, keeps_featGoOp, h]

/-! ### Machine/Boot.lean -/

@[simp] theorem State.keeps_startUp {k₀ : Kept} (s : State) (h : Keeps k₀ s.kept) : Keeps k₀ (s.startUp).kept := by
  simp [State.startUp, h]
@[simp] theorem keeps_powerUpOp {k₀ : Kept} (s : State) (h : Keeps k₀ s.kept) : Keeps k₀ (powerUpOp s).kept := by
  simp [powerUpOp, h]
@[simp] theorem keeps_supplyRecoveryOp {k₀ : Kept} (rail : Nat) (s : State) (h : Keeps k₀ s.kept) :
    Keeps k₀ (supplyRecoveryOp rail s).kept := by
  simp [supplyRecoveryOp, h]
@[simp] theorem keeps_perstDeassertOp {k₀ : Kept} (speed width : Nat) (s : State) (h : Keeps k₀ s.kept) :
    Keeps k₀ (perstDeassertOp speed width s).kept := by
  simp [perstDeassertOp, h]
@[simp] theorem State.keeps_featReset {k₀ : Kept} (s : State) (h : Keeps k₀ s.kept) : Keeps k₀ (s.featReset).kept := by
  simp only [State.featReset, State.kept_ite, keeps_ite, implies_true, and_self, State.kept_update, State.kept_resetRegs,
    State.kept_resetCore, State.keeps_load, keeps_featGoOp, h]
@[simp] theorem keeps_flrOp {k₀ : Kept} (s : State) (h : Keeps k₀ s.kept) : Keeps k₀ (flrOp s).kept := by
  simp [flrOp, h]
@[simp] theorem keeps_biasSupplyRiseOp {k₀ : Kept} (die : Nat) (extrefOk : Bool) (s : State) (h : Keeps k₀ s.kept) :
    Keeps k₀ (biasSupplyRiseOp die extrefOk s).kept := by
  simp [biasSupplyRiseOp, h]
@[simp] theorem keeps_isolatorUpOp {k₀ : Kept} (die : Nat) (s : State) (h : Keeps k₀ s.kept) :
    Keeps k₀ (isolatorUpOp die s).kept := by
  simp [isolatorUpOp, h]

/-! ### Machine/Service.lean -/

@[simp] theorem State.keeps_reply {k₀ : Kept} (s : State) (r : Request) (status aux : Nat) (payload : List Byte)
    (h : Keeps k₀ s.kept) : Keeps k₀ (s.reply r status aux payload).kept := by
  simp [State.reply, h]

@[simp] theorem keeps_takeRequest {k₀ : Kept} (core : Fin 4) (op : Nat) (f : Request → State → State) (s : State)
    (hf : ∀ r t, Keeps t.kept (f r t).kept) (h : Keeps k₀ s.kept) : Keeps k₀ (takeRequest core op f s).kept := by
  unfold takeRequest
  split
  next r rest _ =>
    split
    · exact h.trans (by simpa using hf r { s with od := { s.od with queue := rest } })
    · exact h
  · exact h

@[simp] theorem State.keeps_helloAnswer {k₀ : Kept} (s : State) (r : Request) (session status aux : Nat) (payload : List Byte)
    (h : Keeps k₀ s.kept) : Keeps k₀ (s.helloAnswer r session status aux payload).kept := by
  simp [State.helloAnswer, h]

@[simp] theorem keeps_helloServed {k₀ : Kept} (r : Request) (s : State) (h : Keeps k₀ s.kept) :
    Keeps k₀ (helloServed r s).kept := by
  simp only [helloServed]
  repeat' split
  all_goals simp only [State.kept_setSession, State.kept_renew, State.keeps_helloAnswer, h]

@[simp] theorem keeps_helloOp {k₀ : Kept} (core : Nat) (s : State) (h : Keeps k₀ s.kept) : Keeps k₀ (helloOp core s).kept :=
  keeps_takeRequest _ _ _ s (fun r t => keeps_helloServed r t .refl) h

@[simp] theorem keeps_byeServed {k₀ : Kept} (r : Request) (s : State) (h : Keeps k₀ s.kept) :
    Keeps k₀ (byeServed r s).kept := by
  unfold byeServed
  split <;> simp [h]

@[simp] theorem keeps_byeOp {k₀ : Kept} (core : Nat) (s : State) (h : Keeps k₀ s.kept) : Keeps k₀ (byeOp core s).kept :=
  keeps_takeRequest _ _ _ s (fun r t => keeps_byeServed r t .refl) h
@[simp] theorem keeps_readServed {k₀ : Kept} (core : Fin 4) (r : Request) (s : State) (h : Keeps k₀ s.kept) :
    Keeps k₀ (readServed core r s).kept := by
  simp [readServed, h]
@[simp] theorem keeps_readOp {k₀ : Kept} (core : Nat) (s : State) (h : Keeps k₀ s.kept) : Keeps k₀ (readOp core s).kept :=
  keeps_takeRequest _ _ _ s (fun r t => keeps_readServed _ r t .refl) h
@[simp] theorem keeps_writeServed {k₀ : Kept} (core : Fin 4) (r : Request) (s : State) (h : Keeps k₀ s.kept) :
    Keeps k₀ (writeServed core r s).kept :=
  State.keeps_reply _ _ _ _ _ (s.keeps_objWrite (fun t => keeps_featGoOp t .refl) core _ _ _ h)
@[simp] theorem keeps_writeOp {k₀ : Kept} (core : Nat) (s : State) (h : Keeps k₀ s.kept) : Keeps k₀ (writeOp core s).kept :=
  keeps_takeRequest _ _ _ s (fun r t => keeps_writeServed _ r t .refl) h

@[simp] theorem keeps_readBlockServed {k₀ : Kept} (core : Fin 4) (r : Request) (s : State) (h : Keeps k₀ s.kept) :
    Keeps k₀ (readBlockServed core r s).kept := by
  unfold readBlockServed
  split <;> simp [h]

@[simp] theorem keeps_readBlockOp {k₀ : Kept} (core : Nat) (s : State) (h : Keeps k₀ s.kept) :
    Keeps k₀ (readBlockOp core s).kept :=
  keeps_takeRequest _ _ _ s (fun r t => keeps_readBlockServed _ r t .refl) h

@[simp] theorem keeps_writeEntries {k₀ : Kept} (core : Fin 4) (index sub : Nat) (vs : List (List Byte)) (s : State)
    (h : Keeps k₀ s.kept) : Keeps k₀ (writeEntries core index vs sub s).2.kept := by
  induction vs generalizing sub s with
  | nil => exact h
  | cons v vs ih => exact ih _ _ (s.keeps_objWrite (fun t => keeps_featGoOp t .refl) core index sub v h)

@[simp] theorem keeps_writeBlockServed {k₀ : Kept} (core : Fin 4) (r : Request) (s : State) (h : Keeps k₀ s.kept) :
    Keeps k₀ (writeBlockServed core r s).kept := by
  simp only [writeBlockServed]
  repeat' split
  all_goals simp only [State.keeps_reply, keeps_writeEntries, h]

@[simp] theorem keeps_writeBlockOp {k₀ : Kept} (core : Nat) (s : State) (h : Keeps k₀ s.kept) :
    Keeps k₀ (writeBlockOp core s).kept :=
  keeps_takeRequest _ _ _ s (fun r t => keeps_writeBlockServed _ r t .refl) h

@[simp] theorem keeps_subscribeServed {k₀ : Kept} (r : Request) (s : State) (h : Keeps k₀ s.kept) :
    Keeps k₀ (subscribeServed r s).kept := by
  simp only [subscribeServed]
  repeat' split
  all_goals simp only [State.kept_setSession, State.keeps_reply, h]

@[simp] theorem keeps_subscribeOp {k₀ : Kept} (core : Nat) (s : State) (h : Keeps k₀ s.kept) :
    Keeps k₀ (subscribeOp core s).kept :=
  keeps_takeRequest _ _ _ s (fun r t => keeps_subscribeServed r t .refl) h
@[simp] theorem keeps_statusServed {k₀ : Kept} (r : Request) (s : State) (h : Keeps k₀ s.kept) :
    Keeps k₀ (statusServed r s).kept := by
  simp [statusServed, h]
@[simp] theorem keeps_statusOp {k₀ : Kept} (core : Nat) (s : State) (h : Keeps k₀ s.kept) : Keeps k₀ (statusOp core s).kept :=
  keeps_takeRequest _ _ _ s (fun r t => keeps_statusServed r t .refl) h

/-! ## Every command and every step -/

/-- Whatever command is carried out, the queue and the variant are what they were, and canonical memories stay canonical.
A bus write stands apart: a write of FEAT_CTRL among them carries out `featGoOp`, which loads the saved objects. -/
theorem exec_keeps {c : Instr} {s t : State} (h : exec c s = .next t) : Keeps s.kept t.kept := by
  cases c
  case registerWrite who op =>
    obtain rfl := Host.Outcome.next.inj h
    exact keeps_registerOp (fun u => keeps_featGoOp u .refl) who op s .refl
  all_goals
    obtain rfl := Host.Outcome.next.inj h
    simp

/-- Settles O7: every command keeps the queue and the variant, case by case in `exec_keeps`. -/
theorem noCommandTouchesQueueOrVariant : Obligations.NoCommandTouchesQueueOrVariant :=
  fun _ _ _ h => ⟨(exec_keeps h).pending, (exec_keeps h).variant⟩

/-- Settles O6: a step carries out the command at the front of the queue or lets one cc pass, and `exec_keeps` and `kept_pass`
say what each keeps. -/
theorem everyStepKeepsCanonicalMemory : Obligations.EveryStepKeepsCanonicalMemory := by
  intro s t hs h
  unfold step at h
  split at h
  · obtain rfl := Host.Outcome.next.inj h
    have hk : Keeps s.kept (s.pass 1).kept := by simp
    exact hk.canonical hs
  · exact (exec_keeps h).canonical hs

/-! ### Accesses that their gate stops -/

theorem State.access_of_not_canAccess {s : State} {who : Requester} (h : s.canAccess who = false) (a : Nat)
    (op : State → State) : s.access who a op = s := by
  simp [State.access, h]

theorem State.access_of_closed {s : State} {who : Requester} {a : Nat} {g : Gate} (hc : s.canAccess who = true)
    (hg : s.gate who a = g) (ho : g ≠ .open) (op : State → State) : s.access who a op = s.throughGate who a g := by
  cases g <;> simp_all [State.access]

theorem State.accessRead_of_not_canAccess {s : State} {who : Requester} (h : s.canAccess who = false) (a : Nat)
    (op : State → BitVec 64 × State) : s.accessRead who a op = s := by
  simp [State.accessRead, h]

theorem State.accessRead_of_unsupported {s : State} {who : Requester} {a : Nat} (hc : s.canAccess who = true)
    (hg : s.gate who a = .unsupported) (op : State → BitVec 64 × State) :
    s.accessRead who a op = s.emit (.unsupported who) := by
  simp [State.accessRead, State.throughGate, hc, hg]

/-- Apart from an Unsupported Request, a read that its gate stops is answered with 0. -/
theorem State.accessRead_of_closed {s : State} {who : Requester} {a : Nat} {g : Gate} (hc : s.canAccess who = true)
    (hg : s.gate who a = g) (ho : g ≠ .open) (hu : g ≠ .unsupported) (op : State → BitVec 64 × State) :
    s.accessRead who a op = (s.throughGate who a g).emit (.readData who 0) := by
  cases g <;> simp_all [State.accessRead]

/-- A row of software that writes one place is one access to that place: `writeTarget` names the place that `exec` accesses. -/
theorem exec_of_writeTarget {c : Instr} {who : Requester} {a : Nat} (h : writeTarget c = some (who, a)) (s : State) :
    ∃ op, exec c s = .next (s.access who a op) := by
  cases c <;> cases h <;> exact ⟨_, rfl⟩

/-- The same for the rows that read. -/
theorem exec_of_readTarget {c : Instr} {who : Requester} {a : Nat} (h : readTarget c = some (who, a)) (s : State) :
    ∃ op, exec c s = .next (s.accessRead who a op) := by
  cases c <;> cases h <;> exact ⟨_, rfl⟩

/-- Settles O9: each row is one access (`exec_of_writeTarget`, `exec_of_readTarget`), and what a closed gate leaves of an access
does not depend on the row's own effect. -/
theorem closedGatesStopAccesses : Obligations.ClosedGatesStopAccesses := by
  refine fun c who a s => ⟨fun hw => ?_, fun hr => ?_⟩
  · obtain ⟨op, hop⟩ := exec_of_writeTarget hw s
    rw [hop]
    refine ⟨fun hc => congrArg _ (State.access_of_not_canAccess hc a op), fun hc => ?_⟩
    have stopped {g : Gate} (hg : s.gate who a = g) (ho : g ≠ .open) := State.access_of_closed hc hg ho op
    refine ⟨?_, ?_, ?_, ?_⟩ <;> exact fun hg => congrArg _ (stopped hg nofun)
  · obtain ⟨op, hop⟩ := exec_of_readTarget hr s
    rw [hop]
    refine ⟨fun hc => congrArg _ (State.accessRead_of_not_canAccess hc a op), fun hc => ?_⟩
    have answered {g : Gate} (hg : s.gate who a = g) (ho : g ≠ .open) (hu : g ≠ .unsupported) :=
      State.accessRead_of_closed hc hg ho hu op
    refine ⟨?_, ?_, ?_, fun hg => congrArg _ (State.accessRead_of_unsupported hc hg op)⟩ <;>
      exact fun hg => congrArg _ (answered hg nofun nofun)

/-! ### The gate of an address -/

theorem State.gate_of_window {s : State} {who : Requester} {a n : Nat} (hd : who = .host → s.inD3hot = false)
    (hw : windowRegion a = some n) : s.gate who a =
      if !s.hasRegion n then .absent
      else if !s.active || !(featuresAt a).all s.feat then .notLive
      else if 3 ≤ (s.regionPower n).state ∧ 0x10000 ≤ windowOffset a then .asleep
      else .open := by
  have hs : ¬(who = .host ∧ s.inD3hot = true) := fun h => by simp [hd h.1] at h
  simp only [State.gate, if_neg hs, hw]

theorem State.gate_of_hub {s : State} {who : Requester} {a : Nat} (hd : who = .host → s.inD3hot = false)
    (ha : a < 0xC0000) : s.gate who a =
      if liveBeforeGo a then .open else if !s.active || !(featuresAt a).all s.feat then .notLive else .open := by
  have hs : ¬(who = .host ∧ s.inD3hot = true) := fun h => by simp [hd h.1] at h
  have hw : windowRegion a = none := if_pos (by omega)
  have hc : ¬0xC0000 ≤ a := by omega
  simp only [State.gate, if_neg hs, hw, if_neg hc]

theorem liveBeforeGo_iff {a : Nat} : liveBeforeGo a = true ↔ a < 0x200 ∨ 0xB0000 ≤ a ∧ a < 0xC0000 := by
  simp [liveBeforeGo]

/-- Settles O10: the clauses below 0xC0000 by `State.gate_of_hub`, those of a window by `State.gate_of_window`. -/
theorem gateOfAnAddress : Obligations.GateOfAnAddress := by
  refine fun who a n s hd => ⟨fun ha h1 h2 => ?_, fun _ h => ?_, fun h1 h2 => ?_, fun hw hn => ?_, fun hw hn ha => ?_,
    fun hw hn ha hf => ?_⟩
  · have hl : ¬liveBeforeGo a := by rw [liveBeforeGo_iff]; omega
    simp [State.gate_of_hub hd (by omega : a < 0xC0000), hl, ha]
  · simp [State.gate_of_hub hd (by omega : a < 0xC0000), liveBeforeGo_iff.2 (.inl h)]
  · simp [State.gate_of_hub hd h2, liveBeforeGo_iff.2 (.inr ⟨h1, h2⟩)]
  · simp [State.gate_of_window hd hw, State.hasRegion, hn]
  · simp [State.gate_of_window hd hw, State.hasRegion, hn, ha]
  · simp [State.gate_of_window hd hw, State.hasRegion, hn, ha, hf]

end Sys2Proof.Machine
end

-- ==== Proof of the reset statement ====
section
/-!
PROOFS. What reset leaves: no register is stored, so each reads the reset value of its table (R61, R358, R366, R410), and a
register whose table gives no field a value reads 0.
-/

namespace Sys2Proof.Machine

/-- Reset stores no register: each reads its reset value. -/
theorem State.reset_reg (r : Reg) (i : Nat) : State.reset.reg r i = resetWord .rq512 r i := rfl

theorem fieldsReset_eq_zero {fs : List RegField} (h : ∀ f ∈ fs, f.reset = 0) : fieldsReset fs = 0 := by
  have hfold : fs.foldl (fun a f => a ||| (f.reset % 2 ^ (f.hi + 1 - f.lo)) <<< f.lo) 0 = 0 := by
    induction fs with
    | nil => rfl
    | cons f fs ih =>
      obtain ⟨hf, hfs⟩ := List.forall_mem_cons.1 h
      simpa [hf] using ih hfs
  simp [fieldsReset, hfold]

/-- A register with no reset value of its own, and none in the fields of its table, reads 0. -/
theorem State.reset_reg_eq_zero {r : Reg} {i : Nat} (hr : resetWord .rq512 r i = fieldsReset (regInfo r).fields)
    (h : ∀ f ∈ (regInfo r).fields, f.reset = 0) : State.reset.reg r i = 0 := by
  rw [State.reset_reg, hr, fieldsReset_eq_zero h]

/-- The set of features is not in force before a GO is accepted (R358). -/
theorem State.active_of_not_goAccepted {s : State} (h : s.goAccepted = false) : s.active = false := by
  simp [State.active, h]

theorem State.reset_goAccepted : State.reset.goAccepted = false := by
  have hctrl : State.reset.reg .FEAT_CTRL 0 = 0 := State.reset_reg_eq_zero rfl (by decide)
  simp [State.goAccepted, State.bit, hctrl, bits]

/-- Before the wall time is first set its step is pending (R410). -/
theorem State.reset_stepPending : State.reset.bit .WT_STATUS 0 3 = true := by
  have hstatus : State.reset.reg .WT_STATUS 0 = 8 := rfl
  simp [State.bit, hstatus, bits]

/-- Settles O4: what is empty or stopped at reset holds by definition; a register reads 0 by
`State.reset_reg_eq_zero`, or by `State.reset_reg` the value that `resetWord` gives it. -/
theorem resetState : Obligations.ResetState := by
  refine ⟨rfl, rfl, rfl, rfl, ?featOffer, ?featAccept, State.active_of_not_goAccepted State.reset_goAccepted, rfl,
    ?clapStatus, rfl, ?incLo, ?incHi, ?wtCtrl, State.reset_stepPending, ?domain0, ?domain1, ?hostTarget, ?coreTarget,
    ?source, ?cut, ?variant⟩
  case featAccept | clapStatus | incLo | source | cut => exact State.reset_reg_eq_zero rfl (by decide)
  case featOffer | incHi | wtCtrl | domain0 | domain1 | hostTarget | coreTarget | variant => exact State.reset_reg _ _

end Sys2Proof.Machine
end

-- ==== Proof of the clapper commands statement ====
section
/-!
PROOFS. ARM, DISARM and LOOP_MEAS (R42, R45, R60): each is one write of `CLAP_CMD`, whose effect meets the state that the access
leaves (`State.onLink`). That state differs from the one before it in `HIF_LINK` alone, so the branch taken is decided there as
before the access.
-/

namespace Sys2Proof.Machine

/-! ### The state that an access of the host leaves -/

/-- What no write of `HIF_LINK` changes, an access through the link leaves as it was. -/
theorem State.onLink_field {β : Type} (f : State → β) (h : ∀ s w, f (s.setReg .HIF_LINK 0 w) = f s) (s : State)
    (who : Requester) : f (s.onLink who) = f s := by
  unfold State.onLink State.leaveL1
  split
  · split
    · exact h _ _
    · rfl
  · rfl

@[simp] theorem State.onLink_clap (s : State) (who : Requester) : (s.onLink who).clap = s.clap :=
  State.onLink_field (·.clap) (fun _ _ => rfl) s who

@[simp] theorem State.onLink_now (s : State) (who : Requester) : (s.onLink who).now = s.now :=
  State.onLink_field (·.now) (fun _ _ => rfl) s who

theorem State.onLink_fld (s : State) (who : Requester) (q : Reg) (j hi lo : Nat) (h : q ≠ .HIF_LINK) :
    (s.onLink who).fld q j hi lo = s.fld q j hi lo := State.fld_congr (s.onLink_reg who q j h)

theorem State.onLink_bit (s : State) (who : Requester) (q : Reg) (j b : Nat) (h : q ≠ .HIF_LINK) :
    (s.onLink who).bit q j b = s.bit q j b := State.bit_congr (s.onLink_reg who q j h)

@[simp] theorem State.onLink_role (s : State) (who : Requester) : (s.onLink who).role = s.role :=
  s.onLink_fld who _ _ _ _ (by decide)

@[simp] theorem State.onLink_sequencing (s : State) (who : Requester) : (s.onLink who).sequencing = s.sequencing := by
  simp [State.sequencing, State.onLink_fld, State.onLink_bit]

/-! ### A write of a register outside the region windows -/

theorem SameMemory.of_kept {s t : State} (h : t.kept = s.kept) : SameMemory s t := fun sp a => by
  obtain ⟨-, -, hmem⟩ := State.kept_eq_iff.1 h
  simp [State.byte, hmem]

/-- A command that is one write of a register outside the windows, open to it, completes with what its effect makes of the state
past the link. -/
theorem completes_of_hubWrite {c : Instr} {who : Requester} {r : Reg} {i : Nat} {op : State → State} {s : State}
    {P : State → Prop} (hc : exec c s = .next (s.regAccess who r i op)) (ho : s.OpenReg who r i)
    (hr : regAddr r i < 0x0800_0000) (hP : P (op (s.onLink who))) : Completes c s P := by
  refine ⟨_, hc, ?_⟩
  rw [State.regAccess, s.access_open who _ op ho.1 ho.2, s.throughOpen_hub who _ hr]
  exact hP

/-- An effect that stores the registers `rs` and no memory leaves, past the link, only these and `HIF_LINK` changed. -/
theorem onlyRegs_onLink {rs : List Reg} {op : State → State} (hreg : ∀ u q j, q ∉ rs → (op u).reg q j = u.reg q j)
    (hkept : ∀ u, (op u).kept = u.kept) (s : State) (who : Requester) :
    OnlyRegs (rs ++ [.HIF_LINK]) s (op (s.onLink who)) := by
  refine ⟨fun q j hq => ?_, .of_kept ((hkept _).trans (s.kept_onLink who))⟩
  obtain ⟨hrs, hlink⟩ : q ∉ rs ∧ q ≠ .HIF_LINK := by simpa using hq
  exact (hreg _ q j hrs).trans (s.onLink_reg who q j hlink)

/-! ### LAST_RESULT -/

@[simp] theorem State.clapResult_clap (s : State) (code : Nat) : (s.clapResult code).clap = s.clap := rfl

theorem State.clapResult_lastResult (s : State) {code : Nat} (h : code < 2 ^ 8) :
    (s.clapResult code).fld .CLAP_STATUS 0 23 16 = code := by
  rw [State.clapResult, State.fld_setFld_same _ _ _ _ _ _ (by decide)]
  exact Nat.mod_eq_of_lt h

@[simp] theorem State.clapResult_ok (s : State) : (s.clapResult Code.ok).fld .CLAP_STATUS 0 23 16 = Code.ok :=
  s.clapResult_lastResult (by decide)

@[simp] theorem State.clapResult_busy (s : State) : (s.clapResult Code.busy).fld .CLAP_STATUS 0 23 16 = Code.busy :=
  s.clapResult_lastResult (by decide)

@[simp] theorem State.clapResult_bit (s : State) (code b : Nat) (h : b < 16) :
    (s.clapResult code).bit .CLAP_STATUS 0 b = s.bit .CLAP_STATUS 0 b :=
  s.bit_setFld_apart _ _ _ _ _ _ (by omega) (.inl h)

@[simp] theorem State.clapResult_reg (s : State) (code : Nat) (q : Reg) (j : Nat) (h : q ≠ .CLAP_STATUS) :
    (s.clapResult code).reg q j = s.reg q j := s.reg_setFld_other _ _ _ _ _ _ _ h

/-! ### ARM (R42) -/

theorem clapArmOp_of_armed {s : State} (h : s.clap.state = .armed) : clapArmOp s = s.clapResult Code.ok := by
  simp [clapArmOp, h]

theorem clapArmOp_of_sequencing {s : State} (h : s.clap.state = .running) (hs : s.sequencing = true) :
    clapArmOp s = s.clapResult Code.busy := by
  simp [clapArmOp, h, hs]

theorem clapArmOp_of_ready {s : State} (h : s.clap.state = .idle ∨ (s.clap.state = .running ∧ s.sequencing = false)) :
    clapArmOp s = s.arm.clapResult Code.ok := by
  obtain h | ⟨h, hs⟩ := h
  · simp [clapArmOp, h]
  · simp [clapArmOp, h, hs]

theorem clapArmOp_reg (s : State) (q : Reg) (j : Nat) (h : q ∉ [Reg.CLAP_STATUS]) : (clapArmOp s).reg q j = s.reg q j := by
  have hq : q ≠ .CLAP_STATUS := by simpa using h
  unfold clapArmOp
  split
  · simp [hq]
  · simp [hq]
  · split <;> simp [hq]

/-! ### DISARM (R42) -/

/-- An arm whose edge is not registered is cancelled: a running epoch goes on, and the return of an emitted pulse is ignored
(R42; notes/assumptions/15.md). -/
def State.cancelArm (s : State) : State :=
  { s with clap := { s.clap with
      state := if s.clap.epoch.isSome then .running else .idle
      pulseAt := none
      ignoreEdge := s.clap.ignoreEdge || (s.role == 1 && s.clap.pulseAt.isNone) } }

@[simp] theorem State.cancelArm_reg (s : State) (q : Reg) (j : Nat) : s.cancelArm.reg q j = s.reg q j := rfl

theorem clapDisarmOp_of_unregistered {s : State} (h : s.clap.state = .armed) (hr : s.clap.regAt = none) :
    clapDisarmOp s = s.cancelArm.clapResult Code.ok := by
  simp [clapDisarmOp, State.cancelArm, h, hr]

theorem clapDisarmOp_of_registered {s : State} (h : s.clap.state = .armed) (hr : s.clap.regAt.isSome = true) :
    clapDisarmOp s = s.clapResult Code.busy := by
  simp [clapDisarmOp, h, hr]

theorem clapDisarmOp_of_not_armed {s : State} (h : s.clap.state ≠ .armed) : clapDisarmOp s = s.clapResult Code.ok := by
  unfold clapDisarmOp
  split
  · contradiction
  · rfl

theorem clapDisarmOp_reg (s : State) (q : Reg) (j : Nat) (h : q ∉ [Reg.CLAP_STATUS]) :
    (clapDisarmOp s).reg q j = s.reg q j := by
  have hq : q ≠ .CLAP_STATUS := by simpa using h
  by_cases ha : s.clap.state = .armed
  · cases hr : s.clap.regAt with
    | none => simp [clapDisarmOp_of_unregistered ha hr, hq]
    | some e => simp [clapDisarmOp_of_registered ha (by simp [hr]), hq]
  · simp [clapDisarmOp_of_not_armed ha, hq]

/-! ### LOOP_MEAS (R60) -/

/-- A measurement of 2^20 cc begins: LOOP_BUSY is set, LOOP_VALID cleared (notes/assumptions/11.md), and the pulses leave
on CLAP_LOOP_OUT. -/
def State.startLoop (s : State) : State :=
  let t := { s with clap := { s.clap with loopEnd := some (s.now + 2 ^ 20) } }
  ((t.setBit .CLAP_STATUS 0 8 true).setBit .CLAP_STATUS 0 9 false).emit (.loopPulses s.now)

theorem State.startLoop_loopEnd (s : State) : s.startLoop.clap.loopEnd = some (s.now + 2 ^ 20) := rfl

theorem State.startLoop_busy (s : State) : s.startLoop.bit .CLAP_STATUS 0 8 = true := by
  simp [State.startLoop, State.bit_congr (State.emit_reg _ _ _ _)]

theorem State.startLoop_valid (s : State) : s.startLoop.bit .CLAP_STATUS 0 9 = false := by
  simp [State.startLoop, State.bit_congr (State.emit_reg _ _ _ _)]

theorem State.startLoop_reg (s : State) (q : Reg) (j : Nat) (h : q ≠ .CLAP_STATUS) : s.startLoop.reg q j = s.reg q j := by
  simp only [State.startLoop, State.emit_reg]
  rw [State.reg_setBit_other _ _ _ _ _ _ _ h, State.reg_setBit_other _ _ _ _ _ _ _ h]
  rfl

theorem loopMeasOp_of_idle {s : State} (h : s.clap.loopEnd = none) : loopMeasOp s = s.startLoop.clapResult Code.ok := by
  simp [loopMeasOp, State.startLoop, h]

theorem loopMeasOp_of_measuring {s : State} (h : s.clap.loopEnd.isSome = true) : loopMeasOp s = s.clapResult Code.busy := by
  simp [loopMeasOp, h]

theorem loopMeasOp_reg (s : State) (q : Reg) (j : Nat) (h : q ∉ [Reg.CLAP_STATUS]) : (loopMeasOp s).reg q j = s.reg q j := by
  have hq : q ≠ .CLAP_STATUS := by simpa using h
  cases hl : s.clap.loopEnd with
  | none => simp [loopMeasOp_of_idle hl, State.startLoop_reg, hq]
  | some e => simp [loopMeasOp_of_measuring (by simp [hl] : s.clap.loopEnd.isSome = true), hq]

/-! ### The statement -/

/-- Settles O12: past the link each command finds the clapper, the time, the role and the engines it found before the access, so
the equations of its effect above decide the case. -/
theorem clapperCommandsComplete : Obligations.ClapperCommandsComplete := by
  intro who s ho
  have hub : regAddr .CLAP_CMD 0 < 0x0800_0000 := by decide
  have arms {P : State → Prop} (hP : P (clapArmOp (s.onLink who))) : Completes (.clapArm who) s P :=
    completes_of_hubWrite rfl ho hub hP
  have disarms {P : State → Prop} (hP : P (clapDisarmOp (s.onLink who))) : Completes (.clapDisarm who) s P :=
    completes_of_hubWrite rfl ho hub hP
  have measures {P : State → Prop} (hP : P (loopMeasOp (s.onLink who))) : Completes (.loopMeas who) s P :=
    completes_of_hubWrite rfl ho hub hP
  have armFrame := onlyRegs_onLink clapArmOp_reg kept_clapArmOp s who
  have disarmFrame := onlyRegs_onLink clapDisarmOp_reg kept_clapDisarmOp s who
  have loopFrame := onlyRegs_onLink loopMeasOp_reg kept_loopMeasOp s who
  refine ⟨fun h => arms ?_, fun h => arms ?_, fun h hs => arms ?_, fun h hr => disarms ?_, fun h hr => disarms ?_,
    fun h => disarms ?_, fun h => measures ?_, fun h => measures ?_⟩
  · rw [clapArmOp_of_ready (by simpa using h)] at armFrame ⊢
    exact ⟨rfl, s.onLink_now who, rfl, by simp [State.arm], by simp [State.arm], State.clapResult_ok _, armFrame⟩
  · rw [clapArmOp_of_armed (by simpa using h)] at armFrame ⊢
    exact ⟨s.onLink_clap who, State.clapResult_ok _, armFrame⟩
  · rw [clapArmOp_of_sequencing (by simpa using h) (by simpa using hs)] at armFrame ⊢
    exact ⟨s.onLink_clap who, State.clapResult_busy _, armFrame⟩
  · rw [clapDisarmOp_of_unregistered (by simpa using h) (by simpa using hr)] at disarmFrame ⊢
    exact ⟨by simp [State.cancelArm], rfl, by simp [State.cancelArm], State.clapResult_ok _, disarmFrame⟩
  · rw [clapDisarmOp_of_registered (by simpa using h) (by simpa using hr)] at disarmFrame ⊢
    exact ⟨s.onLink_clap who, State.clapResult_busy _, disarmFrame⟩
  · rw [clapDisarmOp_of_not_armed (by simpa using h)] at disarmFrame ⊢
    exact ⟨s.onLink_clap who, State.clapResult_ok _, disarmFrame⟩
  · rw [loopMeasOp_of_idle (by simpa using h)] at loopFrame ⊢
    exact ⟨by simp [State.startLoop_loopEnd], by simp [State.startLoop_busy], by simp [State.startLoop_valid],
      State.clapResult_ok _, loopFrame⟩
  · rw [loopMeasOp_of_measuring (by simpa using h)] at loopFrame ⊢
    exact ⟨s.onLink_clap who, State.clapResult_busy _, loopFrame⟩

end Sys2Proof.Machine
end

-- ==== Proof that commands outside mayStore store nothing ====
section
/-!
PROOFS. A command that `mayStore` does not list leaves every memory as it was (R67, R68, R98, R305, R418): its meaning is made of
functions that the first part of the scope proofs settles with a `kept_…` lemma.
-/

namespace Sys2Proof.Machine

/-- A command whose own effect stores nothing leaves the queue, the variant and the memories. -/
theorem exec_kept {c : Instr} {s t : State} (hc : mayStore c = false) (h : exec c s = .next t) : t.kept = s.kept := by
  cases c <;> cases hc
  all_goals
    obtain rfl := Host.Outcome.next.inj h
    simp

/-- Settles O8: a command outside `mayStore` leaves the memories as they are (`exec_kept`), and equal memories read equal bytes. -/
theorem commandsThatStoreNothing : Obligations.CommandsThatStoreNothing :=
  fun _ _ _ hc h => .of_kept (exec_kept hc h)

end Sys2Proof.Machine
end

-- ==== Proof of the timed Script instructions ====
section
/-!
PROOFS. The timed instructions of the Script engines (R99, R101, R105, R106). Each issues in the cc that its row lets pass
(`State.issued`), places its entry in the queues that it names (`State.pushAll`, `State.pushAux`) and advances PC. The equations
`playOp_of_takes` to `markOp_of_takes` say so of each meaning; what the queues, PC and the registers then read is said once, of
`State.timed`.
-/

namespace Sys2Proof.Machine

/-! ### What an effect leaves as it was -/

theorem SameMemory.trans {s t u : State} (h : SameMemory s t) (h' : SameMemory t u) : SameMemory s u :=
  fun sp a => (h' sp a).trans (h sp a)

theorem OnlyAt.trans {l : List (Reg × Nat)} {s t u : State} (h : OnlyAt l s t) (h' : OnlyAt l t u) : OnlyAt l s u :=
  ⟨fun q j hq => (h'.1 q j hq).trans (h.1 q j hq), h.2.trans h'.2⟩

theorem onlyAt_of_reg_eq {l : List (Reg × Nat)} {s t : State} (hr : ∀ q j, t.reg q j = s.reg q j) (hk : t.kept = s.kept) :
    OnlyAt l s t := ⟨fun q j _ => hr q j, .of_kept hk⟩

/-- A store of a listed register. `State.setFld`, `State.setBit` and `State.count` are such stores too. -/
theorem onlyAt_setReg {l : List (Reg × Nat)} (s : State) {r : Reg} {i : Nat} (w : Word) (h : (r, i) ∈ l) :
    OnlyAt l s (s.setReg r i w) := by
  refine ⟨fun q j hq => ?_, .of_kept (s.kept_setReg r i w)⟩
  have hne : ¬(r = q ∧ i = j) := fun ⟨hr, hi⟩ => hq (hr ▸ hi ▸ h)
  rw [State.reg_setReg, if_neg hne]

theorem onlyAt_setPair {l : List (Reg × Nat)} (s : State) {lo hi : Reg} {i : Nat} (v : Nat) (hlo : (lo, i) ∈ l)
    (hhi : (hi, i) ∈ l) : OnlyAt l s (s.setPair lo hi i v) :=
  (onlyAt_setReg s _ hlo).trans (onlyAt_setReg _ _ hhi)

theorem onlyAt_setProgTime {l : List (Reg × Nat)} (s : State) {g e : Nat} (m : Nat) (hlo : (.SCR_T_LO, 8 * g + e) ∈ l)
    (hhi : (.SCR_T_HI, 8 * g + e) ∈ l) : OnlyAt l s (s.setProgTime g e m) := onlyAt_setPair s m hlo hhi

theorem onlyAt_pass {l : List (Reg × Nat)} (s : State) (dt : Nat) : OnlyAt l s (s.pass dt) :=
  onlyAt_of_reg_eq (s.pass_reg dt) (s.kept_pass dt)

theorem onlyAt_nextPc {l : List (Reg × Nat)} (s : State) {g e : Nat} (h : (.SCR_PC, 8 * g + e) ∈ l) :
    OnlyAt l s (s.nextPc g e) := onlyAt_setReg s _ h

/-! ### What time that passes leaves of the engines and the units -/

section
variable (s : State) (dt g e : Nat)

@[simp] theorem State.pass_unit (u : Nat) : (s.pass dt).unit g u = s.unit g u := by simp [State.unit]
@[simp] theorem State.pass_eng : (s.pass dt).eng g e = s.eng g e := by simp [State.eng]
@[simp] theorem State.pass_epochRun : (s.pass dt).epochRun = s.epochRun := by simp [State.epochRun]
@[simp] theorem State.pass_pc : (s.pass dt).pc g e = s.pc g e := by simp [State.pc]
@[simp] theorem State.pass_progTime : (s.pass dt).progTime g e = s.progTime g e := by
  simp [State.progTime, State.pair, State.regNat]
@[simp] theorem State.pass_sreg (j : Nat) : (s.pass dt).sreg g e j = s.sreg g e j := by simp [State.sreg]
@[simp] theorem State.pass_sPair (j : Nat) : (s.pass dt).sPair g e j = s.sPair g e j := by simp [State.sPair]
@[simp] theorem State.pass_regTerm (w : BitVec 64) : (s.pass dt).regTerm g e w = s.regTerm g e w := by simp [State.regTerm]
@[simp] theorem State.pass_opX (w : BitVec 64) : (s.pass dt).opX g e w = s.opX g e w := by simp [State.opX]
@[simp] theorem State.pass_playIndex (w : BitVec 64) : (s.pass dt).playIndex g e w = s.playIndex g e w := by
  simp [State.playIndex]
@[simp] theorem State.pass_toneOwner (x : Nat) : (s.pass dt).toneOwner g x = s.toneOwner g x := by simp [State.toneOwner]

/-! ### The issue of an instruction (R98, R100) -/

/-- The state in which an instruction that issues takes effect: the engine has issued in this cc and waits for nothing. -/
def State.issued : State := (s.setEng g e { s.eng g e with nextCc := s.now + 1 }).setWaits g e false false false

theorem State.issued_reg (q : Reg) (j : Nat) (h : q ≠ .SCR_STATUS) : (s.issued g e).reg q j = s.reg q j := by
  simp [State.issued, State.setWaits, h]

@[simp] theorem State.issued_unit (u : Nat) : (s.issued g e).unit g u = s.unit g u := rfl
@[simp] theorem State.issued_aux : ((s.issued g e).eng g e).aux = (s.eng g e).aux := by
  simp [State.issued, State.setWaits, State.eng, State.setEng]
@[simp] theorem State.issued_ftg : (s.issued g e).ftg = s.ftg := rfl
@[simp] theorem State.issued_pc : (s.issued g e).pc g e = s.pc g e :=
  State.fld_congr (s.issued_reg g e _ _ (by decide))
@[simp] theorem State.issued_progTime : (s.issued g e).progTime g e = s.progTime g e := by
  simp [State.progTime, State.pair, State.regNat, State.issued_reg]
@[simp] theorem State.issued_sreg (j : Nat) : (s.issued g e).sreg g e j = s.sreg g e j :=
  s.issued_reg g e _ _ (by decide)
@[simp] theorem State.issued_sPair (j : Nat) : (s.issued g e).sPair g e j = s.sPair g e j := by simp [State.sPair]
@[simp] theorem State.issued_regTerm (w : BitVec 64) : (s.issued g e).regTerm g e w = s.regTerm g e w := by
  simp [State.regTerm]
@[simp] theorem State.issued_opX (w : BitVec 64) : (s.issued g e).opX g e w = s.opX g e w := by simp [State.opX]
@[simp] theorem State.issued_playIndex (w : BitVec 64) : (s.issued g e).playIndex g e w = s.playIndex g e w := by
  simp [State.playIndex]
@[simp] theorem State.issued_unitOwner (u : Nat) : (s.issued g e).unitOwner g u = s.unitOwner g u := by
  simp [State.unitOwner, State.fld, State.issued_reg]
@[simp] theorem State.issued_toneOwner (x : Nat) : (s.issued g e).toneOwner g x = s.toneOwner g x := by
  simp [State.toneOwner, State.fld, State.issued_reg]
@[simp] theorem State.issued_entryIndex (u seg : Nat) : (s.issued g e).entryIndex g u seg = s.entryIndex g u seg := by
  have hreg : (s.issued g e).segbaseReg g u = s.segbaseReg g u := by simp [State.segbaseReg, State.fld, State.issued_reg]
  have hshadow : (s.issued g e).shadow g u = s.shadow g u := rfl
  have hnow : (s.issued g e).now = s.now := rfl
  simp only [State.entryIndex, State.segbase, hreg, hshadow, hnow]

theorem onlyAt_issued {l : List (Reg × Nat)} (h : (.SCR_STATUS, 8 * g + e) ∈ l) : OnlyAt l s (s.issued g e) :=
  (onlyAt_of_reg_eq (fun _ _ => rfl) rfl : OnlyAt l s (s.setEng g e _)).trans (onlyAt_setReg _ _ h)

end

theorem State.segEntry_congr {s t : State} (h : t.mem = s.mem) (n i : Nat) : t.segEntry n i = s.segEntry n i := by
  have hbyte : ∀ sp a, t.byte sp a = s.byte sp a := fun sp a => by simp [State.byte, h]
  simp only [State.segEntry, State.segWord, State.le, State.bytes, hbyte]

theorem State.issue_of_ready {s : State} {g e op : Nat} {w : BitVec 64} (h : s.ScrReady g e op w)
    (meaning : BitVec 64 → State → State) : s.issue g e op meaning = meaning w (s.issued g e) := by
  obtain ⟨hrun, hwait, hqueued, hcc, hepoch, htime, rfl, hop, hres⟩ := h
  simp [State.issue, State.issued, hrun, hwait, hqueued, Nat.not_lt.2 hcc, hepoch, Nat.not_lt.2 htime, hop, hres]

theorem State.QueueTakes.issued {s : State} {g e u : Nat} (h : s.QueueTakes g e u) : (s.issued g e).QueueTakes g e u := by
  simpa [State.QueueTakes] using h

theorem State.AuxTakes.issued {s : State} {g e : Nat} (h : s.AuxTakes g e) : (s.issued g e).AuxTakes g e := by
  simpa [State.AuxTakes] using h

/-! ### Operands without error (R36, R99, R105) -/

theorem State.guard_of_clear {cs : List (Bool × Nat)} (h : ∀ c ∈ cs, c.1 = false) (s : State) (g e : Nat)
    (k : State → State) : s.guard g e cs k = k s := by
  have hnone : cs.filter (·.1) = [] := List.filter_eq_nil_iff.2 fun c hc => by simp [h c hc]
  simp [State.guard, lowestCode, hnone]

theorem State.unitErrors_clear {s : State} {g e u : Nat} {b : Bool} (hu : u < 20) (ho : s.unitOwner g u = e) :
    ∀ c ∈ s.unitErrors g e u b, c.1 = false := by
  simp [State.unitErrors, hu, ho]

theorem State.voiceErrors_clear {s : State} {g e u : Nat} (hu : u < 16) (ho : s.unitOwner g u = e) :
    ∀ c ∈ s.voiceErrors g e u, c.1 = false := by
  simp only [State.voiceErrors, List.forall_mem_cons]
  exact ⟨by simp [hu], State.unitErrors_clear (by omega) ho⟩

theorem mem_setBitsOf {n v i : Nat} : i ∈ setBitsOf n v ↔ i < n ∧ bitOf v i = true := by simp [setBitsOf]

theorem nodup_setBitsOf (n v : Nat) : (setBitsOf n v).Nodup := List.nodup_range.filter _

/-- A number of `n` bits that is not 0 has a bit below `n`. -/
theorem setBitsOf_isEmpty {n v : Nat} (hv : v < 2 ^ n) (h : v ≠ 0) : (setBitsOf n v).isEmpty = false := by
  obtain ⟨i, hi⟩ := Nat.exists_testBit_of_ne_zero h
  have hn : i < n := by
    by_contra hle
    have := Nat.testBit_lt_two_pow (hv.trans_le (Nat.pow_le_pow_right (by omega) (Nat.le_of_not_lt hle)))
    simp [this] at hi
  have hb : bitOf v i = true := by simpa [bitOf, Nat.testBit_eq_decide_div_mod_eq, Nat.shiftRight_eq_div_pow] using hi
  rw [List.isEmpty_eq_false_iff]
  exact List.ne_nil_of_mem (mem_setBitsOf.2 ⟨hn, hb⟩)

/-! ### Placing entries (R101) -/

/-- An entry of maturity `m` placed in the queue of each of `us`. -/
def State.pushAll (s : State) (g : Nat) (us : List Nat) (m : Nat) (a : UnitAction) : State :=
  State.forEach us (fun u t => t.pushUnit g u m a) s

theorem State.pushUnit_queue (s : State) (g u v m : Nat) (a : UnitAction) :
    ((s.pushUnit g u m a).unit g v).queue = if u = v then queueInsert (s.unit g v).queue m a else (s.unit g v).queue := by
  split
  · subst v
    simp [State.pushUnit, State.setUnit, State.unit]
  · simp [State.pushUnit, State.setUnit, State.unit, tget_tset_ne _ _ _ _ _ (by omega : 20 * g + u ≠ 20 * g + v)]

theorem State.pushAll_queue (s : State) (g : Nat) {us : List Nat} (hus : us.Nodup) (m : Nat) (a : UnitAction) (v : Nat) :
    ((s.pushAll g us m a).unit g v).queue = if v ∈ us then queueInsert (s.unit g v).queue m a else (s.unit g v).queue := by
  induction us generalizing s with
  | nil => rfl
  | cons u us ih =>
    obtain ⟨hu, hus⟩ := List.nodup_cons.1 hus
    have hstep : ((s.pushAll g (u :: us) m a).unit g v).queue = _ := ih (s.pushUnit g u m a) hus
    rw [hstep, State.pushUnit_queue]
    by_cases huv : u = v
    · subst v
      simp [hu]
    · simp [huv, Ne.symm huv]

theorem State.pushAll_reg (s : State) (g : Nat) (us : List Nat) (m : Nat) (a : UnitAction) (q : Reg) (j : Nat) :
    (s.pushAll g us m a).reg q j = s.reg q j := State.forEach_reg us _ s q j fun _ _ => rfl

theorem State.placeTimed_of_takes {s : State} {g e : Nat} {us : List Nat} (hT : s.ftg + 2 ≤ s.progTime g e)
    (h : ∀ u ∈ us, s.QueueTakes g e u) (act : UnitAction) (after : State → State) :
    s.placeTimed g e us act after = (after (s.pushAll g us (s.progTime g e) act)).nextPc g e := by
  have hroom : us.any (fun u => decide (64 ≤ (s.unit g u).queue.length)) = false :=
    List.any_eq_false.2 fun u hu => by simpa using (h u hu).2.1
  have hshared : us.any (fun u => decide (4 ≤ sameMaturity (s.unit g u).queue (s.progTime g e))) = false :=
    List.any_eq_false.2 fun u hu => by simpa using (h u hu).2.2.2
  simp only [State.placeTimed, hroom, hshared, if_neg (Nat.not_lt.2 hT)]
  rfl

/-- The same for one unit. -/
theorem State.placeTimed_one {s : State} {g e u : Nat} (h : s.QueueTakes g e u) (act : UnitAction) (after : State → State) :
    s.placeTimed g e [u] act after = (after (s.pushAll g [u] (s.progTime g e) act)).nextPc g e :=
  State.placeTimed_of_takes h.2.2.1 (by simpa using h) act after

@[simp] theorem State.setEng_eng (s : State) (g e : Nat) (x : EngineState) : (s.setEng g e x).eng g e = x :=
  tget_tset_same _ _ _ _

/-- An entry placed in the auxiliary queue. -/
def State.pushAux (s : State) (g e : Nat) (act : AuxAction) : State :=
  s.setEng g e { s.eng g e with aux := queueInsert (s.eng g e).aux (s.progTime g e) act }

theorem State.placeAux_of_takes {s : State} {g e : Nat} (h : s.AuxTakes g e) (act : AuxAction) :
    s.placeAux g e act = (s.pushAux g e act).nextPc g e := by
  obtain ⟨hroom, hT, hshared⟩ := h
  simp [State.placeAux, State.pushAux, Nat.not_le.2 hroom, Nat.not_lt.2 hT, Nat.not_le.2 hshared]

/-! ### The meanings (R106, R112) -/

section
variable {s : State} {g e : Nat} {w : BitVec 64}

theorem playOp_of_takes (hu : SI.unit w < 20) (h : s.QueueTakes g e (SI.unit w)) :
    playOp g e w s = (s.pushAll g [SI.unit w] (s.progTime g e)
      (if SI.bit47 w then .request (s.playIndex g e w) else .play (s.playIndex g e w))).nextPc g e := by
  rw [playOp, State.guard_of_clear (State.unitErrors_clear hu h.1)]
  exact State.placeTimed_one h _ id

theorem playdOp_of_takes (hu : SI.unit w < 20) (hb : SI.bit47 w = false) (h : s.QueueTakes g e (SI.unit w)) :
    playdOp g e w s =
      let t := s.pushAll g [SI.unit w] (s.progTime g e) (.play (s.playIndex g e w))
      (t.setProgTime g e (t.progTime g e +
        (s.segEntry (g / 4) (s.entryIndex g (SI.unit w) (s.playIndex g e w))).duration)).nextPc g e := by
  rw [playdOp, State.guard_of_clear (List.forall_mem_cons.2 ⟨hb, State.unitErrors_clear hu h.1⟩)]
  exact State.placeTimed_one h _ _

theorem setfOp_of_takes (hu : SI.unit w < 16) (hsa : SI.sa w % 2 = 0) (h : s.QueueTakes g e (SI.unit w)) :
    setfOp g e w s = (s.pushAll g [SI.unit w] (s.progTime g e)
      (.setFtw (BitVec.ofNat 48 (SI.imm48 w + (if SI.reg w then s.sPair g e (SI.sa w) else 0))))).nextPc g e := by
  have hftw : BitVec.ofNat 48 ((if SI.reg w then s.sPair g e (SI.sa w) % 2 ^ 48 else 0) + SI.imm48 w) =
      BitVec.ofNat 48 (SI.imm48 w + (if SI.reg w then s.sPair g e (SI.sa w) else 0)) := by
    apply BitVec.eq_of_toNat_eq
    simp only [BitVec.toNat_ofNat]
    split <;> omega
  rw [setfOp, State.guard_of_clear (List.forall_mem_cons.2 ⟨by simp [hsa], State.voiceErrors_clear hu h.1⟩), ← hftw]
  exact State.placeTimed_one h _ id

theorem setpOp_of_takes (hu : SI.unit w < 16) (h : s.QueueTakes g e (SI.unit w)) :
    setpOp g e w s = (s.pushAll g [SI.unit w] (s.progTime g e) (.setPoff (BitVec.ofNat 32 (s.opX g e w)))).nextPc g e := by
  rw [setpOp, State.guard_of_clear (State.voiceErrors_clear hu h.1)]
  exact State.placeTimed_one h _ id

theorem rotpOp_of_takes (hu : SI.unit w < 16) (h : s.QueueTakes g e (SI.unit w)) :
    rotpOp g e w s = (s.pushAll g [SI.unit w] (s.progTime g e) (.addPoff (BitVec.ofNat 32 (s.opX g e w)))).nextPc g e := by
  rw [rotpOp, State.guard_of_clear (State.voiceErrors_clear hu h.1)]
  exact State.placeTimed_one h _ id

theorem setaOp_of_takes (hu : SI.unit w < 16) (hb : SI.bit47 w = false) (h : s.QueueTakes g e (SI.unit w)) :
    setaOp g e w s = (s.pushAll g [SI.unit w] (s.progTime g e)
      (.setAmp (BitVec.ofNat 16 (SI.imm16 w + s.regTerm g e w)))).nextPc g e := by
  rw [setaOp, State.guard_of_clear (State.unitErrors_clear (by omega) h.1)]
  simpa [hu, hb] using State.placeTimed_one h _ id

/-- COMMIT with no unit in its mask only advances PC. -/
theorem commitOp_of_takes (h : ∀ u ∈ setBitsOf 20 (SI.mask w), s.QueueTakes g e u) :
    commitOp g e w s = (s.pushAll g (setBitsOf 20 (SI.mask w)) (s.progTime g e) .commit).nextPc g e := by
  unfold commitOp
  generalize setBitsOf 20 (SI.mask w) = us at h ⊢
  cases us with
  | nil => rfl
  | cons u us =>
    have howned : (u :: us).any (fun u => s.unitOwner g u != e) = false :=
      List.any_eq_false.2 fun v hv => by simpa using (h v hv).1
    have hclear : ∀ c ∈ [((u :: us).any (fun u => s.unitOwner g u != e), Code.access)], c.1 = false := by simpa using howned
    simp only [List.isEmpty_cons, Bool.false_eq_true, if_false, State.guard_of_clear hclear]
    exact State.placeTimed_of_takes (h u (by simp)).2.2.1 h .commit id

theorem acqOp_of_takes (hw : SI.tones w ≠ 0) (ho : ∀ x ∈ setBitsOf 16 (SI.tones w), s.toneOwner g x = e)
    (h : s.AuxTakes g e) : acqOp g e w s = (s.pushAux g e (.acq (BitVec.ofNat 16 (SI.tones w)))).nextPc g e := by
  have htones : (setBitsOf 16 (SI.tones w)).isEmpty = false := setBitsOf_isEmpty (Nat.mod_lt _ (by decide)) hw
  have howned : (setBitsOf 16 (SI.tones w)).any (fun x => s.toneOwner g x != e) = false :=
    List.any_eq_false.2 fun x hx => by simpa using ho x hx
  have hclear : ∀ c ∈ [((setBitsOf 16 (SI.tones w)).any (fun x => s.toneOwner g x != e), Code.access)], c.1 = false := by
    simpa using howned
  simp only [acqOp, htones, Bool.false_eq_true, if_false, State.guard_of_clear hclear]
  exact State.placeAux_of_takes h _

theorem markOp_of_takes (hch : SI.markL w = true → SI.markCh w ≤ 31) (h : s.AuxTakes g e) :
    markOp g e w s = (s.pushAux g e (.mark (chanOf (g / 4) (SI.markCh w) (SI.markL w))
      (if s.bit .SCR_FLAGS (8 * g + e) 19 then s.fld .SCR_FLAGS (8 * g + e) 18 16 + 1 else 0))).nextPc g e := by
  rw [markOp, State.guard_of_clear (by simpa using hch)]
  exact State.placeAux_of_takes h _

end

/-! ### The state that a timed instruction leaves -/

@[simp] theorem State.nextPc_unit (s : State) (g e u : Nat) : (s.nextPc g e).unit g u = s.unit g u := rfl

theorem State.setProgTime_unit (s : State) (g e m g' u : Nat) : (s.setProgTime g e m).unit g' u = s.unit g' u := rfl

@[simp] theorem State.nextPc_eng (s : State) (g e : Nat) : (s.nextPc g e).eng g e = s.eng g e := rfl

theorem State.nextPc_pc (s : State) (g e : Nat) : (s.nextPc g e).pc g e = (s.pc g e + 1) % 32768 := by
  simp only [State.nextPc, State.setPc, State.pc, State.fld_setReg_same, bits, BitVec.toNat_ofNat]
  omega

theorem State.nextPc_progTime (s : State) (g e : Nat) : (s.nextPc g e).progTime g e = s.progTime g e := by
  simp [State.nextPc, State.setPc, State.progTime, State.pair, State.regNat]

theorem State.setProgTime_pc (s : State) (g e m : Nat) : (s.setProgTime g e m).pc g e = s.pc g e :=
  State.fld_congr (s.reg_setPair_other _ _ _ _ _ _ (by decide) (by decide))

theorem State.pair_setPair (s : State) {lo hi : Reg} (h : lo ≠ hi) (i v : Nat) :
    (s.setPair lo hi i v).pair lo hi i = v % 2 ^ 64 := by
  simp only [State.setPair, State.pair, State.regNat, State.reg_setReg_same, State.reg_setReg_other _ _ _ _ _ _ h,
    BitVec.toNat_ofNat]
  omega

theorem State.setProgTime_progTime (s : State) (g e m : Nat) : (s.setProgTime g e m).progTime g e = m % 2 ^ 64 :=
  s.pair_setPair (by decide) _ _

/-- The state in which the entries of a timed instruction are placed, PC not advanced yet. -/
def State.timed (s : State) (dt g e : Nat) (us : List Nat) (a : UnitAction) : State :=
  ((s.pass dt).issued g e).pushAll g us (s.progTime g e) a

section
variable (s : State) (dt g e : Nat) (a : UnitAction)

theorem State.timed_queue {us : List Nat} (hus : us.Nodup) (v : Nat) : ((s.timed dt g e us a).unit g v).queue =
    if v ∈ us then queueInsert (s.unit g v).queue (s.progTime g e) a else (s.unit g v).queue := by
  simp [State.timed, State.pushAll_queue _ _ hus]

theorem State.timed_reg (us : List Nat) (q : Reg) (j : Nat) (h : q ≠ .SCR_STATUS) :
    (s.timed dt g e us a).reg q j = s.reg q j := by
  simp [State.timed, State.pushAll_reg, State.issued_reg, h]

theorem State.timed_pc (us : List Nat) : (s.timed dt g e us a).pc g e = s.pc g e :=
  State.fld_congr (s.timed_reg dt g e a us _ _ (by decide))

theorem State.timed_progTime (us : List Nat) : (s.timed dt g e us a).progTime g e = s.progTime g e := by
  simp [State.progTime, State.pair, State.regNat, State.timed_reg]

theorem onlyAt_timed {l : List (Reg × Nat)} (h : (.SCR_STATUS, 8 * g + e) ∈ l) (us : List Nat) :
    OnlyAt l s (s.timed dt g e us a) :=
  ((onlyAt_pass s dt).trans (onlyAt_issued _ g e h)).trans
    (onlyAt_of_reg_eq (State.pushAll_reg _ g us _ a) (State.kept_forEach us _ _ fun u t => t.kept_pushUnit g u _ a))

end

/-- Entries placed, PC advanced, and nothing else but SCR_STATUS written. -/
theorem State.timed_nextPc (s : State) (dt g e : Nat) {us : List Nat} (hus : us.Nodup) (a : UnitAction) :
    let t := (s.timed dt g e us a).nextPc g e
    (∀ v, (t.unit g v).queue =
      if v ∈ us then queueInsert (s.unit g v).queue (s.progTime g e) a else (s.unit g v).queue) ∧
    t.pc g e = (s.pc g e + 1) % 32768 ∧ OnlyAt [(.SCR_PC, 8 * g + e), (.SCR_STATUS, 8 * g + e)] s t := by
  refine ⟨s.timed_queue dt g e a hus, ?_, (onlyAt_timed s dt g e a (by simp) us).trans (onlyAt_nextPc _ (by simp))⟩
  rw [State.nextPc_pc, State.timed_pc]

/-- The same for the entry of one unit. -/
theorem State.timed_nextPc_one (s : State) (dt g e u : Nat) (a : UnitAction) :
    let t := (s.timed dt g e [u] a).nextPc g e
    (t.unit g u).queue = queueInsert (s.unit g u).queue (s.progTime g e) a ∧ t.pc g e = (s.pc g e + 1) % 32768 ∧
      OnlyAt [(.SCR_PC, 8 * g + e), (.SCR_STATUS, 8 * g + e)] s t := by
  obtain ⟨hqueue, hrest⟩ := s.timed_nextPc dt g e (List.nodup_singleton u) a
  exact ⟨by simpa using hqueue u, hrest⟩

/-- PLAYD moves program time by `d` besides (R106). -/
theorem State.timed_setProgTime (s : State) (dt g e u d : Nat) (a : UnitAction) :
    let t := ((s.timed dt g e [u] a).setProgTime g e ((s.timed dt g e [u] a).progTime g e + d)).nextPc g e
    (t.unit g u).queue = queueInsert (s.unit g u).queue (s.progTime g e) a ∧ t.pc g e = (s.pc g e + 1) % 32768 ∧
      t.progTime g e = (s.progTime g e + d) % 2 ^ 64 ∧
      OnlyAt [(.SCR_PC, 8 * g + e), (.SCR_STATUS, 8 * g + e), (.SCR_T_LO, 8 * g + e), (.SCR_T_HI, 8 * g + e)] s t := by
  refine ⟨?_, ?_, ?_, ((onlyAt_timed s dt g e a (by simp) [u]).trans (onlyAt_setProgTime _ _ (by simp) (by simp))).trans
    (onlyAt_nextPc _ (by simp))⟩
  · rw [State.nextPc_unit, State.setProgTime_unit, s.timed_queue dt g e a (List.nodup_singleton u), if_pos (by simp)]
  · rw [State.nextPc_pc, State.setProgTime_pc, State.timed_pc]
  · rw [State.nextPc_progTime, State.setProgTime_progTime, State.timed_progTime]

/-- An entry placed in the auxiliary queue, PC advanced, and nothing else but SCR_STATUS written. -/
theorem State.aux_nextPc (s : State) (dt g e : Nat) (a : AuxAction) :
    let t := (((s.pass dt).issued g e).pushAux g e a).nextPc g e
    (t.eng g e).aux = queueInsert (s.eng g e).aux (s.progTime g e) a ∧ t.pc g e = (s.pc g e + 1) % 32768 ∧
      OnlyAt [(.SCR_PC, 8 * g + e), (.SCR_STATUS, 8 * g + e)] s t := by
  refine ⟨?_, ?_, ?_⟩
  · simp [State.pushAux]
  · have hpc : (((s.pass dt).issued g e).pushAux g e a).pc g e = ((s.pass dt).issued g e).pc g e := rfl
    rw [State.nextPc_pc, hpc, State.issued_pc, State.pass_pc]
  · exact (((onlyAt_pass s dt).trans (onlyAt_issued _ g e (by simp))).trans (onlyAt_of_reg_eq (fun _ _ => rfl) rfl)).trans
      (onlyAt_nextPc _ (by simp))

/-! ### The statement -/

/-- An instruction that is ready to issue completes with what its meaning makes of the state that it issues in. -/
theorem completes_of_issue {c : Instr} {dt g e op : Nat} {w : BitVec 64} {s t : State} {meaning : BitVec 64 → State → State}
    {P : State → Prop} (hc : exec c s = .next ((s.pass dt).issue g e op meaning))
    (hr : (s.pass dt).ScrReady g e op w) (ht : meaning w ((s.pass dt).issued g e) = t) (hP : P t) : Completes c s P :=
  ⟨t, by rw [hc, State.issue_of_ready hr, ht], hP⟩

/-- The same for an instruction whose meaning places one entry in the queue of one unit. -/
theorem completes_of_place {c : Instr} {dt g e op u : Nat} {w : BitVec 64} {s : State} {meaning : BitVec 64 → State → State}
    {a a' : UnitAction} (hc : exec c s = .next ((s.pass dt).issue g e op meaning)) (hr : (s.pass dt).ScrReady g e op w)
    (ht : meaning w ((s.pass dt).issued g e) =
      (((s.pass dt).issued g e).pushAll g [u] (((s.pass dt).issued g e).progTime g e) a').nextPc g e) (ha : a' = a) :
    Completes c s (fun t => (t.unit g u).queue = queueInsert (s.unit g u).queue (s.progTime g e) a ∧
      t.pc g e = (s.pc g e + 1) % 32768 ∧ OnlyAt [(.SCR_PC, 8 * g + e), (.SCR_STATUS, 8 * g + e)] s t) :=
  completes_of_issue hc hr (by rw [ht, ha, State.issued_progTime, State.pass_progTime, State.timed])
    (s.timed_nextPc_one dt g e u a)

/-- Settles O21: each meaning places its entry (`playOp_of_takes` to `markOp_of_takes`) in the state that the issue leaves, and
`State.timed_nextPc` and its kin say what that state then reads. -/
theorem scriptTimedInstructions : Obligations.ScriptTimedInstructions := by
  intro dt g e w s
  refine ⟨fun hr hu hq => ?_, fun hr hu hb hq => ?_, fun hr hu hsa hq => ?_, fun hr hu hq => ?_, fun hr hu hq => ?_,
    fun hr hu hb hq => ?_, fun hr hq => ?_, fun hr hw ho hq => ?_, fun hr hch hq => ?_⟩
  · exact completes_of_place rfl hr (playOp_of_takes hu hq.issued) (by simp)
  · have hentry (n i : Nat) : ((s.pass dt).issued g e).segEntry n i = s.segEntry n i :=
      State.segEntry_congr (s.pass_mem dt) n i
    exact completes_of_issue rfl hr (by rw [playdOp_of_takes hu hb hq.issued]; simp [State.timed, hentry])
      (s.timed_setProgTime dt g e _ _ _)
  · exact completes_of_place rfl hr (setfOp_of_takes hu hsa hq.issued) (by simp)
  · exact completes_of_place rfl hr (setpOp_of_takes hu hq.issued) (by simp)
  · exact completes_of_place rfl hr (rotpOp_of_takes hu hq.issued) (by simp)
  · exact completes_of_place rfl hr (setaOp_of_takes hu hb hq.issued) (by simp)
  · have hmem (v : UnitId) : v.val ∈ setBitsOf 20 (SI.mask w) ↔ bitOf (SI.mask w) v = true := by simp [mem_setBitsOf]
    have hall : ∀ u ∈ setBitsOf 20 (SI.mask w), ((s.pass dt).issued g e).QueueTakes g e u := fun u hu =>
      (hq ⟨u, (mem_setBitsOf.1 hu).1⟩ (mem_setBitsOf.1 hu).2).issued
    obtain ⟨hqueue, hrest⟩ := s.timed_nextPc dt g e (nodup_setBitsOf 20 (SI.mask w)) .commit
    exact completes_of_issue rfl hr (by rw [commitOp_of_takes hall]; simp [State.timed])
      ⟨fun v => by simpa only [hmem] using hqueue v, hrest⟩
  · have howned : ∀ x ∈ setBitsOf 16 (SI.tones w), ((s.pass dt).issued g e).toneOwner g x = e := fun x hx => by
      simpa using ho ⟨x, (mem_setBitsOf.1 hx).1⟩ (mem_setBitsOf.1 hx).2
    exact completes_of_issue rfl hr (acqOp_of_takes hw howned hq.issued) (s.aux_nextPc dt g e _)
  · have hflags : ((s.pass dt).issued g e).reg .SCR_FLAGS (8 * g + e) = s.reg .SCR_FLAGS (8 * g + e) := by
      simp [State.issued_reg]
    exact completes_of_issue rfl hr
      (by rw [markOp_of_takes hch hq.issued, State.bit_congr hflags, State.fld_congr hflags]) (s.aux_nextPc dt g e _)

end Sys2Proof.Machine
end

-- ==== Proof of the maturing Script entries ====
section
/-!
PROOFS. The entries of the Script queues at their maturity (R102). A matured entry leaves the head of its queue
(`State.dropHead`, `State.dropAux`), and the equations `playMatureOp_of_due` to `markMatureOp_of_due` name the operation that it
then carries out: a segment start (R70, R73), a shadow write (R87, R90), a commit (R88), a splice request (R109), an offered window
(R126) or an event (R269). What each operation does is stated once, and `playMatureOp_plays` to `requestMatureOp_pends` put the two
together.
-/

namespace Sys2Proof.Machine

theorem OnlyAt.onlyRegs {rs : List Reg} {s t : State} (h : OnlyAt [] s t) : OnlyRegs rs s t :=
  ⟨fun q j _ => h.1 q j List.not_mem_nil, h.2⟩

theorem OnlyRegs.trans {rs : List Reg} {s t u : State} (h : OnlyRegs rs s t) (h' : OnlyRegs rs t u) : OnlyRegs rs s u :=
  ⟨fun q j hq => (h'.1 q j hq).trans (h.1 q j hq), h.2.trans h'.2⟩

/-! ### The head of a queue -/

/-- The head entry has left the queue of a unit, `rest` stays. -/
def State.dropHead (s : State) (g u : Nat) (rest : List (Nat × UnitAction)) : State :=
  s.setUnit g u { s.unit g u with queue := rest }

/-- The same for the auxiliary queue of an engine. -/
def State.dropAux (s : State) (g e : Nat) (rest : List (Nat × AuxAction)) : State :=
  s.setEng g e { s.eng g e with aux := rest }

@[simp] theorem State.setUnit_unit (s : State) (g u : Nat) (x : UnitState) : (s.setUnit g u x).unit g u = x :=
  tget_tset_same _ _ _ _

@[simp] theorem State.dropHead_unit (s : State) (g u : Nat) (rest : List (Nat × UnitAction)) :
    (s.dropHead g u rest).unit g u = { s.unit g u with queue := rest } := s.setUnit_unit g u _

@[simp] theorem State.dropAux_aux (s : State) (g e : Nat) (rest : List (Nat × AuxAction)) :
    ((s.dropAux g e rest).eng g e).aux = rest := by simp [State.dropAux]

theorem onlyAt_dropHead {l : List (Reg × Nat)} (s : State) (g u : Nat) (rest : List (Nat × UnitAction)) :
    OnlyAt l s (s.dropHead g u rest) := onlyAt_of_reg_eq (fun _ _ => rfl) rfl

theorem onlyAt_dropAux {l : List (Reg × Nat)} (s : State) (g e : Nat) (rest : List (Nat × AuxAction)) :
    OnlyAt l s (s.dropAux g e rest) := onlyAt_of_reg_eq (fun _ _ => rfl) rfl

section
variable {s : State} {g u e m seg : Nat}

theorem State.headEntry_of_due {a : UnitAction} {rest : List (Nat × UnitAction)} (he : s.epochRun = true)
    (hq : (s.unit g u).queue = (m, a) :: rest) (hm : m ≤ s.ftg) : s.headEntry g u = some (m, a, s.dropHead g u rest) := by
  simp [State.headEntry, State.dropHead, he, hq, hm]

theorem playMatureOp_of_due {rest : List (Nat × UnitAction)} (he : s.epochRun = true)
    (hq : (s.unit g u).queue = (m, .play seg) :: rest) (hm : m ≤ s.ftg) :
    playMatureOp g u s = ((s.dropHead g u rest).dropSuccessor g u).startNamed g u seg none := by
  simp only [playMatureOp, State.headEntry_of_due he hq hm]

theorem shadowMatureOp_of_setAmp {v : BitVec 16} {rest : List (Nat × UnitAction)} (he : s.epochRun = true)
    (hq : (s.unit g u).queue = (m, .setAmp v) :: rest) (hm : m ≤ s.ftg) :
    shadowMatureOp g u s = (s.dropHead g u rest).shadowPut g u .VOICE_AMP (16 * g + u) 15 0 v.toNat := by
  simp only [shadowMatureOp, State.headEntry_of_due he hq hm, State.applyWrite]

theorem commitMatureOp_of_due {rest : List (Nat × UnitAction)} (he : s.epochRun = true)
    (hq : (s.unit g u).queue = (m, .commit) :: rest) (hm : m ≤ s.ftg) :
    commitMatureOp g u s = (s.dropHead g u rest).commitSet true g u := by
  simp only [commitMatureOp, State.headEntry_of_due he hq hm]

theorem requestMatureOp_of_due {rest : List (Nat × UnitAction)} (he : s.epochRun = true)
    (hq : (s.unit g u).queue = (m, .request seg) :: rest) (hm : m ≤ s.ftg) :
    requestMatureOp g u s = (s.dropHead g u rest).matureRequest g u seg m := by
  simp only [requestMatureOp, State.headEntry_of_due he hq hm]

theorem acqMatureOp_of_due {tones : BitVec 16} {rest : List (Nat × AuxAction)} (he : s.epochRun = true)
    (hq : (s.eng g e).aux = (m, .acq tones) :: rest) (hm : m ≤ s.ftg) :
    acqMatureOp g e s =
      State.forEach (setBitsOf 16 tones.toNat) (fun x t => t.offerAcq g x m) (s.dropAux g e rest) := by
  simp [acqMatureOp, State.dropAux, hq, he, hm]

theorem markMatureOp_of_due {c lin : Nat} {rest : List (Nat × AuxAction)} (he : s.epochRun = true)
    (hq : (s.eng g e).aux = (m, .mark c lin) :: rest) (hm : m ≤ s.ftg) :
    markMatureOp g e s = (s.dropAux g e rest).emitEvent (.cluster g) c s.now lin := by
  simp [markMatureOp, State.dropAux, hq, he, hm]

end

/-! ### The start of a segment (R70, R73, R77) -/

theorem State.endSegment_queue (s : State) (g u : Nat) : ((s.endSegment g u).unit g u).queue = (s.unit g u).queue := by
  unfold State.endSegment
  split
  · rfl
  · rw [State.setUnit_unit]
    split <;> rfl

theorem State.endSegment_now (s : State) (g u : Nat) : (s.endSegment g u).now = s.now := by
  unfold State.endSegment
  split
  · rfl
  · rw [State.setUnit_now]
    split <;> rfl

theorem State.takeMark_unit (s : State) (n b g u : Nat) : (s.takeMark n b).unit g u = s.unit g u := rfl

/-- A unit whose streamed segment underruns plays on, zeros. -/
theorem State.flagUnderrun_unit (s : State) (g u : Nat) (p : Playing) : (s.flagUnderrun g u p).unit g u =
    { s.unit g u with playing := some { p with zero := true, underran := true } } := by
  have hraise (t : State) (k : Nat) : (t.raise k).unit g u = t.unit g u := by simp [State.unit]
  unfold State.flagUnderrun
  rw [hraise, State.takeMark_unit]
  exact s.setUnit_unit g u _

/-- The unit plays entry `index` from the present cc on for its duration; its queue is what it was. -/
theorem State.startSegment_starts (s : State) (g u index : Nat) {x : SegEntry} (src : Option SuccessorFrom) (hx : x.len ≠ 0) :
    let t := s.startSegment g u index x src
    (t.unit g u).queue = (s.unit g u).queue ∧ ∃ q, (t.unit g u).playing = some q ∧ q.index = index ∧ q.start = s.now ∧
      q.entry = x ∧ q.stop = s.now + q.entry.duration := by
  dsimp only
  unfold State.startSegment
  extract_lets n st s1 bad consumes dpl p starved stream s2 old s3 s4
  rw [if_neg hx]
  have h2 : (s2.unit g u).queue = (s.unit g u).queue := by
    rw [← s.endSegment_queue g u]
    unfold s2
    split <;> rfl
  have h4 : s4.unit g u = { s2.unit g u with playing := some p } := by
    refine Eq.trans ?_ (s2.setUnit_unit g u _)
    unfold s4
    split <;> rfl
  have hnow : s1.now = s.now := s.endSegment_now g u
  split
  · rw [State.flagUnderrun_unit, h4]
    exact ⟨h2, _, rfl, rfl, hnow, rfl, congrArg (· + x.duration) hnow⟩
  · rw [h4]
    exact ⟨h2, _, rfl, rfl, hnow, rfl, congrArg (· + x.duration) hnow⟩

/-- A fixed successor that is dropped costs its engine SPL_LOST and the unit nothing. -/
theorem State.dropSuccessor_eq (s : State) (g u : Nat) : s.dropSuccessor g u = s ∨ s.dropSuccessor g u = s.spliceLost g u := by
  unfold State.dropSuccessor
  split
  · exact (ite_eq_or_eq _ _ _).symm
  · exact .inl rfl

theorem State.spliceLost_entryIndex (s : State) (g u v seg : Nat) :
    (s.spliceLost g u).entryIndex g v seg = s.entryIndex g v seg := by
  have hreg : (s.spliceLost g u).segbaseReg g v = s.segbaseReg g v := by simp [State.segbaseReg, State.spliceLost]
  have hshadow : (s.spliceLost g u).shadow g v = s.shadow g v := rfl
  have hnow : (s.spliceLost g u).now = s.now := rfl
  simp only [State.entryIndex, State.segbase, hreg, hshadow, hnow]

/-- What a matured PLAY leaves: the unit plays the entry that SEGBASE and the entry named give, from this cc on (R70). -/
theorem State.startNamed_starts (s : State) (g u seg : Nat) (src : Option SuccessorFrom)
    (hx : (s.segEntry (g / 4) (s.entryIndex g u seg)).len ≠ 0) :
    let t := (s.dropSuccessor g u).startNamed g u seg src
    (t.unit g u).queue = (s.unit g u).queue ∧ ∃ q, (t.unit g u).playing = some q ∧ q.index = s.entryIndex g u seg ∧
      q.start = s.now ∧ q.entry = s.segEntry (g / 4) (s.entryIndex g u seg) ∧ q.stop = s.now + q.entry.duration := by
  obtain h | h := s.dropSuccessor_eq g u
  · rw [h]
    exact s.startSegment_starts g u _ src hx
  · rw [h, State.startNamed, State.spliceLost_entryIndex]
    exact (s.spliceLost g u).startSegment_starts g u _ src hx

/-! ### Shadow writes and commits (R87, R88, R90) -/

theorem State.shadowPut_of_open {s : State} {g k : Nat} (h : s.setOpen g k = true) (r : Reg) (i hi lo v : Nat) :
    s.shadowPut g k r i hi lo v = s.setFld r i hi lo v := by simp [State.shadowPut, h]

theorem State.shadowPut_of_pending {s : State} {g k : Nat} (h : s.setOpen g k = false) (r : Reg) (i hi lo v : Nat) :
    s.shadowPut g k r i hi lo v = s.setBit (setStatus g k).1 (setStatus g k).2 1 true := by simp [State.shadowPut, h]

theorem setStatus_of_voice {g k : Nat} (h : k < 16) : setStatus g k = (.VOICE_STATUS, 16 * g + k) := by simp [setStatus, h]

@[simp] theorem State.setShadow_shadow (s : State) (g k : Nat) (x : SetState) : (s.setShadow g k x).shadow g k = x :=
  tget_tset_same _ _ _ _

theorem State.commitSet_pending (s : State) (script : Bool) (g k : Nat) : (s.commitSet script g k).setPending g k = true :=
  State.bit_setBit_same _ _ _ _ _ (by decide)

theorem State.commitSet_scriptCommitAt (s : State) (g k : Nat) :
    ((s.commitSet true g k).shadow g k).scriptCommitAt = some s.now := by
  have h : (s.commitSet true g k).shadow g k = _ := s.setShadow_shadow g k _
  rw [h]
  rfl

theorem onlyAt_commitSet {l : List (Reg × Nat)} (s : State) (script : Bool) {g k : Nat} (h : setStatus g k ∈ l) :
    OnlyAt l s (s.commitSet script g k) :=
  (onlyAt_of_reg_eq (fun _ _ => rfl) rfl : OnlyAt l s (s.setShadow g k _)).trans (onlyAt_setReg _ _ h)

/-! ### Windows (R125, R126) -/

/-- The one bit of a mask that names tone `x`. -/
theorem setBitsOf_twoPow : ∀ x : Fin 16, setBitsOf 16 (BitVec.ofNat 16 (2 ^ x.val)).toNat = [x.val] := by decide

@[simp] theorem State.pass_windows (s : State) (dt g x : Nat) : (s.pass dt).windows g x = s.windows g x := by
  simp [State.windows]

@[simp] theorem State.setWindows_windows (s : State) (g x : Nat) (ws : List ToneWindow) : (s.setWindows g x ws).windows g x = ws :=
  tget_tset_same _ _ _ _

/-- A tone outside array mode that integrates with a box window for no kernel, is not busy and has no commit pending opens one
more window of its length. -/
theorem State.offerAcq_opens {s : State} {g x m : Nat} (harray : s.bit .RFI_CTRL g 0 = false)
    (hbox : s.bit .TONE_CFG (16 * g + x) 0 = true) (hkrn : s.bit .TONE_CFG (16 * g + x) 1 = false)
    (hbusy : s.toneBusy g x m = false) (hnew : tfind s.rd.offered (16 * g + x) ≠ some m)
    (hpend : s.setPending g (20 + x) = false) :
    let t := s.offerAcq g x m
    (∃ w : ToneWindow, t.windows g x = s.windows g x ++ [w] ∧ w.m0 = (m + s.fld .TONE_WOFF (16 * g + x) 19 0 + 1) / 2 ∧
      w.n = s.fld .TONE_WLEN (16 * g + x) 23 0 + 1) ∧ t.scr = s.scr ∧ OnlyAt [] s t := by
  dsimp only
  unfold State.offerAcq
  extract_lets i n box again rd noted w opened k krn waits
  have hopen : ¬(noted.bit .RFI_CTRL g 0 || (!box && decide (4096 < n))) = true := by
    have ha : noted.bit .RFI_CTRL g 0 = false := harray
    have hb : box = true := hbox
    simp [ha, hb]
  have hfree : ¬(again || noted.toneBusy g x m) = true := by
    have ha : again = false := by simpa [again] using hnew
    have hb : noted.toneBusy g x m = false := hbusy
    simp [ha, hb]
  have hwaits : waits = opened := by
    have hc : opened.bit .TONE_CFG i 1 = false := hkrn
    simp [waits, hc]
  have hstays : opened.setPending g (20 + x) = false := hpend
  rw [if_neg hopen, if_neg hfree, hwaits, hstays, Bool.and_false, Bool.false_and, if_neg Bool.false_ne_true]
  exact ⟨⟨w, noted.setWindows_windows g x _, rfl, rfl⟩, rfl, onlyAt_of_reg_eq (fun _ _ => rfl) rfl⟩

/-! ### Events (R264, R269) -/

theorem State.eng_congr {s t : State} (h : t.scr = s.scr) (g e : Nat) : t.eng g e = s.eng g e := by simp [State.eng, h]

theorem State.emitEvent_scr (s : State) (i : Island) (c cc lin : Nat) : (s.emitEvent i c cc lin).scr = s.scr := by
  simp only [State.emitEvent]
  split
  · rfl
  · split
    · unfold State.flagLoop
      split <;> rfl
    · split <;> rfl

theorem onlyRegs_emitEvent (s : State) (i : Island) (c cc lin : Nat) :
    OnlyRegs [.EV_LOOP, .LEV_LOOP] s (s.emitEvent i c cc lin) := by
  refine ⟨fun q j hq => ?_, .of_kept (s.kept_emitEvent i c cc lin)⟩
  obtain ⟨hev, hlev⟩ : q ≠ .EV_LOOP ∧ q ≠ .LEV_LOOP := by simpa using hq
  simp only [State.emitEvent]
  split
  · rfl
  · split
    · unfold State.flagLoop
      split <;> simp [hev, hlev]
    · split <;> rfl

/-- An event that its island, its lineage and its crossings let through is emitted, a cluster's 8 cc later on a global channel and
2 cc later on a local one. -/
theorem State.emitEvent_emitted {s : State} {g c lin : Nat} (cc : Nat) (he : s.epochRun = true) (hl : lin < 8)
    (hi : s.islandAwake (.cluster g) = true) (hp : s.pathLocked ((Island.cluster g).pathUp (chanGlobal c)) = true) :
    (s.emitEvent (.cluster g) c cc lin).router.emitted = s.router.emitted ++ [{
      chan := c, cc := cc + (if c < 128 then 8 else 2), lineage := lin,
      loose := s.pathFaulted ((Island.cluster g).pathUp (chanGlobal c)) }] := by
  simp [State.emitEvent, he, hi, Nat.not_le.2 hl, hp]

/-! ### Splice requests (R109) -/

/-- A request that reaches a playing unit before its decision point, with none pending, becomes its pending request. -/
theorem State.matureRequest_of_playing {s : State} {g u seg m : Nat} {q : Playing} (hq : (s.unit g u).playing = some q)
    (hr : (s.unit g u).request = none) (hd : s.now ≤ q.decideAt) :
    s.matureRequest g u seg m = s.setUnit g u { s.unit g u with request := some (seg, m) } := by
  simp [State.matureRequest, hq, hr, Nat.not_lt.2 hd]

/-! ### What a matured entry does -/

section
variable {s : State} {g u e m seg : Nat} {rest : List (Nat × UnitAction)} {auxRest : List (Nat × AuxAction)}

theorem playMatureOp_plays (he : s.epochRun = true) (hq : (s.unit g u).queue = (m, .play seg) :: rest) (hm : m ≤ s.ftg)
    (hx : (s.segEntry (g / 4) (s.entryIndex g u seg)).len ≠ 0) :
    let t := playMatureOp g u s
    (t.unit g u).queue = rest ∧ ∃ q, (t.unit g u).playing = some q ∧ q.index = s.entryIndex g u seg ∧ q.start = s.now ∧
      q.entry = s.segEntry (g / 4) (s.entryIndex g u seg) ∧ q.stop = s.now + q.entry.duration := by
  obtain ⟨hqueue, hplays⟩ := (s.dropHead g u rest).startNamed_starts g u seg none hx
  rw [State.dropHead_unit] at hqueue
  rw [playMatureOp_of_due he hq hm]
  exact ⟨hqueue, hplays⟩

theorem shadowMatureOp_writes {v : BitVec 16} (he : s.epochRun = true) (hq : (s.unit g u).queue = (m, .setAmp v) :: rest)
    (hm : m ≤ s.ftg) (ho : s.setOpen g u = true) :
    let t := shadowMatureOp g u s
    (t.unit g u).queue = rest ∧ t.fld .VOICE_AMP (16 * g + u) 15 0 = v.toNat ∧ OnlyAt [(.VOICE_AMP, 16 * g + u)] s t := by
  have hopen : (s.dropHead g u rest).setOpen g u = true := ho
  rw [shadowMatureOp_of_setAmp he hq hm, State.shadowPut_of_open hopen]
  refine ⟨congrArg _ (s.dropHead_unit g u rest), ?_, (onlyAt_dropHead s g u rest).trans (onlyAt_setReg _ _ (by simp))⟩
  rw [State.fld_setFld_same _ _ _ _ _ _ (by decide)]
  exact Nat.mod_eq_of_lt v.isLt

theorem shadowMatureOp_rejects {v : BitVec 16} (he : s.epochRun = true) (hu : u < 16)
    (hq : (s.unit g u).queue = (m, .setAmp v) :: rest) (hm : m ≤ s.ftg) (ho : s.setOpen g u = false) :
    let t := shadowMatureOp g u s
    (t.unit g u).queue = rest ∧ t.bit .VOICE_STATUS (16 * g + u) 1 = true ∧ OnlyAt [(.VOICE_STATUS, 16 * g + u)] s t := by
  have hpending : (s.dropHead g u rest).setOpen g u = false := ho
  rw [shadowMatureOp_of_setAmp he hq hm, State.shadowPut_of_pending hpending, setStatus_of_voice hu]
  exact ⟨congrArg _ (s.dropHead_unit g u rest), State.bit_setBit_same _ _ _ _ _ (by decide),
    (onlyAt_dropHead s g u rest).trans (onlyAt_setReg _ _ (by simp))⟩

theorem commitMatureOp_commits (he : s.epochRun = true) (hq : (s.unit g u).queue = (m, .commit) :: rest) (hm : m ≤ s.ftg) :
    let t := commitMatureOp g u s
    (t.unit g u).queue = rest ∧ t.setPending g u = true ∧ (t.shadow g u).scriptCommitAt = some s.now ∧
      OnlyAt [setStatus g u] s t := by
  rw [commitMatureOp_of_due he hq hm]
  exact ⟨congrArg _ (s.dropHead_unit g u rest), State.commitSet_pending _ _ _ _, State.commitSet_scriptCommitAt _ _ _,
    (onlyAt_dropHead s g u rest).trans (onlyAt_commitSet _ _ (by simp))⟩

theorem acqMatureOp_opens {x : Fin 16} (he : s.epochRun = true)
    (hq : (s.eng g e).aux = (m, .acq (BitVec.ofNat 16 (2 ^ x.val))) :: auxRest) (hm : m ≤ s.ftg)
    (harray : s.bit .RFI_CTRL g 0 = false) (hbox : s.bit .TONE_CFG (16 * g + x) 0 = true)
    (hkrn : s.bit .TONE_CFG (16 * g + x) 1 = false) (hbusy : s.toneBusy g x m = false)
    (hnew : tfind s.rd.offered (16 * g + x) ≠ some m) (hpend : s.setPending g (20 + x) = false) :
    let t := acqMatureOp g e s
    (t.eng g e).aux = auxRest ∧ (∃ w : ToneWindow, t.windows g x = s.windows g x ++ [w] ∧
      w.m0 = (m + s.fld .TONE_WOFF (16 * g + x) 19 0 + 1) / 2 ∧ w.n = s.fld .TONE_WLEN (16 * g + x) 23 0 + 1) ∧
      OnlyAt [] s t := by
  obtain ⟨hopens, hscr, hframe⟩ := State.offerAcq_opens (s := s.dropAux g e auxRest) harray hbox hkrn hbusy hnew hpend
  rw [acqMatureOp_of_due he hq hm, setBitsOf_twoPow]
  exact ⟨(congrArg _ (State.eng_congr hscr g e)).trans (s.dropAux_aux g e auxRest), hopens,
    (onlyAt_dropAux s g e auxRest).trans hframe⟩

theorem markMatureOp_emits {c lin : Nat} (he : s.epochRun = true) (hq : (s.eng g e).aux = (m, .mark c lin) :: auxRest)
    (hm : m ≤ s.ftg) :
    let t := markMatureOp g e s
    (t.eng g e).aux = auxRest ∧ OnlyRegs [.EV_LOOP, .LEV_LOOP] s t ∧
      (lin < 8 → s.islandAwake (.cluster g) = true → s.pathLocked ((Island.cluster g).pathUp (chanGlobal c)) = true →
        t.router.emitted = s.router.emitted ++ [{
          chan := c, cc := s.now + (if c < 128 then 8 else 2), lineage := lin
          loose := s.pathFaulted ((Island.cluster g).pathUp (chanGlobal c)) }]) := by
  rw [markMatureOp_of_due he hq hm]
  exact ⟨(congrArg _ (State.eng_congr (State.emitEvent_scr _ _ _ _ _) g e)).trans (s.dropAux_aux g e auxRest),
    (onlyAt_dropAux s g e auxRest).onlyRegs.trans (onlyRegs_emitEvent _ _ _ _ _), fun hl hi hp =>
      State.emitEvent_emitted (s := s.dropAux g e auxRest) _ he hl hi hp⟩

theorem requestMatureOp_pends {q : Playing} (he : s.epochRun = true) (hq : (s.unit g u).queue = (m, .request seg) :: rest)
    (hm : m ≤ s.ftg) (hplay : (s.unit g u).playing = some q) (hr : (s.unit g u).request = none) (hd : s.now ≤ q.decideAt) :
    let t := requestMatureOp g u s
    (t.unit g u).queue = rest ∧ (t.unit g u).request = some (seg, m) ∧ (t.unit g u).playing = some q ∧ OnlyAt [] s t := by
  have hhead := s.dropHead_unit g u rest
  have hpends := State.matureRequest_of_playing (s := s.dropHead g u rest) (seg := seg) (m := m) (q := q)
    (by rw [hhead]; exact hplay) (by rw [hhead]; exact hr) hd
  rw [requestMatureOp_of_due he hq hm, hpends]
  dsimp only
  rw [State.setUnit_unit, hhead]
  exact ⟨rfl, rfl, hplay, (onlyAt_dropHead s g u rest).trans (onlyAt_of_reg_eq (fun _ _ => rfl) rfl)⟩

end

/-! ### The statement -/

/-- Settles O23: each entry acts on the state once its cc have passed, by `playMatureOp_plays` to `requestMatureOp_pends`; of
what those speak, the cc alone are not what they were before (`State.pass_now`). -/
theorem scriptEntriesMature : Obligations.ScriptEntriesMature := by
  intro dt g u e m seg s p hepoch
  have he : p.epochRun = true := by rwa [State.pass_epochRun]
  have hunit : p.unit g u = s.unit g u := s.pass_unit dt g u
  have heng : p.eng g e = s.eng g e := s.pass_eng dt g e
  have hnow : s.now + dt = p.now := (s.pass_now dt).symm
  have hrd : p.rd = s.rd := s.pass_rd dt
  have hfld (r : Reg) (i hi lo : Nat) : p.fld r i hi lo = s.fld r i hi lo := s.pass_fld dt r i hi lo
  have hbit (r : Reg) (i b : Nat) : p.bit r i b = s.bit r i b := s.pass_bit dt r i b
  refine ⟨fun rest hq hm hlen => ?play, fun v rest hu hq hm ho => ?ampOpen, fun v rest hu hq hm ho => ?ampPending,
    fun rest hq hm => ?commit, fun x rest hq hm harray hbox hkrn hbusy hnew hpend => ?acq, fun c lin rest hq hm => ?mark,
    fun q rest hq hm hplay hreq hd => ?request⟩
  case play =>
    have hentry (i : Nat) : p.segEntry (g / 4) i = s.segEntry (g / 4) i := State.segEntry_congr (s.pass_mem dt) _ i
    have hmem : SameMemory s (playMatureOp g u p) := .of_kept (by simp [p])
    obtain ⟨hqueue, q, hplays, hindex, hstart, hcopy, hstop⟩ :=
      playMatureOp_plays he (hunit ▸ hq) hm ((congrArg SegEntry.len (hentry _)).trans_ne hlen)
    rw [hentry] at hcopy
    rw [← hnow] at hstart hstop
    exact ⟨_, rfl, hqueue, q, hplays, hindex, hstart, hcopy, hstop, hmem⟩
  case ampOpen =>
    obtain ⟨hqueue, hamp, hframe⟩ := shadowMatureOp_writes he (hunit ▸ hq) hm ho
    exact ⟨_, rfl, hqueue, hamp, (onlyAt_pass s dt).trans hframe⟩
  case ampPending =>
    obtain ⟨hqueue, hrejects, hframe⟩ := shadowMatureOp_rejects he hu (hunit ▸ hq) hm ho
    exact ⟨_, rfl, hqueue, hrejects, (onlyAt_pass s dt).trans hframe⟩
  case commit =>
    obtain ⟨hqueue, hpending, hat, hframe⟩ := commitMatureOp_commits he (hunit ▸ hq) hm
    exact ⟨_, rfl, hqueue, hpending, hnow ▸ hat, (onlyAt_pass s dt).trans hframe⟩
  case acq =>
    obtain ⟨haux, ⟨w, hw, hm0, hn⟩, hframe⟩ := acqMatureOp_opens he (heng ▸ hq) hm ((hbit _ _ _).trans harray)
      ((hbit _ _ _).trans hbox) ((hbit _ _ _).trans hkrn) hbusy (hrd ▸ hnew) ((hbit _ _ _).trans hpend)
    rw [s.pass_windows dt] at hw
    rw [hfld] at hm0 hn
    exact ⟨_, rfl, haux, w, hw, hm0, hn, ((onlyAt_pass s dt).trans hframe).onlyRegs⟩
  case mark =>
    obtain ⟨haux, hframe, hemits⟩ := markMatureOp_emits he (heng ▸ hq) hm
    rw [hnow, ← s.pass_router dt]
    exact ⟨_, rfl, haux, (onlyAt_pass s dt).onlyRegs.trans hframe, hemits⟩
  case request =>
    rw [← hunit] at hq hplay hreq
    obtain ⟨hqueue, hrequest, hplays, hframe⟩ := requestMatureOp_pends he hq hm hplay hreq (hnow ▸ hd)
    exact ⟨_, rfl, hqueue, hrequest, hplays, ((onlyAt_pass s dt).trans hframe).onlyRegs⟩

end Sys2Proof.Machine
end

-- ==== Proof of the Script arithmetic ====
section
/-!
PROOFS. The arithmetic, the waits and the program time of the Script engines (R98, R105, R106, R113, R114). Each instruction
issues (`State.issued`), stores what its row says and advances PC. What an instruction stores is said once of the state that it
issues in, with the registers outside left as they were; that state reads, SCR_STATUS apart, what the state before the cc passed
read (`onlyAt_issue`).
-/

namespace Sys2Proof.Machine

/-! ### What the registers outside a list read -/

section
variable {l : List (Reg × Nat)} {s t : State} {g e : Nat}

theorem OnlyAt.mono {l' : List (Reg × Nat)} (h : OnlyAt l s t) (hl : l ⊆ l') : OnlyAt l' s t :=
  ⟨fun q j hq => h.1 q j fun hm => hq (hl hm), h.2⟩

theorem OnlyAt.pc_eq (h : OnlyAt l s t) (hpc : (.SCR_PC, 8 * g + e) ∉ l) : t.pc g e = s.pc g e :=
  State.fld_congr (h.1 _ _ hpc)

theorem OnlyAt.progTime_eq (h : OnlyAt l s t) (hlo : (.SCR_T_LO, 8 * g + e) ∉ l) (hhi : (.SCR_T_HI, 8 * g + e) ∉ l) :
    t.progTime g e = s.progTime g e := by
  simp only [State.progTime, State.pair, State.regNat, h.1 _ _ hlo, h.1 _ _ hhi]

/-- PC advances over what wrote other registers. -/
theorem OnlyAt.nextPc_pc (h : OnlyAt l s t) (hpc : (.SCR_PC, 8 * g + e) ∉ l) :
    (t.nextPc g e).pc g e = (s.pc g e + 1) % 32768 := by
  rw [State.nextPc_pc, h.pc_eq hpc]

end

section
variable (s : State) (g e : Nat)

theorem State.nextPc_reg {q : Reg} (j : Nat) (h : q ≠ .SCR_PC) : (s.nextPc g e).reg q j = s.reg q j :=
  s.reg_setReg_other _ _ _ _ _ h

/-- The state that an instruction issues in, `dt` cc on. -/
theorem onlyAt_issue {l : List (Reg × Nat)} (dt : Nat) (h : (.SCR_STATUS, 8 * g + e) ∈ l) :
    OnlyAt l s ((s.pass dt).issued g e) := (onlyAt_pass s dt).trans (onlyAt_issued _ g e h)

theorem State.issued_nextCc : ((s.issued g e).eng g e).nextCc = s.now + 1 := by
  simp [State.issued, State.setWaits, State.eng, State.setEng]

end

/-! ### A bit of a field -/

theorem State.bit_eq_getLsbD (s : State) (r : Reg) (i b : Nat) : s.bit r i b = (s.reg r i).getLsbD b := by
  have hone (n : Nat) : (n == 1) = decide (n = 1) := rfl
  simp [State.bit, bits, BitVec.getLsbD, Nat.testBit_eq_decide_div_mod_eq, Nat.shiftRight_eq_div_pow, hone]

/-- A bit of the field just stored. -/
theorem State.bit_setFld_in (s : State) (r : Reg) (i : Nat) {hi lo b : Nat} (v : Nat) (hhi : hi < 32) (hlo : lo ≤ b)
    (hb : b ≤ hi) : (s.setFld r i hi lo v).bit r i b = v.testBit (b - lo) := by
  rw [State.bit_eq_getLsbD, State.reg_setFld_same, getLsbD_putBits _ _ _ _ _ (by omega), if_pos (by omega)]

/-! ### The flags (R106) -/

theorem nzcv_testBit : ∀ n z c v : Bool, (nzcv n z c v).testBit 3 = n ∧ (nzcv n z c v).testBit 2 = z ∧
    (nzcv n z c v).testBit 1 = c ∧ (nzcv n z c v).testBit 0 = v := by decide

theorem State.setNzcv_bit (s : State) (g e f : Nat) {b : Nat} (hb : b ≤ 3) :
    (s.setNzcv g e f).bit .SCR_FLAGS (8 * g + e) b = f.testBit b :=
  s.bit_setFld_in _ _ _ (by decide) (Nat.zero_le _) hb

theorem onlyAt_setNzcv (s : State) (g e f : Nat) : OnlyAt [(.SCR_FLAGS, 8 * g + e)] s (s.setNzcv g e f) :=
  onlyAt_setReg _ _ (by simp)

/-- N, Z, C and V are stored, the rest of SCR_FLAGS stays, and PC advances. -/
theorem State.setNzcv_nextPc (s : State) (g e : Nat) (n z c v : Bool) :
    let i := 8 * g + e
    let t := (s.setNzcv g e (nzcv n z c v)).nextPc g e
    t.pc g e = (s.pc g e + 1) % 32768 ∧ t.bit .SCR_FLAGS i 3 = n ∧ t.bit .SCR_FLAGS i 2 = z ∧ t.bit .SCR_FLAGS i 1 = c ∧
      t.bit .SCR_FLAGS i 0 = v ∧ t.fld .SCR_FLAGS i 31 4 = s.fld .SCR_FLAGS i 31 4 ∧
      OnlyAt [(.SCR_FLAGS, i), (.SCR_PC, i)] s t := by
  intro i t
  have hframe := onlyAt_setNzcv s g e (nzcv n z c v)
  have hreg : t.reg .SCR_FLAGS i = (s.setNzcv g e (nzcv n z c v)).reg .SCR_FLAGS i := State.nextPc_reg _ _ _ _ (by decide)
  have hbit (b : Nat) (hb : b ≤ 3) : t.bit .SCR_FLAGS i b = (nzcv n z c v).testBit b :=
    (State.bit_congr hreg).trans (s.setNzcv_bit g e _ hb)
  obtain ⟨hn, hz, hc, hv⟩ := nzcv_testBit n z c v
  exact ⟨hframe.nextPc_pc (by simp), (hbit 3 (by decide)).trans hn, (hbit 2 (by decide)).trans hz,
    (hbit 1 (by decide)).trans hc, (hbit 0 (by decide)).trans hv,
    (State.fld_congr hreg).trans (s.fld_setFld_apart _ _ _ _ _ _ _ (by decide) (.inr (by decide))),
    (hframe.mono (by simp [i])).trans (onlyAt_nextPc _ (by simp [i]))⟩

/-- The flags of a sum, as R106 words them. -/
theorem addFlags_eq (a b : Word) : addFlags a b = nzcv (a + b).msb (decide (a + b = 0)) (decide (2 ^ 32 ≤ a.toNat + b.toNat))
    (decide (a.msb = b.msb) && decide ((a + b).msb ≠ a.msb)) := by
  have hz : (a + b == 0) = decide (a + b = 0) := rfl
  have hv : (a.msb == b.msb && (a + b).msb != a.msb) = (decide (a.msb = b.msb) && decide ((a + b).msb ≠ a.msb)) := by
    cases a.msb <;> cases b.msb <;> cases (a + b).msb <;> rfl
  rw [addFlags, hz, hv]

/-- The flags of a difference: it is 0 where the operands are equal. -/
theorem subFlags_eq (a b : Word) : subFlags a b = nzcv (a - b).msb (decide (a = b)) (decide (b.toNat ≤ a.toNat))
    (decide (a.msb ≠ b.msb) && decide ((a - b).msb ≠ a.msb)) := by
  have hz : (a - b == 0) = decide (a = b) := decide_eq_decide.2 sub_eq_zero
  have hv : (a.msb != b.msb && (a - b).msb != a.msb) = (decide (a.msb ≠ b.msb) && decide ((a - b).msb ≠ a.msb)) := by
    cases a.msb <;> cases b.msb <;> cases (a - b).msb <;> rfl
  rw [subFlags, hz, hv]

/-! ### What each instruction stores -/

section
variable {w : BitVec 64}

theorem onlyAt_setSreg (u : State) (g e j : Nat) (v : Word) :
    OnlyAt [(.SCR_S, 16 * (8 * g + e) + j)] u (u.setSreg g e j v) := onlyAt_setReg _ _ (by simp)

theorem State.setSreg_sreg (u : State) (g e j : Nat) (v : Word) : (u.setSreg g e j v).sreg g e j = v :=
  State.reg_setReg_same _ _ _ _

theorem ldiOp_loads (u : State) (g e : Nat) (w : BitVec 64) :
    let i := 8 * g + e
    let t := ldiOp g e w u
    t.sreg g e (SI.dst w) = BitVec.ofNat 32 (SI.imm32 w) ∧ t.pc g e = (u.pc g e + 1) % 32768 ∧
      OnlyAt [(.SCR_S, 16 * i + SI.dst w), (.SCR_PC, i)] u t := by
  intro i t
  have hset := onlyAt_setSreg u g e (SI.dst w) (BitVec.ofNat 32 (SI.imm32 w))
  exact ⟨(State.nextPc_reg _ _ _ _ (by decide)).trans (u.setSreg_sreg _ _ _ _), hset.nextPc_pc (by simp),
    (hset.mono (by simp [i])).trans (onlyAt_nextPc _ (by simp [i]))⟩

/-- S[DST] takes a result and SCR_FLAGS its flags: what ADD and SUB share. -/
theorem State.setSreg_setNzcv_nextPc (u : State) (g e j : Nat) (r : Word) (n z c v : Bool) :
    let i := 8 * g + e
    let t := ((u.setSreg g e j r).setNzcv g e (nzcv n z c v)).nextPc g e
    t.sreg g e j = r ∧ t.pc g e = (u.pc g e + 1) % 32768 ∧ t.bit .SCR_FLAGS i 3 = n ∧ t.bit .SCR_FLAGS i 2 = z ∧
      t.bit .SCR_FLAGS i 1 = c ∧ t.bit .SCR_FLAGS i 0 = v ∧ t.fld .SCR_FLAGS i 31 4 = u.fld .SCR_FLAGS i 31 4 ∧
      OnlyAt [(.SCR_S, 16 * i + j), (.SCR_FLAGS, i), (.SCR_PC, i)] u t := by
  intro i t
  have hset := onlyAt_setSreg u g e j r
  obtain ⟨hpc, hn, hz, hc, hv, hrest, hframe⟩ := (u.setSreg g e j r).setNzcv_nextPc g e n z c v
  refine ⟨(hframe.1 _ _ (by simp)).trans (u.setSreg_sreg _ _ _ _), ?_, hn, hz, hc, hv,
    hrest.trans (State.fld_congr (hset.1 _ _ (by simp))), (hset.mono (by simp [i])).trans (hframe.mono (by simp [i]))⟩
  rw [hpc, hset.pc_eq (by simp)]

/-- Program time takes `m`, and PC advances. -/
theorem State.setProgTime_nextPc (u : State) (g e m : Nat) :
    let i := 8 * g + e
    let t := (u.setProgTime g e m).nextPc g e
    t.progTime g e = m % 2 ^ 64 ∧ t.pc g e = (u.pc g e + 1) % 32768 ∧
      OnlyAt [(.SCR_T_LO, i), (.SCR_T_HI, i), (.SCR_PC, i)] u t := by
  intro i t
  refine ⟨?_, ?_, (onlyAt_setProgTime u m (by simp [i]) (by simp [i])).trans (onlyAt_nextPc _ (by simp [i]))⟩
  · rw [State.nextPc_progTime, State.setProgTime_progTime]
  · rw [State.nextPc_pc, State.setProgTime_pc]

theorem waitOp_waits (u : State) (g e : Nat) (w : BitVec 64) :
    let i := 8 * g + e
    let t := waitOp g e w u
    t.progTime g e = (u.progTime g e + u.opX g e w) % 2 ^ 64 ∧ t.pc g e = (u.pc g e + 1) % 32768 ∧
      OnlyAt [(.SCR_T_LO, i), (.SCR_T_HI, i), (.SCR_PC, i)] u t := u.setProgTime_nextPc g e _

theorem clapOp_waits (u : State) (g e : Nat) (w : BitVec 64) :
    let i := 8 * g + e
    let t := clapOp g e w u
    t.progTime g e = nextCheckFrom (u.progTime g e) % 2 ^ 64 ∧ t.pc g e = (u.pc g e + 1) % 32768 ∧
      OnlyAt [(.SCR_T_LO, i), (.SCR_T_HI, i), (.SCR_PC, i)] u t := u.setProgTime_nextPc g e _

/-! ### LATE (R101, R116) -/

theorem State.count_regNat (s : State) (r : Reg) (i : Nat) :
    (s.count r i).regNat r i = min 0xFFFF_FFFF (s.regNat r i + 1) := by
  rw [State.regNat, State.reg_count_same, BitVec.toNat_ofNat]
  exact Nat.mod_eq_of_lt (by omega)

/-- LATE is set and counted. -/
theorem State.engineLate_late (u : State) (g e : Nat) :
    let i := 8 * g + e
    let t := u.engineLate g e
    t.bit .SCR_STATUS i 2 = true ∧ t.regNat .SCR_LATE_CNT i = min 0xFFFF_FFFF (u.regNat .SCR_LATE_CNT i + 1) ∧
      OnlyAt [(.SCR_STATUS, i), (.SCR_LATE_CNT, i)] u t := by
  intro i t
  refine ⟨?_, ?_, (onlyAt_setReg u _ (by simp [i])).trans (onlyAt_setReg _ _ (by simp [i]))⟩
  · exact (State.bit_congr (State.reg_count_other _ _ _ _ _ _ (by decide))).trans (u.bit_setBit_same _ _ _ _ (by decide))
  · have hcnt : (u.setBit .SCR_STATUS i 2 true).regNat .SCR_LATE_CNT i = u.regNat .SCR_LATE_CNT i :=
      congrArg BitVec.toNat (u.reg_setBit_other _ _ _ _ _ _ (by decide))
    exact (State.count_regNat _ _ _).trans (by rw [hcnt])

/-- WAITU moves program time to its target or counts LATE. -/
theorem waituOp_moves (u : State) (g e : Nat) (hsa : SI.sa w % 2 = 0) :
    let i := 8 * g + e
    let t := waituOp g e w u
    let x := (u.sPair g e (SI.sa w) + SI.imm32 w) % 2 ^ 64
    t.pc g e = (u.pc g e + 1) % 32768 ∧ (u.progTime g e ≤ x → t.progTime g e = x) ∧
      (x < u.progTime g e → t.progTime g e = u.progTime g e ∧ t.bit .SCR_STATUS i 2 = true ∧
        t.regNat .SCR_LATE_CNT i = min 0xFFFF_FFFF (u.regNat .SCR_LATE_CNT i + 1)) ∧
      OnlyAt [(.SCR_T_LO, i), (.SCR_T_HI, i), (.SCR_PC, i), (.SCR_STATUS, i), (.SCR_LATE_CNT, i)] u t := by
  intro i t x
  have ht : t = (if u.progTime g e ≤ x then u.setProgTime g e x else u.engineLate g e).nextPc g e :=
    State.guard_of_clear (by simp [hsa]) u g e _
  by_cases hx : u.progTime g e ≤ x
  · obtain ⟨htime, hpc, hframe⟩ := u.setProgTime_nextPc g e x
    rw [if_pos hx] at ht
    rw [ht]
    exact ⟨hpc, fun _ => htime.trans (Nat.mod_eq_of_lt (Nat.mod_lt _ (by decide))), fun h => absurd hx (Nat.not_le.2 h),
      hframe.mono (by simp [i])⟩
  · obtain ⟨hlate, hcnt, hframe⟩ := u.engineLate_late g e
    rw [if_neg hx] at ht
    rw [ht]
    refine ⟨hframe.nextPc_pc (by simp), fun h => absurd h hx, fun _ => ⟨?_, ?_, ?_⟩,
      (hframe.mono (by simp [i])).trans (onlyAt_nextPc _ (by simp [i]))⟩
    · rw [State.nextPc_progTime, hframe.progTime_eq (by simp) (by simp)]
    · exact (State.bit_congr (State.nextPc_reg _ _ _ _ (by decide))).trans hlate
    · exact (congrArg BitVec.toNat (State.nextPc_reg _ _ _ _ (by decide))).trans hcnt

/-! ### Sweep generators (R113, R114) -/

/-- What a sweep generator gives rests on its registers and its position alone. -/
theorem State.swgCfg_congr {s t : State} (h : ∀ q j, q ∉ [Reg.SCR_S, .SCR_FLAGS, .SCR_STATUS] → t.reg q j = s.reg q j)
    (g k : Nat) : t.swgCfg g k = s.swgCfg g k := by
  simp [State.swgCfg, State.fld, State.bit, h]

theorem State.swgValue_congr {s t : State} (h : ∀ q j, q ∉ [Reg.SCR_S, .SCR_FLAGS, .SCR_STATUS] → t.reg q j = s.reg q j)
    {g k : Nat} (hk : t.sweep g k = s.sweep g k) : t.swgValue g k = s.swgValue g k := by
  simp [State.swgValue, State.swgCfg_congr h, hk, State.pair, State.regNat, State.bit, h]

@[simp] theorem State.setSweep_sweep (s : State) (g k : Nat) (x : SweepState) : (s.setSweep g k x).sweep g k = x :=
  tget_tset_same _ _ _ _

theorem State.swgAdvance_step {s : State} {g k : Nat} (h : (s.sweep g k).step + 1 < (s.swgCfg g k).length) :
    ((s.swgAdvance g k).sweep g k).step = (s.sweep g k).step + 1 := by
  rw [State.swgAdvance, if_pos h, State.setSweep_sweep]

theorem onlyAt_swgAdvance (s : State) (g k : Nat) : OnlyAt [(.SWG_STATUS, 4 * g + k)] s (s.swgAdvance g k) := by
  have hmove (x : SweepState) : OnlyAt [(.SWG_STATUS, 4 * g + k)] s (s.setSweep g k x) :=
    onlyAt_of_reg_eq (fun _ _ => rfl) rfl
  have hmark (b : Nat) : OnlyAt [(.SWG_STATUS, 4 * g + k)] s (s.setBit .SWG_STATUS (4 * g + k) b true) :=
    onlyAt_setReg _ _ (by simp)
  unfold State.swgAdvance
  extract_lets i c p
  split
  · exact hmove _
  · split
    · split
      · exact hmark 1
      · exact hmark 0
    · exact hmove _

theorem swpOp_of_valid (u : State) (g e : Nat) (hv : (u.swgCfg g (SI.gen w)).valid = true)
    (hw : u.bit .SWG_CTRL (4 * g + SI.gen w) 3 = false) :
    swpOp g e w u = ((((u.setSreg g e (SI.dst w) (BitVec.ofNat 32 (u.swgValue g (SI.gen w)))).setNzcv g e
      (nzcv false ((u.sweep g (SI.gen w)).step + 1 == (u.swgCfg g (SI.gen w)).length) false false)).swgAdvance g
        (SI.gen w)).nextPc g e) := by
  rw [swpOp, State.guard_of_clear (by simp [hv, hw]), hw]
  rfl

/-- SWP of a generator of 32-bit values. -/
theorem swpOp_sweeps (u : State) (g e : Nat) (hv : (u.swgCfg g (SI.gen w)).valid = true)
    (hw : u.bit .SWG_CTRL (4 * g + SI.gen w) 3 = false) :
    let i := 8 * g + e
    let k := SI.gen w
    let t := swpOp g e w u
    t.sreg g e (SI.dst w) = BitVec.ofNat 32 (u.swgValue g k) ∧ t.pc g e = (u.pc g e + 1) % 32768 ∧
      t.bit .SCR_FLAGS i 2 = decide ((u.sweep g k).step + 1 = (u.swgCfg g k).length) ∧
      ((u.sweep g k).step + 1 < (u.swgCfg g k).length → (t.sweep g k).step = (u.sweep g k).step + 1) ∧
      OnlyAt [(.SCR_S, 16 * i + SI.dst w), (.SCR_FLAGS, i), (.SCR_PC, i), (.SWG_STATUS, 4 * g + k)] u t := by
  intro i k t
  let f := nzcv false ((u.sweep g k).step + 1 == (u.swgCfg g k).length) false false
  let u1 := u.setSreg g e (SI.dst w) (BitVec.ofNat 32 (u.swgValue g k))
  let u2 := u1.setNzcv g e f
  have ht : t = (u2.swgAdvance g k).nextPc g e := swpOp_of_valid u g e hv hw
  have hset : OnlyAt [(.SCR_S, 16 * i + SI.dst w)] u u1 := onlyAt_setSreg u g e _ _
  have hflags : OnlyAt [(.SCR_FLAGS, i)] u1 u2 := onlyAt_setNzcv u1 g e f
  have hadv : OnlyAt [(.SWG_STATUS, 4 * g + k)] u2 (u2.swgAdvance g k) := onlyAt_swgAdvance u2 g k
  have hstored : OnlyAt [(.SCR_S, 16 * i + SI.dst w), (.SCR_FLAGS, i), (.SWG_STATUS, 4 * g + k)] u (u2.swgAdvance g k) :=
    ((hset.mono (by simp)).trans (hflags.mono (by simp))).trans (hadv.mono (by simp))
  have hcfg : u2.swgCfg g k = u.swgCfg g k := State.swgCfg_congr (fun q j hq => by
    obtain ⟨hs, hf, -⟩ : q ≠ .SCR_S ∧ q ≠ .SCR_FLAGS ∧ q ≠ .SCR_STATUS := by simpa using hq
    exact (hflags.1 q j (by simp [hf])).trans (hset.1 q j (by simp [hs]))) g k
  rw [ht]
  refine ⟨?_, hstored.nextPc_pc (by simp), ?_, fun hlast => ?_,
    (hstored.mono (by simp)).trans (onlyAt_nextPc _ (by simp [i]))⟩
  · calc ((u2.swgAdvance g k).nextPc g e).sreg g e (SI.dst w) = (u2.swgAdvance g k).sreg g e (SI.dst w) :=
          State.nextPc_reg _ _ _ _ (by decide)
      _ = u2.sreg g e (SI.dst w) := hadv.1 _ _ (by simp)
      _ = u1.sreg g e (SI.dst w) := hflags.1 _ _ (by simp)
      _ = BitVec.ofNat 32 (u.swgValue g k) := u.setSreg_sreg g e _ _
  · calc ((u2.swgAdvance g k).nextPc g e).bit .SCR_FLAGS i 2 = (u2.swgAdvance g k).bit .SCR_FLAGS i 2 :=
          State.bit_congr (State.nextPc_reg _ _ _ _ (by decide))
      _ = u2.bit .SCR_FLAGS i 2 := State.bit_congr (hadv.1 _ _ (by simp))
      _ = f.testBit 2 := u1.setNzcv_bit g e f (by decide)
      _ = decide ((u.sweep g k).step + 1 = (u.swgCfg g k).length) := (nzcv_testBit _ _ _ _).2.1
  · exact State.swgAdvance_step (s := u2) (hcfg ▸ hlast)

end

/-! ### The statement -/

/-- What the state that an instruction issues in reads of the registers other than SCR_STATUS. -/
theorem State.issued_pass_reg (s : State) (dt g e : Nat) {q : Reg} (j : Nat) (h : q ≠ .SCR_STATUS) :
    ((s.pass dt).issued g e).reg q j = s.reg q j := by
  rw [State.issued_reg _ _ _ _ _ h, State.pass_reg]

@[simp] theorem State.issued_sweep (s : State) (g e k : Nat) : (s.issued g e).sweep g k = s.sweep g k := rfl
@[simp] theorem State.pass_sweep (s : State) (dt g k : Nat) : (s.pass dt).sweep g k = s.sweep g k := by simp [State.sweep]

/-- Settles O19: the registers that an instruction reads are those before the cc passed (`State.issued_pass_reg`), and `ldiOp_loads`
to `swpOp_sweeps` say what it makes of them. -/
theorem scriptArithmetic : Obligations.ScriptArithmetic := by
  intro dt g e w s i p pcs b a
  let u := p.issued g e
  have hreg (q : Reg) (j : Nat) (h : q ≠ .SCR_STATUS) : u.reg q j = s.reg q j := s.issued_pass_reg dt g e j h
  have hpc : u.pc g e = s.pc g e := State.fld_congr (hreg _ _ (by decide))
  have hT : u.progTime g e = s.progTime g e := by simp [u, p]
  have hS (j : Nat) : u.sreg g e j = s.sreg g e j := hreg _ _ (by decide)
  have hops : u.aluOperands g e w = (a, b) := by simp [State.aluOperands, hS, a, b]
  have hissue {l : List (Reg × Nat)} (hl : (.SCR_STATUS, i) ∈ l) : OnlyAt l s u := onlyAt_issue s g e dt hl
  have hflags (h l : Nat) : u.fld .SCR_FLAGS i h l = s.fld .SCR_FLAGS i h l := State.fld_congr (hreg _ _ (by decide))
  refine ⟨fun hr => ?nop, fun hr => ?ldi, fun hr => ?add, fun hr => ?sub, fun hr => ?cmp, fun hr => ?wait,
    fun hr hsa => ?waitu, fun hr => ?clap, fun hr hv hw => ?swp⟩
  case nop =>
    refine completes_of_issue rfl hr rfl ⟨?_, ?_, (hissue (by simp)).trans (onlyAt_nextPc _ (by simp [i]))⟩
    · exact (u.nextPc_pc g e).trans (by rw [hpc])
    · rw [State.nextPc_eng, State.issued_nextCc, State.pass_now]
  case ldi =>
    obtain ⟨hdst, hnext, hframe⟩ := ldiOp_loads u g e w
    rw [hpc] at hnext
    exact completes_of_issue rfl hr rfl ⟨hdst, hnext, (hissue (by simp)).trans (hframe.mono (by simp [i]))⟩
  case add =>
    obtain ⟨hdst, hnext, hn, hz, hc, hv, hrest, hframe⟩ := u.setSreg_setNzcv_nextPc g e (SI.dst w) (a + b) (a + b).msb
      (decide (a + b = 0)) (decide (2 ^ 32 ≤ a.toNat + b.toNat)) (decide (a.msb = b.msb) && decide ((a + b).msb ≠ a.msb))
    rw [hpc] at hnext
    exact completes_of_issue rfl hr (by rw [addOp, hops, addFlags_eq])
      ⟨hdst, hnext, hn, hz, hc, hv, hrest.trans (hflags _ _), (hissue (by simp)).trans (hframe.mono (by simp [i]))⟩
  case sub =>
    obtain ⟨hdst, hnext, hn, hz, hc, hv, -, hframe⟩ := u.setSreg_setNzcv_nextPc g e (SI.dst w) (a - b) (a - b).msb
      (decide (a = b)) (decide (b.toNat ≤ a.toNat)) (decide (a.msb ≠ b.msb) && decide ((a - b).msb ≠ a.msb))
    rw [hpc] at hnext
    exact completes_of_issue rfl hr (by rw [subOp, hops, subFlags_eq])
      ⟨hdst, hnext, hn, hz, hc, hv, (hissue (by simp)).trans (hframe.mono (by simp [i]))⟩
  case cmp =>
    obtain ⟨hnext, hn, hz, hc, hv, -, hframe⟩ := u.setNzcv_nextPc g e (a - b).msb (decide (a = b))
      (decide (b.toNat ≤ a.toNat)) (decide (a.msb ≠ b.msb) && decide ((a - b).msb ≠ a.msb))
    rw [hpc] at hnext
    exact completes_of_issue rfl hr (by rw [cmpOp, hops, subFlags_eq])
      ⟨hnext, hn, hz, hc, hv, (hissue (by simp)).trans (hframe.mono (by simp [i]))⟩
  case wait =>
    obtain ⟨htime, hnext, hframe⟩ := waitOp_waits u g e w
    have hX : u.opX g e w = SI.imm32 w + (if SI.reg w then a.toNat else 0) := by
      rw [State.opX, State.regTerm, hS]
    rw [hpc] at hnext
    rw [hT, hX, ← Nat.add_assoc] at htime
    exact completes_of_issue rfl hr rfl ⟨htime, hnext, (hissue (by simp)).trans (hframe.mono (by simp [i]))⟩
  case waitu =>
    obtain ⟨hnext, hmove, hlate, hframe⟩ := waituOp_moves u g e hsa
    have hpair : u.sPair g e (SI.sa w) = s.sPair g e (SI.sa w) := by simp [State.sPair, hS]
    have hcnt : u.regNat .SCR_LATE_CNT (8 * g + e) = s.regNat .SCR_LATE_CNT i := congrArg _ (hreg _ _ (by decide))
    rw [hT, hpair] at hmove hlate
    rw [hcnt] at hlate
    rw [hpc] at hnext
    exact completes_of_issue rfl hr rfl ⟨hnext, hmove, hlate, (hissue (by simp)).trans (hframe.mono (by simp [i]))⟩
  case clap =>
    obtain ⟨htime, hnext, hframe⟩ := clapOp_waits u g e w
    rw [hpc] at hnext
    rw [hT] at htime
    exact completes_of_issue rfl hr rfl ⟨htime, hnext, (hissue (by simp)).trans (hframe.mono (by simp [i]))⟩
  case swp =>
    have hswg : ∀ q j, q ∉ [Reg.SCR_S, .SCR_FLAGS, .SCR_STATUS] → u.reg q j = s.reg q j := fun q j hq =>
      hreg q j (by rintro rfl; simp at hq)
    have hcfg : u.swgCfg g (SI.gen w) = s.swgCfg g (SI.gen w) := State.swgCfg_congr hswg _ _
    have hsweep : u.sweep g (SI.gen w) = s.sweep g (SI.gen w) := by simp [u, p]
    have hvalue : u.swgValue g (SI.gen w) = s.swgValue g (SI.gen w) := State.swgValue_congr hswg hsweep
    obtain ⟨hdst, hnext, hz, hstep, hframe⟩ := swpOp_sweeps u g e (hcfg ▸ hv)
      ((State.bit_congr (hreg _ _ (by decide))).trans hw)
    rw [hpc] at hnext
    rw [hvalue] at hdst
    rw [hcfg, hsweep] at hz hstep
    exact completes_of_issue rfl hr rfl
      ⟨hdst, hnext, hz, hstep, (hissue (by simp)).trans (hframe.mono (by simp [i]))⟩

end Sys2Proof.Machine
end

-- ==== Proof of the Script branches on decisions ====
section
/-!
PROOFS. BRD and BRE (R107, R108, R110-R112). At its issue a branch waits for its decision point or is behind it
(`State.issueBranch_ahead`, `State.issueBranch_behind`). The wait ends in `State.resumed`, from which the branch goes by what the
decision point found (`branchDecideOp_of_decision`, `branchDecideOp_of_latch`). A play that waited for a queue entry is placed in
the same way (`queuedPlaceOp_of_room`).
-/

namespace Sys2Proof.Machine

/-! ### The waits of an engine (R116) -/

section
variable (s : State) (g e : Nat)

theorem State.setWaits_dp (dp ahead q : Bool) :
    (s.setWaits g e dp ahead q).bit .SCR_STATUS (8 * g + e) 4 = dp := by
  have hbit : (b2n dp + 2 * b2n ahead + 4 * b2n q).testBit (4 - 4) = dp := by
    cases dp <;> cases ahead <;> cases q <;> rfl
  exact (s.bit_setFld_in _ _ _ (by decide) (le_refl 4) (by decide)).trans hbit

/-- An engine is stored and its wait bits. -/
theorem onlyAt_setEng_setWaits (x : EngineState) (dp ahead q : Bool) :
    OnlyAt [(.SCR_STATUS, 8 * g + e)] s ((s.setEng g e x).setWaits g e dp ahead q) :=
  (onlyAt_of_reg_eq (fun _ _ => rfl) rfl : OnlyAt _ s (s.setEng g e x)).trans (onlyAt_setReg _ _ (by simp))

theorem State.setEng_setWaits_eng (x : EngineState) (dp ahead q : Bool) :
    ((s.setEng g e x).setWaits g e dp ahead q).eng g e = x := s.setEng_eng g e x

/-! ### Where a branch goes -/

theorem SI.tgt_lt (w : BitVec 64) : SI.tgt w < 32768 := Nat.mod_lt _ (by decide)

theorem State.branchTo_pc (taken : Bool) (w : BitVec 64) :
    (s.branchTo g e taken w).pc g e = if taken then SI.tgt w else (s.pc g e + 1) % 32768 := by
  cases taken with
  | false => exact s.nextPc_pc g e
  | true =>
    have hlt := SI.tgt_lt w
    simp only [State.branchTo, State.setPc, State.pc, State.fld_setReg_same, bits, BitVec.toNat_ofNat, if_true]
    omega

theorem onlyAt_branchTo (taken : Bool) (w : BitVec 64) :
    OnlyAt [(.SCR_PC, 8 * g + e)] s (s.branchTo g e taken w) := by
  cases taken with
  | false => exact onlyAt_nextPc _ (by simp)
  | true => exact onlyAt_setReg _ _ (by simp)

theorem State.branchTo_scr (taken : Bool) (w : BitVec 64) : (s.branchTo g e taken w).scr = s.scr := by
  cases taken <;> rfl

theorem State.branchTo_router (taken : Bool) (w : BitVec 64) : (s.branchTo g e taken w).router = s.router := by
  cases taken <;> rfl

theorem State.branchTo_now (taken : Bool) (w : BitVec 64) : (s.branchTo g e taken w).now = s.now := by
  cases taken <;> rfl

/-- What wrote other registers before the branch leaves PC as it was. -/
theorem OnlyAt.branchTo_pc {l : List (Reg × Nat)} {s t : State} {g e : Nat} (h : OnlyAt l s t)
    (hpc : (.SCR_PC, 8 * g + e) ∉ l) (taken : Bool) (w : BitVec 64) :
    (t.branchTo g e taken w).pc g e = if taken then SI.tgt w else (s.pc g e + 1) % 32768 := by
  rw [State.branchTo_pc, h.pc_eq hpc]

end

/-! ### The issue of a branch (R107, R110) -/

@[simp] theorem State.pass_unitOwner (s : State) (dt g u : Nat) : (s.pass dt).unitOwner g u = s.unitOwner g u := by
  simp [State.unitOwner]

theorem State.unitErrors_clear_of_fits {s : State} {g e u : Nat} (h : u = 31 ∨ (u < 20 ∧ s.unitOwner g u = e)) :
    ∀ c ∈ s.unitErrors g e u true, c.1 = false := by
  obtain rfl | ⟨hu, ho⟩ := h
  · simp [State.unitErrors]
  · exact State.unitErrors_clear hu ho

/-- The engine waits at `w` for the decision point `T − DPL`. -/
def State.atBranch (s : State) (g e : Nat) (w : BitVec 64) : State :=
  (s.setEng g e { s.eng g e with
    wait := some { word := w, t := s.progTime g e, d := s.progTime g e - s.fld .SCR_CFG (8 * g + e) 6 0 } }).setWaits
      g e true false false

section
variable {s : State} {g e : Nat} {w : BitVec 64}

theorem State.atBranch_waits (s : State) (g e : Nat) (w : BitVec 64) :
    let t := s.atBranch g e w
    (t.eng g e).wait = some { word := w, t := s.progTime g e, d := s.progTime g e - s.fld .SCR_CFG (8 * g + e) 6 0 } ∧
      t.bit .SCR_STATUS (8 * g + e) 4 = true ∧ t.pc g e = s.pc g e ∧ OnlyAt [(.SCR_STATUS, 8 * g + e)] s t := by
  have hframe := onlyAt_setEng_setWaits s g e { s.eng g e with
    wait := some { word := w, t := s.progTime g e, d := s.progTime g e - s.fld .SCR_CFG (8 * g + e) 6 0 } } true false false
  exact ⟨congrArg _ (s.setEng_setWaits_eng _ _ _ _ _ _), State.setWaits_dp _ _ _ _ _ _, hframe.pc_eq (by simp), hframe⟩

theorem State.issueBranch_ahead (h : s.ftg + s.fld .SCR_CFG (8 * g + e) 6 0 ≤ s.progTime g e) (behind : State → State) :
    s.issueBranch g e w behind = s.atBranch g e w := if_pos h

theorem State.issueBranch_behind (h : s.progTime g e < s.ftg + s.fld .SCR_CFG (8 * g + e) 6 0) (behind : State → State) :
    s.issueBranch g e w behind = behind s := if_neg (Nat.not_le.2 h)

theorem brdOp_of_fits (hs : SI.slot w ≤ 1279) (hc : SI.brdCond w ≤ 4)
    (hu : SI.unit w = 31 ∨ (SI.unit w < 20 ∧ s.unitOwner g (SI.unit w) = e)) :
    brdOp g e w s = s.issueBranch g e w (fun s => (s.substitute g e).branchTo g e
      (brdHolds (SI.brdCond w) (s.slotDefault (SI.slot w)) (SI.k w) true) w) := by
  rw [brdOp, State.guard_of_clear]
  exact List.forall_mem_cons.2 ⟨by simp [hs], List.forall_mem_cons.2 ⟨by simp [hc], State.unitErrors_clear_of_fits hu⟩⟩

theorem breOp_of_fits (hu : SI.unit w = 31 ∨ (SI.unit w < 20 ∧ s.unitOwner g (SI.unit w) = e)) :
    breOp g e w s = s.issueBranch g e w
      (fun s => ((s.engineLate g e).setLineage g e none).branchTo g e (SI.pol w) w) := by
  rw [breOp, State.guard_of_clear (State.unitErrors_clear_of_fits hu)]

end

/-! ### Substitution (R111) -/

/-- The slot defaults in force stay as an engine issues. -/
theorem State.issued_slotDefault (s : State) (g e slot : Nat) : (s.issued g e).slotDefault slot = s.slotDefault slot := by
  have hreg (j : Nat) : (s.issued g e).reg .FAB_DFLT_ACT j = s.reg .FAB_DFLT_ACT j := s.issued_reg g e _ _ (by decide)
  have hfab : (s.issued g e).fab = s.fab := rfl
  have hnow : (s.issued g e).now = s.now := rfl
  simp only [State.slotDefault, State.dfltWord, hreg, hfab, hnow]

/-- The substitution of a slot default sets LATE and counts. -/
theorem State.substitute_late (s : State) (g e : Nat) :
    let i := 8 * g + e
    let t := s.substitute g e
    t.bit .SCR_STATUS i 2 = true ∧ t.regNat .SCR_SUBST_CNT i = min 0xFFFF_FFFF (s.regNat .SCR_SUBST_CNT i + 1) ∧
      OnlyAt [(.SCR_STATUS, i), (.SCR_LATE_CNT, i), (.SCR_SUBST_CNT, i)] s t := by
  intro i t
  obtain ⟨hlate, -, hframe⟩ := s.engineLate_late g e
  have hreg (q : Reg) (j : Nat) : t.reg q j = ((s.engineLate g e).count .SCR_SUBST_CNT i).reg q j := State.raise_reg _ _ _ _
  refine ⟨?_, ?_, ((hframe.mono (by simp [i])).trans (onlyAt_setReg _ _ (by simp [i]))).trans
    (onlyAt_of_reg_eq hreg (by simp [t, State.substitute]))⟩
  · exact (State.bit_congr ((hreg _ _).trans (State.reg_count_other _ _ _ _ _ _ (by decide)))).trans hlate
  · have hcnt : (s.engineLate g e).regNat .SCR_SUBST_CNT i = s.regNat .SCR_SUBST_CNT i :=
      congrArg BitVec.toNat (hframe.1 _ _ (by simp))
    exact (congrArg BitVec.toNat (hreg _ _)).trans ((State.count_regNat _ _ _).trans (by rw [hcnt]))

/-- A branch that goes by a slot default. -/
theorem State.substitute_branchTo (s : State) (g e : Nat) (taken : Bool) (w : BitVec 64) :
    let i := 8 * g + e
    let t := (s.substitute g e).branchTo g e taken w
    t.pc g e = (if taken then SI.tgt w else (s.pc g e + 1) % 32768) ∧ t.bit .SCR_STATUS i 2 = true ∧
      t.regNat .SCR_SUBST_CNT i = min 0xFFFF_FFFF (s.regNat .SCR_SUBST_CNT i + 1) ∧
      OnlyAt [(.SCR_STATUS, i), (.SCR_PC, i), (.SCR_LATE_CNT, i), (.SCR_SUBST_CNT, i)] s t := by
  intro i t
  obtain ⟨hlate, hcnt, hsubst⟩ := s.substitute_late g e
  have hgo := onlyAt_branchTo (s.substitute g e) g e taken w
  exact ⟨hsubst.branchTo_pc (by simp) _ _, (State.bit_congr (hgo.1 _ _ (by simp))).trans hlate,
    (congrArg BitVec.toNat (hgo.1 _ _ (by simp))).trans hcnt, (hsubst.mono (by simp [i])).trans (hgo.mono (by simp [i]))⟩

/-! ### The decision point (R110-R112) -/

/-- The engine goes on from the branch that it waited at. -/
def State.resumed (s : State) (g e : Nat) : State :=
  (s.setEng g e { s.eng g e with wait := none, nextCc := s.now + 1 }).setWaits g e false false false

section
variable (s : State) (g e : Nat)

theorem onlyAt_resumed : OnlyAt [(.SCR_STATUS, 8 * g + e)] s (s.resumed g e) := onlyAt_setEng_setWaits s g e _ _ _ _

theorem State.resumed_wait : ((s.resumed g e).eng g e).wait = none :=
  congrArg EngineState.wait (s.setEng_setWaits_eng g e _ _ _ _)

theorem State.resumed_decisionState (slot d age : Nat) :
    (s.resumed g e).decisionState g slot d age = s.decisionState g slot d age := rfl

theorem State.resumed_taskBit (k : Nat) : (s.resumed g e).taskBit k = s.taskBit k := rfl

end

section
variable {s : State} {g e : Nat} {b : BranchWait}

/-- BRD with a valid decision of its slot, and no unit to play on. -/
theorem branchDecideOp_of_decision {st : Nat} (hwait : (s.eng g e).wait = some b) (hd : b.d ≤ s.ftg)
    (hop : SI.op b.word = 0x11) (hu : SI.unit b.word = 31)
    (hst : s.decisionState g (SI.slot b.word) b.d (SI.age b.word) = some st) :
    branchDecideOp g e s =
      (s.resumed g e).branchTo g e (brdHolds (SI.brdCond b.word) st (SI.k b.word) false) b.word := by
  rw [← s.resumed_decisionState g e] at hst
  have hnone : decide (SI.unit b.word < 20) = false := by simp [hu]
  simp only [branchDecideOp, hwait, if_neg (Nat.not_lt.2 hd), if_pos hop, hnone, Bool.and_false, Bool.false_eq_true, if_false]
  rw [State.resumed] at hst ⊢
  rw [hst]

/-- BRE with its latch set, and no unit to play on. -/
theorem branchDecideOp_of_latch {tb : TaskBit} (hwait : (s.eng g e).wait = some b) (hd : b.d ≤ s.ftg)
    (hop : SI.op b.word ≠ 0x11) (hu : SI.unit b.word = 31)
    (htb : s.taskBit (scriptInput g e (SI.latch b.word)) = some tb) :
    branchDecideOp g e s =
      (((s.resumed g e).clearTask (scriptInput g e (SI.latch b.word))).setLineage g e (some tb.lineage)).branchTo g e
        (!SI.pol b.word) b.word := by
  rw [← s.resumed_taskBit g e] at htb
  have hnone : decide (SI.unit b.word < 20) = false := by simp [hu]
  simp only [branchDecideOp, hwait, if_neg (Nat.not_lt.2 hd), if_neg hop, hnone, Bool.and_false, Bool.false_eq_true, if_false]
  rw [State.resumed] at htb ⊢
  rw [htb]

end

theorem branchDecideOp_goes {s : State} {g e st : Nat} {b : BranchWait} (hwait : (s.eng g e).wait = some b) (hd : b.d ≤ s.ftg)
    (hop : SI.op b.word = 0x11) (hu : SI.unit b.word = 31)
    (hst : s.decisionState g (SI.slot b.word) b.d (SI.age b.word) = some st) :
    let t := branchDecideOp g e s
    t.pc g e = (if brdHolds (SI.brdCond b.word) st (SI.k b.word) false then SI.tgt b.word else (s.pc g e + 1) % 32768) ∧
      (t.eng g e).wait = none ∧ OnlyAt [(.SCR_STATUS, 8 * g + e), (.SCR_PC, 8 * g + e)] s t := by
  have hresumed := onlyAt_resumed s g e
  rw [branchDecideOp_of_decision hwait hd hop hu hst]
  refine ⟨hresumed.branchTo_pc (by simp) _ _, ?_, (hresumed.mono (by simp)).trans ((onlyAt_branchTo _ g e _ _).mono (by simp))⟩
  rw [State.eng_congr (State.branchTo_scr _ _ _ _ _), State.resumed_wait]

/-- LIN takes the low three bits of a lineage, and LINV is set. -/
theorem State.setLineage_some (s : State) (g e lin : Nat) :
    let i := 8 * g + e
    let t := s.setLineage g e (some lin)
    t.bit .SCR_FLAGS i 19 = true ∧ t.fld .SCR_FLAGS i 18 16 = lin % 8 ∧ OnlyAt [(.SCR_FLAGS, i)] s t := by
  intro i t
  refine ⟨State.bit_setBit_same _ _ _ _ _ (by decide), ?_,
    (onlyAt_setReg s _ (by simp [i])).trans (onlyAt_setReg _ _ (by simp [i]))⟩
  exact (State.fld_setBit_apart _ _ _ _ _ _ _ (by decide) (.inl (by decide))).trans
    (s.fld_setFld_same _ _ _ _ _ (by decide))

theorem State.taskBit_congr {s t : State} (hr : t.router = s.router) (hn : t.now = s.now) (k : Nat) :
    t.taskBit k = s.taskBit k := by
  simp only [State.taskBit, hr, hn]

theorem State.clearTask_taskBit (s : State) (k : Nat) : (s.clearTask k).taskBit k = none := by
  have hnone : tfind (tdel s.router.task k) k = none := tfind_filter_none _ _ _ (by simp)
  simp [State.taskBit, State.clearTask, hnone]

theorem branchDecideOp_consumes {s : State} {g e : Nat} {b : BranchWait} {tb : TaskBit} (hwait : (s.eng g e).wait = some b)
    (hd : b.d ≤ s.ftg) (hop : SI.op b.word ≠ 0x11) (hu : SI.unit b.word = 31)
    (htb : s.taskBit (scriptInput g e (SI.latch b.word)) = some tb) :
    let i := 8 * g + e
    let t := branchDecideOp g e s
    t.pc g e = (if SI.pol b.word then (s.pc g e + 1) % 32768 else SI.tgt b.word) ∧ (t.eng g e).wait = none ∧
      t.bit .SCR_FLAGS i 19 = true ∧ t.fld .SCR_FLAGS i 18 16 = tb.lineage % 8 ∧
      t.taskBit (scriptInput g e (SI.latch b.word)) = none ∧
      OnlyAt [(.SCR_STATUS, i), (.SCR_PC, i), (.SCR_FLAGS, i)] s t := by
  intro i t
  let x := (s.resumed g e).clearTask (scriptInput g e (SI.latch b.word))
  let y := x.setLineage g e (some tb.lineage)
  have ht : t = y.branchTo g e (!SI.pol b.word) b.word := branchDecideOp_of_latch hwait hd hop hu htb
  obtain ⟨hlinv, hlin, hflags⟩ := x.setLineage_some g e tb.lineage
  have hx : OnlyAt [(.SCR_STATUS, i)] s x := (onlyAt_resumed s g e).trans (onlyAt_of_reg_eq (fun _ _ => rfl) rfl)
  have hy : OnlyAt [(.SCR_STATUS, i), (.SCR_FLAGS, i)] s y := (hx.mono (by simp)).trans (hflags.mono (by simp [i]))
  have hgo := onlyAt_branchTo y g e (!SI.pol b.word) b.word
  rw [ht]
  refine ⟨?_, ?_, (State.bit_congr (hgo.1 _ _ (by simp))).trans hlinv, (State.fld_congr (hgo.1 _ _ (by simp))).trans hlin, ?_,
    (hy.mono (by simp)).trans (hgo.mono (by simp [i]))⟩
  · rw [hy.branchTo_pc (by simp)]
    cases SI.pol b.word <;> rfl
  · rw [State.eng_congr (State.branchTo_scr _ _ _ _ _)]
    exact s.resumed_wait g e
  · rw [State.taskBit_congr (State.branchTo_router _ _ _ _ _) (State.branchTo_now _ _ _ _ _)]
    exact (s.resumed g e).clearTask_taskBit _

/-! ### A play that waited (R110) -/

/-- The waiting play is no longer kept. -/
def State.unqueued (s : State) (g e : Nat) : State :=
  (s.setEng g e { s.eng g e with queued := none, nextCc := s.now + 1 }).setWaits g e false false false

theorem State.unqueued_queued (s : State) (g e : Nat) : ((s.unqueued g e).eng g e).queued = none :=
  congrArg EngineState.queued (s.setEng_setWaits_eng g e _ _ _ _)

theorem State.placeBranchPlay_of_room {s : State} {g e u seg m : Nat} (hroom : (s.unit g u).queue.length < 64)
    (hm : s.ftg + 2 ≤ m) (hshared : sameMaturity (s.unit g u).queue m < 4) :
    s.placeBranchPlay g e u seg m = (s.unqueued g e).pushUnit g u m (.play seg) := by
  have hftg : ¬m < (s.unqueued g e).ftg + 2 := Nat.not_lt.2 hm
  exact (if_neg (Nat.not_le.2 hroom)).trans ((if_neg hftg).trans (if_neg (Nat.not_le.2 hshared)))

theorem queuedPlaceOp_places {s : State} {g e u seg m : Nat} (hq : (s.eng g e).queued = some (u, seg, m))
    (hroom : (s.unit g u).queue.length < 64) (hm : s.ftg + 2 ≤ m) (hshared : sameMaturity (s.unit g u).queue m < 4) :
    let t := queuedPlaceOp g e s
    (t.eng g e).queued = none ∧ (t.unit g u).queue = queueInsert (s.unit g u).queue m (.play seg) ∧
      OnlyAt [(.SCR_STATUS, 8 * g + e)] s t := by
  have hplace : queuedPlaceOp g e s = (s.unqueued g e).pushUnit g u m (.play seg) := by
    simp only [queuedPlaceOp, hq, if_pos hroom]
    exact State.placeBranchPlay_of_room hroom hm hshared
  rw [hplace]
  refine ⟨s.unqueued_queued g e, ?_, (onlyAt_setEng_setWaits s g e _ _ _ _).trans (onlyAt_of_reg_eq (fun _ _ => rfl) rfl)⟩
  rw [State.pushUnit_queue, if_pos rfl]
  rfl

/-! ### The statement -/

/-- Settles O22: a branch issues in a state that reads what the one before the cc passed read, and waits there
(`State.atBranch_waits`) or goes by the slot default (`State.substitute_branchTo`); the decision point and the waiting play act on
the state once its cc have passed (`branchDecideOp_goes`, `branchDecideOp_consumes`, `queuedPlaceOp_places`). -/
theorem scriptBranchesOnDecisions : Obligations.ScriptBranchesOnDecisions := by
  intro dt g e w s i p pcs T dpl fits
  let u := p.issued g e
  have hreg (q : Reg) (j : Nat) (h : q ≠ .SCR_STATUS) : u.reg q j = s.reg q j := s.issued_pass_reg dt g e j h
  have hpc : u.pc g e = s.pc g e := State.fld_congr (hreg _ _ (by decide))
  have hT : u.progTime g e = T := by simp [u, p, T]
  have hdpl : u.fld .SCR_CFG (8 * g + e) 6 0 = dpl := State.fld_congr (hreg _ _ (by decide))
  have hfits (h : fits) : SI.unit w = 31 ∨ (SI.unit w < 20 ∧ u.unitOwner g (SI.unit w) = e) := by
    simpa [u, p, fits] using h
  have hissue {l : List (Reg × Nat)} (hl : (.SCR_STATUS, i) ∈ l) : OnlyAt l s u := onlyAt_issue s g e dt hl
  obtain ⟨hwaits, hbit, hstays, hframe⟩ := u.atBranch_waits g e w
  rw [hT, hdpl] at hwaits
  rw [hpc] at hstays
  have hwaitFrame : OnlyAt [(.SCR_STATUS, i)] s (u.atBranch g e w) := (hissue (by simp)).trans hframe
  refine ⟨fun hr hslot hcond hf hd => ?brdWaits, fun hr hslot hcond hf hd => ?brdBehind, fun hr hf hd => ?breWaits,
    fun b st hw hd hop hu hst => ?brdDecides, fun b tb hw hd hop hu htb => ?breDecides,
    fun v seg m hq hroom hm hshared => ?placed⟩
  case brdWaits =>
    exact completes_of_issue rfl hr ((brdOp_of_fits hslot hcond (hfits hf)).trans (State.issueBranch_ahead (by rwa [hT, hdpl]) _))
      ⟨hwaits, hbit, hstays, hwaitFrame⟩
  case brdBehind =>
    obtain ⟨hgo, hlate, hcnt, hbehind⟩ := u.substitute_branchTo g e
      (brdHolds (SI.brdCond w) (p.slotDefault (SI.slot w)) (SI.k w) true) w
    have hfrom : u.regNat .SCR_SUBST_CNT (8 * g + e) = s.regNat .SCR_SUBST_CNT i := congrArg _ (hreg _ _ (by decide))
    rw [hpc] at hgo
    rw [hfrom] at hcnt
    exact completes_of_issue rfl hr ((brdOp_of_fits hslot hcond (hfits hf)).trans
      ((State.issueBranch_behind (by rwa [hT, hdpl]) _).trans (by rw [p.issued_slotDefault])))
      ⟨hgo, hlate, hcnt, (hissue (by simp)).trans (hbehind.mono (by simp [i]))⟩
  case breWaits =>
    exact completes_of_issue rfl hr ((breOp_of_fits (hfits hf)).trans (State.issueBranch_ahead (by rwa [hT, hdpl]) _))
      ⟨hwaits, hstays, hwaitFrame⟩
  case brdDecides =>
    obtain ⟨hgo, hnone, hdecides⟩ := branchDecideOp_goes ((s.pass_eng dt g e).symm ▸ hw) hd hop hu hst
    rw [s.pass_pc] at hgo
    exact ⟨_, rfl, hgo, hnone, (onlyAt_pass s dt).trans hdecides⟩
  case breDecides =>
    obtain ⟨hgo, hnone, hlinv, hlin, hclear, hdecides⟩ :=
      branchDecideOp_consumes ((s.pass_eng dt g e).symm ▸ hw) hd hop hu htb
    rw [s.pass_pc] at hgo
    exact ⟨_, rfl, hgo, hnone, hlinv, hlin, hclear, (onlyAt_pass s dt).trans hdecides⟩
  case placed =>
    rw [← s.pass_eng dt] at hq
    rw [← s.pass_unit dt] at hroom hshared
    obtain ⟨hnone, hqueue, hplaced⟩ := queuedPlaceOp_places hq hroom hm hshared
    rw [s.pass_unit dt] at hqueue
    exact ⟨_, rfl, hnone, hqueue, (onlyAt_pass s dt).trans hplaced⟩

end Sys2Proof.Machine
end

-- ==== Proof of the read-out receivers ====
section
/-!
PROOFS. The read-out receivers (R121, R124, R127-R129, R134-R138, R201). A row of software acts on the state that its access
leaves (`State.throughOpen`), an event on the state once its cc have passed. What each operation stores is said once: a commit of
tones, the result of a window (`toneResultOp_of_due`), a stream sample at its comparator (`State.cmpSample_cmp`), the end of a
tracker's block (`trackerRecordOp_stores`), a dailies record (`State.addRecord_field`) and a change of mode.
-/

namespace Sys2Proof.Machine

/-! ### Registers that an effect stores -/

theorem OnlyRegs.mono {rs rs' : List Reg} {s t : State} (h : OnlyRegs rs s t) (hrs : rs ⊆ rs') : OnlyRegs rs' s t :=
  ⟨fun q j hq => h.1 q j fun hm => hq (hrs hm), h.2⟩

theorem OnlyRegs.refl (rs : List Reg) (s : State) : OnlyRegs rs s s := ⟨fun _ _ _ => rfl, fun _ _ => rfl⟩

/-- `State.setFld`, `State.setBit`, `State.count` and `State.countWrap` are such stores too. -/
theorem onlyRegs_setReg {rs : List Reg} {r : Reg} (h : r ∈ rs) (s : State) (i : Nat) (w : Word) :
    OnlyRegs rs s (s.setReg r i w) :=
  ⟨fun _ _ hq => s.reg_setReg_other _ _ _ _ _ fun he => hq (he ▸ h), .of_kept (s.kept_setReg r i w)⟩

theorem onlyRegs_setPair {rs : List Reg} {lo hi : Reg} (hlo : lo ∈ rs) (hhi : hi ∈ rs) (s : State) (i v : Nat) :
    OnlyRegs rs s (s.setPair lo hi i v) := (onlyRegs_setReg hlo s i _).trans (onlyRegs_setReg hhi _ i _)

theorem onlyRegs_ite {rs : List Reg} {c : Prop} [Decidable c] {s t u : State} (ht : OnlyRegs rs s t) (hu : OnlyRegs rs s u) :
    OnlyRegs rs s (if c then t else u) := by
  split
  · exact ht
  · exact hu

theorem onlyRegs_forEach {α : Type} {rs : List Reg} {f : α → State → State} (h : ∀ a s, OnlyRegs rs s (f a s))
    (l : List α) (s : State) : OnlyRegs rs s (State.forEach l f s) := by
  induction l generalizing s with
  | nil => exact .refl rs s
  | cons a l ih => exact (h a s).trans (ih (f a s))

/-! ### Branches and loops -/

theorem State.ite_field {β : Type} {c : Prop} [Decidable c] (f : State → β) {s t u : State} (ht : f t = f s)
    (hu : f u = f s) : f (if c then t else u) = f s := by
  split
  · exact ht
  · exact hu

/-- What one step of a loop brings about and every step keeps holds after the loop. -/
theorem State.forEach_of_mem {α : Type} {l : List α} {f : α → State → State} {P : State → Prop} {a : α} (ha : a ∈ l)
    (hset : ∀ s, P (f a s)) (hkeep : ∀ b s, P s → P (f b s)) (s : State) : P (State.forEach l f s) := by
  have hrest (l : List α) (s : State) (h : P s) : P (State.forEach l f s) := by
    induction l generalizing s with
    | nil => exact h
    | cons b l ih => exact ih _ (hkeep b s h)
  induction l generalizing s with
  | nil => cases ha
  | cons b l ih =>
    rcases List.mem_cons.1 ha with rfl | hl
    · exact hrest l _ (hset s)
    · exact ih hl (f b s)

/-! ### The state that an open access leaves (R31, R355) -/

/-- What neither the link, the wake of a region nor the source it raises changes, an access that passes leaves as it was. -/
theorem State.throughOpen_field {β : Type} (f : State → β) (hlink : ∀ s w, f (s.setReg .HIF_LINK 0 w) = f s)
    (hpower : ∀ s n x, f (State.setPower s n x) = f s) (hviews : ∀ s p, f (State.clearViews s p) = f s)
    (hcount : ∀ s n w, f (s.setReg .PWR_STATE n w) = f s) (hraise : ∀ s k, f (State.raise s k) = f s) (s : State)
    (who : Requester) (a : Nat) : f (s.throughOpen who a) = f s := by
  unfold State.throughOpen
  split
  · unfold State.wakeShallow
    split
    · calc f ((s.onLink who).arriveRun _)
          = f (((s.onLink who).setPower _ _).clearViews _) := (hraise _ _).trans (hcount _ _ _)
        _ = f (s.onLink who) := (hviews _ _).trans (hpower _ _ _)
        _ = f s := s.onLink_field f hlink who
    · exact s.onLink_field f hlink who
  · exact s.onLink_field f hlink who

theorem State.throughOpen_reg (s : State) (who : Requester) (a : Nat) {q : Reg} (j : Nat) (hlink : q ≠ .HIF_LINK)
    (hpower : q ≠ .PWR_STATE) : (s.throughOpen who a).reg q j = s.reg q j :=
  s.throughOpen_field (·.reg q j) (fun _ _ => State.reg_setReg_other _ _ _ _ _ _ hlink) (fun _ _ _ => rfl) (fun _ _ => rfl)
    (fun _ _ _ => State.reg_setReg_other _ _ _ _ _ _ hpower) (fun s k => s.raise_reg k q j) who a

theorem State.throughOpen_feat (s : State) (who : Requester) (a b : Nat) : (s.throughOpen who a).feat b = s.feat b := by
  have hnow : (s.throughOpen who a).now = s.now :=
    s.throughOpen_field (·.now) (fun _ _ => rfl) (fun _ _ _ => rfl) (fun _ _ => rfl) (fun _ _ _ => rfl) State.raise_now who a
  have hhost : (s.throughOpen who a).host = s.host :=
    s.throughOpen_field (·.host) (fun _ _ => rfl) (fun _ _ _ => rfl) (fun _ _ => rfl) (fun _ _ _ => rfl) State.raise_host who a
  have hctrl : (s.throughOpen who a).reg .FEAT_CTRL 0 = s.reg .FEAT_CTRL 0 := s.throughOpen_reg who a 0 (by decide) (by decide)
  have haccept : (s.throughOpen who a).reg .FEAT_ACCEPT 0 = s.reg .FEAT_ACCEPT 0 :=
    s.throughOpen_reg who a 0 (by decide) (by decide)
  simp only [State.feat, State.active, State.goAccepted, State.bit, State.regNat, hnow, hhost, hctrl, haccept]

theorem State.throughOpen_clusterHalted (s : State) (who : Requester) (a g : Nat) :
    (s.throughOpen who a).clusterHalted g = s.clusterHalted g := by
  have hruns (e : Nat) : (s.throughOpen who a).engineRuns g e = s.engineRuns g e :=
    State.bit_congr (s.throughOpen_reg who a _ (by decide) (by decide))
  simp only [State.clusterHalted, hruns]

/-- A command that is one write of a register open to it completes with what its effect makes of the state past the access. -/
theorem completes_of_regAccess {c : Instr} {who : Requester} {r : Reg} {i : Nat} {op : State → State} {s : State}
    {P : State → Prop} (hc : exec c s = .next (s.regAccess who r i op)) (ho : s.OpenReg who r i)
    (hP : P (op (s.throughOpen who (regAddr r i)))) : Completes c s P :=
  ⟨_, hc, by rwa [State.regAccess, s.access_open who _ op ho.1 ho.2]⟩

/-! ### Tone sets (R124) -/

theorem setStatus_of_tone (g t : Nat) : setStatus g (20 + t) = (.TONE_STATUS, 16 * g + t) := by
  have hvoice : ¬20 + t < 16 := by omega
  have hbase : ¬20 + t < 20 := by omega
  simp [setStatus, hvoice, hbase]

theorem State.commitSet_keeps_pending {s : State} {g x : Nat} (script : Bool) (t : Nat)
    (h : s.setPending g (20 + x) = true) : (s.commitSet script g (20 + t)).setPending g (20 + x) = true := by
  by_cases ht : t = x
  · exact ht ▸ s.commitSet_pending script g (20 + t)
  · have hreg : (s.commitSet script g (20 + t)).reg .TONE_STATUS (16 * g + x) = s.reg .TONE_STATUS (16 * g + x) := by
      simp only [State.commitSet, setStatus_of_tone]
      exact State.reg_setBit_inst _ _ _ _ _ _ (by omega)
    rw [State.setPending, setStatus_of_tone] at h ⊢
    exact (State.bit_congr hreg).trans h

theorem toneCommitOp_pending {g mask x : Nat} (hx : x < 16) (hb : bitOf mask x = true) (s : State) :
    (toneCommitOp g mask s).setPending g (20 + x) = true :=
  State.forEach_of_mem (f := fun t u => u.commitSet false g (20 + t)) (P := fun u => u.setPending g (20 + x) = true)
    (mem_setBitsOf.2 ⟨hx, hb⟩) (fun u => u.commitSet_pending false g (20 + x))
    (fun t _ h => State.commitSet_keeps_pending false t h) s

theorem onlyRegs_toneCommitOp (g mask : Nat) (s : State) : OnlyRegs [.TONE_STATUS] s (toneCommitOp g mask s) :=
  onlyRegs_forEach (fun t u => by
    have hframe : OnlyAt [setStatus g (20 + t)] u (u.commitSet false g (20 + t)) :=
      onlyAt_commitSet u false (List.mem_singleton_self _)
    rw [setStatus_of_tone] at hframe
    exact ⟨fun q j hq => hframe.1 q j fun hm =>
      hq (List.mem_singleton.2 (congrArg Prod.fst (List.mem_singleton.1 hm))), hframe.2⟩) _ s

/-! ### Dailies records (R138, R139) -/

/-- What neither the three dailies registers nor the writer changes, a record leaves as it was. -/
theorem State.addRecord_field {β : Type} (f : State → β)
    (hreg : ∀ s, ∀ r ∈ [Reg.DLY_RSEQ, .DLY_STATUS, .DLY_DROP], ∀ i w, f (State.setReg s r i w) = f s)
    (hwriter : ∀ s n d, f (State.setDailies s n d) = f s) (s : State) (n : Nat) (head : List Byte) (kind : Nat) :
    f (s.addRecord n head kind) = f s := by
  have hseq (w : Word) : f (s.setReg .DLY_RSEQ n w) = f s := hreg s _ (by decide) n w
  unfold State.addRecord
  extract_lets rs counted d r
  split
  · rfl
  · split
    · exact (hwriter _ _ _).trans (hseq _)
    · split
      · exact (hreg _ .DLY_DROP (by decide) _ _).trans ((hreg _ .DLY_STATUS (by decide) _ _).trans (hseq _))
      · exact (hwriter _ _ _).trans (hseq _)

theorem onlyRegs_addRecord (s : State) (n : Nat) (head : List Byte) (kind : Nat) :
    OnlyRegs [.DLY_RSEQ, .DLY_STATUS, .DLY_DROP] s (s.addRecord n head kind) :=
  ⟨fun q j hq => State.addRecord_field (·.reg q j) (fun t _ hr i w => (onlyRegs_setReg hr t i w).1 q j hq)
    (fun _ _ _ => rfl) s n head kind, .of_kept (s.kept_addRecord n head kind)⟩

theorem State.addRecord_windows (s : State) (n : Nat) (head : List Byte) (kind g x : Nat) :
    (s.addRecord n head kind).windows g x = s.windows g x :=
  State.addRecord_field (·.windows g x) (fun _ _ _ _ _ => rfl) (fun _ _ _ => rfl) s n head kind

theorem State.addRecord_cmp (s : State) (n : Nat) (head : List Byte) (kind : Nat) (c : Comparator) :
    (s.addRecord n head kind).cmp c = s.cmp c :=
  State.addRecord_field (·.cmp c) (fun _ _ _ _ _ => rfl) (fun _ _ _ => rfl) s n head kind

@[simp] theorem State.pass_dailies (s : State) (dt n : Nat) : (s.pass dt).dailies n = s.dailies n := by simp [State.dailies]

@[simp] theorem State.setDailies_dailies (s : State) (n : Nat) (d : DailiesState) : (s.setDailies n d).dailies n = d :=
  tget_tset_same _ _ _ _

/-- An open block whose FLUSH time has come is completed with the pad record. -/
theorem dailiesPadOp_of_due {s : State} {n f : Nat} {h : List Byte} (hd : (s.dailies n).half = some (h, f))
    (hf : f + 64 * s.fld .DLY_CTRL n 31 16 ≤ s.now) :
    dailiesPadOp n s = s.setDailies n { half := none, blocks := (s.dailies n).blocks ++ [h ++ padRecord] } := by
  simp [dailiesPadOp, State.padBlock, hd, hf]

/-! ### The result of a window (R121, R128-R132) -/

theorem onlyRegs_countOverrange (s : State) (g : Nat) (o : Overrange) :
    OnlyRegs [.RFI_STATUS, .RFI_OVR_CNT] s (s.countOverrange g o) :=
  onlyRegs_ite (.refl _ s) ((onlyRegs_setReg (by decide) s _ _).trans (onlyRegs_setReg (by decide) _ _ _))

theorem State.countOverrange_windows (s : State) (g : Nat) (o : Overrange) (h x : Nat) :
    (s.countOverrange g o).windows h x = s.windows h x := by
  unfold State.countOverrange
  split <;> rfl

/-- The accumulators read the weights and the epoch, which an overrange leaves as they are. -/
theorem State.countOverrange_integrate (s : State) (g : Nat) (o : Overrange) (h : Nat) (w : ToneWindow)
    (zs : List (Int × Int)) : (s.countOverrange g o).integrate h w zs = s.integrate h w zs := by
  unfold State.countOverrange
  split <;> rfl

theorem onlyRegs_enterFabric (s : State) (g slot : Nat) (w : BitVec 8) (x : Nat) :
    OnlyRegs [.FAB_RG_UP_CNT] s (s.enterFabric g slot w x) := by
  unfold State.enterFabric
  extract_lets n up hub reach f fab worded
  have hworded : OnlyRegs [.FAB_RG_UP_CNT] s worded := (onlyAt_of_reg_eq (fun _ _ => rfl) rfl : OnlyAt [] s worded).onlyRegs
  exact onlyRegs_ite (.refl _ s) (onlyRegs_ite (hworded.trans (onlyRegs_setReg (by decide) _ _ _)) hworded)

theorem State.enterFabric_windows (s : State) (g slot : Nat) (w : BitVec 8) (x h y : Nat) :
    (s.enterFabric g slot w x).windows h y = s.windows h y := by
  unfold State.enterFabric
  extract_lets n up hub reach f fab worded
  split
  · rfl
  · split <;> rfl

theorem onlyRegs_histCopy (s : State) (g t : Nat) (yi yq : Word) : OnlyRegs [.CAL_HIST_DROP] s (s.histCopy g t yi yq) :=
  onlyRegs_ite (.refl _ s) (onlyRegs_ite (onlyRegs_setReg (by decide) s _ _)
    (onlyAt_of_reg_eq (fun _ _ => rfl) rfl : OnlyAt [] s _).onlyRegs)

theorem State.histCopy_windows (s : State) (g t : Nat) (yi yq : Word) (h x : Nat) :
    (s.histCopy g t yi yq).windows h x = s.windows h x := by
  unfold State.histCopy
  extract_lets q
  split
  · rfl
  · split <;> rfl

/-- The result registers of tone `i`: yI, yQ, u, the footage of the first sample and the decision word. -/
def State.storeResult (s : State) (i : Nat) (yi yq u : Int) (ftg : Nat) (word : BitVec 8) : State :=
  ((((s.setReg .TONE_RES_I i (BitVec.ofInt 32 yi)).setReg .TONE_RES_Q i (BitVec.ofInt 32 yq)).setReg .TONE_RES_U i
    (BitVec.ofInt 32 u)).setPair .TONE_RES_FTG_LO .TONE_RES_FTG_HI i ftg).setFld .TONE_STATUS i 23 16 word.toNat

section
variable (s : State) (i : Nat) (yi yq u : Int) (ftg : Nat) (word : BitVec 8)

theorem State.storeResult_resI : (s.storeResult i yi yq u ftg word).reg .TONE_RES_I i = BitVec.ofInt 32 yi := by
  simp [State.storeResult]

theorem State.storeResult_resQ : (s.storeResult i yi yq u ftg word).reg .TONE_RES_Q i = BitVec.ofInt 32 yq := by
  simp [State.storeResult]

theorem State.storeResult_ftg :
    (s.storeResult i yi yq u ftg word).pair .TONE_RES_FTG_LO .TONE_RES_FTG_HI i = ftg % 2 ^ 64 := by
  unfold State.storeResult
  rw [State.pair, State.regNat, State.regNat, State.reg_setFld_other _ _ _ _ _ _ _ _ (by decide),
    State.reg_setFld_other _ _ _ _ _ _ _ _ (by decide)]
  exact State.pair_setPair _ (by decide) i ftg

theorem State.storeResult_windows (g x : Nat) : (s.storeResult i yi yq u ftg word).windows g x = s.windows g x := by
  simp [State.windows, State.storeResult]

theorem onlyRegs_storeResult :
    OnlyRegs [.TONE_RES_I, .TONE_RES_Q, .TONE_RES_U, .TONE_RES_FTG_LO, .TONE_RES_FTG_HI, .TONE_STATUS] s
      (s.storeResult i yi yq u ftg word) :=
  (onlyRegs_setReg (by decide) _ _ _).trans <| (onlyRegs_setReg (by decide) _ _ _).trans <|
    (onlyRegs_setReg (by decide) _ _ _).trans <| (onlyRegs_setPair (by decide) (by decide) _ _ _).trans <|
    onlyRegs_setReg (by decide) _ _ _

end

/-- The registers that the result of a window can store. -/
def toneResultRegs : List Reg :=
  [.TONE_RES_I, .TONE_RES_Q, .TONE_RES_U, .TONE_RES_FTG_LO, .TONE_RES_FTG_HI, .TONE_STATUS, .RFI_STATUS, .RFI_OVR_CNT,
    .FAB_RG_UP_CNT, .DLY_RSEQ, .DLY_STATUS, .DLY_DROP, .CAL_HIST_DROP]

/-- The oldest window of a tone, once it is due, leaves the tone and stores its result. Behind the result registers only the
status, the dailies and the histogram are written. -/
theorem toneResultOp_of_due {s : State} {g x : Nat} {w : ToneWindow} {rest : List ToneWindow}
    (hw : s.windows g x = w :: rest) (he : s.epochRun = true) (hdue : 2 * w.m1 + 28 ≤ s.ftg) (zs : List (Int × Int))
    (ovr : Overrange) :
    let acc := (s.setWindows g x rest).integrate g w zs
    let t := toneResultOp g x zs ovr s
    t.reg .TONE_RES_I (16 * g + x) = BitVec.ofInt 32 (acc.1 / (2 ^ w.ishift : Nat)) ∧
    t.reg .TONE_RES_Q (16 * g + x) = BitVec.ofInt 32 (acc.2 / (2 ^ w.ishift : Nat)) ∧
    t.pair .TONE_RES_FTG_LO .TONE_RES_FTG_HI (16 * g + x) = 2 * w.m0 % 2 ^ 64 ∧ t.windows g x = rest ∧
    OnlyRegs toneResultRegs s t := by
  have hready : ¬(!s.epochRun || decide (s.ftg < 2 * w.m1 + 28)) = true := by simp [he, hdue]
  unfold toneResultOp
  simp -zeta only [hw]
  rw [if_neg hready]
  extract_lets acc i counted acc' yi yq u wrap st dsrc sq word entered values stored flagged recorded t
  have hacc : acc' = acc := State.countOverrange_integrate _ g ovr g w zs
  have hstored : stored = entered.storeResult i yi yq u (2 * w.m0) word := rfl
  have hbefore : OnlyRegs toneResultRegs s stored := by
    have htaken : OnlyAt [] s (s.setWindows g x rest) := onlyAt_of_reg_eq (fun _ _ => rfl) rfl
    have hcounted : OnlyRegs toneResultRegs _ counted := (onlyRegs_countOverrange _ g ovr).mono (by decide)
    have hseq : OnlyAt [] counted sq.2 := onlyAt_of_reg_eq (fun _ _ => rfl) rfl
    have hentered : OnlyRegs toneResultRegs counted entered :=
      onlyRegs_ite (.refl _ _) (hseq.onlyRegs.trans ((onlyRegs_enterFabric _ _ _ _ _).mono (by decide)))
    rw [hstored]
    exact ((htaken.onlyRegs.trans hcounted).trans hentered).trans
      ((onlyRegs_storeResult entered i yi yq u (2 * w.m0) word).mono (by decide))
  have hbehind : OnlyRegs [.TONE_STATUS, .DLY_RSEQ, .DLY_STATUS, .DLY_DROP, .CAL_HIST_DROP] stored t :=
    (onlyRegs_ite (onlyRegs_setReg (by decide) _ _ _) (.refl _ _) : OnlyRegs _ stored flagged).trans <|
      (onlyRegs_ite ((onlyRegs_addRecord _ _ _ _).mono (by decide)) (.refl _ _) : OnlyRegs _ flagged recorded).trans <|
      onlyRegs_ite (.refl _ _) ((onlyRegs_histCopy _ _ _ _ _).mono (by decide))
  have hread (r : Reg) (hr : r ∉ [Reg.TONE_STATUS, .DLY_RSEQ, .DLY_STATUS, .DLY_DROP, .CAL_HIST_DROP]) :
      t.reg r i = (entered.storeResult i yi yq u (2 * w.m0) word).reg r i := hstored ▸ hbehind.1 r i hr
  refine ⟨?resI, ?resQ, ?ftg, ?windows, hbefore.trans (hbehind.mono (by decide))⟩
  case resI => rw [hread _ (by decide), State.storeResult_resI, ← hacc]
  case resQ => rw [hread _ (by decide), State.storeResult_resQ, ← hacc]
  case ftg =>
    rw [State.pair, State.regNat, State.regNat, hread _ (by decide), hread _ (by decide)]
    exact entered.storeResult_ftg i yi yq u (2 * w.m0) word
  case windows =>
    have henter : (sq.2.enterFabric g i word counted.now).windows g x = counted.windows g x :=
      State.enterFabric_windows _ _ _ _ _ _ _
    calc t.windows g x
        = recorded.windows g x := State.ite_field (·.windows g x) rfl (State.histCopy_windows _ _ _ _ _ _ _)
      _ = flagged.windows g x := State.ite_field (·.windows g x) (State.addRecord_windows _ _ _ _ _ _) rfl
      _ = stored.windows g x := State.ite_field (·.windows g x) rfl rfl
      _ = entered.windows g x := entered.storeResult_windows i yi yq u (2 * w.m0) word g x
      _ = counted.windows g x := State.ite_field (·.windows g x) rfl henter
      _ = (s.setWindows g x rest).windows g x := State.countOverrange_windows _ _ _ _ _
      _ = rest := s.setWindows_windows g x rest

/-! ### Comparators (R136, R201) -/

theorem State.linkStamp_rd (s : State) (kind index ts at_ : Nat) : (s.linkStamp kind index ts at_).rd = s.rd :=
  State.forEach_field _ _ s (·.rd) fun _ s => State.forEach_field _ _ s (·.rd) fun _ _ => rfl

theorem State.sysStamp_rd (s : State) (kind index ts at_ : Nat) (link : Bool) :
    (s.sysStamp kind index ts at_ link).rd = s.rd := by
  simp only [State.sysStamp]
  split
  · rfl
  · exact State.linkStamp_rd _ _ _ _ _

theorem State.countEntry_rd (s : State) (c : Comparator) : (s.countEntry c).rd = s.rd := by cases c <;> rfl

theorem State.setCmp_cmp (s : State) (c : Comparator) (x : CmpState) : (s.setCmp c x).cmp c = x := tget_tset_same _ _ _ _

/-- A stream sample leaves the comparator in the state that `cmpStep` gives it; counters, term intervals and timestamps stand
elsewhere. -/
theorem State.cmpSample_cmp (s : State) (c : Comparator) (pos : Nat) (z : Int × Int) :
    (s.cmpSample c pos z).cmp c = (cmpStep (s.cmpCfg c) (isRaw c) (s.cmp c) z).next := by
  have hrd : (s.cmpSample c pos z).rd = (s.setCmp c (cmpStep (s.cmpCfg c) (isRaw c) (s.cmp c) z).next).rd := by
    unfold State.cmpSample
    extract_lets f x r n k stepped counted ts entered
    have hcounted : counted.rd = stepped.rd := State.countEntry_rd stepped c
    have hstamped : entered.rd = stepped.rd := by
      refine State.ite_field (·.rd) ?_ rfl
      exact (State.forEach_field _ _ _ (·.rd) fun _ _ => State.sysStamp_rd _ _ _ _ _ _).trans hcounted
    have hcleared : (if r.cleared then entered.endInterval n k pos else entered).rd = entered.rd :=
      State.ite_field (·.rd) rfl rfl
    exact hcleared.trans hstamped
  simp [State.cmp, hrd, State.setCmp]

theorem State.cmpSamples_nil (s : State) (c : Comparator) (last : Nat) : s.cmpSamples c last [] = s := rfl

theorem State.cmpSamples_one (s : State) (c : Comparator) (last : Nat) (z : Int × Int) :
    s.cmpSamples c last [z] = s.cmpSample c (last * (s.cmpCfg c).step) z := by
  simp [State.cmpSamples]

theorem State.cmpSamples_one_cmp (s : State) (c : Comparator) (last : Nat) (z : Int × Int) :
    ((s.cmpSamples c last [z]).cmp c) = (cmpStep (s.cmpCfg c) (isRaw c) (s.cmp c) z).next := by
  rw [State.cmpSamples_one, State.cmpSample_cmp]

/-- A rising comparator that is on and not act enters at a raw sample at its threshold or over it. -/
theorem cmpStep_enters {f : CmpCfg} {x : CmpState} {z : Int × Int} (hon : f.on = true) (hrising : f.falling = false)
    (hact : x.act = false) (hz : f.th ≤ z.1) : (cmpStep f true x z).next.act = true := by
  simp [cmpStep, hon, hrising, hact, hz]

/-- It clears at a raw sample more than the hysteresis below its threshold. -/
theorem cmpStep_clears {f : CmpCfg} {x : CmpState} {z : Int × Int} (hrising : f.falling = false)
    (hact : x.act = true) (hz : z.1 < f.th - f.hys) : (cmpStep f true x z).next.act = false := by
  simp [cmpStep, hrising, hact, hz]

theorem State.on_of_streamReady {s : State} {c : Comparator} {last : Nat} (h : s.streamReady c last = true) :
    (s.cmpCfg c).on = true := by
  simp only [State.streamReady, Bool.and_eq_true] at h
  obtain ⟨⟨⟨hon, -⟩, -⟩, -⟩ := h
  exact hon

/-- A sample that sets act is kept; no sample of the stream stands before it. -/
theorem comparatorEntryOp_of_raw {s : State} {n : Region} {c : Fin 4} {last : Nat} {z : Int × Int}
    (hr : s.streamReady (.raw n c) last = true) (hbefore : (s.cmp (.raw n c)).act = false)
    (hafter : ((s.cmpSamples (.raw n c) last [z]).cmp (.raw n c)).act = true) :
    comparatorEntryOp (.raw n c) last [z] s = s.cmpSamples (.raw n c) last [z] := by
  simp [comparatorEntryOp, hr, State.flagZone, State.streamOf, hafter, State.cmpSamples_nil, hbefore]

theorem comparatorClearOp_of_raw {s : State} {n : Region} {c : Fin 4} {last : Nat} {z : Int × Int}
    (hr : s.streamReady (.raw n c) last = true) (hbefore : (s.cmp (.raw n c)).act = true)
    (hafter : ((s.cmpSamples (.raw n c) last [z]).cmp (.raw n c)).act = false) :
    comparatorClearOp (.raw n c) last [z] s = s.cmpSamples (.raw n c) last [z] := by
  simp [comparatorClearOp, hr, State.flagZone, State.streamOf, hafter, State.cmpSamples_nil, hbefore]

/-! ### Trackers (R134, R138) -/

/-- The stream of a tracker in its zone is as the input brings it. -/
theorem State.tracker_in_zone {s : State} {g : Cluster} {k : Fin 256} (h : s.outsideZone g k = false) (zs : List (Int × Int)) :
    s.flagZone (.tracker g k) = s ∧ s.streamOf (.tracker g k) zs = zs := by
  simp [State.flagZone, State.streamOf, h]

/-- The sixteenth sample of a tracker ends its block of 16: the means of the block are stored and the next block begins. -/
theorem trackerRecordOp_stores {s : State} {g : Cluster} {k : Fin 256} {last : Nat} (z : Int × Int) (he : s.epochRun = true)
    (hawake : s.regionAwake (g / 4) = true) (harray : s.bit .RFI_CTRL g 0 = true)
    (hen : s.bit .TRK_CTRL (256 * g + k) 0 = true) (hdue : 256 * last + 1047 ≤ s.ftg) (hzone : s.outsideZone g k = false)
    (hkb : s.fld .TRK_CTRL (256 * g + k) 5 2 ≤ 4) (hblock : (s.cmp (.tracker g k)).blockN = 15) :
    let t := trackerRecordOp g k (.tracker g k) last [z] ⟨0, false⟩ s
    t.reg .TRK_MEAN_I (256 * g + k) = BitVec.ofInt 32 (((s.cmp (.tracker g k)).sumI + z.1) / 16) ∧
    t.reg .TRK_MEAN_Q (256 * g + k) = BitVec.ofInt 32 (((s.cmp (.tracker g k)).sumQ + z.2) / 16) ∧
    (t.cmp (.tracker g k)).blockN = 0 := by
  obtain ⟨hflag, hstream⟩ := State.tracker_in_zone hzone [z]
  have hready : ¬(!s.epochRun || !s.regionAwake (g / 4) || !s.bit .RFI_CTRL g 0 || !s.bit .TRK_CTRL (256 * g + k) 0 ||
      decide (s.ftg < 256 * last + 1047)) = true := by simp [he, hawake, harray, hen, hdue]
  have hsize : max 4 (s.fld .TRK_CTRL (256 * g + k) 5 2) = 4 := max_eq_left hkb
  unfold trackerRecordOp
  rw [if_neg hready, hflag, hstream, hsize]
  extract_lets kb sampled y counted mi mq meant restarted t
  have hy : y = (cmpStep (s.cmpCfg (.tracker g k)) false (s.cmp (.tracker g k)) z).next :=
    s.cmpSamples_one_cmp (.tracker g k) last z
  have hfull : ¬y.blockN ≠ 2 ^ 4 := by simp [hy, cmpStep, hblock]
  have ht {β : Type} (f : State → β) (hrecord : ∀ n head kind, f (restarted.addRecord n head kind) = f restarted) :
      f t = f restarted := (congrArg f (if_neg hfull)).trans (State.ite_field f (hrecord _ _ _) rfl)
  have hread (r : Reg) (hr : r ∉ [Reg.DLY_RSEQ, .DLY_STATUS, .DLY_DROP]) (j : Nat) : t.reg r j = restarted.reg r j :=
    ht (·.reg r j) fun _ _ _ => (onlyRegs_addRecord _ _ _ _).1 r j hr
  refine ⟨?meanI, ?meanQ, ?restart⟩
  case meanI =>
    rw [hread _ (by decide)]
    simp [restarted, meant, mi, kb, hy, cmpStep]
  case meanQ =>
    rw [hread _ (by decide)]
    simp [restarted, meant, mq, kb, hy, cmpStep]
  case restart =>
    rw [ht (·.cmp (.tracker g k)) fun _ _ _ => State.addRecord_cmp _ _ _ _ _]
    simp only [restarted, State.setCmp_cmp]

/-! ### A write of RFI_CTRL (R127, R140) -/

theorem State.endWindows_reg (s : State) (g : Nat) (q : Reg) (j : Nat) : (s.endWindows g).reg q j = s.reg q j :=
  (State.keepPend_reg _ _ _ _ _).trans (State.forEach_reg _ _ _ _ _ fun _ _ => rfl)

theorem State.endWindows_windows (s : State) (g : Nat) {x : Nat} (hx : x < 16) : (s.endWindows g).windows g x = [] := by
  have hkeep (b : Nat) (t : State) (h : t.windows g x = []) : (t.setWindows g b []).windows g x = [] := by
    by_cases hb : b = x
    · exact hb ▸ t.setWindows_windows g b []
    · exact (tget_tset_ne _ _ _ _ _ (by omega : 16 * g + b ≠ 16 * g + x)).trans h
  have hloop : (State.forEach (List.range 16) (fun t u => u.setWindows g t []) s).windows g x = [] :=
    State.forEach_of_mem (P := fun t => t.windows g x = []) (List.mem_range.2 hx) (fun t => t.setWindows_windows g x [])
      hkeep s
  unfold State.endWindows
  extract_lets ended
  rw [State.windows, State.keepPend_rd]
  exact hloop

/-- A comparator that is restarted to stand still stores no register and leaves the windows. -/
theorem State.restartCmp_field {β : Type} (f : State → β) (htake : ∀ s n x, f (State.setTake s n x) = f s)
    (hcmp : ∀ s c x, f (State.setCmp s c x) = f s) (s : State) (c : Comparator) : f (s.restartCmp c false) = f s := by
  have hended : f (if (s.cmp c).act then s.endInterval (cmpRegion c) (cmpKey c) (8 * s.ftg) else s) = f s :=
    State.ite_field f (htake _ _ _) rfl
  exact (hcmp _ _ _).trans hended

theorem State.rfiResult_lastResult (s : State) (g : Nat) {code : Nat} (h : code < 2 ^ 8) :
    (s.rfiResult g code).fld .RFI_STATUS g 15 8 = code := by
  rw [State.rfiResult, State.fld_setFld_same _ _ _ _ _ _ (by decide)]
  exact Nat.mod_eq_of_lt h

theorem bits_and_three (v : Word) : bits (v &&& 3) 1 0 = bits v 1 0 := by
  have hmask : v.toNat &&& 3 = v.toNat % 2 ^ 2 := Nat.and_two_pow_sub_one_eq_mod v.toNat 2
  simp [bits, hmask]

section
variable {s : State} {g : Cluster} (v : Word)

theorem rfiCtrlOp_of_running (hf : s.feat 1 = true) (hh : s.clusterHalted g = false) :
    rfiCtrlOp g v s = s.rfiResult g (if bits v 1 0 = s.fld .RFI_CTRL g 1 0 then Code.ok else Code.locked) := by
  simp [rfiCtrlOp, hf, hh]

/-- Once the engines of the cluster are halted the write is stored; a change of MODE ends every window. -/
theorem rfiCtrlOp_of_halted (hf : s.feat 1 = true) (hh : s.clusterHalted g = true) :
    let t := rfiCtrlOp g v s
    t.fld .RFI_CTRL g 1 0 = bits v 1 0 ∧ t.fld .RFI_STATUS g 15 8 = Code.ok ∧
    (bits v 0 0 ≠ s.fld .RFI_CTRL g 0 0 → ∀ x : Fin 16, t.windows g x = []) := by
  have hmode : ¬(bits v 0 0 = 1 ∧ s.feat 1 = false) := by simp [hf]
  have hrun : ¬(!s.clusterHalted g) = true := by simp [hh]
  unfold rfiCtrlOp
  rw [if_neg hmode, if_neg hrun]
  extract_lets change stored ended t
  have hread (q : Reg) (j : Nat) : t.reg q j = stored.reg q j := by
    have hrestarts (l : List Comparator) :
        (State.forEach l (fun c u => u.restartCmp c false) ended).reg q j = ended.reg q j :=
      State.forEach_reg _ _ _ _ _ fun c u => u.restartCmp_field (·.reg q j) (fun _ _ _ => rfl) (fun _ _ _ => rfl) c
    exact State.ite_field (·.reg q j) ((hrestarts _).trans (stored.endWindows_reg g q j)) rfl
  refine ⟨?stores, (State.fld_congr (hread _ _)).trans (State.rfiResult_lastResult _ _ (by decide)), fun hne x => ?ends⟩
  case stores =>
    calc t.fld .RFI_CTRL g 1 0
        = stored.fld .RFI_CTRL g 1 0 := State.fld_congr (hread _ _)
      _ = (s.setReg .RFI_CTRL g (v &&& 3)).fld .RFI_CTRL g 1 0 := State.fld_setFld_other _ _ _ _ _ _ _ _ _ _ (by decide)
      _ = bits (v &&& 3) 1 0 := State.fld_setReg_same _ _ _ _ _ _
      _ = bits v 1 0 := bits_and_three v
  case ends =>
    have hchange : change = true := by simpa [change] using hne
    have ht : t = _ := if_pos hchange
    rw [ht]
    exact (State.forEach_field _ _ ended (·.windows g x) fun c u =>
      u.restartCmp_field (·.windows g x) (fun _ _ _ => rfl) (fun _ _ _ => rfl) c).trans (stored.endWindows_windows g x.isLt)

end

/-! ### The statement -/

@[simp] theorem State.pass_cmp (s : State) (dt : Nat) (c : Comparator) : (s.pass dt).cmp c = s.cmp c := by simp [State.cmp]

@[simp] theorem State.pass_outsideZone (s : State) (dt g k : Nat) : (s.pass dt).outsideZone g k = s.outsideZone g k := by
  have hpair (lo hi : Reg) (i : Nat) : (s.pass dt).pair lo hi i = s.pair lo hi i := by simp [State.pair, State.regNat]
  unfold State.outsideZone
  rw [hpair, s.pass_bit]

/-- Settles O24: the two writes of software by what their operations make of the state past the access, the events by what theirs
make of the state once the cc have passed; none stores a byte (`kept_comparatorEntryOp` and its like). -/
theorem readoutReceiversComplete : Obligations.ReadoutReceiversComplete := by
  intro who dt g s
  refine ⟨fun m ho => ?commit, fun x w rest zs ovr hw he hdue => ?result, fun n c last z hr hact hrising hz => ?enters,
    fun n c last z hr hact hrising hz => ?clears, fun v ho hf => ?mode,
    fun k last z he _ hawake harray hen hdue hzone hkb hblock => ?record, fun n h f hd hf => ?pad⟩
  case commit =>
    exact completes_of_regAccess rfl ho ⟨fun x hx => toneCommitOp_pending x.isLt hx _, onlyRegs_toneCommitOp g m.toNat _⟩
  case result =>
    obtain ⟨hI, hQ, hftg, hwindows, hframe⟩ :=
      toneResultOp_of_due ((s.pass_windows dt g x).trans hw) ((s.pass_epochRun dt).trans he) hdue zs ovr
    exact ⟨_, rfl, hI, hQ, hftg, hwindows, (onlyAt_pass s dt).onlyRegs.trans hframe⟩
  case enters =>
    have hafter : (((s.pass dt).cmpSamples (.raw n c) last [(z, 0)]).cmp (.raw n c)).act = true := by
      rw [State.cmpSamples_one_cmp]
      refine cmpStep_enters (State.on_of_streamReady hr) ?_ ?_ ?_ <;> simpa [State.cmpCfg]
    refine ⟨_, rfl, ?_, .of_kept ((kept_comparatorEntryOp _ _ _ _).trans (s.kept_pass dt))⟩
    rwa [comparatorEntryOp_of_raw hr (by simpa) hafter]
  case clears =>
    have hafter : (((s.pass dt).cmpSamples (.raw n c) last [(z, 0)]).cmp (.raw n c)).act = false := by
      rw [State.cmpSamples_one_cmp]
      refine cmpStep_clears ?_ ?_ ?_ <;> simpa [State.cmpCfg]
    refine ⟨_, rfl, ?_, .of_kept ((kept_comparatorClearOp _ _ _ _).trans (s.kept_pass dt))⟩
    rwa [comparatorClearOp_of_raw hr (by simpa) hafter]
  case mode =>
    have hfeat := (s.throughOpen_feat who (regAddr .RFI_CTRL g) 1).trans hf
    have hhalted := s.throughOpen_clusterHalted who (regAddr .RFI_CTRL g) g
    have hctrl := s.throughOpen_reg who (regAddr .RFI_CTRL g) (q := .RFI_CTRL) g (by decide) (by decide)
    have hkept := (kept_rfiCtrlOp g v _).trans (s.kept_throughOpen who (regAddr .RFI_CTRL g))
    refine completes_of_regAccess rfl ho ⟨fun hh => ?_, fun hh => ?_, .of_kept hkept⟩
    · rw [← State.fld_congr hctrl]
      exact rfiCtrlOp_of_halted v hfeat (hhalted.trans hh)
    · rw [rfiCtrlOp_of_running v hfeat (hhalted.trans hh), State.fld_congr hctrl]
      refine ⟨(State.reg_setFld_other _ _ _ _ _ _ _ _ (by decide)).trans hctrl, State.rfiResult_lastResult _ _ ?_⟩
      split <;> decide
  case record =>
    have hmeans := trackerRecordOp_stores (s := s.pass dt) z ((s.pass_epochRun dt).trans he) hawake
      ((s.pass_bit dt _ _ _).trans harray) ((s.pass_bit dt _ _ _).trans hen) hdue ((s.pass_outsideZone dt _ _).trans hzone)
      ((s.pass_fld dt _ _ _ _).trans_le hkb) ((congrArg _ (s.pass_cmp dt _)).trans hblock)
    rw [s.pass_cmp] at hmeans
    obtain ⟨hI, hQ, hrestart⟩ := hmeans
    exact ⟨_, rfl, hI, hQ, hrestart, .of_kept ((kept_trackerRecordOp _ _ _ _ _ _ _).trans (s.kept_pass dt))⟩
  case pad =>
    have hdue : f + 64 * (s.pass dt).fld .DLY_CTRL n 31 16 ≤ (s.pass dt).now := by rwa [s.pass_fld, s.pass_now]
    have hpad := dailiesPadOp_of_due ((congrArg _ (s.pass_dailies dt n)).trans hd) hdue
    rw [s.pass_dailies] at hpad
    refine ⟨_, congrArg Host.Outcome.next hpad, ?_, ?_, ?_⟩
    · rw [State.setDailies_dailies]
    · rw [State.setDailies_dailies]
    · exact ((onlyAt_pass s dt).trans (onlyAt_of_reg_eq (fun _ _ => rfl) rfl)).onlyRegs

end Sys2Proof.Machine
end

-- ==== Kernel engines: writes that land ====
section
/-!
PROOFS. How results in flight land (R150, R152, R160, R183). A landing write stores kernel registers of its cluster, those that
`KrnWrite.regs` names; the end of a bundle lands what is due (`State.endBundle_eq`), a halt lands the rest (R165). What such a store
leaves as it was is a function of the state that keeps its value over it: `StoreKeeps`, `LandingKeeps`.
-/

namespace Sys2Proof.Machine

/-! ### Writes that land (R150, R152, R183) -/

/-- The registers that a landing write can store. -/
def KrnWrite.regs : KrnWrite → List Reg
  | .c _ _ => [.KRN_C]
  | .acc _ _ _ => [.KRN_A_I_LO, .KRN_A_I_HI, .KRN_A_Q_LO, .KRN_A_Q_HI]
  | .flagN _ | .flagZ _ | .setGx | .clearGx | .ie _ | .rti _ => [.KRN_KSTAT]
  | .x code _ =>
    if 8 ≤ code ∧ code < 16 then [.KRN_L, .KRN_B, .KRN_LSH, .KRN_BSH, .KRN_LPEND] else [(krnXReg 0 code).1]
  | .step _ _ _ => [.KRN_P, .KRN_L, .KRN_B, .KRN_LPEND]

/-- `f` reads the same after a store of a register of `rs` that belongs to cluster `g`. -/
def StoreKeeps {β : Type} (g : Nat) (rs : List Reg) (f : State → β) : Prop :=
  ∀ s, ∀ r ∈ rs, ∀ i w, i / krnPerCluster r = g → f (State.setReg s r i w) = f s

section
variable {β : Type} {g : Nat} {rs : List Reg} {f : State → β}

theorem StoreKeeps.mono {rs' : List Reg} (h : StoreKeeps g rs f) (hrs : rs' ⊆ rs) : StoreKeeps g rs' f :=
  fun s r hr => h s r (hrs hr)

theorem storeKeeps_reg {q : Reg} {j : Nat} (h : q ∈ rs → j / krnPerCluster q ≠ g) : StoreKeeps g rs (·.reg q j) := by
  intro s r hr i w hi
  have hne : ¬(r = q ∧ i = j) := fun ⟨hq, hj⟩ => h (hq ▸ hr) (hq ▸ hj ▸ hi)
  exact (s.reg_setReg r q i j w).trans (if_neg hne)

end

/-- The registers of the pointers, four to a cluster. -/
def pointerRegs : List Reg := [.KRN_P, .KRN_M, .KRN_L, .KRN_B, .KRN_LSH, .KRN_BSH]

theorem pointerRegs_cluster {r : Reg} (hr : r ∈ pointerRegs) (g : Nat) {i : Nat} (hi : i < 4) :
    (4 * g + i) / krnPerCluster r = g := by
  have hper : krnPerCluster r = 4 := by revert r; decide
  rw [hper]; omega

theorem krnXReg_home (g code : Nat) :
    (krnXReg g code).1 = (krnXReg 0 code).1 ∧ (krnXReg g code).2 / krnPerCluster (krnXReg 0 code).1 = g := by
  unfold krnXReg
  split
  · exact ⟨rfl, by simp only [krnPerCluster]; omega⟩
  split
  · exact ⟨rfl, by simp only [krnPerCluster]; omega⟩
  split
  · exact ⟨rfl, by simp only [krnPerCluster]; omega⟩
  split
  · exact ⟨rfl, by simp only [krnPerCluster]; omega⟩
  split <;> exact ⟨rfl, by simp [krnPerCluster]⟩

theorem krnXReg_mem (code : Nat) : (krnXReg 0 code).1 ∈ krnStateRegs := by
  unfold krnXReg
  repeat' split
  all_goals simp only [krnStateRegs, List.mem_cons, reduceCtorEq, true_or, or_true]

theorem KrnWrite.regs_x (code : Nat) (v : Word) : (KrnWrite.x code v).regs =
    if 8 ≤ code ∧ code < 16 then [.KRN_L, .KRN_B, .KRN_LSH, .KRN_BSH, .KRN_LPEND] else [(krnXReg 0 code).1] := rfl

theorem KrnWrite.regs_subset (w : KrnWrite) : w.regs ⊆ krnStateRegs := by
  cases w with
  | x code v =>
    rw [KrnWrite.regs_x]
    split
    · decide
    · exact List.cons_subset.2 ⟨krnXReg_mem code, List.nil_subset _⟩
  | c | acc | flagN | flagZ | setGx | clearGx | ie | rti | step => simp only [KrnWrite.regs]; decide

section
variable {β : Type} {g : Nat} {rs : List Reg} {f : State → β}

theorem State.writeCircular_field (h : StoreKeeps g [.KRN_L, .KRN_B, .KRN_LSH, .KRN_BSH, .KRN_LPEND] f) (s : State) {i : Nat}
    (hi : i < 4) (len : Bool) (v : Nat) : f (s.writeCircular g i len v) = f s := by
  have four (r : Reg) (hr : r ∈ [Reg.KRN_L, .KRN_B, .KRN_LSH, .KRN_BSH]) (t : State) (w : Word) :
      f (t.setReg r (4 * g + i) w) = f t :=
    h t r ((by decide : [Reg.KRN_L, .KRN_B, .KRN_LSH, .KRN_BSH] ⊆ _) hr) _ w
      (pointerRegs_cluster ((by decide : _ ⊆ pointerRegs) hr) g hi)
  have pend (t : State) (b : Bool) : f (t.setBit .KRN_LPEND g i b) = f t := h t .KRN_LPEND (by decide) _ _ (Nat.div_one g)
  unfold State.writeCircular
  extract_lets r home shadowed
  split
  · refine (pend _ _).trans (four home ?_ _ _)
    cases len <;> decide
  · refine (pend _ _).trans ((four _ ?_ _ _).trans
      (State.ite_field f rfl ((four _ (by decide) _ _).trans (four _ (by decide) _ _))))
    cases len <;> decide

/-- A write that lands stores registers of its cluster, those that `KrnWrite.regs` names. -/
theorem State.landOne_field (w : KrnWrite) (h : StoreKeeps g w.regs f) (s : State) : f (State.landOne g w s) = f s := by
  cases w with
  | c j v => exact h s _ (by simp [KrnWrite.regs]) _ _ (by simp only [krnPerCluster]; omega)
  | acc a i q =>
    have two (r : Reg) (hr : r ∈ [Reg.KRN_A_I_LO, .KRN_A_I_HI, .KRN_A_Q_LO, .KRN_A_Q_HI]) (t : State) (w : Word) :
        f (t.setReg r (2 * g + a % 2) w) = f t := by
      refine h t r hr _ w ?_
      have hper : krnPerCluster r = 2 := by revert r; decide
      rw [hper]; omega
    simp only [State.landOne, State.setPair]
    rw [two _ (by decide), two _ (by decide), two _ (by decide), two _ (by decide)]
  | flagN | flagZ | setGx | clearGx | ie | rti => exact h s _ (by simp [KrnWrite.regs]) _ _ (Nat.div_one g)
  | x code v =>
    rw [KrnWrite.regs_x] at h
    simp only [State.landOne]
    split
    · rw [if_pos ‹_›] at h
      exact s.writeCircular_field h (by omega) _ _
    · rw [if_neg ‹_›] at h
      obtain ⟨hreg, hinst⟩ := krnXReg_home g code
      rw [hreg]
      exact h s _ (by simp) _ _ hinst
  | step i p ho =>
    have four (r : Reg) (hr : r ∈ [Reg.KRN_P, .KRN_L, .KRN_B]) (t : State) (w : Word) :
        f (t.setReg r (4 * g + i % 4) w) = f t :=
      h t r ((by decide : [Reg.KRN_P, .KRN_L, .KRN_B] ⊆ [Reg.KRN_P, .KRN_L, .KRN_B, .KRN_LPEND]) hr) _ w
        (pointerRegs_cluster ((by decide : _ ⊆ pointerRegs) hr) g (Nat.mod_lt _ (by decide)))
    cases ho with
    | none => exact four .KRN_P (by decide) s _
    | some lb =>
      obtain ⟨l, b⟩ := lb
      refine (h _ .KRN_LPEND (by simp [KrnWrite.regs]) _ _ (Nat.div_one g)).trans ?_
      rw [four .KRN_B (by decide), four .KRN_L (by decide), four .KRN_P (by decide)]

theorem State.forEach_landOne_field (ws : List KrnWrite) (h : ∀ w ∈ ws, StoreKeeps g w.regs f) (s : State) :
    f (State.forEach ws (State.landOne g) s) = f s := by
  induction ws generalizing s with
  | nil => rfl
  | cons w ws ih =>
    obtain ⟨hw, hws⟩ := List.forall_mem_cons.1 h
    exact (ih hws _).trans (State.landOne_field w hw s)

theorem State.krnLatch_field (hcause : StoreKeeps g [.KRN_ATTN_CAUSE] f)
    (hlatch : ∀ s c, f (State.setKrn s g { State.krn! s g with latchedAt := c }) = f s) (s : State) (b : Nat) :
    f (s.krnLatch g b) = f s :=
  State.ite_field f rfl
    ((hlatch (s.setBit .KRN_ATTN_CAUSE g b true) s.now).trans (hcause s _ (by decide) _ _ (Nat.div_one g)))

end

/-- What the writes of `rs` leave as it was when they land, with the attention cause that a new GX latches and the source it
raises (R161, R164). -/
structure LandingKeeps {β : Type} (g : Nat) (rs : List Reg) (f : State → β) : Prop where
  store : StoreKeeps g (.KRN_KSTAT :: .KRN_ATTN_CAUSE :: rs) f
  latch : ∀ s c, f (State.setKrn s g { State.krn! s g with latchedAt := c }) = f s
  raise : ∀ s k, f (State.raise s k) = f s

theorem landingKeeps_reg {g : Nat} {rs : List Reg} {q : Reg} {j : Nat}
    (h : q ∈ .KRN_KSTAT :: .KRN_ATTN_CAUSE :: rs → j / krnPerCluster q ≠ g) : LandingKeeps g rs (·.reg q j) :=
  ⟨storeKeeps_reg h, fun _ _ => rfl, fun s k => s.raise_reg k q j⟩

section
variable {β : Type} {g : Nat} {rs : List Reg} {f : State → β}

theorem State.setKstat_field (hf : LandingKeeps g rs f) (s : State) (v : Nat) : f (s.setKstat g v) = f s := by
  have hstat (w : Word) : f (s.setReg .KRN_KSTAT g w) = f s := hf.store s _ (by simp) _ _ (Nat.div_one g)
  have hlatch (t : State) : f (t.krnLatch g 4) = f t :=
    State.krnLatch_field (hf.store.mono (by simp)) hf.latch t 4
  exact State.ite_field f ((State.ite_field f ((hf.raise _ _).trans (hlatch _)) (hlatch _)).trans (hstat _)) (hstat _)

theorem State.landList_field (hf : LandingKeeps g rs f) (ws : List KrnWrite) (hws : ∀ w ∈ ws, w.regs ⊆ rs) (s : State) :
    f (s.landList g ws) = f s := by
  have hland : f (State.forEach ws (State.landOne g) s) = f s :=
    State.forEach_landOne_field ws (fun w hw => hf.store.mono fun r hr => by simp [hws w hw hr]) s
  exact (State.setKstat_field hf _ _).trans ((hf.store _ _ (by simp) _ _ (Nat.div_one g)).trans hland)

end

/-- The writes still in flight once a bundle has ended. -/
def InFlight.rest (l : List InFlight) : List InFlight := (l.filter (·.left != 0)).map fun x => { x with left := x.left - 1 }

/-- Those that land at its end. -/
def InFlight.due (l : List InFlight) : List KrnWrite := (l.filter (·.left == 0)).map (·.w)

theorem State.endBundle_eq (s : State) (g : Nat) : s.endBundle g =
    (s.setKrn g { s.krn! g with flight := InFlight.rest (s.krn! g).flight }).landList g (InFlight.due (s.krn! g).flight) := rfl

@[simp] theorem State.setKrn_krn (s : State) (g : Nat) (x : KrnEngine) : (s.setKrn g x).krn! g = x := tget_tset_same _ _ _ _

theorem InFlight.rest_w {l : List InFlight} {x : InFlight} (h : x ∈ InFlight.rest l) : ∃ y ∈ l, y.w = x.w := by
  obtain ⟨y, hy, rfl⟩ := List.mem_map.1 h
  exact ⟨y, (List.mem_filter.1 hy).1, rfl⟩

theorem InFlight.due_w {l : List InFlight} {w : KrnWrite} (h : w ∈ InFlight.due l) : ∃ y ∈ l, y.w = w := by
  obtain ⟨y, hy, rfl⟩ := List.mem_map.1 h
  exact ⟨y, (List.mem_filter.1 hy).1, rfl⟩

section
variable (s : State) (g : Nat)

theorem State.landList_flight (ws : List KrnWrite) : ((s.landList g ws).krn! g).flight = (s.krn! g).flight :=
  State.landList_field (f := fun t => (t.krn! g).flight) (rs := krnStateRegs)
    ⟨fun _ _ _ _ _ _ => rfl, fun t c => by simp, fun t k => by simp [State.krn!]⟩ ws (fun w _ => w.regs_subset) s

theorem State.landList_nextCc (ws : List KrnWrite) : ((s.landList g ws).krn! g).nextCc = (s.krn! g).nextCc :=
  State.landList_field (f := fun t => (t.krn! g).nextCc) (rs := krnStateRegs)
    ⟨fun _ _ _ _ _ _ => rfl, fun t c => by simp, fun t k => by simp [State.krn!]⟩ ws (fun w _ => w.regs_subset) s

theorem State.endBundle_flight : ((s.endBundle g).krn! g).flight = InFlight.rest (s.krn! g).flight := by
  rw [s.endBundle_eq, State.landList_flight, State.setKrn_krn]

theorem State.endBundle_nextCc : ((s.endBundle g).krn! g).nextCc = (s.krn! g).nextCc := by
  rw [s.endBundle_eq, State.landList_nextCc, State.setKrn_krn]

theorem State.landAll_nextCc : ((s.landAll g).krn! g).nextCc = (s.krn! g).nextCc := by
  simp only [State.landAll, State.endBundle_nextCc]

end

section
variable {β : Type} {g : Nat} {rs : List Reg} {f : State → β} (hf : LandingKeeps g rs f)
  (hkrn : ∀ s x, f (State.setKrn s g x) = f s)
include hf hkrn

theorem State.endBundle_field {s : State} (hfl : ∀ x ∈ (s.krn! g).flight, x.w.regs ⊆ rs) : f (s.endBundle g) = f s := by
  rw [s.endBundle_eq]
  refine (State.landList_field hf _ (fun w hw => ?_) _).trans (hkrn _ _)
  obtain ⟨y, hy, rfl⟩ := InFlight.due_w hw
  exact hfl y hy

theorem State.landAll_field {s : State} (hfl : ∀ x ∈ (s.krn! g).flight, x.w.regs ⊆ rs) : f (s.landAll g) = f s := by
  have hrest {t : State} (h : ∀ x ∈ (t.krn! g).flight, x.w.regs ⊆ rs) : ∀ x ∈ ((t.endBundle g).krn! g).flight, x.w.regs ⊆ rs := by
    rw [t.endBundle_flight]
    intro x hx
    obtain ⟨y, hy, hyx⟩ := InFlight.rest_w hx
    exact hyx ▸ h y hy
  exact (State.endBundle_field hf hkrn (hrest (hrest hfl))).trans
    ((State.endBundle_field hf hkrn (hrest hfl)).trans (State.endBundle_field hf hkrn hfl))

/-- A halt lands what is in flight and stores `KRN_STATUS` (R165). -/
theorem State.krnHalt_field (hst : StoreKeeps g [.KRN_STATUS] f) {s : State} (hfl : ∀ x ∈ (s.krn! g).flight, x.w.regs ⊆ rs)
    (code : Nat) (error : Bool) : f (s.krnHalt g code error) = f s := by
  have hstatus (t : State) (w : Word) : f (t.setReg .KRN_STATUS g w) = f t := hst t _ (by simp) _ _ (Nat.div_one g)
  exact (hstatus _ _).trans ((hstatus _ _).trans ((hstatus _ _).trans (State.landAll_field hf hkrn hfl)))

end

/-- After three bundles nothing that an instruction sent is in flight. -/
theorem InFlight.rest_left {l : List InFlight} {n : Nat} (h : ∀ x ∈ l, x.left ≤ n + 1) : ∀ x ∈ InFlight.rest l, x.left ≤ n := by
  intro x hx
  obtain ⟨y, hy, rfl⟩ := List.mem_map.1 hx
  have := h y (List.mem_filter.1 hy).1
  simp only
  omega

theorem InFlight.rest_nil {l : List InFlight} (h : ∀ x ∈ l, x.left = 0) : InFlight.rest l = [] := by
  have hnone : l.filter (·.left != 0) = [] := List.filter_eq_nil_iff.2 fun x hx => by simp [h x hx]
  simp [InFlight.rest, hnone]

theorem State.landAll_flight {s : State} {g : Nat} (h : ∀ x ∈ (s.krn! g).flight, x.left ≤ 2) :
    ((s.landAll g).krn! g).flight = [] := by
  simp only [State.landAll, State.endBundle_flight]
  exact InFlight.rest_nil fun x hx => Nat.le_zero.1 (InFlight.rest_left (InFlight.rest_left h) x hx)

end Sys2Proof.Machine
end

-- ==== Kernel engines: the stages of a bundle ====
section
/-!
PROOFS. A bundle that issues (R144, R150, R155, R158, R165) acts in stages: its A slot (`State.bundleBegun`), its decision
(`State.bundleDecided`), the landing at its end (`State.bundleEnded`), the move of the PC (`State.bundleMoved`) and a halt
(`State.issueBundle_eq`). What each stage leaves as it was is said once, of every function of the state.
-/

namespace Sys2Proof.Machine

/-! ### What the A slot and a decision leave (R149, R153, R155-R157) -/

/-- What the store, the stream word taken and the word into OUTT of an A slot leave as it was. -/
structure AEffectKeeps {β : Type} (g : Nat) (f : State → β) : Prop where
  store : StoreKeeps g [.KRN_OUTT_CNT] f
  mem : ∀ s m, f { s with mem := m } = f s
  krn : ∀ s i o d, f { s with krn := { s.krn with inp := i, outt := o, wrote := d } } = f s

/-- What a decision of the kernel leaves as it was. -/
structure DecisionKeeps {β : Type} (g : Nat) (f : State → β) : Prop where
  store : StoreKeeps g [.KRN_DEC_STATUS, .KRN_MISS_CNT, .KRN_LATE_CNT] f
  up : ∀ s w, f (State.setReg s .FAB_RG_UP_CNT (g / 4) w) = f s
  pend : ∀ s p, f { s with krn := { s.krn with pend := p } } = f s
  fab : ∀ s x, f { s with fab := x } = f s

section
variable {β : Type} {g : Nat} {f : State → β}

theorem aEffectKeeps_reg {q : Reg} {j : Nat} (h : q = .KRN_OUTT_CNT → j ≠ g) : AEffectKeeps g (·.reg q j) :=
  ⟨storeKeeps_reg fun hq => by
    obtain rfl := List.mem_singleton.1 hq
    simpa [krnPerCluster] using h rfl, fun _ _ => rfl, fun _ _ _ _ => rfl⟩

theorem decisionKeeps_reg {q : Reg} {j : Nat} (h : q ∈ [Reg.KRN_DEC_STATUS, .KRN_MISS_CNT, .KRN_LATE_CNT] → j / krnPerCluster q ≠ g)
    (hup : q = .FAB_RG_UP_CNT → j ≠ g / 4) : DecisionKeeps g (·.reg q j) :=
  ⟨storeKeeps_reg h, fun s _ => (s.reg_setReg _ _ _ _ _).trans (if_neg fun ⟨hq, hj⟩ => hup hq.symm hj.symm), fun _ _ => rfl,
    fun _ _ => rfl⟩

theorem State.krnStore_field (hf : AEffectKeeps g f) (s : State) (p : Nat) (v : Word) : f (s.krnStore g p v) = f s :=
  (hf.krn _ _ _ _).trans (hf.mem _ _)

theorem State.krnOutt_field (hf : AEffectKeeps g f) (s : State) (v : Word) : f (s.krnOutt g v) = f s := by
  have hcount : f (s.countWrap .KRN_OUTT_CNT g) = f s := hf.store s _ (by simp) _ _ (Nat.div_one g)
  exact State.ite_field f ((hf.krn _ _ _ _).trans hcount) hcount

theorem State.aEffect_field (hf : AEffectKeeps g f) (s : State) (w : BitVec 64) : f (s.aEffect g w) = f s := by
  unfold State.aEffect
  extract_lets p
  split
  · exact s.krnStore_field hf _ _
  · exact s.krnStore_field hf _ _
  · exact s.krnStore_field hf _ _
  · exact hf.krn _ _ _ _
  · exact s.krnOutt_field hf _
  · rfl

theorem State.enterFabric_field (hup : ∀ s w, f (State.setReg s .FAB_RG_UP_CNT (g / 4) w) = f s)
    (hfab : ∀ s x, f { s with fab := x } = f s) (s : State) (slot : Nat) (w : BitVec 8) (x : Nat) :
    f (s.enterFabric g slot w x) = f s := by
  unfold State.enterFabric
  extract_lets n up hub reach fw worded
  exact State.ite_field f rfl (State.ite_field f ((hup _ _).trans (hfab _ _)) (hfab _ _))

theorem State.krnEmit_field (hup : ∀ s w, f (State.setReg s .FAB_RG_UP_CNT (g / 4) w) = f s)
    (hfab : ∀ s x, f { s with fab := x } = f s) (s : State) (t state x : Nat) (valid late : Bool) :
    f (s.krnEmit g t state x valid late) = f s :=
  (State.enterFabric_field hup hfab _ _ _ _).trans (hfab _ _)

theorem State.settlePend_field (hf : DecisionKeeps g f) (s : State) (t : Nat) : f (s.settlePend g t) = f s :=
  (hf.store _ .KRN_MISS_CNT (by decide) _ _ (Nat.div_one g)).trans (hf.pend _ _)

theorem State.krnDecide_field (hf : DecisionKeeps g f) (s : State) (t state : Nat) : f (s.krnDecide g t state) = f s := by
  have hemit (u : State) (x : Nat) (valid late : Bool) : f (u.krnEmit g t state x valid late) = f u :=
    State.krnEmit_field hf.up hf.fab u t state x valid late
  unfold State.krnDecide
  extract_lets settled
  have hsettled : f settled = f s := State.settlePend_field hf s t
  split
  · exact hf.store s .KRN_DEC_STATUS (by decide) _ _ (Nat.div_one g)
  · split
    · extract_lets late taken emitted
      have htaken : f taken = f s := (hf.pend _ _).trans hsettled
      refine State.ite_field f ((hemit _ _ _ _).trans hsettled)
        (State.ite_field f ((hf.store emitted .KRN_LATE_CNT (by decide) _ _ (Nat.div_one g)).trans ?_) ?_)
      · exact (hemit _ _ _ _).trans htaken
      · exact (hemit _ _ _ _).trans htaken
    · exact (hemit _ _ _ _).trans hsettled

end

/-! ### The stages of a bundle that issues (R144, R150, R155, R158, R165) -/

section
variable (s : State) (g : Nat) (w : BitVec 64)

/-- The writes that a bundle sends, in the order C, A, M. -/
def State.bundleSends : List InFlight :=
  (s.cWrites g w (s.krnPc g)).map (fun x => { left := 0, mslot := false, w := x }) ++
    ((s.aWrites g w).map (fun p => { left := p.1, mslot := false, w := p.2 }) ++
      (s.mSlot g w).map (fun x => { left := 2, mslot := true, w := x }))

/-- The A slot has acted and the bundle's writes are in flight. -/
def State.bundleBegun : State :=
  (s.aEffect g w).setKrn g
    { s.krn! g with flight := (s.krn! g).flight ++ s.bundleSends g w, nextCc := (s.aEffect g w).now + 1 }

/-- A DEC of the bundle has decided. -/
def State.bundleDecided : State :=
  match s.decOf g w with
  | some (t, st) => (s.bundleBegun g w).krnDecide g t st
  | none => s.bundleBegun g w

/-- What is due at the end of the bundle has landed. -/
def State.bundleEnded : State := (s.bundleDecided g w).endBundle g

/-- The PC has moved on. -/
def State.bundleMoved : State :=
  match s.cTarget g w (s.krnPc g) with
  | some t => (s.bundleEnded g w).setKrnPc g t
  | none => ((s.bundleEnded g w).loopRule g (s.krnPc g)).2.setKrnPc g ((s.bundleEnded g w).loopRule g (s.krnPc g)).1

theorem State.issueBundle_eq : s.issueBundle g w =
    if KB.cop w = 1 then ((s.bundleMoved g w).krnHalt g Code.ok false).krnHaltSignal g else s.bundleMoved g w := rfl

theorem State.issueBundle_of_running (h : KB.cop w ≠ 1) : s.issueBundle g w = s.bundleMoved g w :=
  (s.issueBundle_eq g w).trans (if_neg h)

theorem State.issueBundle_of_halt (h : KB.cop w = 1) :
    s.issueBundle g w = ((s.bundleMoved g w).krnHalt g Code.ok false).krnHaltSignal g :=
  (s.issueBundle_eq g w).trans (if_pos h)

theorem State.bundleDecided_of_no_dec (h : KB.cop w ≠ 7) : s.bundleDecided g w = s.bundleBegun g w := by
  simp [State.bundleDecided, State.decOf, h]

theorem State.bundleDecided_of_dec (h : KB.cop w = 7) : s.bundleDecided g w = (s.bundleBegun g w).krnDecide g (KB.tone w)
    (if KB.im w then KB.st w else bits (s.krnC g (KB.cs w)) 1 0) := by
  simp [State.bundleDecided, State.decOf, h]

theorem State.bundleMoved_of_target {t : Nat} (h : s.cTarget g w (s.krnPc g) = some t) :
    s.bundleMoved g w = (s.bundleEnded g w).setKrnPc g t := by
  simp [State.bundleMoved, h]

theorem State.bundleMoved_of_next (h : s.cTarget g w (s.krnPc g) = none) : s.bundleMoved g w =
    ((s.bundleEnded g w).loopRule g (s.krnPc g)).2.setKrnPc g ((s.bundleEnded g w).loopRule g (s.krnPc g)).1 := by
  simp [State.bundleMoved, h]

end

section
variable {β : Type} {g : Nat} {f : State → β}

theorem State.bundleDecided_field_of_begun (hf : DecisionKeeps g f) (s : State) (w : BitVec 64) :
    f (s.bundleDecided g w) = f (s.bundleBegun g w) := by
  by_cases h : KB.cop w = 7
  · rw [s.bundleDecided_of_dec g w h]
    exact State.krnDecide_field hf _ _ _
  · rw [s.bundleDecided_of_no_dec g w h]

theorem State.bundleDecided_field (ha : AEffectKeeps g f) (hd : DecisionKeeps g f) (hkrn : ∀ s x, f (State.setKrn s g x) = f s)
    (s : State) (w : BitVec 64) : f (s.bundleDecided g w) = f s :=
  (State.bundleDecided_field_of_begun hd s w).trans ((hkrn _ _).trans (State.aEffect_field ha s w))

/-- The loop rule stores the counts alone. -/
theorem State.loopRule_field (hloop : StoreKeeps g [.KRN_LC0, .KRN_LC1] f) (s : State) (pc : Nat) :
    f (s.loopRule g pc).2 = f s := by
  unfold State.loopRule
  extract_lets lc1 lc0
  split
  · exact hloop s .KRN_LC1 (by decide) _ _ (Nat.div_one g)
  · split
    · exact hloop s .KRN_LC0 (by decide) _ _ (Nat.div_one g)
    · rfl

theorem State.bundleMoved_field (hpc : StoreKeeps g [.KRN_PC, .KRN_LC0, .KRN_LC1] f) (s : State) (w : BitVec 64) :
    f (s.bundleMoved g w) = f (s.bundleEnded g w) := by
  have hset (t : State) (pc : Nat) : f (t.setKrnPc g pc) = f t := hpc t .KRN_PC (by decide) _ _ (Nat.div_one g)
  cases h : s.cTarget g w (s.krnPc g) with
  | some t => exact (congrArg f (s.bundleMoved_of_target g w h)).trans (hset _ _)
  | none => exact (congrArg f (s.bundleMoved_of_next g w h)).trans ((hset _ _).trans
      (State.loopRule_field (hpc.mono (by decide)) _ _))

theorem State.krnHaltSignal_field (hst : StoreKeeps g [.KRN_STATUS] f) (hraise : ∀ s k, f (State.raise s k) = f s) (s : State) :
    f (s.krnHaltSignal g) = f s :=
  (hraise _ _).trans (hst s .KRN_STATUS (by decide) _ _ (Nat.div_one g))

end

theorem State.bundleMoved_flight (s : State) (g : Nat) (w : BitVec 64) : (s.bundleMoved g w).krn! g = (s.bundleEnded g w).krn! g :=
  State.bundleMoved_field (f := (·.krn! g)) (fun _ _ _ _ _ _ => rfl) s w

section
variable {β : Type} {g : Nat} {rs : List Reg} {f : State → β} (hf : LandingKeeps g rs f)
  (hkrn : ∀ s x, f (State.setKrn s g x) = f s)
include hf hkrn

/-- What moving the PC, a halt and the writes that it lands leave as it was reads after a bundle what it read at its end. -/
theorem State.issueBundle_field_of_ended (hpc : StoreKeeps g [.KRN_PC, .KRN_STATUS, .KRN_LC0, .KRN_LC1] f) {s : State}
    {w : BitVec 64} (hfl : KB.cop w = 1 → ∀ x ∈ ((s.bundleEnded g w).krn! g).flight, x.w.regs ⊆ rs) :
    f (s.issueBundle g w) = f (s.bundleEnded g w) := by
  have hmoved := State.bundleMoved_field (hpc.mono (by decide)) s w
  by_cases h : KB.cop w = 1
  · rw [s.issueBundle_of_halt g w h]
    calc f (((s.bundleMoved g w).krnHalt g Code.ok false).krnHaltSignal g)
        = f ((s.bundleMoved g w).krnHalt g Code.ok false) := State.krnHaltSignal_field (hpc.mono (by decide)) hf.raise _
      _ = f (s.bundleMoved g w) :=
        State.krnHalt_field hf hkrn (hpc.mono (by decide)) (by rw [s.bundleMoved_flight]; exact hfl h) _ _
      _ = f (s.bundleEnded g w) := hmoved
  · rwa [s.issueBundle_of_running g w h]

/-- What neither a landing nor the PC nor a halt touches reads after a bundle what it read once its slots have acted. -/
theorem State.issueBundle_field (hrs : krnStateRegs ⊆ rs)
    (hpc : StoreKeeps g [.KRN_PC, .KRN_STATUS, .KRN_LC0, .KRN_LC1] f) (s : State) (w : BitVec 64) :
    f (s.issueBundle g w) = f (s.bundleDecided g w) :=
  (State.issueBundle_field_of_ended hf hkrn hpc fun _ x _ => List.Subset.trans x.w.regs_subset hrs).trans
    (State.endBundle_field hf hkrn fun x _ => List.Subset.trans x.w.regs_subset hrs)

end

end Sys2Proof.Machine
end

-- ==== Kernel engines: what a bundle leaves and stores ====
section
/-!
PROOFS. What can be read after a bundle: the engine and its PC (R144, R154, R158, R165), the registers that can differ, the memories
(R149), and the bundle that the row of an instruction issues (R162, R169).
-/

namespace Sys2Proof.Machine

/-! ### What a bundle that issues leaves and stores -/

/-- A register that neither the slots of a bundle nor its landing writes store reads at its end what it read before. -/
theorem State.bundleEnded_reg (s : State) (g : Nat) (w : BitVec 64) {q : Reg} (j : Nat)
    (h : q ∉ .FAB_RG_UP_CNT :: [.KRN_OUTT_CNT, .KRN_DEC_STATUS, .KRN_MISS_CNT, .KRN_LATE_CNT, .KRN_ATTN_CAUSE] ++ krnStateRegs) :
    (s.bundleEnded g w).reg q j = s.reg q j := by
  have apart {rs : List Reg} (hrs : rs ⊆ .FAB_RG_UP_CNT :: [.KRN_OUTT_CNT, .KRN_DEC_STATUS, .KRN_MISS_CNT, .KRN_LATE_CNT,
      .KRN_ATTN_CAUSE] ++ krnStateRegs) (hq : q ∈ rs) : False := h (hrs hq)
  have hland : LandingKeeps g krnStateRegs (·.reg q j) := landingKeeps_reg fun hq => (apart (by decide) hq).elim
  have hslot : AEffectKeeps g (·.reg q j) :=
    aEffectKeeps_reg fun hq => (apart (rs := [.KRN_OUTT_CNT]) (by decide) (hq ▸ List.mem_singleton_self _)).elim
  have hdec : DecisionKeeps g (·.reg q j) := decisionKeeps_reg (fun hq => (apart (by decide) hq).elim)
    fun hq => (apart (rs := [.FAB_RG_UP_CNT]) (by decide) (hq ▸ List.mem_singleton_self _)).elim
  exact (State.endBundle_field hland (fun _ _ => rfl) fun x _ => x.w.regs_subset).trans
    (State.bundleDecided_field hslot hdec (fun _ _ => rfl) s w)

section
variable (s : State) (g : Nat) (w : BitVec 64)

theorem State.aEffect_now : (s.aEffect g w).now = s.now :=
  State.aEffect_field (f := (·.now)) ⟨fun _ _ _ _ _ _ => rfl, fun _ _ => rfl, fun _ _ _ _ => rfl⟩ s w

theorem State.bundleDecided_krn : (s.bundleDecided g w).krn! g =
    { s.krn! g with flight := (s.krn! g).flight ++ s.bundleSends g w, nextCc := s.now + 1 } := by
  rw [State.bundleDecided_field_of_begun (f := (·.krn! g)) ⟨fun _ _ _ _ _ _ => rfl, fun _ _ => rfl, fun _ _ => rfl,
    fun _ _ => rfl⟩, State.bundleBegun, State.setKrn_krn, s.aEffect_now]

theorem State.bundleEnded_flight :
    ((s.bundleEnded g w).krn! g).flight = InFlight.rest ((s.krn! g).flight ++ s.bundleSends g w) := by
  rw [State.bundleEnded, State.endBundle_flight, s.bundleDecided_krn]

theorem State.bundleMoved_nextCc : ((s.bundleMoved g w).krn! g).nextCc = s.now + 1 := by
  rw [s.bundleMoved_flight, State.bundleEnded, State.endBundle_nextCc, s.bundleDecided_krn]

theorem State.krnHaltSignal_krn : (s.krnHaltSignal g).krn = s.krn :=
  State.krnHaltSignal_field (f := (·.krn)) (fun _ _ _ _ _ _ => rfl) State.raise_krn s

theorem State.krnHalt_krn (code : Nat) (error : Bool) : (s.krnHalt g code error).krn = (s.landAll g).krn := rfl

/-- The next bundle can issue in the next cc (R144). -/
theorem State.issueBundle_nextCc : ((s.issueBundle g w).krn! g).nextCc = s.now + 1 := by
  by_cases h : KB.cop w = 1
  · rw [s.issueBundle_of_halt g w h, State.krn!, State.krnHaltSignal_krn, State.krnHalt_krn]
    exact ((s.bundleMoved g w).landAll_nextCc g).trans (s.bundleMoved_nextCc g w)
  · rw [s.issueBundle_of_running g w h, s.bundleMoved_nextCc]

theorem State.krnHaltSignal_status : (s.krnHaltSignal g).bit .KRN_STATUS g 1 = true ∧
    (∀ b, b < 32 → b ≠ 1 → (s.krnHaltSignal g).bit .KRN_STATUS g b = s.bit .KRN_STATUS g b) ∧
    (s.krnHaltSignal g).fld .KRN_STATUS g 15 8 = s.fld .KRN_STATUS g 15 8 := by
  simp only [State.krnHaltSignal, State.raise_bit, State.raise_fld]
  exact ⟨State.bit_setBit_same _ _ _ _ _ (by decide), fun b hb h => State.bit_setBit_apart _ _ _ _ _ _ hb (Ne.symm h),
    State.fld_setBit_apart _ _ _ _ _ _ _ (by decide) (by decide)⟩

/-- A halt clears RUN and stores its code and whether it was an error (R165). -/
theorem State.krnHalt_status {code : Nat} (hc : code < 2 ^ 8) (error : Bool) :
    (s.krnHalt g code error).krnRuns g = false ∧ (s.krnHalt g code error).bit .KRN_STATUS g 3 = error ∧
    (s.krnHalt g code error).fld .KRN_STATUS g 15 8 = code := by
  unfold State.krnHalt State.krnRuns
  extract_lets landed
  refine ⟨?_, ?_, (State.fld_setFld_same _ _ _ _ _ _ (by decide)).trans (Nat.mod_eq_of_lt hc)⟩
  · rw [State.bit_setFld_apart _ _ _ _ _ _ _ (by decide) (by decide), State.bit_setBit_apart _ _ _ _ _ _ (by decide) (by decide),
      State.bit_setBit_same _ _ _ _ _ (by decide)]
  · rw [State.bit_setFld_apart _ _ _ _ _ _ _ (by decide) (by decide), State.bit_setBit_same _ _ _ _ _ (by decide)]

theorem State.bundleMoved_runs : (s.bundleMoved g w).krnRuns g = s.krnRuns g :=
  State.bit_congr ((State.bundleMoved_field (storeKeeps_reg fun h => absurd h (by decide)) s w).trans
    (s.bundleEnded_reg g w g (by decide)))

/-- The engine runs on unless the bundle holds HALT (R165). -/
theorem State.issueBundle_runs (h : s.krnRuns g = true) : (s.issueBundle g w).krnRuns g = decide (KB.cop w ≠ 1) := by
  by_cases hc : KB.cop w = 1
  · obtain ⟨-, hbits, -⟩ := ((s.bundleMoved g w).krnHalt g Code.ok false).krnHaltSignal_status g
    obtain ⟨hruns, -⟩ := (s.bundleMoved g w).krnHalt_status g (by decide : Code.ok < 2 ^ 8) false
    rw [s.issueBundle_of_halt g w hc, State.krnRuns, hbits 0 (by decide) (by decide)]
    exact hruns.trans (by simp [hc])
  · simpa [s.issueBundle_of_running g w hc, s.bundleMoved_runs, hc] using h

/-! ### Where the PC goes (R154, R158, R180) -/

theorem State.krnPc_congr {s t : State} {g : Nat} (h : t.reg .KRN_PC g = s.reg .KRN_PC g) : t.krnPc g = s.krnPc g :=
  State.fld_congr h

theorem State.krnPc_lt : s.krnPc g < 8192 := Nat.mod_lt _ (by decide)

theorem State.setKrnPc_krnPc (pc : Nat) : (s.setKrnPc g pc).krnPc g = pc % 8192 := by
  simp only [State.setKrnPc, State.krnPc, State.fld_setReg_same, bits, BitVec.toNat_ofNat]
  omega

theorem State.issueBundle_pc : (s.issueBundle g w).krnPc g = (s.bundleMoved g w).krnPc g := by
  by_cases h : KB.cop w = 1
  · rw [s.issueBundle_of_halt g w h]
    have apart {rs : List Reg} (h : Reg.KRN_PC ∉ rs) : StoreKeeps g rs (·.reg .KRN_PC g) := storeKeeps_reg fun hq => absurd hq h
    exact State.krnPc_congr ((State.krnHaltSignal_field (apart (by decide)) (fun t k => t.raise_reg k _ _) _).trans
      (State.krnHalt_field (rs := krnStateRegs) (landingKeeps_reg fun hq => absurd hq (by decide)) (fun _ _ => rfl)
        (apart (by decide)) (fun x _ => x.w.regs_subset) _ _))
  · rw [s.issueBundle_of_running g w h]

theorem State.issueBundle_pc_of_target {t : Nat} (h : s.cTarget g w (s.krnPc g) = some t) :
    (s.issueBundle g w).krnPc g = t % 8192 := by
  rw [s.issueBundle_pc, s.bundleMoved_of_target g w h, State.setKrnPc_krnPc]

/-- At a bundle that ends no loop the loop rule takes the PC to the next one. -/
theorem State.loopRule_next {pc : Nat} (h1 : s.fld .KRN_LE1 g 12 0 ≠ pc) (h0 : s.fld .KRN_LE0 g 12 0 ≠ pc) :
    s.loopRule g pc = ((pc + 1) % 8192, s) := by
  simp [State.loopRule, h1, h0]

/-- A bundle without a branch taken that ends no loop is followed by the next one (R158). -/
theorem State.issueBundle_pc_of_next (h : s.cTarget g w (s.krnPc g) = none) (hc : KB.cop w ≠ 1)
    (h1 : (s.issueBundle g w).fld .KRN_LE1 g 12 0 ≠ s.krnPc g) (h0 : (s.issueBundle g w).fld .KRN_LE0 g 12 0 ≠ s.krnPc g) :
    (s.issueBundle g w).krnPc g = (s.krnPc g + 1) % 8192 := by
  have hends {q : Reg} (hq : q ∉ [Reg.KRN_PC, .KRN_LC0, .KRN_LC1]) :
      (s.issueBundle g w).fld q g 12 0 = (s.bundleEnded g w).fld q g 12 0 := by
    rw [s.issueBundle_of_running g w hc]
    exact State.fld_congr (State.bundleMoved_field (storeKeeps_reg fun h => absurd h hq) s w)
  rw [hends (by decide)] at h1 h0
  rw [s.issueBundle_pc, s.bundleMoved_of_next g w h, State.loopRule_next _ _ h1 h0, State.setKrnPc_krnPc, Nat.mod_mod]

/-! ### The registers and the memory that a bundle can store (R144, R149) -/

end

theorem krnIssuePer_eq {q : Reg} (h : q ≠ .KRN_IN_STALL) : krnIssuePer q = krnPerCluster q := by
  unfold krnIssuePer
  split
  · contradiction
  · rfl

/-- A register outside those a bundle can change is none of `rs` in cluster `g`. -/
theorem not_issueReg {g : Nat} {q : Reg} {j : Nat} (hq : q ∉ krnIssueRegs ∨ j / krnIssuePer q ≠ g) {rs : List Reg}
    (hrs : rs ⊆ krnIssueRegs) (hstall : Reg.KRN_IN_STALL ∉ rs) (h : q ∈ rs) : j / krnPerCluster q ≠ g := by
  obtain hq | hq := hq
  · exact absurd (hrs h) hq
  · rwa [krnIssuePer_eq fun he => hstall (he ▸ h)] at hq

theorem KrnRegsOnly.trans {g : Nat} {s t u : State} (h : KrnRegsOnly g s t) (h' : KrnRegsOnly g t u) : KrnRegsOnly g s u :=
  fun q j hq hup => (h' q j hq hup).trans (h q j hq hup)

theorem krnRegsOnly_of_reg_eq {g : Nat} {s t : State} (h : ∀ q j, t.reg q j = s.reg q j) : KrnRegsOnly g s t :=
  fun q j _ _ => h q j

theorem krnRegsOnly_setReg {g : Nat} {r : Reg} {i : Nat} (hr : r ∈ krnIssueRegs) (hi : i / krnIssuePer r = g) (s : State)
    (w : Word) : KrnRegsOnly g s (s.setReg r i w) := fun q j hq _ => by
  have hne : ¬(r = q ∧ i = j) := by
    rintro ⟨rfl, rfl⟩
    obtain hq | hq := hq
    · exact hq hr
    · exact hq hi
  exact (s.reg_setReg r q i j w).trans (if_neg hne)

/-- A bundle stores kernel registers of its cluster and the count of the words sent up. -/
theorem krnRegsOnly_issueBundle (s : State) (g : Nat) (w : BitVec 64) : KrnRegsOnly g s (s.issueBundle g w) := by
  intro q j hq hup
  have apart {rs : List Reg} (hrs : rs ⊆ krnIssueRegs) (hstall : Reg.KRN_IN_STALL ∉ rs) : StoreKeeps g rs (·.reg q j) :=
    storeKeeps_reg (not_issueReg hq hrs hstall)
  have hslot : AEffectKeeps g (·.reg q j) := ⟨apart (by decide) (by decide), fun _ _ => rfl, fun _ _ _ _ => rfl⟩
  have hdec : DecisionKeeps g (·.reg q j) := decisionKeeps_reg (not_issueReg hq (by decide) (by decide))
    fun h => hup.resolve_left (not_not.2 h)
  exact (State.issueBundle_field (landingKeeps_reg (not_issueReg hq (by decide) (by decide))) (fun _ _ => rfl) (List.Subset.refl _)
    (apart (by decide) (by decide)) s w).trans (State.bundleDecided_field hslot hdec (fun _ _ => rfl) s w)

/-- The memories after a bundle are those its A slot leaves. -/
theorem State.issueBundle_mem (s : State) (g : Nat) (w : BitVec 64) : (s.issueBundle g w).mem = (s.aEffect g w).mem :=
  (State.issueBundle_field (f := (·.mem)) (rs := krnStateRegs) ⟨fun _ _ _ _ _ _ => rfl, fun _ _ => rfl, State.raise_mem⟩
    (fun _ _ => rfl) (List.Subset.refl _) (fun _ _ _ _ _ _ => rfl) s w).trans
    (State.bundleDecided_field_of_begun (f := (·.mem)) ⟨fun _ _ _ _ _ _ => rfl, fun _ _ => rfl, fun _ _ => rfl, fun _ _ => rfl⟩ s w)

theorem State.byte_congr {s t : State} (h : t.mem = s.mem) (sp a : Nat) : t.byte sp a = s.byte sp a :=
  congrArg (memGet · (flat sp a)) h

theorem State.le_congr {s t : State} (h : t.mem = s.mem) (sp a n : Nat) : t.le sp a n = s.le sp a n := by
  simp only [State.le, State.bytes, State.byte_congr h]

/-- An A slot that does not store leaves the memories. -/
theorem State.aEffect_mem {w : BitVec 64} (h2 : KB.aop w ≠ 2) (h3 : KB.aop w ≠ 3) (h5 : KB.aop w ≠ 5) (s : State) (g : Nat) :
    (s.aEffect g w).mem = s.mem := by
  unfold State.aEffect
  extract_lets p
  split
  · contradiction
  · contradiction
  · contradiction
  · rfl
  · obtain ⟨-, -, hmem⟩ := State.kept_eq_iff.1 (s.kept_krnOutt g (s.krnC g (KB.ad w)))
    exact hmem
  · rfl

/-! ### A word stored reads back (R9, R149) -/

theorem length_leBytes (n v : Nat) : (leBytes n v).length = n := by
  induction n generalizing v with
  | zero => rfl
  | succ n ih => simp [leBytes, ih]

/-- The number that `leBytes` spells, read back lowest byte first. -/
theorem foldr_leBytes (n v : Nat) : (leBytes n v).foldr (fun b x => b.toNat + 256 * x) 0 = v % 256 ^ n := by
  induction n generalizing v with
  | zero => simp [leBytes, Nat.mod_one]
  | succ n ih =>
    rw [leBytes, List.foldr_cons, ih, BitVec.toNat_ofNat]
    exact (pow_succ' 256 n ▸ Nat.mod_mul : v % 256 ^ (n + 1) = v % 256 + 256 * (v / 256 % 256 ^ n)).symm

theorem State.bytes_writeBytes {s : State} (h : Memory.wf s.mem = true) (sp a : Nat) (bs : List Byte) :
    (s.writeBytes sp a bs).bytes sp a bs.length = bs := by
  refine List.ext_getElem (by simp [State.bytes]) fun k hk hk' => ?_
  simp only [State.bytes, List.getElem_map, List.getElem_range, State.byte, State.writeBytes]
  rw [show flat sp (a + k) = flat sp a + k by simp only [flat]; omega]
  exact memGet_memWriteAt_in _ _ _ h hk'

theorem State.le_writeLe {s : State} (h : Memory.wf s.mem = true) (sp a n v : Nat) :
    (s.writeLe sp a n v).le sp a n = v % 256 ^ n := by
  have hbytes : (s.writeLe sp a n v).bytes sp a n = leBytes n v := by
    have hread := State.bytes_writeBytes h sp a (leBytes n v)
    rwa [length_leBytes] at hread
  rw [State.le, hbytes, foldr_leBytes]

theorem sameOutside_writeLe {s : State} (h : Memory.wf s.mem = true) (sp a n v : Nat) :
    SameOutside (flat sp a) n s (s.writeLe sp a n v) := fun sp' a' ha =>
  memGet_memWriteAt _ _ _ h (by rwa [length_leBytes])

theorem State.krnStore_le {s : State} (h : Memory.wf s.mem = true) (g p : Nat) (v : Word) :
    (s.krnStore g p v).le 3 (krnDataAddr g p) 4 = v.toNat :=
  calc (s.krnStore g p v).le 3 (krnDataAddr g p) 4
      = (s.writeLe 3 (krnDataAddr g p) 4 v.toNat).le 3 (krnDataAddr g p) 4 := State.le_congr rfl _ _ _
    _ = v.toNat := (State.le_writeLe h _ _ _ _).trans (Nat.mod_eq_of_lt v.isLt)

/-- A bundle writes at most the data word at the pointer of its A slot. -/
theorem sameOutside_aEffect {s : State} (h : Memory.wf s.mem = true) (g : Nat) (w : BitVec 64) :
    SameOutside (flat 3 (krnDataAddr g (s.fld .KRN_P (4 * g + KB.i w) 15 0))) 4 s (s.aEffect g w) := by
  by_cases hstore : KB.aop w = 2 ∨ KB.aop w = 3 ∨ KB.aop w = 5
  · obtain ha | ha | ha := hstore <;> simp only [State.aEffect, ha] <;> exact sameOutside_writeLe h _ _ _ _
  · simp only [not_or] at hstore
    obtain ⟨h2, h3, h5⟩ := hstore
    exact fun sp a _ => State.byte_congr (State.aEffect_mem h2 h3 h5 s g) sp a

/-! ### Engines that are ready (R144, R154, R162, R169) -/

/-- An RDS counts the cc that its engine stalled (R154). -/
def State.unstalled (s : State) (g : Nat) (w : BitVec 64) : State :=
  if KB.aop w = 6 then s.count .KRN_IN_STALL (2 * g + KB.inp w) (s.now - (s.krn! g).nextCc) else s

section
variable (s : State) (g : Nat) (w : BitVec 64)

theorem State.unstalled_field {β : Type} (f : State → β) (h : ∀ s i v, f (State.setReg s .KRN_IN_STALL i v) = f s) :
    f (s.unstalled g w) = f s := State.ite_field f (h _ _ _) rfl

theorem State.unstalled_of_no_rds (h : KB.aop w ≠ 6) : s.unstalled g w = s := if_neg h

theorem State.unstalled_reg {q : Reg} (j : Nat) (h : q ≠ .KRN_IN_STALL) : (s.unstalled g w).reg q j = s.reg q j :=
  s.unstalled_field g w (·.reg q j) fun t _ _ => t.reg_setReg_other _ _ _ _ _ h

theorem krnRegsOnly_unstalled : KrnRegsOnly g s (s.unstalled g w) := fun q j hq hup => by
  have hinp : KB.inp w < 2 := Nat.mod_lt _ (by decide)
  exact State.ite_field (·.reg q j) (krnRegsOnly_setReg (by decide) (by simp only [krnIssuePer]; omega) _ _ q j hq hup) rfl

end

theorem State.krnIssue_of_ready {s : State} {g : Nat} {w : BitVec 64} (h : s.KrnReady g w) {holds : BitVec 64 → Bool}
    (hw : holds w = true) : s.krnIssue g holds = (s.unstalled g w).issueBundle g w := by
  obtain ⟨hrun, hcc, hattn, rfl, hlegal, hword⟩ := h
  unfold State.krnIssue State.unstalled
  extract_lets x w i
  have hgo : ¬(!s.krnRuns g || decide (s.now < x.nextCc) || (s.krnAttention g && decide (x.latchedAt + 2 ≤ s.now))) = true := by
    simp [hrun, x, hcc, hattn]
  rw [if_neg hgo, if_neg (by simp [w, hw]), if_neg (by simp [w, hlegal])]
  by_cases hrds : KB.aop w = 6
  · obtain ⟨v, hv⟩ : ∃ v, s.krnReady g i = some v := Option.isSome_iff_exists.1 (hword hrds)
    rw [if_pos hrds, if_pos hrds, hv]
  · rw [if_neg hrds, if_neg hrds]

/-- The row of a kernel instruction issues the bundle that holds it. -/
theorem exec_kernelRow {c : Instr} {dt g : Nat} {h : BitVec 64 → Bool} (hc : kernelRow c = some (dt, g, h)) (s : State) :
    exec c s = .next ((s.pass dt).krnIssue g h) := by
  cases c <;> cases hc <;> rfl

theorem completes_of_kernelRow {c : Instr} {dt g : Nat} {h : BitVec 64 → Bool} {w : BitVec 64} {s : State} {P : State → Prop}
    (hc : kernelRow c = some (dt, g, h)) (hw : h w = true) (hr : (s.pass dt).KrnReady g w)
    (hP : P (((s.pass dt).unstalled g w).issueBundle g w)) : Completes c s P :=
  ⟨_, (exec_kernelRow hc s).trans (congrArg _ (State.krnIssue_of_ready hr hw)), hP⟩

end Sys2Proof.Machine
end

-- ==== Proof of the kernel bundles statement ====
section
/-!
PROOFS. Every kernel instruction issues its bundle (R144, R149, R154, R158), and what the M slot computes once a bundle halts
the engine (R165).
-/

namespace Sys2Proof.Machine

/-! ### The state that a bundle issues in -/

/-- The registers that a bundle reads are those before the cc passed. -/
theorem State.unstalled_pass_reg (s : State) (dt g : Nat) (w : BitVec 64) {q : Reg} (j : Nat) (h : q ≠ .KRN_IN_STALL) :
    ((s.pass dt).unstalled g w).reg q j = s.reg q j := ((s.pass dt).unstalled_reg g w j h).trans (s.pass_reg dt q j)

theorem State.unstalled_pass_now (s : State) (dt g : Nat) (w : BitVec 64) : ((s.pass dt).unstalled g w).now = s.now + dt :=
  ((s.pass dt).unstalled_field g w (·.now) fun _ _ _ => rfl).trans (s.pass_now dt)

theorem State.unstalled_pass_krn (s : State) (dt g : Nat) (w : BitVec 64) : ((s.pass dt).unstalled g w).krn = s.krn :=
  ((s.pass dt).unstalled_field g w (·.krn) fun _ _ _ => rfl).trans (s.pass_krn dt)

theorem State.unstalled_pass_mem (s : State) (dt g : Nat) (w : BitVec 64) : ((s.pass dt).unstalled g w).mem = s.mem :=
  ((s.pass dt).unstalled_field g w (·.mem) fun _ _ _ => rfl).trans (s.pass_mem dt)

theorem State.cTarget_congr {s t : State} (h : ∀ {q : Reg} (j : Nat), q ≠ .KRN_IN_STALL → t.reg q j = s.reg q j) (g : Nat)
    (w : BitVec 64) (pc : Nat) : t.cTarget g w pc = s.cTarget g w pc := by
  have hcount : t.loopCount g w = s.loopCount g w := by
    simp only [State.loopCount, State.fld_congr (h (q := .KRN_P) _ (by decide))]
  have hstat : t.kstat g = s.kstat g := State.fld_congr (h _ (by decide))
  have hipc : t.fld .KRN_IPC g 12 0 = s.fld .KRN_IPC g 12 0 := State.fld_congr (h _ (by decide))
  simp only [State.cTarget, hcount, hstat, hipc]

theorem State.krnAcc_congr {s t : State} (h : ∀ q j, t.reg q j = s.reg q j) (g a : Nat) : t.krnAcc g a = s.krnAcc g a := by
  simp only [State.krnAcc, State.pair, State.regNat, h]

/-- Settles O30: the row issues the bundle in the cc that it lets pass (`completes_of_kernelRow`), and what a bundle stores,
where it takes the PC and what it writes to memory are the rules of `State.issueBundle` above. -/
theorem kernelBundlesIssue : Obligations.KernelBundlesIssue := by
  intro c dt g h w s hc hw p addr hr
  let u := p.unstalled g w
  have hup (hne : KB.aop w ≠ 6) : u = p := State.unstalled_of_no_rds p g w hne
  have hreg {q : Reg} (j : Nat) (hq : q ≠ .KRN_IN_STALL) : u.reg q j = s.reg q j := s.unstalled_pass_reg dt g w j hq
  have hpc : u.krnPc g = s.krnPc g := State.krnPc_congr (hreg _ (by decide))
  have hruns : u.krnRuns g = true := (State.bit_congr ((p.unstalled_reg g w g (by decide)))).trans hr.1
  have htarget : u.cTarget g w (u.krnPc g) = p.cTarget g w (s.krnPc g) :=
    hpc ▸ State.cTarget_congr (fun j hq => p.unstalled_reg g w j hq) g w _
  have hmem : u.mem = s.mem := s.unstalled_pass_mem dt g w
  have hsame : SameMemory s u := fun sp a => State.byte_congr hmem sp a
  have haddr : krnDataAddr g (u.fld .KRN_P (4 * g + KB.i w) 15 0) = addr :=
    congrArg (krnDataAddr g) (State.fld_congr (hreg _ (by decide)))
  have hle : (u.issueBundle g w).le 3 addr 4 = (u.aEffect g w).le 3 addr 4 := State.le_congr (u.issueBundle_mem g w) _ _ _
  have hstored {v : Word} (hinv : s.Inv) (he : u.aEffect g w = u.krnStore g (u.fld .KRN_P (4 * g + KB.i w) 15 0) v) :
      (u.issueBundle g w).le 3 addr 4 = v.toNat := by
    rw [hle, he, ← haddr]
    exact State.krnStore_le (by rwa [hmem]) _ _ _
  refine completes_of_kernelRow hc hw hr ⟨?nextCc, u.issueBundle_runs g w hruns, fun t ht => ?branch, fun ht h1 h0 hne => ?next,
    ?regs, fun h2 h3 h5 => ?noStore, fun hinv => ⟨?outside, fun h2 => ?st, fun h3 => ?sta, fun h5 => ?stx⟩⟩
  case nextCc => rw [u.issueBundle_nextCc, s.unstalled_pass_now]
  case branch => exact u.issueBundle_pc_of_target g w (htarget.trans ht)
  case next =>
    rw [← hpc] at h1 h0 ⊢
    exact u.issueBundle_pc_of_next g w (htarget.trans ht) hne h1 h0
  case regs =>
    exact (krnRegsOnly_of_reg_eq (s.pass_reg dt)).trans ((krnRegsOnly_unstalled p g w).trans (krnRegsOnly_issueBundle u g w))
  case noStore =>
    exact hsame.trans fun sp a => State.byte_congr ((u.issueBundle_mem g w).trans (State.aEffect_mem h2 h3 h5 u g)) sp a
  case outside =>
    intro sp a ha
    rw [← haddr] at ha
    exact (State.byte_congr (u.issueBundle_mem g w) sp a).trans
      ((sameOutside_aEffect (s := u) (by rwa [hmem]) g w sp a ha).trans (hsame sp a))
  case st =>
    rw [hstored (v := u.krnC g (KB.ad w)) hinv (by simp only [State.aEffect, h2])]
    exact congrArg _ (hreg _ (by decide))
  case sta =>
    refine (hstored hinv (by simp only [State.aEffect, h3]; rfl)).trans ?_
    rw [hup (by omega), State.krnAcc_congr (s.pass_reg dt)]
  case stx =>
    refine (hstored hinv (by simp only [State.aEffect, h5]; rfl)).trans ?_
    rw [hup (by omega), s.pass_reg]

/-- An engine about to issue CMUL with HALT while a write to the same accumulator is three bundles from landing, further than an
instruction sends any. -/
def lateAccWrite : State :=
  { State.reset with
    regs := [(regKey .KRN_STATUS 0, 1)]
    mem := [(flat 3 (clusterBase 0 + 0x10002), 0x08), (flat 3 (clusterBase 0 + 0x10007), 0x18)]
    krn := { eng := [(0, { flight := [{ left := 3, mslot := false, w := .acc 0 1 0 }] })] } }

/-- Refutes O31: the bundle that halts the engine lands everything in flight, and a write that was further from landing than the
M slot's own (`left := 3`, where an instruction sends at most 2) lands after it and replaces the product 0 by 1. -/
theorem not_kernelMSlotResults : ¬ Obligations.KernelMSlotResults := by
  intro h
  have hready : (lateAccWrite.pass 0).KrnReady 0 0x1800000000080000 := by decide +kernel
  have hlate : ((lateAccWrite.pass 0).krnIssue 0 (mIs 0x03)).krnAcc 0 0 = (1, 0) := by decide +kernel
  obtain ⟨-, -, hcmul, -⟩ := h 0 0 0x1800000000080000 lateAccWrite hready
  obtain ⟨t, ht, hgets⟩ := hcmul (by decide)
  obtain rfl := Host.Outcome.next.inj ht
  have hzero := (if_pos (by decide : KB.cop 0x1800000000080000 = 1)).mp hgets
  have := hlate.symm.trans hzero
  revert this
  decide +kernel

end Sys2Proof.Machine
end

-- ==== Kernel engines: what each slot writes ====
section
/-!
PROOFS. The registers that the writes of the M, A and C slots can store (R171, R176, R179): three lists that tell the slots
apart.
-/

namespace Sys2Proof.Machine

/-! ### Which registers the writes of each slot store (R171, R176, R179) -/

/-- The registers of the pointers with the pending hand-over of their shadows. -/
def addressRegs : List Reg := .KRN_LPEND :: pointerRegs

/-- The registers that the C slot writes. -/
def controlRegs : List Reg := [.KRN_LC0, .KRN_LS0, .KRN_LE0, .KRN_LC1, .KRN_LS1, .KRN_LE1, .KRN_KSTAT]

/-- The registers that the M slot writes. -/
def resultRegs : List Reg := [.KRN_C, .KRN_A_I_LO, .KRN_A_I_HI, .KRN_A_Q_LO, .KRN_A_Q_HI, .KRN_KSTAT]

section
variable (s : State) (g : Nat) (w : BitVec 64)

/-- What the A slot writes at the end of its own bundle. -/
def State.aDue : List KrnWrite := ((s.aWrites g w).filter (·.1 == 0)).map (·.2)

theorem regs_accWrite {a : Nat} {i q : Int} {gx : Bool} : ∀ x ∈ accWrite a i q gx, x.regs ⊆ resultRegs := by
  have hacc : (KrnWrite.acc a (BitVec.ofInt 48 i) (BitVec.ofInt 48 q)).regs ⊆ resultRegs := by
    simp only [KrnWrite.regs]; decide
  have hgx : KrnWrite.setGx.regs ⊆ resultRegs := by decide
  unfold accWrite
  split <;> simp [hacc, hgx]

theorem State.regs_mSlot : ∀ x ∈ s.mSlot g w, x.regs ⊆ resultRegs := by
  have hc (d : Nat) (v : Word) : (KrnWrite.c d v).regs ⊆ resultRegs := by simp only [KrnWrite.regs]; decide
  have hn (b : Bool) : (KrnWrite.flagN b).regs ⊆ resultRegs := by simp only [KrnWrite.regs]; decide
  have hz (b : Bool) : (KrnWrite.flagZ b).regs ⊆ resultRegs := by simp only [KrnWrite.regs]; decide
  unfold State.mSlot
  extract_lets cs ct a prod
  split
  any_goals exact regs_accWrite
  all_goals simp [hc, hn, hz]

theorem State.regs_cWrites (pc : Nat) : ∀ x ∈ s.cWrites g w pc, x.regs ⊆ controlRegs := by
  have hli : KB.li w = 0 ∨ KB.li w = 1 := by
    have : KB.li w < 2 := Nat.mod_lt _ (by decide)
    omega
  have hrti (n : Nat) : (KrnWrite.rti n).regs ⊆ controlRegs := by simp only [KrnWrite.regs]; decide
  have hie (b : Bool) : (KrnWrite.ie b).regs ⊆ controlRegs := by simp only [KrnWrite.regs]; decide
  have hgx : KrnWrite.clearGx.regs ⊆ controlRegs := by decide
  have hloop {x : Nat} (hx : 16 ≤ x) (hx' : x ≤ 21) (v : Word) : (KrnWrite.x x v).regs ⊆ controlRegs := by
    rw [KrnWrite.regs_x, if_neg (by omega)]
    interval_cases x <;> decide
  unfold State.cWrites
  extract_lets wr
  split
  case h_1 | h_2 =>
    simp only [wr, List.mem_cons, List.not_mem_nil, or_false, forall_eq_or_imp, forall_eq]
    exact ⟨hloop (by omega) (by omega) _, hloop (by omega) (by omega) _, hloop (by omega) (by omega) _⟩
  all_goals simp [hrti, hie, hgx]

theorem State.regs_aDue : ∀ x ∈ s.aDue g w, x.regs ⊆ addressRegs := by
  have hstep (i p : Nat) (ho : Option (Nat × Nat)) : (KrnWrite.step i p ho).regs ⊆ addressRegs := by
    simp only [KrnWrite.regs]; decide
  have hj : KB.j w < 4 := Nat.mod_lt _ (by decide)
  have hptr {x : Nat} (hx : x < 16) (v : Word) : (KrnWrite.x x v).regs ⊆ addressRegs := by
    rw [KrnWrite.regs_x]
    interval_cases x <;> decide
  unfold State.aDue State.aWrites
  extract_lets i p pm step
  have hstep' : ∀ x ∈ (step.filter (·.1 == 0)).map (·.2), x.regs ⊆ addressRegs := by
    simp only [step]
    split <;> simp [hstep]
  split
  case h_1 | h_4 => simpa using hstep'
  case h_2 | h_3 | h_5 => exact hstep'
  case h_6 => split <;> simp
  case h_7 | h_8 | h_9 | h_10 => simpa using hptr (by omega) _
  case h_11 => simpa using hstep _ _ _
  case h_12 => simp

end

end Sys2Proof.Machine
end

-- ==== Kernel engines: the pointers after a bundle ====
section
/-!
PROOFS. With nothing in flight before it, a bundle lands what its C slot and its A slot write at its end (R150, R183); from this
follow the registers of the pointers and what is on its way after it.
-/

namespace Sys2Proof.Machine

/-! ### What lands at the end of a bundle (R150, R183) -/

section
variable (s : State) (g : Nat) (w : BitVec 64)

/-- The state in which the writes due at the end of a bundle land. -/
def State.bundleLanding : State :=
  (s.bundleDecided g w).setKrn g
    { (s.bundleDecided g w).krn! g with flight := InFlight.rest ((s.bundleDecided g w).krn! g).flight }

/-- The C slot's writes have landed. -/
def State.cLanded : State := State.forEach (s.cWrites g w (s.krnPc g)) (State.landOne g) (s.bundleLanding g w)

theorem InFlight.due_bundleSends : InFlight.due (s.bundleSends g w) = s.cWrites g w (s.krnPc g) ++ s.aDue g w := by
  simp [InFlight.due, State.bundleSends, State.aDue, List.filter_map, Function.comp_def]

/-- With nothing in flight before it, a bundle lands what its C and A slots write at its end. -/
theorem State.bundleEnded_eq (hfl : (s.krn! g).flight = []) :
    s.bundleEnded g w = (s.bundleLanding g w).landList g (s.cWrites g w (s.krnPc g) ++ s.aDue g w) := by
  rw [State.bundleEnded, State.endBundle_eq, ← InFlight.due_bundleSends, State.bundleLanding]
  simp only [s.bundleDecided_krn, hfl, List.nil_append]

theorem State.bundleLanding_reg {q : Reg} (j : Nat)
    (h : q ∉ [Reg.FAB_RG_UP_CNT, .KRN_OUTT_CNT, .KRN_DEC_STATUS, .KRN_MISS_CNT, .KRN_LATE_CNT]) :
    (s.bundleLanding g w).reg q j = s.reg q j := by
  have hslot : AEffectKeeps g (·.reg q j) := aEffectKeeps_reg fun hq => absurd (by simp [hq]) h
  have hdec : DecisionKeeps g (·.reg q j) := decisionKeeps_reg
    (fun hq => absurd ((by decide : [Reg.KRN_DEC_STATUS, .KRN_MISS_CNT, .KRN_LATE_CNT] ⊆ _) hq) h)
    fun hq => absurd (by simp [hq]) h
  exact State.bundleDecided_field hslot hdec (fun _ _ => rfl) s w

theorem State.cLanded_reg {q : Reg} (j : Nat)
    (h : q ∉ [Reg.FAB_RG_UP_CNT, .KRN_OUTT_CNT, .KRN_DEC_STATUS, .KRN_MISS_CNT, .KRN_LATE_CNT] ++ controlRegs) :
    (s.cLanded g w).reg q j = s.reg q j := by
  simp only [List.mem_append, not_or] at h
  obtain ⟨heffect, hcontrol⟩ := h
  refine (State.forEach_landOne_field (f := (·.reg q j)) _ (fun x hx => storeKeeps_reg fun hq => ?_) _).trans
    (s.bundleLanding_reg g w j heffect)
  exact absurd (s.regs_cWrites g w _ x hx hq) hcontrol

theorem State.landList_reg (ws : List KrnWrite) {q : Reg} (j : Nat) (hq : q ∉ [Reg.KRN_KSTAT, .KRN_ATTN_CAUSE]) :
    (s.landList g ws).reg q j = (State.forEach ws (State.landOne g) s).reg q j :=
  (State.setKstat_field (rs := []) (f := (·.reg q j)) (landingKeeps_reg fun h => absurd h hq) _ _).trans
    (State.reg_setReg_other _ _ _ _ _ _ fun h => hq (by simp [h]))

theorem State.krnLatch_kstat (b : Nat) : (s.krnLatch g b).kstat g = s.kstat g :=
  State.fld_congr (State.krnLatch_field (f := (·.reg .KRN_KSTAT g)) (storeKeeps_reg fun h => absurd h (by decide))
    (fun _ _ => rfl) s b)

theorem State.kstat_lt : s.kstat g < 32 := Nat.mod_lt _ (by decide)

theorem State.setReg_kstat (v : Nat) : (s.setReg .KRN_KSTAT g (BitVec.ofNat 32 v)).kstat g = v % 32 := by
  simp only [State.kstat, State.fld_setReg_same, bits, BitVec.toNat_ofNat]
  omega

theorem State.setKstat_kstat (v : Nat) : (s.setKstat g v).kstat g = v % 32 := by
  have hset : (s.setReg .KRN_KSTAT g (BitVec.ofNat 32 (v % 32))).kstat g = v % 32 :=
    (s.setReg_kstat g _).trans (Nat.mod_mod v 32)
  unfold State.setKstat
  extract_lets before stored latched
  have hlatched : latched.kstat g = v % 32 := (stored.krnLatch_kstat g 4).trans hset
  split
  · split
    · exact (State.raise_fld _ _ _ _ _ _).trans hlatched
    · exact hlatched
  · exact hset

/-- KSTAT holds after a landing what the writes left, GX with it. -/
theorem State.landList_kstat (ws : List KrnWrite) :
    (s.landList g ws).kstat g = (State.forEach ws (State.landOne g) s).kstat g :=
  (State.setKstat_kstat _ _ _).trans (Nat.mod_eq_of_lt (State.kstat_lt _ _))

theorem State.forEach_append {α : Type} (l l' : List α) (f : α → State → State) :
    State.forEach (l ++ l') f s = State.forEach l' f (State.forEach l f s) := List.foldl_append

/-- At the end of a bundle an A slot's write lands behind the C slot's. -/
theorem State.bundleEnded_reg_of_aDue (hfl : (s.krn! g).flight = []) {x : KrnWrite} (hx : s.aDue g w = [x]) {q : Reg} (j : Nat)
    (hq : q ∉ [Reg.KRN_KSTAT, .KRN_ATTN_CAUSE]) :
    (s.bundleEnded g w).reg q j = (State.landOne g x (s.cLanded g w)).reg q j := by
  rw [s.bundleEnded_eq g w hfl, State.landList_reg _ _ _ _ hq, State.forEach_append, hx]
  rfl

/-- The A slot's writes leave what the C slot wrote. -/
theorem State.forEach_aDue_reg (t : State) {q : Reg} (j : Nat) (hq : q ∉ addressRegs) :
    (State.forEach (s.aDue g w) (State.landOne g) t).reg q j = t.reg q j :=
  State.forEach_landOne_field (f := (·.reg q j)) _
    (fun x hx => storeKeeps_reg fun h => absurd (s.regs_aDue g w x hx h) hq) t

theorem State.bundleEnded_reg_of_control (hfl : (s.krn! g).flight = []) {q : Reg} (j : Nat)
    (hq : q ∉ addressRegs ++ [Reg.KRN_KSTAT, .KRN_ATTN_CAUSE]) :
    (s.bundleEnded g w).reg q j = (s.cLanded g w).reg q j := by
  simp only [List.mem_append, not_or] at hq
  obtain ⟨haddr, hstat⟩ := hq
  rw [s.bundleEnded_eq g w hfl, State.landList_reg _ _ _ _ hstat, State.forEach_append, s.forEach_aDue_reg g w _ j haddr]
  rfl

theorem State.bundleEnded_kstat (hfl : (s.krn! g).flight = []) : (s.bundleEnded g w).kstat g = (s.cLanded g w).kstat g := by
  rw [s.bundleEnded_eq g w hfl, State.landList_kstat, State.forEach_append]
  exact State.fld_congr (s.forEach_aDue_reg g w _ g (by decide))

/-! ### What the instruction leaves once the bundle is over (R150, R165) -/

/-- A write of the A slot that has one bundle to go is on its way when the engine runs on. -/
theorem State.issueBundle_sends (hc : KB.cop w ≠ 1) {x : KrnWrite} (h : (1, x) ∈ s.aWrites g w) :
    ({ left := 0, mslot := false, w := x } : InFlight) ∈ ((s.issueBundle g w).krn! g).flight := by
  rw [s.issueBundle_of_running g w hc, s.bundleMoved_flight, s.bundleEnded_flight]
  have hsent : ({ left := 1, mslot := false, w := x } : InFlight) ∈ (s.krn! g).flight ++ s.bundleSends g w :=
    List.mem_append_right _ (List.mem_append_right _ (List.mem_append_left _ (List.mem_map.2 ⟨_, h, rfl⟩)))
  exact List.mem_map.2 ⟨_, List.mem_filter.2 ⟨hsent, rfl⟩, rfl⟩

/-- What is in flight behind a bundle whose A slot has landed comes from the M slot. -/
theorem State.bundleEnded_flight_regs (hfl : (s.krn! g).flight = []) (hdue : ∀ p ∈ s.aWrites g w, p.1 = 0) :
    ∀ x ∈ ((s.bundleEnded g w).krn! g).flight, x.w.regs ⊆ resultRegs := by
  rw [s.bundleEnded_flight, hfl, List.nil_append]
  intro x hx
  obtain ⟨y, hy, rfl⟩ := List.mem_map.1 hx
  obtain ⟨hsent, hleft⟩ := List.mem_filter.1 hy
  simp only [State.bundleSends, List.mem_append, List.mem_map] at hsent
  obtain ⟨c, -, rfl⟩ | ⟨p, hp, rfl⟩ | ⟨m, hm, rfl⟩ := hsent
  · simp at hleft
  · simp [hdue p hp] at hleft
  · exact s.regs_mSlot g w m hm

/-- The pointers stand after a bundle as its end left them. A bundle that halts the engine lands the M slot's results
behind them. -/
theorem State.issueBundle_address (hfl : (s.krn! g).flight = []) (hdue : KB.cop w = 1 → ∀ p ∈ s.aWrites g w, p.1 = 0) {q : Reg}
    (j : Nat) (hq : q ∈ addressRegs) : (s.issueBundle g w).reg q j = (s.bundleEnded g w).reg q j := by
  have apart {rs : List Reg} (hrs : ∀ r ∈ addressRegs, r ∉ rs) (h : q ∈ rs) : j / krnPerCluster q ≠ g := absurd h (hrs q hq)
  exact State.issueBundle_field_of_ended (rs := resultRegs) (landingKeeps_reg (apart (by decide))) (fun _ _ => rfl)
    (storeKeeps_reg (apart (by decide))) fun hc => s.bundleEnded_flight_regs g w hfl (hdue hc)

/-- The rule of an A slot with one write due at the end of its bundle: the pointers read what that write makes of them. -/
theorem State.issueBundle_of_aDue (hfl : (s.krn! g).flight = []) (hdue : KB.cop w = 1 → ∀ p ∈ s.aWrites g w, p.1 = 0)
    {x : KrnWrite} (hx : s.aDue g w = [x]) {q : Reg} (j : Nat) (hq : q ∈ addressRegs) :
    (s.issueBundle g w).reg q j = (State.landOne g x (s.cLanded g w)).reg q j :=
  (s.issueBundle_address g w hfl hdue j hq).trans
    (s.bundleEnded_reg_of_aDue g w hfl hx j ((by decide : ∀ r ∈ addressRegs, r ∉ [Reg.KRN_KSTAT, .KRN_ATTN_CAUSE]) q hq))

theorem State.cLanded_address {q : Reg} (j : Nat) (hq : q ∈ addressRegs) : (s.cLanded g w).reg q j = s.reg q j :=
  s.cLanded_reg g w j ((by decide : ∀ r ∈ addressRegs, r ∉
    [Reg.FAB_RG_UP_CNT, .KRN_OUTT_CNT, .KRN_DEC_STATUS, .KRN_MISS_CNT, .KRN_LATE_CNT] ++ controlRegs) q hq)

/-! ### Pointers (R159, R160, R176) -/

theorem State.postModify_of_linear {i : Nat} (h : s.fld .KRN_L (4 * g + i) 15 0 = 0) :
    s.postModify g i = ((s.fld .KRN_P (4 * g + i) 15 0 + s.fld .KRN_M (4 * g + i) 15 0) % 65536, none) := by
  simp [State.postModify, h]

theorem KB.i_lt : KB.i w < 4 := Nat.mod_lt _ (by decide)
theorem KB.j_lt : KB.j w < 4 := Nat.mod_lt _ (by decide)
theorem KB.imm_lt : KB.imm w < 65536 := Nat.mod_lt _ (by decide)

/-- A post-modify of a pointer without a circular buffer adds its modifier (R159). -/
theorem State.issueBundle_steps (hfl : (s.krn! g).flight = []) (hdue : KB.cop w = 1 → ∀ p ∈ s.aWrites g w, p.1 = 0)
    (hx : s.aDue g w = [.step (KB.i w) (s.postModify g (KB.i w)).1 (s.postModify g (KB.i w)).2])
    (hl : s.fld .KRN_L (4 * g + KB.i w) 15 0 = 0) : (s.issueBundle g w).fld .KRN_P (4 * g + KB.i w) 15 0 =
      (s.fld .KRN_P (4 * g + KB.i w) 15 0 + s.fld .KRN_M (4 * g + KB.i w) 15 0) % 65536 := by
  rw [s.postModify_of_linear g hl] at hx
  rw [State.fld_congr (s.issueBundle_of_aDue g w hfl hdue hx _ (by decide))]
  simp only [State.landOne, Nat.mod_eq_of_lt (KB.i_lt w), State.fld_setReg_same, bits, BitVec.toNat_ofNat]
  omega

/-- LDP and LDM store their immediate. -/
theorem State.issueBundle_loads (hfl : (s.krn! g).flight = []) (hdue : KB.cop w = 1 → ∀ p ∈ s.aWrites g w, p.1 = 0) {code : Nat}
    (hcode : code < 8) (hx : s.aDue g w = [.x code (BitVec.ofNat 32 (KB.imm w))]) :
    (s.issueBundle g w).fld (krnXReg g code).1 (krnXReg g code).2 15 0 = KB.imm w := by
  have himm := KB.imm_lt w
  have hbits : krnXBits code = 16 := if_pos (by omega)
  have haddr : (krnXReg g code).1 ∈ addressRegs := by
    rw [(krnXReg_home g code).1]
    interval_cases code <;> decide
  rw [State.fld_congr (s.issueBundle_of_aDue g w hfl hdue hx _ haddr)]
  simp only [State.landOne, if_neg (by omega : ¬(8 ≤ code ∧ code < 16)), State.fld_setReg_same, hbits, bits, BitVec.toNat_ofNat]
  omega

end

end Sys2Proof.Machine
end

-- ==== Kernel engines: circular buffers and loops ====
section
/-!
PROOFS. LDL and LDB under the rule of circular buffers (R160), and the loop registers that LOOP and LOOPR load (R158, R179).
-/

namespace Sys2Proof.Machine

/-! ### Circular buffers (R160) -/

section
variable (s : State) (g i : Nat) (len : Bool) (v : Nat)

/-- Li or Bi, and the shadow of each. -/
def circularReg (len : Bool) : Reg := if len then .KRN_L else .KRN_B
def shadowReg (len : Bool) : Reg := if len then .KRN_LSH else .KRN_BSH

theorem bits_low16 (v : Nat) : bits (BitVec.ofNat 32 (v % 65536)) 15 0 = v % 65536 := by
  simp only [bits, BitVec.toNat_ofNat]
  omega

/-- A write to Li or Bi of a pointer without a circular buffer, and one that makes Li zero, takes effect at once. -/
theorem State.writeCircular_at_once (hi : i < 32) (h : s.fld .KRN_L (4 * g + i) 15 0 = 0 ∨ (len = true ∧ v % 65536 = 0)) :
    (s.writeCircular g i len v).fld (circularReg len) (4 * g + i) 15 0 = v % 65536 ∧
      (s.writeCircular g i len v).bit .KRN_LPEND g i = false := by
  have hne : circularReg len ≠ .KRN_LPEND := by cases len <;> decide
  rw [State.writeCircular, if_pos h]
  exact ⟨(State.fld_setBit_other _ _ _ _ _ _ _ _ _ hne).trans ((State.fld_setReg_same _ _ _ _ _ _).trans (bits_low16 v)),
    State.bit_setBit_same _ _ _ _ _ hi⟩

/-- Any other write goes to the shadow, which is pending from then on. -/
theorem State.writeCircular_shadows (hi : i < 32) (h : ¬(s.fld .KRN_L (4 * g + i) 15 0 = 0 ∨ (len = true ∧ v % 65536 = 0))) :
    (s.writeCircular g i len v).reg (circularReg len) (4 * g + i) = s.reg (circularReg len) (4 * g + i) ∧
      (s.writeCircular g i len v).fld (shadowReg len) (4 * g + i) 15 0 = v % 65536 ∧
      (s.writeCircular g i len v).bit .KRN_LPEND g i = true := by
  have hhome : circularReg len ∉ [Reg.KRN_LPEND, .KRN_LSH, .KRN_BSH, shadowReg len] := by cases len <;> decide
  simp only [List.mem_cons, List.not_mem_nil, or_false, not_or] at hhome
  obtain ⟨hpend, hlsh, hbsh, hshadow⟩ := hhome
  have hne : shadowReg len ≠ .KRN_LPEND := by cases len <;> decide
  rw [State.writeCircular, if_neg h]
  refine ⟨?_, (State.fld_setBit_other _ _ _ _ _ _ _ _ _ hne).trans ((State.fld_setReg_same _ _ _ _ _ _).trans (bits_low16 v)),
    State.bit_setBit_same _ _ _ _ _ hi⟩
  refine (State.reg_setBit_other _ _ _ _ _ _ _ hpend).trans ((State.reg_setReg_other _ _ _ _ _ _ hshadow).trans ?_)
  exact State.ite_field (·.reg (circularReg len) _) rfl
    ((State.reg_setReg_other _ _ _ _ _ _ hbsh).trans (State.reg_setReg_other _ _ _ _ _ _ hlsh))

end

section
variable (s : State) (g : Nat) (w : BitVec 64)

/-- LDL and LDB write their immediate to Li or Bi by the rule of circular buffers. -/
theorem State.issueBundle_circular (hfl : (s.krn! g).flight = []) (hdue : KB.cop w = 1 → ∀ p ∈ s.aWrites g w, p.1 = 0)
    {len : Bool} {code : Nat} (hcode : code = if len then 8 else 12)
    (hx : s.aDue g w = [.x (code + KB.j w) (BitVec.ofNat 32 (KB.imm w))]) :
    let r := 4 * g + KB.j w
    let t := s.issueBundle g w
    (s.fld .KRN_L r 15 0 = 0 ∨ (len = true ∧ KB.imm w = 0) →
      t.fld (circularReg len) r 15 0 = KB.imm w ∧ t.bit .KRN_LPEND g (KB.j w) = false) ∧
    (¬(s.fld .KRN_L r 15 0 = 0 ∨ (len = true ∧ KB.imm w = 0)) → t.fld (circularReg len) r 15 0 = s.fld (circularReg len) r 15 0 ∧
      t.fld (shadowReg len) r 15 0 = KB.imm w ∧ t.bit .KRN_LPEND g (KB.j w) = true) := by
  intro r t
  have hj := KB.j_lt w
  have himm := KB.imm_lt w
  have hv : (BitVec.ofNat 32 (KB.imm w)).toNat = KB.imm w := Nat.mod_eq_of_lt (by omega)
  have hmod : KB.imm w % 65536 = KB.imm w := Nat.mod_eq_of_lt himm
  have hland : State.landOne g (.x (code + KB.j w) (BitVec.ofNat 32 (KB.imm w))) (s.cLanded g w) =
      (s.cLanded g w).writeCircular g (KB.j w) len (KB.imm w) := by
    have hcond : 8 ≤ code + KB.j w ∧ code + KB.j w < 16 := by subst hcode; split <;> omega
    have hmod4 : (code + KB.j w) % 4 = KB.j w := by subst hcode; split <;> omega
    have hlen : decide (code + KB.j w < 12) = len := by
      subst hcode
      cases len <;> simp only [decide_eq_true_eq, decide_eq_false_iff_not, if_true, Bool.false_eq_true, if_false] <;> omega
    simp only [State.landOne, if_pos hcond, hmod4, hlen, hv]
  have hread {q : Reg} (n : Nat) (hq : q ∈ addressRegs) :
      t.reg q n = ((s.cLanded g w).writeCircular g (KB.j w) len (KB.imm w)).reg q n :=
    (s.issueBundle_of_aDue g w hfl hdue hx n hq).trans (by rw [hland])
  have hbefore : (s.cLanded g w).fld .KRN_L r 15 0 = s.fld .KRN_L r 15 0 :=
    State.fld_congr (s.cLanded_address g w r (by decide))
  have hhome : circularReg len ∈ addressRegs := by cases len <;> decide
  have hshadow : shadowReg len ∈ addressRegs := by cases len <;> decide
  rw [State.fld_congr (hread r hhome), State.fld_congr (hread r hshadow), State.bit_congr (hread g (by decide))]
  refine ⟨fun h => ?_, fun h => ?_⟩
  · obtain ⟨hstored, hpend⟩ := (s.cLanded g w).writeCircular_at_once g (KB.j w) len (KB.imm w) (by omega)
      (by rwa [hbefore, hmod])
    exact ⟨hstored.trans hmod, hpend⟩
  · obtain ⟨hkept, hstored, hpend⟩ := (s.cLanded g w).writeCircular_shadows g (KB.j w) len (KB.imm w) (by omega)
      (by rwa [hbefore, hmod])
    exact ⟨State.fld_congr (hkept.trans (s.cLanded_address g w r hhome)), hstored.trans hmod, hpend⟩

/-! ### Hardware loops (R158, R179) -/

theorem KB.li_cases : KB.li w = 0 ∨ KB.li w = 1 := by
  have : KB.li w < 2 := Nat.mod_lt _ (by decide)
  omega

theorem State.loopCount_lt : s.loopCount g w < 65536 := by
  have hcnt : KB.cnt w < 65536 := (Nat.mod_lt _ (by decide)).trans (by decide : 2 ^ 10 < 65536)
  have hp : s.fld .KRN_P (4 * g + KB.lp w) 15 0 < 65536 := Nat.mod_lt _ (by decide)
  unfold State.loopCount
  split <;> assumption

theorem krnXBits_le (code : Nat) : krnXBits code ≤ 32 := by
  unfold krnXBits
  repeat' split
  all_goals omega

/-- A loop register takes a value that fits it as it is. -/
theorem State.landOne_control {code : Nat} (hcode : 16 ≤ code) {v : Nat} (hv : v < 2 ^ krnXBits code) :
    State.landOne g (.x code (BitVec.ofNat 32 v)) s =
      s.setReg (krnXReg g code).1 (krnXReg g code).2 (BitVec.ofNat 32 v) := by
  have hbits : 2 ^ krnXBits code ≤ 2 ^ 32 := Nat.pow_le_pow_right (by decide) (krnXBits_le code)
  rw [State.landOne, if_neg (by omega), BitVec.toNat_ofNat, Nat.mod_eq_of_lt (hv.trans_le hbits), Nat.mod_eq_of_lt hv]

/-- LOOP and LOOPR load the count, the start and the end of their loop. -/
theorem State.cLanded_loop (hc : KB.cop w = 4 ∨ KB.cop w = 5) :
    let x := 16 + 3 * KB.li w
    let pc := s.krnPc g
    (s.cLanded g w).reg (krnXReg g x).1 g = BitVec.ofNat 32 (s.loopCount g w) ∧
    (s.cLanded g w).reg (krnXReg g (x + 1)).1 g = BitVec.ofNat 32 ((pc + 1) % 8192) ∧
    (s.cLanded g w).reg (krnXReg g (x + 2)).1 g = BitVec.ofNat 32 ((pc + 1 + KB.blm1 w) % 8192) := by
  intro x pc
  have hn : s.loopCount g w < 2 ^ 16 := s.loopCount_lt g w
  have hwrites : s.cWrites g w pc = [.x (x + 1) (BitVec.ofNat 32 ((pc + 1) % 8192)),
      .x (x + 2) (BitVec.ofNat 32 ((pc + 1 + KB.blm1 w) % 8192)), .x x (BitVec.ofNat 32 (s.loopCount g w))] := by
    obtain hc | hc := hc <;> simp only [State.cWrites, hc] <;> rfl
  have hpc (n : Nat) : n % 8192 < 2 ^ 13 := Nat.mod_lt _ (by decide)
  unfold State.cLanded
  rw [hwrites]
  simp only [State.forEach, List.foldl_cons, List.foldl_nil, x]
  obtain hli | hli := KB.li_cases w
  all_goals
    rw [hli, State.landOne_control _ _ (by decide) hn, State.landOne_control _ _ (by decide) (hpc _),
      State.landOne_control _ _ (by decide) (hpc _)]
    simp [krnXReg]

end

end Sys2Proof.Machine
end

-- ==== Kernel engines: control, streams and decisions ====
section
/-!
PROOFS. What a bundle leaves in the loop registers and KSTAT (R158, R163, R180), in the streams (R153, R154, R157) and in the
fabric (R155).
-/

namespace Sys2Proof.Machine

section
variable (s : State) (g : Nat) (w : BitVec 64)

/-- The loop rule counts down the loop that ends at this PC, no other. -/
theorem State.loopRule_reg {pc : Nat} {q : Reg} (j : Nat) (h1 : q = .KRN_LC1 → s.fld .KRN_LE1 g 12 0 ≠ pc)
    (h0 : q = .KRN_LC0 → s.fld .KRN_LE0 g 12 0 ≠ pc) : (s.loopRule g pc).2.reg q j = s.reg q j := by
  unfold State.loopRule
  extract_lets lc1 lc0
  split
  next h => exact State.reg_setReg_other _ _ _ _ _ _ fun hq => h1 hq h.2
  next =>
    split
    next h => exact State.reg_setReg_other _ _ _ _ _ _ fun hq => h0 hq h.2
    next => rfl

theorem State.bundleMoved_reg {q : Reg} (j : Nat) (hpc : q ≠ .KRN_PC)
    (h1 : q = .KRN_LC1 → (s.bundleEnded g w).fld .KRN_LE1 g 12 0 ≠ s.krnPc g)
    (h0 : q = .KRN_LC0 → (s.bundleEnded g w).fld .KRN_LE0 g 12 0 ≠ s.krnPc g) :
    (s.bundleMoved g w).reg q j = (s.bundleEnded g w).reg q j := by
  cases h : s.cTarget g w (s.krnPc g) with
  | some t =>
    rw [s.bundleMoved_of_target g w h]
    exact State.reg_setReg_other _ _ _ _ _ _ hpc
  | none =>
    rw [s.bundleMoved_of_next g w h]
    exact (State.reg_setReg_other _ _ _ _ _ _ hpc).trans (State.loopRule_reg _ g j h1 h0)

/-- The body of a loop is at most 256 bundles, so the bundle that opens it is not its end. -/
theorem KB.body_end_ne {pc : Nat} (_ : pc < 8192) : bits (BitVec.ofNat 32 ((pc + 1 + KB.blm1 w) % 8192)) 12 0 ≠ pc := by
  have hbody : KB.blm1 w < 256 := Nat.mod_lt _ (by decide)
  simp only [bits, BitVec.toNat_ofNat]
  omega

/-- The loop that a bundle opens stands behind it as its C slot loaded it. -/
theorem State.issueBundle_loopReg {c e : Reg} (h : (c, e) = (.KRN_LC0, .KRN_LE0) ∨ (c, e) = (.KRN_LC1, .KRN_LE1))
    (hfl : (s.krn! g).flight = []) (hc : KB.cop w ≠ 1)
    (hend : (s.cLanded g w).reg e g = BitVec.ofNat 32 ((s.krnPc g + 1 + KB.blm1 w) % 8192)) {q : Reg}
    (hq : q ∈ [c, e, .KRN_LS0, .KRN_LS1]) : (s.issueBundle g w).reg q g = (s.cLanded g w).reg q g := by
  have hended {r : Reg} (hr : r ∈ [c, e, .KRN_LS0, .KRN_LS1]) : (s.bundleEnded g w).reg r g = (s.cLanded g w).reg r g := by
    refine s.bundleEnded_reg_of_control g w hfl g ?_
    obtain h | h := h <;> obtain ⟨rfl, rfl⟩ := Prod.mk.inj h <;> revert r <;> decide
  have hends : (s.bundleEnded g w).fld e g 12 0 ≠ s.krnPc g := by
    rw [State.fld, hended (by simp), hend]
    exact KB.body_end_ne w (s.krnPc_lt g)
  rw [s.issueBundle_of_running g w hc, ← hended hq]
  obtain h | h := h <;> obtain ⟨rfl, rfl⟩ := Prod.mk.inj h
  · refine s.bundleMoved_reg g w g ?_ (fun h1 => ?_) fun _ => hends
    · rintro rfl
      exact absurd hq (by decide)
    · subst h1
      exact absurd hq (by decide)
  · refine s.bundleMoved_reg g w g ?_ (fun _ => hends) fun h0 => ?_
    · rintro rfl
      exact absurd hq (by decide)
    · subst h0
      exact absurd hq (by decide)

theorem State.issueBundle_loop (hfl : (s.krn! g).flight = []) (hc : KB.cop w = 4 ∨ KB.cop w = 5) :
    let x := 16 + 3 * KB.li w
    let pc := s.krnPc g
    let t := s.issueBundle g w
    t.reg (krnXReg g x).1 g = BitVec.ofNat 32 (s.loopCount g w) ∧
    t.reg (krnXReg g (x + 1)).1 g = BitVec.ofNat 32 ((pc + 1) % 8192) ∧
    t.reg (krnXReg g (x + 2)).1 g = BitVec.ofNat 32 ((pc + 1 + KB.blm1 w) % 8192) ∧
    (s.loopCount g w = 0 → t.krnPc g = (pc + KB.blm1 w + 2) % 8192) := by
  intro x pc t
  have hgoes (hn : s.loopCount g w = 0) : t.krnPc g = (pc + KB.blm1 w + 2) % 8192 := by
    have htarget : s.cTarget g w pc = some ((pc + 1 + KB.blm1 w + 1) % 8192) := by
      obtain hc | hc := hc <;> simp [State.cTarget, hc, hn]
    rw [s.issueBundle_pc_of_target g w htarget]
    omega
  obtain ⟨hcount, hstart, hend⟩ := s.cLanded_loop g w hc
  have hne : KB.cop w ≠ 1 := by omega
  simp only [x]
  obtain hli | hli := KB.li_cases w
  · rw [hli] at hcount hstart hend ⊢
    have hread {q : Reg} (hq : q ∈ [Reg.KRN_LC0, .KRN_LE0, .KRN_LS0, .KRN_LS1]) : t.reg q g = (s.cLanded g w).reg q g :=
      s.issueBundle_loopReg g w (.inl rfl) hfl hne hend hq
    exact ⟨(hread (q := .KRN_LC0) (by decide)).trans hcount, (hread (q := .KRN_LS0) (by decide)).trans hstart,
      (hread (q := .KRN_LE0) (by decide)).trans hend, hgoes⟩
  · rw [hli] at hcount hstart hend ⊢
    have hread {q : Reg} (hq : q ∈ [Reg.KRN_LC1, .KRN_LE1, .KRN_LS0, .KRN_LS1]) : t.reg q g = (s.cLanded g w).reg q g :=
      s.issueBundle_loopReg g w (.inr rfl) hfl hne hend hq
    exact ⟨(hread (q := .KRN_LC1) (by decide)).trans hcount, (hread (q := .KRN_LS1) (by decide)).trans hstart,
      (hread (q := .KRN_LE1) (by decide)).trans hend, hgoes⟩

/-! ### KSTAT (R146, R163, R180) -/

theorem State.krnStatBit_eq (b : Nat) (hb : b < 5) : s.krnStatBit g b = (s.kstat g).testBit b := by
  rw [State.krnStatBit, State.bit_eq_getLsbD, State.kstat, State.fld, testBit_bits, decide_eq_true hb, Nat.zero_add]
  rfl

theorem bitOf_eq_testBit (v i : Nat) : bitOf v i = v.testBit i := by
  have hone (n : Nat) : (n == 1) = decide (n = 1) := rfl
  rw [bitOf, Nat.testBit_eq_decide_div_mod_eq, Nat.shiftRight_eq_div_pow, hone]

/-- A bundle that runs on leaves in KSTAT what its C slot wrote there. -/
theorem State.issueBundle_kstat (hfl : (s.krn! g).flight = []) (hc : KB.cop w ≠ 1) :
    (s.issueBundle g w).kstat g = (s.cLanded g w).kstat g := by
  rw [s.issueBundle_of_running g w hc, ← s.bundleEnded_kstat g w hfl]
  exact State.fld_congr (s.bundleMoved_reg g w g (by decide) (fun h => absurd h (by decide)) fun h => absurd h (by decide))

/-- EI, DI and CLRGX write their bit. -/
theorem State.issueBundle_statBit (hfl : (s.krn! g).flight = []) (hc : KB.cop w ≠ 1) {b : Nat} (hb : b < 5) {v : Bool}
    {x : KrnWrite} (hx : s.cWrites g w (s.krnPc g) = [x]) (hland : ∀ t, State.landOne g x t = t.setBit .KRN_KSTAT g b v) :
    (s.issueBundle g w).krnStatBit g b = v := by
  have hset : s.cLanded g w = (s.bundleLanding g w).setBit .KRN_KSTAT g b v := by
    rw [State.cLanded, hx]
    exact hland _
  rw [State.krnStatBit_eq _ _ _ hb, s.issueBundle_kstat g w hfl hc, ← State.krnStatBit_eq _ _ _ hb, hset]
  exact State.bit_setBit_same _ _ _ _ _ (by omega)

/-- RTI returns KSTAT with GX kept. -/
theorem State.issueBundle_rti (hfl : (s.krn! g).flight = []) (hc : KB.cop w = 6) :
    (s.issueBundle g w).kstat g = s.fld .KRN_ISTAT g 4 0 ||| (s.kstat g &&& 4) := by
  have hx : s.cWrites g w (s.krnPc g) = [.rti (s.fld .KRN_ISTAT g 4 0)] := by simp only [State.cWrites, hc]
  have hbefore : (s.bundleLanding g w).kstat g = s.kstat g := State.fld_congr (s.bundleLanding_reg g w g (by decide))
  have hst : s.fld .KRN_ISTAT g 4 0 < 2 ^ 5 := Nat.mod_lt _ (by decide)
  have hgx : s.kstat g &&& 4 < 2 ^ 5 := (Nat.and_le_right).trans_lt (by decide)
  rw [s.issueBundle_kstat g w hfl (by omega), State.cLanded, hx, State.forEach, List.foldl_cons, List.foldl_nil, State.landOne,
    State.setReg_kstat, hbefore]
  exact Nat.mod_eq_of_lt (Nat.or_lt_two_pow hst hgx)

/-- BRC on N and Z. -/
theorem krnCond_of_flags (h : (KB.cond w = 0 ∧ s.krnStatBit g 1 = true) ∨ (KB.cond w = 1 ∧ s.krnStatBit g 1 = false) ∨
      (KB.cond w = 2 ∧ s.krnStatBit g 0 = true) ∨ (KB.cond w = 3 ∧ s.krnStatBit g 0 = false)) :
    krnCond (KB.cond w) (s.kstat g) = true := by
  rw [s.krnStatBit_eq g 1 (by decide), s.krnStatBit_eq g 0 (by decide), ← bitOf_eq_testBit, ← bitOf_eq_testBit] at h
  obtain ⟨hc, hb⟩ | ⟨hc, hb⟩ | ⟨hc, hb⟩ | ⟨hc, hb⟩ := h <;> simp [krnCond, hc, hb]

/-! ### Streams, OUTT and decisions (R153, R155-R157) -/

/-- What no landing, PC, halt or decision touches reads after a bundle what its A slot left. -/
theorem State.issueBundle_field_of_aEffect {β : Type} {f : State → β} (hf : LandingKeeps g krnStateRegs f)
    (hkrn : ∀ s x, f (State.setKrn s g x) = f s) (hpc : StoreKeeps g [.KRN_PC, .KRN_STATUS, .KRN_LC0, .KRN_LC1] f)
    (hd : DecisionKeeps g f) : f (s.issueBundle g w) = f (s.aEffect g w) :=
  (State.issueBundle_field hf hkrn (List.Subset.refl _) hpc s w).trans
    ((State.bundleDecided_field_of_begun hd s w).trans (hkrn _ _))

theorem State.issueBundle_outt (h : KB.aop w = 7) :
    (s.issueBundle g w).regNat .KRN_OUTT_CNT g = (s.regNat .KRN_OUTT_CNT g + 1) % 2 ^ 32 := by
  have apart {rs : List Reg} (h : Reg.KRN_OUTT_CNT ∉ rs) : Reg.KRN_OUTT_CNT ∈ rs → g / krnPerCluster .KRN_OUTT_CNT ≠ g :=
    fun hq => absurd hq h
  have hslot : (s.issueBundle g w).reg .KRN_OUTT_CNT g = (s.aEffect g w).reg .KRN_OUTT_CNT g :=
    s.issueBundle_field_of_aEffect g w (f := (·.reg .KRN_OUTT_CNT g)) (landingKeeps_reg (apart (by decide))) (fun _ _ => rfl)
      (storeKeeps_reg (apart (by decide))) (decisionKeeps_reg (apart (by decide)) (fun hq => absurd hq (by decide)))
  have hcount : (s.aEffect g w).reg .KRN_OUTT_CNT g = BitVec.ofNat 32 (s.regNat .KRN_OUTT_CNT g + 1) := by
    simp only [State.aEffect, h, State.krnOutt]
    split <;> exact State.reg_setReg_same _ _ _ _
  rw [State.regNat, hslot, hcount, BitVec.toNat_ofNat]

theorem State.setKrnIn_krnIn (i : Nat) (q : List (Nat × Word)) : (s.setKrnIn g i q).krnIn g i = q := tget_tset_same _ _ _ _

/-- RDS takes the oldest word of its stream. -/
theorem State.issueBundle_krnIn (h : KB.aop w = 6) :
    (s.issueBundle g w).krnIn g (KB.inp w) = (s.krnIn g (KB.inp w)).drop 1 := by
  have hslot : (s.issueBundle g w).krnIn g (KB.inp w) = (s.aEffect g w).krnIn g (KB.inp w) :=
    s.issueBundle_field_of_aEffect g w (f := (·.krnIn g (KB.inp w)))
      ⟨fun _ _ _ _ _ _ => rfl, fun _ _ => rfl, fun t k => by simp [State.krnIn]⟩ (fun _ _ => rfl) (fun _ _ _ _ _ _ => rfl)
      ⟨fun _ _ _ _ _ _ => rfl, fun _ _ => rfl, fun _ _ => rfl, fun _ _ => rfl⟩
  rw [hslot, State.aEffect, h]
  exact s.setKrnIn_krnIn g _ _

theorem State.issueBundle_fab : (s.issueBundle g w).fab = (s.bundleDecided g w).fab :=
  State.issueBundle_field (f := (·.fab)) ⟨fun _ _ _ _ _ _ => rfl, fun _ _ => rfl, State.raise_fab⟩ (fun _ _ => rfl)
    (List.Subset.refl _) (fun _ _ _ _ _ _ => rfl) s w

theorem State.aEffect_keeps {β : Type} {f : State → β} (hreg : ∀ s r i v, f (State.setReg s r i v) = f s)
    (hmem : ∀ s m, f { s with mem := m } = f s)
    (hkrn : ∀ s i o d, f { s with krn := { s.krn with inp := i, outt := o, wrote := d } } = f s) : f (s.aEffect g w) = f s :=
  State.aEffect_field ⟨fun t r _ i v _ => hreg t r i v, hmem, hkrn⟩ s w

/-- DEC of a tone that the kernel does not serve sets the error bit and decides nothing (R155). -/
theorem State.issueBundle_unserved (hc : KB.cop w = 7) (h : s.bit .TONE_CFG (16 * g + KB.tone w) 1 = false) :
    (s.issueBundle g w).bit .KRN_DEC_STATUS g 0 = true ∧ (s.issueBundle g w).fab = s.fab := by
  have hcfg : (s.bundleBegun g w).bit .TONE_CFG (16 * g + KB.tone w) 1 = false :=
    (State.bit_congr (State.aEffect_field (aEffectKeeps_reg fun hq => absurd hq (by decide)) s w)).trans h
  have hdecided : s.bundleDecided g w = (s.bundleBegun g w).setBit .KRN_DEC_STATUS g 0 true := by
    simp [s.bundleDecided_of_dec g w hc, State.krnDecide, hcfg]
  have apart {rs : List Reg} (h : Reg.KRN_DEC_STATUS ∉ rs) : Reg.KRN_DEC_STATUS ∈ rs → g / krnPerCluster .KRN_DEC_STATUS ≠ g :=
    fun hq => absurd hq h
  refine ⟨?_, ?_⟩
  · have hread : (s.issueBundle g w).reg .KRN_DEC_STATUS g = (s.bundleDecided g w).reg .KRN_DEC_STATUS g :=
      State.issueBundle_field (f := (·.reg .KRN_DEC_STATUS g)) (landingKeeps_reg (apart (by decide))) (fun _ _ => rfl)
        (List.Subset.refl _) (storeKeeps_reg (apart (by decide))) s w
    rw [State.bit_congr hread, hdecided]
    exact State.bit_setBit_same _ _ _ _ _ (by decide)
  · rw [s.issueBundle_fab, hdecided]
    exact s.aEffect_keeps g w (f := (·.fab)) (fun _ _ _ _ => rfl) (fun _ _ => rfl) fun _ _ _ _ => rfl

/-- A word that enters the fabric in an epoch stands in it. -/
theorem State.enterFabric_word (he : s.epochRun = true) (slot : Nat) (b : BitVec 8) (x : Nat) :
    ∃ f ∈ (s.enterFabric g slot b x).fab.words, f.slot = slot ∧ f.word = b ∧ f.x = x := by
  unfold State.enterFabric
  rw [if_neg (by simp [he])]
  extract_lets n up hub reach f fab worded
  refine ⟨f, ?_, rfl, rfl, rfl⟩
  have hworded : f ∈ worded.fab.words := List.mem_append_right _ (List.mem_singleton_self _)
  split <;> exact hworded

/-- The word that a kernel decision sends. -/
theorem State.krnEmit_word (he : s.epochRun = true) (t state x : Nat) (valid late : Bool) :
    ∃ f ∈ (s.krnEmit g t state x valid late).fab.words, f.slot = 16 * g + t ∧ f.x = x ∧ wordState f.word = state % 4 ∧
      wordValid f.word = valid ∧ wordLate f.word = late := by
  obtain ⟨f, hf, hslot, hword, hx⟩ := (s.nextSeq (16 * g + t)).2.enterFabric_word g he (16 * g + t)
    (decisionWord state valid late true (s.nextSeq (16 * g + t)).1) x
  refine ⟨f, hf, hslot, hx, ?_⟩
  have hnat : f.word.toNat = state % 4 + 4 * b2n valid + 8 * b2n late + 16 + 32 * ((s.nextSeq (16 * g + t)).1 % 8) := by
    have hv : b2n valid ≤ 1 := by cases valid <;> decide
    have hl : b2n late ≤ 1 := by cases late <;> decide
    rw [hword, decisionWord, BitVec.toNat_ofNat]
    simp only [b2n, if_true]
    simp only [b2n] at hv hl
    omega
  refine ⟨?_, ?_, ?_⟩
  · rw [wordState, hnat]; omega
  · rw [wordValid, hnat, bitOf, Nat.shiftRight_eq_div_pow]
    cases valid <;> cases late <;> simp [b2n] <;> omega
  · rw [wordLate, hnat, bitOf, Nat.shiftRight_eq_div_pow]
    cases valid <;> cases late <;> simp [b2n] <;> omega

/-- With no window pending a decision sends its word and settles nothing else. -/
theorem State.krnDecide_of_no_window {t : Nat} (state : Nat) (h : s.bit .TONE_CFG (16 * g + t) 1 = true)
    (hp : tget [] s.krn.pend (16 * g + t) = []) :
    s.krnDecide g t state = (s.settlePend g t).krnEmit g t state (s.now + 1) true false := by
  have hserved : ¬ (!s.bit .TONE_CFG (16 * g + t) 1) = true := by simp [h]
  have hsettled : tget [] (s.settlePend g t).krn.pend (16 * g + t) = [] := by simp [State.settlePend, hp]
  unfold State.krnDecide
  rw [if_neg hserved]
  extract_lets u
  split
  next hcons => exact absurd (hcons.symm.trans hsettled) (List.cons_ne_nil _ _)
  next => rfl

/-- DEC of a tone with no window pending sends its word in the next cc (R155). -/
theorem State.issueBundle_decides (hc : KB.cop w = 7) (h : s.bit .TONE_CFG (16 * g + KB.tone w) 1 = true)
    (he : s.epochRun = true) (hp : tget [] s.krn.pend (16 * g + KB.tone w) = []) :
    ∃ f ∈ (s.issueBundle g w).fab.words, f.slot = 16 * g + KB.tone w ∧ f.x = s.now + 1 ∧
      wordState f.word = (if KB.im w then KB.st w else bits (s.krnC g (KB.cs w)) 1 0) ∧ wordValid f.word = true ∧
      wordLate f.word = false := by
  let v := s.bundleBegun g w
  have hkept {β : Type} {f : State → β} (hreg : ∀ s r i v, f (State.setReg s r i v) = f s)
      (hmem : ∀ s m, f { s with mem := m } = f s)
      (hkrn : ∀ s i o d, f { s with krn := { s.krn with inp := i, outt := o, wrote := d } } = f s)
      (hset : ∀ s x, f (State.setKrn s g x) = f s) : f v = f s := (hset _ _).trans (s.aEffect_keeps g w hreg hmem hkrn)
  have hcfg : v.bit .TONE_CFG (16 * g + KB.tone w) 1 = true :=
    (State.bit_congr (State.aEffect_field (aEffectKeeps_reg fun hq => absurd hq (by decide)) s w)).trans h
  have hrun : v.epochRun = true :=
    (hkept (f := (·.epochRun)) (fun _ _ _ _ => rfl) (fun _ _ => rfl) (fun _ _ _ _ => rfl) fun _ _ => rfl).trans he
  have hpend : tget [] v.krn.pend (16 * g + KB.tone w) = [] :=
    (hkept (f := fun t => tget [] t.krn.pend (16 * g + KB.tone w)) (fun _ _ _ _ => rfl) (fun _ _ => rfl) (fun _ _ _ _ => rfl)
      fun _ _ => rfl).trans hp
  have hnow : v.now = s.now :=
    hkept (f := (·.now)) (fun _ _ _ _ => rfl) (fun _ _ => rfl) (fun _ _ _ _ => rfl) fun _ _ => rfl
  obtain ⟨f, hf, hslot, hx, hstate, hvalid, hlate⟩ := (v.settlePend g (KB.tone w)).krnEmit_word g hrun (KB.tone w)
    (if KB.im w then KB.st w else bits (s.krnC g (KB.cs w)) 1 0) (v.now + 1) true false
  have hfits : (if KB.im w then KB.st w else bits (s.krnC g (KB.cs w)) 1 0) < 4 := by
    split
    · exact Nat.mod_lt _ (by decide)
    · exact Nat.mod_lt _ (by decide)
  refine ⟨f, ?_, hslot, hx.trans (congrArg (· + 1) hnow), hstate.trans (Nat.mod_eq_of_lt hfits), hvalid, hlate⟩
  rwa [s.issueBundle_fab, s.bundleDecided_of_dec g w hc, v.krnDecide_of_no_window g _ hcfg hpend]

end

end Sys2Proof.Machine
end

-- ==== Proof of the kernel A and C slots statement ====
section
/-!
PROOFS. The rule of each instruction of the A slot and of HALT, from the rules above, and the statement over all of them.
-/

namespace Sys2Proof.Machine

section
variable (s : State) (g : Nat) (w : BitVec 64)

/-! ### The rules of the A slot, over its instructions -/

/-- LD, ST, STA, LDX and STX with PM = 1 step their pointer at the end of the bundle (R159, R176). -/
theorem State.aDue_of_pm (h : 1 ≤ KB.aop w ∧ KB.aop w ≤ 5) (hpm : KB.pm w = true) :
    s.aDue g w = [.step (KB.i w) (s.postModify g (KB.i w)).1 (s.postModify g (KB.i w)).2] := by
  obtain ⟨hlow, hhigh⟩ := h
  unfold State.aDue State.aWrites
  interval_cases KB.aop w <;> simp [hpm]

theorem State.issueBundle_postModifies (hfl : (s.krn! g).flight = []) (h : 1 ≤ KB.aop w ∧ KB.aop w ≤ 5) (hpm : KB.pm w = true)
    (hl : s.fld .KRN_L (4 * g + KB.i w) 15 0 = 0) (hc : KB.cop w ≠ 1) :
    (s.issueBundle g w).fld .KRN_P (4 * g + KB.i w) 15 0 =
      (s.fld .KRN_P (4 * g + KB.i w) 15 0 + s.fld .KRN_M (4 * g + KB.i w) 15 0) % 65536 :=
  s.issueBundle_steps g w hfl (fun hc1 => absurd hc1 hc) (s.aDue_of_pm g w h hpm) hl

/-- The only write of LDP, LDM, LDL, LDB and MODP is due at the end of their bundle. -/
theorem State.aDue_of_aWrites {x : KrnWrite} (h : s.aWrites g w = [(0, x)]) :
    s.aDue g w = [x] ∧ ∀ p ∈ s.aWrites g w, p.1 = 0 := by
  simp [State.aDue, h]

/-- A bundle sends nothing further than two bundles (R150). -/
theorem State.bundleSends_left : ∀ x ∈ s.bundleSends g w, x.left ≤ 2 := by
  have hslot : ∀ p ∈ s.aWrites g w, p.1 ≤ 1 := by
    unfold State.aWrites
    extract_lets i p pm step
    have hstep : ∀ p ∈ step, p.1 ≤ 1 := by simp only [step]; split <;> simp
    split
    case h_1 | h_4 => exact List.forall_mem_append.2 ⟨hstep, by simp⟩
    case h_2 | h_3 | h_5 => exact hstep
    case h_6 => split <;> simp
    all_goals simp
  intro x hx
  simp only [State.bundleSends, List.mem_append, List.mem_map] at hx
  obtain ⟨c, -, rfl⟩ | ⟨p, hp, rfl⟩ | ⟨m, -, rfl⟩ := hx
  · exact Nat.zero_le 2
  · exact (hslot p hp).trans (by decide)
  · exact Nat.le_refl 2

/-- HALT stops the engine with HALTED and CODE 0, and what was in flight has landed (R165). -/
theorem State.issueBundle_halts (hfl : (s.krn! g).flight = []) (hc : KB.cop w = 1) :
    let t := s.issueBundle g w
    t.krnRuns g = false ∧ t.bit .KRN_STATUS g 1 = true ∧ t.bit .KRN_STATUS g 3 = false ∧ t.fld .KRN_STATUS g 15 8 = Code.ok ∧
      (t.krn! g).flight = [] := by
  obtain ⟨hruns, herror, hcode⟩ := (s.bundleMoved g w).krnHalt_status g (by decide : Code.ok < 2 ^ 8) false
  obtain ⟨hhalted, hbits, hfld⟩ := ((s.bundleMoved g w).krnHalt g Code.ok false).krnHaltSignal_status g
  simp only [s.issueBundle_of_halt g w hc]
  refine ⟨(hbits 0 (by decide) (by decide)).trans hruns, hhalted, (hbits 3 (by decide) (by decide)).trans herror, hfld.trans hcode,
    ?_⟩
  rw [State.krn!, State.krnHaltSignal_krn, State.krnHalt_krn]
  refine State.landAll_flight fun x hx => ?_
  rw [s.bundleMoved_flight, s.bundleEnded_flight, hfl, List.nil_append] at hx
  exact InFlight.rest_left (fun y hy => (s.bundleSends_left g w y hy).trans (by decide)) x hx

/-- An RDS that does not wait takes the oldest word of its stream (R154). -/
theorem State.krnReady_of_isSome {i cc : Nat} {v : Word} {rest : List (Nat × Word)} (hq : s.krnIn g i = (cc, v) :: rest)
    (h : (s.krnReady g i).isSome = true) : s.krnReady g i = some v := by
  unfold State.krnReady at h ⊢
  rw [hq] at h ⊢
  dsimp only at h ⊢
  split at h
  next hcc => rw [if_pos hcc]
  next => cases h

theorem krnXReg_pointer (g : Nat) {j : Nat} (h : j < 4) : krnXReg g j = (.KRN_P, 4 * g + j) := if_pos h

theorem krnXReg_modifier (g : Nat) {j : Nat} (h : j < 4) : krnXReg g (4 + j) = (.KRN_M, 4 * g + j) := by
  simp only [krnXReg, if_neg (by omega : ¬4 + j < 4), if_pos (by omega : 4 + j < 8), Nat.add_sub_cancel_left]

/-- LDP, LDM and MODP write their register at the end of the bundle. -/
theorem State.issueBundle_ldp (hfl : (s.krn! g).flight = []) (h : KB.aop w = 8) :
    (s.issueBundle g w).fld .KRN_P (4 * g + KB.j w) 15 0 = KB.imm w := by
  have hj := KB.j_lt w
  obtain ⟨hx, hdue⟩ := s.aDue_of_aWrites g w (x := .x (KB.j w) (BitVec.ofNat 32 (KB.imm w))) (by simp [State.aWrites, h])
  simpa only [krnXReg_pointer g hj] using s.issueBundle_loads g w hfl (fun _ => hdue) (by omega) hx

theorem State.issueBundle_ldm (hfl : (s.krn! g).flight = []) (h : KB.aop w = 9) :
    (s.issueBundle g w).fld .KRN_M (4 * g + KB.j w) 15 0 = KB.imm w := by
  have hj := KB.j_lt w
  obtain ⟨hx, hdue⟩ := s.aDue_of_aWrites g w (x := .x (4 + KB.j w) (BitVec.ofNat 32 (KB.imm w))) (by simp [State.aWrites, h])
  simpa only [krnXReg_modifier g hj] using s.issueBundle_loads g w hfl (fun _ => hdue) (by omega) hx

theorem State.issueBundle_modp (hfl : (s.krn! g).flight = []) (h : KB.aop w = 0xC)
    (hl : s.fld .KRN_L (4 * g + KB.i w) 15 0 = 0) : (s.issueBundle g w).fld .KRN_P (4 * g + KB.i w) 15 0 =
      (s.fld .KRN_P (4 * g + KB.i w) 15 0 + s.fld .KRN_M (4 * g + KB.i w) 15 0) % 65536 := by
  obtain ⟨hx, hdue⟩ := s.aDue_of_aWrites g w (x := .step (KB.i w) (s.postModify g (KB.i w)).1 (s.postModify g (KB.i w)).2)
    (by simp [State.aWrites, h])
  exact s.issueBundle_steps g w hfl (fun _ => hdue) hx hl

/-- LDL writes Li, or its shadow where a circular buffer stands and the immediate is not 0 (R160). -/
theorem State.issueBundle_ldl (hfl : (s.krn! g).flight = []) (h : KB.aop w = 0xA) :
    let r := 4 * g + KB.j w
    let t := s.issueBundle g w
    (s.fld .KRN_L r 15 0 = 0 ∨ KB.imm w = 0 → t.fld .KRN_L r 15 0 = KB.imm w ∧ t.bit .KRN_LPEND g (KB.j w) = false) ∧
    (s.fld .KRN_L r 15 0 ≠ 0 → KB.imm w ≠ 0 → t.fld .KRN_L r 15 0 = s.fld .KRN_L r 15 0 ∧
      t.fld .KRN_LSH r 15 0 = KB.imm w ∧ t.bit .KRN_LPEND g (KB.j w) = true) := by
  obtain ⟨hx, hdue⟩ := s.aDue_of_aWrites g w (x := .x (8 + KB.j w) (BitVec.ofNat 32 (KB.imm w))) (by simp [State.aWrites, h])
  obtain ⟨honce, hshadow⟩ := s.issueBundle_circular g w hfl (fun _ => hdue) (len := true) rfl hx
  simp only [true_and, not_or] at honce hshadow
  exact ⟨honce, fun hl himm => hshadow ⟨hl, himm⟩⟩

/-- LDB writes Bi, or its shadow where a circular buffer stands (R160). -/
theorem State.issueBundle_ldb (hfl : (s.krn! g).flight = []) (h : KB.aop w = 0xB) :
    let r := 4 * g + KB.j w
    let t := s.issueBundle g w
    (s.fld .KRN_L r 15 0 = 0 → t.fld .KRN_B r 15 0 = KB.imm w) ∧
    (s.fld .KRN_L r 15 0 ≠ 0 → t.fld .KRN_B r 15 0 = s.fld .KRN_B r 15 0 ∧
      t.fld .KRN_BSH r 15 0 = KB.imm w ∧ t.bit .KRN_LPEND g (KB.j w) = true) := by
  obtain ⟨hx, hdue⟩ := s.aDue_of_aWrites g w (x := .x (12 + KB.j w) (BitVec.ofNat 32 (KB.imm w))) (by simp [State.aWrites, h])
  obtain ⟨honce, hshadow⟩ := s.issueBundle_circular g w hfl (fun _ => hdue) (len := false) rfl hx
  simp only [Bool.false_eq_true, false_and, or_false] at honce hshadow
  exact ⟨fun hl => (honce hl).1, hshadow⟩

end

/-- Settles O32: each row issues the bundle (`completes_of_kernelRow`) from a state whose registers are those of `s`, and what the
instruction of one slot leaves once the bundle is over is the rule of that instruction above. -/
theorem kernelACSlotResults : Obligations.KernelACSlotResults := by
  intro dt g w s p i pc data stepped sent hr hfl
  let u := p.unstalled g w
  have row {c : Instr} {h : BitVec 64 → Bool} {P : State → Prop} (hc : kernelRow c = some (dt, g.val, h)) (hw : h w = true)
      (hP : P (u.issueBundle g w)) : Completes c s P := completes_of_kernelRow hc hw hr hP
  have hreg {q : Reg} (j : Nat) (hq : q ≠ .KRN_IN_STALL) : u.reg q j = s.reg q j := s.unstalled_pass_reg dt g w j hq
  have hfld {q : Reg} (j hi lo : Nat) (hq : q ≠ .KRN_IN_STALL) : u.fld q j hi lo = s.fld q j hi lo := State.fld_congr (hreg j hq)
  have hbit {q : Reg} (j b : Nat) (hq : q ≠ .KRN_IN_STALL) : u.bit q j b = s.bit q j b := State.bit_congr (hreg j hq)
  have hkrn : u.krn = s.krn := s.unstalled_pass_krn dt g w
  have hin (i : Nat) : u.krnIn g i = s.krnIn g i := by rw [State.krnIn, hkrn]; rfl
  have hnow : u.now = s.now + dt := s.unstalled_pass_now dt g w
  have hfabric : u.fab = s.fab := (p.unstalled_field g w (·.fab) fun _ _ _ => rfl).trans (s.pass_fab dt)
  have hpc : u.krnPc g = pc := hfld _ _ _ (by decide)
  have hkstat : u.kstat g = s.kstat g := hfld _ _ _ (by decide)
  have hflight : (u.krn! g).flight = [] := by rw [State.krn!, hkrn]; exact hfl
  have hdata (h : KB.aop w ≠ 6) : u.krnData g (u.fld .KRN_P i 15 0) = data := by
    rw [hfld _ _ _ (by decide)]
    exact congrArg (State.krnData · _ _) (p.unstalled_of_no_rds g w h)
  have hslot {n : Nat} (h : KB.aop w = n) : aIs n w = true := beq_iff_eq.2 h
  have hctl {n : Nat} (h : KB.cop w = n) : cIs n w = true := beq_iff_eq.2 h
  have hsteps (h : 1 ≤ KB.aop w ∧ KB.aop w ≤ 5) : stepped (u.issueBundle g w) := fun hpm hl hc => by
    rw [u.issueBundle_postModifies g w hflight h hpm ((hfld _ _ _ (by decide)).trans hl) hc, hfld _ _ _ (by decide),
      hfld _ _ _ (by decide)]
  have hsends {x : KrnWrite} (h : (1, x) ∈ u.aWrites g w) : sent (u.issueBundle g w) x := fun hc => u.issueBundle_sends g w hc h
  have hbranch {tgt : Nat} (h : u.cTarget g w (u.krnPc g) = some tgt) (htgt : tgt < 8192) : (u.issueBundle g w).krnPc g = tgt :=
    (u.issueBundle_pc_of_target g w h).trans (Nat.mod_eq_of_lt htgt)
  refine ⟨fun h => row rfl (hslot h) ⟨hsends ?ld, hsteps (by omega)⟩, fun h => row rfl (hslot h) (hsteps (by omega)),
    fun h => row rfl (hslot h) (hsteps (by omega)), fun h => row rfl (hslot h) ⟨hsends ?ldx, hsteps (by omega)⟩,
    fun h => row rfl (hslot h) (hsteps (by omega)), fun cc v rest h hq => row rfl (hslot h) ⟨hsends ?rds, ?rest⟩,
    fun h => row rfl (hslot h) ?wrs, fun h => row rfl (hslot h) ?ldp, fun h => row rfl (hslot h) ?ldm,
    fun h => row rfl (hslot h) ?ldl, fun h => row rfl (hslot h) ?ldb, fun h => row rfl (hslot h) fun hl => ?modp,
    fun h => row rfl (hctl h) (u.issueBundle_halts g w hflight h), fun h => row rfl (hctl h) ?br,
    fun h => row rfl (hctl h) fun hcond => ?brc, fun c hc => ?loop, fun h => row rfl (hctl h) ⟨?rtiPc, ?rtiStat⟩,
    fun h hcfg => row rfl (hctl h) ?unserved, fun h hcfg he hp => row rfl (hctl h) ?dec,
    fun h => row rfl (hctl h) ?ei, fun h => row rfl (hctl h) ?di, fun h => row rfl (hctl h) ?clrgx⟩
  case ld => rw [← hdata (by omega)]; simp [State.aWrites, h, i]
  case ldx => rw [← hdata (by omega)]; simp [State.aWrites, h, i]
  case rds =>
    obtain ⟨-, -, -, -, -, hword⟩ := hr
    have hsame : u.krnReady g (KB.inp w) = p.krnReady g (KB.inp w) :=
      p.unstalled_field g w (·.krnReady g (KB.inp w)) fun _ _ _ => rfl
    have hready : u.krnReady g (KB.inp w) = some v := u.krnReady_of_isSome g ((hin _).trans hq) (hsame ▸ hword h)
    simp [State.aWrites, h, hready]
  case rest => rw [u.issueBundle_krnIn g w h, hin, hq]; rfl
  case wrs => rw [u.issueBundle_outt g w h, State.regNat, hreg _ (by decide)]; rfl
  case ldp => exact u.issueBundle_ldp g w hflight h
  case ldm => exact u.issueBundle_ldm g w hflight h
  case ldl => simpa only [hfld _ _ _ (by decide : Reg.KRN_L ≠ .KRN_IN_STALL)] using u.issueBundle_ldl g w hflight h
  case ldb =>
    simpa only [hfld _ _ _ (by decide : Reg.KRN_L ≠ .KRN_IN_STALL), hfld _ _ _ (by decide : Reg.KRN_B ≠ .KRN_IN_STALL)] using
      u.issueBundle_ldb g w hflight h
  case modp =>
    rw [u.issueBundle_modp g w hflight h ((hfld _ _ _ (by decide)).trans hl), hfld _ _ _ (by decide), hfld _ _ _ (by decide)]
  case br => exact hbranch (by simp [State.cTarget, h]) (Nat.mod_lt _ (by decide))
  case brc =>
    have htrue : krnCond (KB.cond w) (u.kstat g) = true := hkstat ▸ krnCond_of_flags s g w hcond
    exact hbranch (by simp [State.cTarget, h, htrue]) (Nat.mod_lt _ (by decide))
  case loop =>
    have hcop : KB.cop w = 4 ∨ KB.cop w = 5 := hc.imp And.right And.right
    have hn : u.loopCount g w = if KB.cop w = 4 then KB.cnt w else s.fld .KRN_P (4 * g + KB.lp w) 15 0 := by
      rw [State.loopCount, hfld _ _ _ (by decide)]
    have hloop := u.issueBundle_loop g w hflight hcop
    simp only [hpc, hn] at hloop
    obtain ⟨rfl, hc⟩ | ⟨rfl, hc⟩ := hc
    · exact row rfl (hctl hc) hloop
    · exact row rfl (hctl hc) hloop
  case rtiPc =>
    rw [← hfld g 12 0 (by decide : Reg.KRN_IPC ≠ .KRN_IN_STALL)]
    exact hbranch (by simp only [State.cTarget, h]) (Nat.mod_lt _ (by decide))
  case rtiStat => rw [u.issueBundle_rti g w hflight h, hfld _ _ _ (by decide), hkstat]
  case unserved =>
    obtain ⟨herror, hfab⟩ := u.issueBundle_unserved g w h ((hbit _ _ (by decide)).trans hcfg)
    exact ⟨herror, hfab.trans hfabric⟩
  case dec =>
    have hrun : u.epochRun = true := (p.unstalled_field g w (·.epochRun) fun _ _ _ => rfl).trans ((s.pass_epochRun dt).trans he)
    obtain ⟨f, hf, hslot, hx, hstate, hvalid, hlate⟩ :=
      u.issueBundle_decides g w h ((hbit _ _ (by decide)).trans hcfg) hrun (by rwa [hkrn])
    exact ⟨f, hf, hslot, hx.trans (by rw [hnow]), hstate.trans (by rw [State.krnC, hreg _ (by decide)]; rfl), hvalid, hlate⟩
  case ei =>
    exact u.issueBundle_statBit g w hflight (by omega) (by decide) (x := .ie true) (by simp only [State.cWrites, h]) fun _ => rfl
  case di =>
    exact u.issueBundle_statBit g w hflight (by omega) (by decide) (x := .ie false) (by simp only [State.cWrites, h]) fun _ => rfl
  case clrgx =>
    exact u.issueBundle_statBit g w hflight (by omega) (by decide) (x := .clearGx) (by simp only [State.cWrites, h]) fun _ => rfl

end Sys2Proof.Machine
end

-- ==== Kernel engines: start, stop and attention ====
section
/-!
PROOFS. What START, STOP and a latched cause leave in the registers of an engine (R161, R165, R166).
-/

namespace Sys2Proof.Machine

section
variable (s : State) (g : Nat)

/-! ### Starting and stopping (R165, R166) -/

/-- START alone, with IE0: IE0 is stored and the engine starts. -/
theorem krnCtrlOp_start (ie0 : Bool) :
    krnCtrlOp g (BitVec.ofNat 32 (1 + 4 * b2n ie0)) s = krnStartOp g (s.setFld .KRN_CTRL g 2 2 (b2n ie0)) := by
  cases ie0 <;> rfl

/-- STOP alone, with IE0: IE0 is stored and the engine stops. -/
theorem krnCtrlOp_stop (ie0 : Bool) :
    krnCtrlOp g (BitVec.ofNat 32 (2 + 4 * b2n ie0)) s = krnStopOp g (s.setFld .KRN_CTRL g 2 2 (b2n ie0)) := by
  cases ie0 <;> rfl

theorem State.krnResult_code {code : Nat} (h : code < 2 ^ 8) : (s.krnResult g code).fld .KRN_STATUS g 23 16 = code :=
  (State.fld_setFld_same _ _ _ _ _ _ (by decide)).trans (Nat.mod_eq_of_lt h)

theorem onlyAt_krnResult (code : Nat) : OnlyAt [(.KRN_STATUS, g)] s (s.krnResult g code) := onlyAt_setReg _ _ (by simp)

theorem krnStartOp_of_busy (h : s.epochRun = false ∨ s.krnRuns g = true) : krnStartOp g s = s.krnResult g Code.busy :=
  if_pos (by obtain h | h := h <;> simp [h])

theorem krnStartOp_ctrl (j : Nat) : (krnStartOp g s).reg .KRN_CTRL j = s.reg .KRN_CTRL j := by
  unfold krnStartOp
  split <;> simp [State.krnResult, State.emptyStreams, State.setKrnPc, State.forEach]

theorem State.emptyStreams_krnIn : (s.emptyStreams g).krnIn g 0 = [] ∧ (s.emptyStreams g).krnIn g 1 = [] :=
  ⟨(tget_tset_ne _ _ _ _ _ (by omega)).trans (s.setKrnIn_krnIn g 0 []), State.setKrnIn_krnIn _ g 1 []⟩

theorem bits_pc (v : Nat) : bits (BitVec.ofNat 32 (v % 8192)) 12 0 = v % 8192 := by
  simp only [bits, BitVec.toNat_ofNat]
  omega

theorem krnStartOp_starts (he : s.epochRun = true) (hr : s.krnRuns g = false) :
    let t := krnStartOp g s
    t.krnRuns g = true ∧ t.krnPc g = s.fld .KRN_PC_INIT g 12 0 ∧ t.kstat g = 8 * s.fld .KRN_CTRL g 2 2 ∧ t.krnIn g 0 = [] ∧
      t.krnIn g 1 = [] ∧ t.reg .KRN_ATTN_CAUSE g = 0 ∧ t.reg .KRN_MISS_CNT g = 0 ∧ t.reg .KRN_LATE_CNT g = 0 ∧
      t.reg .KRN_OUTT_CNT g = 0 ∧ t.fld .KRN_STATUS g 23 16 = Code.ok := by
  have hgo : ¬(!s.epochRun || s.krnRuns g) = true := by simp [he, hr]
  unfold krnStartOp
  rw [if_neg hgo]
  have hie0 : s.fld .KRN_CTRL g 2 2 < 2 := Nat.mod_lt _ (by decide)
  have hinit : s.fld .KRN_PC_INIT g 12 0 < 8192 := Nat.mod_lt _ (by decide)
  obtain ⟨hin0, hin1⟩ := s.emptyStreams_krnIn g
  refine ⟨(State.bit_setFld_apart _ _ _ _ _ _ _ (by decide) (by decide)).trans (State.bit_setBit_same _ _ _ _ _ (by decide)), ?pc,
    ?kstat, Eq.trans ?in0 hin0, Eq.trans ?in1 hin1, ?cause, ?miss, ?late, ?outt, State.krnResult_code _ _ (by decide)⟩
  case pc =>
    refine Eq.trans ?_ ((bits_pc _).trans (Nat.mod_eq_of_lt hinit))
    simp [State.krnResult, State.krnPc, State.fld, State.emptyStreams, State.setKrnPc, State.forEach]
  case kstat =>
    have hfits : bits (BitVec.ofNat 32 (8 * s.fld .KRN_CTRL g 2 2)) 4 0 = 8 * s.fld .KRN_CTRL g 2 2 := by
      simp only [bits, BitVec.toNat_ofNat]
      omega
    refine Eq.trans ?_ hfits
    simp [State.krnResult, State.kstat, State.fld, State.emptyStreams, State.setKrnPc, State.forEach]
  case in0 | in1 =>
    simp [State.krnIn, State.krnResult, State.forEach, State.keepPend, State.setKrn, State.emptyStreams,
      State.setKrnIn, State.setKrnPc]
  all_goals simp [State.krnResult, State.forEach]

theorem krnStopOp_stops (h : s.krnRuns g = true) :
    let t := krnStopOp g s
    t.krnRuns g = false ∧ t.fld .KRN_STATUS g 15 8 = Code.ok ∧ t.bit .KRN_STATUS g 3 = false ∧ t.krnPc g = s.krnPc g ∧
      t.bit .KRN_STATUS g 1 = s.bit .KRN_STATUS g 1 := by
  obtain ⟨hruns, herror, hcode⟩ := s.krnHalt_status g (by decide : Code.ok < 2 ^ 8) false
  have hflight : ∀ x ∈ (s.krn! g).flight, x.w.regs ⊆ krnStateRegs := fun x _ => x.w.regs_subset
  have landing {q : Reg} (hq : q ∉ Reg.KRN_KSTAT :: .KRN_ATTN_CAUSE :: krnStateRegs) :
      LandingKeeps g krnStateRegs (·.reg q g) := landingKeeps_reg fun h => absurd h hq
  have hpc : (s.krnHalt g Code.ok false).reg .KRN_PC g = s.reg .KRN_PC g :=
    State.krnHalt_field (f := (·.reg .KRN_PC g)) (landing (by decide)) (fun _ _ => rfl)
      (storeKeeps_reg fun h => absurd h (by decide)) hflight _ _
  have hstatus : (s.landAll g).reg .KRN_STATUS g = s.reg .KRN_STATUS g :=
    State.landAll_field (f := (·.reg .KRN_STATUS g)) (landing (by decide)) (fun _ _ => rfl) hflight
  have hhalted : (s.krnHalt g Code.ok false).bit .KRN_STATUS g 1 = s.bit .KRN_STATUS g 1 := by
    unfold State.krnHalt
    extract_lets landed
    rw [State.bit_setFld_apart _ _ _ _ _ _ _ (by decide) (by decide), State.bit_setBit_apart _ _ _ _ _ _ (by decide) (by decide),
      State.bit_setBit_apart _ _ _ _ _ _ (by decide) (by decide)]
    exact State.bit_congr hstatus
  rw [krnStopOp, if_pos h]
  exact ⟨hruns, hcode, herror, State.krnPc_congr hpc, hhalted⟩

/-! ### Attention (R161, R162) -/

/-- Latching a cause changes the causes alone. -/
theorem onlyAt_krnLatch (b : Nat) : OnlyAt [(.KRN_ATTN_CAUSE, g)] s (s.krnLatch g b) := by
  unfold State.krnLatch
  split
  · exact onlyAt_of_reg_eq (fun _ _ => rfl) rfl
  · exact (onlyAt_setReg s _ (by simp)).trans (onlyAt_of_reg_eq (fun _ _ => rfl) rfl)

theorem State.krnLatch_krnIn (b i : Nat) : (s.krnLatch g b).krnIn g i = s.krnIn g i := by
  unfold State.krnLatch
  split <;> rfl

/-- The SW cause stands once it is latched. -/
theorem State.krnLatch_sw : (s.krnLatch g 0).bit .KRN_ATTN_CAUSE g 0 = true := by
  unfold State.krnLatch
  split
  next h =>
    have hsw : s.krnCauses g % 2 = s.fld .KRN_ATTN_CAUSE g 0 0 := by
      have hbit : s.fld .KRN_ATTN_CAUSE g 0 0 < 2 := Nat.mod_lt _ (by decide)
      rw [State.krnCauses]
      omega
    rw [bitOf, Nat.shiftRight_zero, hsw] at h
    exact h
  next => exact State.bit_setBit_same _ _ _ _ _ (by decide)

end

end Sys2Proof.Machine
end

-- ==== Proof of the kernel engine commands statement ====
section
/-!
PROOFS. The other commands of the kernel engines: the diversion (R162), the words of the streams (R153, R154), the deadlines
(R156) and the end of a hardware loop (R158); and the statement over all of them.
-/

namespace Sys2Proof.Machine

section
variable {s : State} {g : Nat}

/-! ### Diversion (R162) -/

/-- A diversion saves PC and KSTAT, clears IE, sets INATT and goes to KRN_VEC. -/
theorem divertOp_diverts (hr : s.krnRuns g = true) (ha : s.krnAttention g = true) (hl : (s.krn! g).latchedAt < s.now) :
    let t := divertOp g s
    t.fld .KRN_IPC g 12 0 = s.krnPc g ∧ t.fld .KRN_ISTAT g 4 0 = s.kstat g ∧ t.krnStatBit g 3 = false ∧
      t.krnStatBit g 4 = true ∧ t.krnPc g = s.fld .KRN_VEC g 12 0 ∧ (t.krn! g).nextCc = s.now + 1 ∧
      OnlyAt [(.KRN_IPC, g), (.KRN_ISTAT, g), (.KRN_KSTAT, g), (.KRN_PC, g)] s t := by
  have hpc : s.krnPc g % 8192 = s.krnPc g := Nat.mod_mod _ _
  have hstat : bits (BitVec.ofNat 32 (s.kstat g)) 4 0 = s.kstat g := by
    have := s.kstat_lt g
    simp only [bits, BitVec.toNat_ofNat]
    omega
  have hvec : s.fld .KRN_VEC g 12 0 % 8192 = s.fld .KRN_VEC g 12 0 := Nat.mod_mod _ _
  have hgo : (s.krnRuns g && s.krnAttention g && decide ((s.krn! g).latchedAt < s.now)) = true := by simp [hr, ha, hl]
  intro t
  rw [show t = _ from if_pos hgo]
  refine ⟨?ipc, ?istat, ?ie, ?inatt, ?pc, ?nextCc, ?only⟩
  case ipc => simpa [State.fld, State.setKrnPc, hpc] using bits_pc (s.krnPc g)
  case istat => simpa [State.fld, State.setKrnPc] using hstat
  case ie =>
    exact (State.bit_congr (State.reg_setReg_other _ _ _ _ _ _ (by decide))).trans
      ((State.bit_setBit_apart _ _ _ _ _ _ (by decide) (by decide)).trans (State.bit_setBit_same _ _ _ _ _ (by decide)))
  case inatt =>
    exact (State.bit_congr (State.reg_setReg_other _ _ _ _ _ _ (by decide))).trans (State.bit_setBit_same _ _ _ _ _ (by decide))
  case pc => simpa [State.krnPc, State.fld, State.setKrnPc] using (bits_pc _).trans hvec
  case nextCc => simp
  case only =>
    have hset {u : State} {q : Reg} (v : Word) (hq : q ∈ [Reg.KRN_IPC, .KRN_ISTAT, .KRN_KSTAT, .KRN_PC]) :
        OnlyAt [(.KRN_IPC, g), (.KRN_ISTAT, g), (.KRN_KSTAT, g), (.KRN_PC, g)] u (u.setReg q g v) :=
      onlyAt_setReg _ _ (by simpa using hq)
    exact (((((hset _ (by decide)).trans (hset _ (by decide))).trans (hset _ (by decide))).trans (hset _ (by decide))).trans
      (hset _ (by decide))).trans (onlyAt_of_reg_eq (fun _ _ => rfl) rfl)

/-! ### Stream words (R153, R154) -/

section
variable {i : Nat} {v : Word}

/-- A stream word of source 3 from footage 8 on. -/
theorem State.krnSourceWord_of_link (hs : s.fld .KRN_IN_CFG (2 * g + i) 2 0 = 3) (hf : 8 ≤ s.ftg) :
    s.krnSourceWord g i v = some (narrow (sext14 (bits v 15 0)) (sext14 (bits v 31 16))) := by
  simp [State.krnSourceWord, hs, hf]

theorem State.krnWatermark_krnIn (j : Nat) : (s.krnWatermark g i).krnIn g j = s.krnIn g j :=
  State.ite_field (·.krnIn g j) (s.krnLatch_krnIn g _ j) rfl

theorem onlyAt_krnWatermark : OnlyAt [(.KRN_ATTN_CAUSE, g)] s (s.krnWatermark g i) := by
  unfold State.krnWatermark
  extract_lets wm
  split
  · exact onlyAt_krnLatch s g _
  · exact onlyAt_of_reg_eq (fun _ _ => rfl) rfl

section
variable {x : Word} (he : s.epochRun = true) (ha : s.regionAwake (g / 4) = true) (hx : s.krnSourceWord g i v = some x)
include he ha hx

/-- A word that finds room in its stream enters it. -/
theorem krnInWordOp_enters (h : (s.krnIn g i).length < 64) :
    (krnInWordOp g i v s).krnIn g i = s.krnIn g i ++ [(s.now, x)] ∧ OnlyAt [(.KRN_ATTN_CAUSE, g)] s (krnInWordOp g i v s) := by
  have hop : krnInWordOp g i v s = (s.setKrnIn g i (s.krnIn g i ++ [(s.now, x)])).krnWatermark g i := by
    simp [krnInWordOp, he, ha, hx, Nat.not_le.2 h]
  rw [hop, State.krnWatermark_krnIn]
  exact ⟨s.setKrnIn_krnIn g i _, (onlyAt_of_reg_eq (fun _ _ => rfl) rfl).trans onlyAt_krnWatermark⟩

/-- A word that finds its stream full is dropped and counted. -/
theorem krnInWordOp_drops (h : 64 ≤ (s.krnIn g i).length) :
    (krnInWordOp g i v s).krnIn g i = s.krnIn g i ∧ (krnInWordOp g i v s).bit .KRN_IN_STATUS (2 * g + i) 7 = true ∧
      (krnInWordOp g i v s).regNat .KRN_IN_DROP (2 * g + i) = min 0xFFFF_FFFF (s.regNat .KRN_IN_DROP (2 * g + i) + 1) ∧
      OnlyAt [(.KRN_IN_STATUS, 2 * g + i), (.KRN_IN_DROP, 2 * g + i)] s (krnInWordOp g i v s) := by
  let u := (s.setBit .KRN_IN_STATUS (2 * g + i) 7 true).count .KRN_IN_DROP (2 * g + i)
  have hop : krnInWordOp g i v s = if u.bit .KRN_IRQ_EN g 1 then u.raise (krnSource g) else u := by
    simp only [krnInWordOp, he, ha, hx, h, if_pos]
    rfl
  have hread {β : Type} (f : State → β) (hf : ∀ k, f (u.raise k) = f u) : f (krnInWordOp g i v s) = f u := by
    rw [hop]
    exact State.ite_field f (hf _) rfl
  have hreg (q : Reg) (j : Nat) : (krnInWordOp g i v s).reg q j = u.reg q j := hread (·.reg q j) fun k => u.raise_reg k q j
  have honly : OnlyAt [(.KRN_IN_STATUS, 2 * g + i), (.KRN_IN_DROP, 2 * g + i)] s u :=
    (onlyAt_setReg s _ (by simp)).trans (onlyAt_setReg _ _ (by simp))
  refine ⟨hread (·.krnIn g i) fun k => by simp [State.krnIn], ?_, ?_,
    honly.trans (onlyAt_of_reg_eq hreg (hread (·.kept) u.kept_raise))⟩
  · rw [State.bit_congr (hreg _ _)]
    exact (State.bit_congr (State.reg_count_other _ _ _ _ _ _ (by decide))).trans (State.bit_setBit_same _ _ _ _ _ (by decide))
  · rw [State.regNat, hreg]
    exact (State.count_regNat _ _ _).trans (by rw [State.regNat, State.reg_setBit_other _ _ _ _ _ _ _ (by decide)]; rfl)

end

/-- KRN_IN_CFG with a source or a watermark that does not exist is refused (R153, R166). -/
theorem krnInCfgOp_refuses (h : 4 < bits v 2 0 ∨ 64 < bits v 22 16) : krnInCfgOp g i v s = s.krnResult g Code.range :=
  if_pos (h.imp_right .inr)

/-- KRN_IN_CFG of a halted engine configures and empties the stream. -/
theorem krnInCfgOp_configures (hsrc : bits v 2 0 = 0 ∨ bits v 2 0 = 3 ∨ bits v 2 0 = 4) (hwm : bits v 22 16 ≤ 64)
    (hr : s.krnRuns g = false) :
    let t := krnInCfgOp g i v s
    t.fld .KRN_STATUS g 23 16 = Code.ok ∧ t.krnIn g i = [] ∧ t.fld .KRN_IN_CFG (2 * g + i) 13 0 = bits v 13 0 ∧
      t.fld .KRN_IN_CFG (2 * g + i) 22 16 = bits v 22 16 ∧
      OnlyAt [(.KRN_STATUS, g), (.KRN_IN_CFG, 2 * g + i)] s t := by
  let u := (s.setFld .KRN_IN_CFG (2 * g + i) 22 16 (bits v 22 16)).setFld .KRN_IN_CFG (2 * g + i) 13 0 (bits v 13 0)
  have hfits : ¬(4 < bits v 2 0 ∨ ((bits v 2 0 = 1 ∨ bits v 2 0 = 2) ∧ 15 < bits v 11 4) ∨ 64 < bits v 22 16) := by omega
  have hr' : (s.setFld .KRN_IN_CFG (2 * g + i) 22 16 (bits v 22 16)).krnRuns g = false :=
    (State.bit_setFld_other _ _ _ _ _ _ _ _ _ (by decide)).trans hr
  have hop : krnInCfgOp g i v s = (u.setKrnIn g i []).krnResult g Code.ok := by
    simp [krnInCfgOp, hfits, hr, hr', u]
  have hmode : bits v 13 0 < 2 ^ 14 := Nat.mod_lt _ (by decide)
  have hmark : bits v 22 16 < 2 ^ 7 := Nat.mod_lt _ (by decide)
  have hreg : ((u.setKrnIn g i []).krnResult g Code.ok).reg .KRN_IN_CFG (2 * g + i) = u.reg .KRN_IN_CFG (2 * g + i) :=
    State.reg_setFld_other _ _ _ _ _ _ _ _ (by decide)
  intro t
  rw [show t = _ from hop, State.fld_congr hreg, State.fld_congr hreg]
  refine ⟨State.krnResult_code _ _ (by decide), State.setKrnIn_krnIn u g i [], ?_, ?_, ?_⟩
  · exact (State.fld_setFld_same _ _ _ _ _ _ (by decide)).trans (Nat.mod_eq_of_lt hmode)
  · exact (State.fld_setFld_apart _ _ _ _ _ _ _ _ (by decide) (by decide)).trans
      ((State.fld_setFld_same _ _ _ _ _ _ (by decide)).trans (Nat.mod_eq_of_lt hmark))
  · exact (((onlyAt_setReg s _ (by simp)).trans (onlyAt_setReg _ _ (by simp))).trans
      (onlyAt_of_reg_eq (fun _ _ => rfl) rfl)).trans (onlyAt_setReg _ _ (by simp))

end

/-! ### Deadlines (R156) -/

section
variable {x : Nat} {w : KrnWindow}

/-- A word that the kernel sends changes the count of words sent up alone. -/
theorem onlyAt_krnEmit (t state at_ : Nat) (valid late : Bool) :
    OnlyAt [(.FAB_RG_UP_CNT, g / 4)] s (s.krnEmit g t state at_ valid late) := by
  refine ⟨fun q j hq => State.krnEmit_field (f := (·.reg q j)) (fun u v => ?_) (fun _ _ => rfl) s t state at_ valid late,
    .of_kept (State.krnEmit_field (f := (·.kept)) (fun _ _ => State.kept_setReg _ _ _ _) (fun _ _ => rfl) s t state at_ valid late)⟩
  exact (u.reg_setReg _ _ _ _ _).trans (if_neg fun ⟨hr, hj⟩ => hq (by simp [← hr, ← hj]))

theorem State.krnEmit_krn (t state at_ : Nat) (valid late : Bool) : (s.krnEmit g t state at_ valid late).krn = s.krn :=
  State.krnEmit_field (f := (·.krn)) (fun _ _ => rfl) (fun _ _ => rfl) s t state at_ valid late

/-- The windows pending for the tone of slot `k`, stored. -/
def State.setPend (s : State) (k : Nat) (ws : List KrnWindow) : State :=
  { s with krn := { s.krn with pend := tset s.krn.pend k ws } }

section
variable (h : tget [] s.krn.pend (16 * g + x) = [w])
include h

/-- With one window pending nothing falls out of the four. -/
theorem State.settlePend_of_one : s.settlePend g x = (s.setPend (16 * g + x) [w]).count .KRN_MISS_CNT g 0 := by
  have hnone : ([w].filter (fun w => decide (w.at_ ≤ s.ftg))).length - 4 = 0 := by
    have := List.length_filter_le (fun w : KrnWindow => decide (w.at_ ≤ s.ftg)) [w]
    simp only [List.length_singleton] at this
    omega
  simp only [State.settlePend, h, hnone]
  rfl

theorem State.settlePend_missCount : (s.settlePend g x).regNat .KRN_MISS_CNT g = s.regNat .KRN_MISS_CNT g := by
  have hmax : s.regNat .KRN_MISS_CNT g < 2 ^ 32 := (s.reg .KRN_MISS_CNT g).isLt
  have hkept : (s.setPend (16 * g + x) [w]).regNat .KRN_MISS_CNT g = s.regNat .KRN_MISS_CNT g := rfl
  rw [s.settlePend_of_one h, State.regNat, State.reg_count_same, BitVec.toNat_ofNat, hkept]
  omega

end

/-- Window `w` of tone `x`, the only one pending, is marked as missed and its word without VALID is sent. -/
def State.missSent (s : State) (g x : Nat) (w : KrnWindow) : State :=
  let v := (s.settlePend g x).setPend (16 * g + x) [{ w with missed := true }]
  (v.free 2).2.krnEmit g x (v.free 2).1 v.now false true

/-- The miss is counted. -/
def State.missCounted (s : State) (g x : Nat) (w : KrnWindow) : State :=
  ((s.missSent g x w).setBit .KRN_DEC_STATUS g 1 true).count .KRN_MISS_CNT g

theorem krnMissOp_of_due (h : tget [] s.krn.pend (16 * g + x) = [w]) (hm : w.missed = false)
    (hd : w.at_ + s.fld .KRN_KDL (16 * g + x) 9 0 < s.ftg) :
    krnMissOp g x s = if (s.missCounted g x w).bit .KRN_IRQ_EN g 2 then (s.missCounted g x w).raise (krnSource g)
      else s.missCounted g x w := by
  have hpend : tget [] (s.settlePend g x).krn.pend (16 * g + x) = [w] := by
    rw [s.settlePend_of_one h]
    exact tget_tset_same _ _ _ _
  have hkdl : (s.settlePend g x).fld .KRN_KDL (16 * g + x) 9 0 = s.fld .KRN_KDL (16 * g + x) 9 0 :=
    State.fld_setReg_other _ _ _ _ _ _ _ _ (by decide)
  have hftg : (s.settlePend g x).ftg = s.ftg := rfl
  have hdue : (!w.missed && Nat.blt (w.at_ + s.fld .KRN_KDL (16 * g + x) 9 0) s.ftg) = true := by simp [hm, hd]
  unfold krnMissOp
  simp only [hpend, hkdl, hftg, List.any_cons, List.takeWhile_cons, List.dropWhile_cons, hdue]
  rfl

section
variable (s) (g) (x) (w)

theorem State.missSent_pend : tget [] (s.missSent g x w).krn.pend (16 * g + x) = [{ w with missed := true }] := by
  rw [State.missSent, State.krnEmit_krn]
  exact tget_tset_same _ _ _ _

theorem onlyAt_missCounted :
    OnlyAt [(.KRN_DEC_STATUS, g), (.KRN_MISS_CNT, g), (.FAB_RG_UP_CNT, g / 4)] s (s.missCounted g x w) := by
  have hsettled : OnlyAt [(.KRN_DEC_STATUS, g), (.KRN_MISS_CNT, g), (.FAB_RG_UP_CNT, g / 4)] s (s.settlePend g x) :=
    (onlyAt_of_reg_eq (fun _ _ => rfl) rfl : OnlyAt _ s (s.setPend _ _)).trans (onlyAt_setReg _ _ (by simp))
  have hmarked (k : Nat) (ws : List KrnWindow) : OnlyAt [(.KRN_DEC_STATUS, g), (.KRN_MISS_CNT, g), (.FAB_RG_UP_CNT, g / 4)]
      (s.settlePend g x) (((s.settlePend g x).setPend k ws).free 2).2 := onlyAt_of_reg_eq (fun _ _ => rfl) rfl
  have hsent : OnlyAt [(.KRN_DEC_STATUS, g), (.KRN_MISS_CNT, g), (.FAB_RG_UP_CNT, g / 4)] s (s.missSent g x w) :=
    (hsettled.trans (hmarked _ _)).trans ((onlyAt_krnEmit _ _ _ _ _).mono (by simp))
  exact (hsent.trans (onlyAt_setReg _ _ (by simp))).trans (onlyAt_setReg _ _ (by simp))

theorem State.missCounted_dec : (s.missCounted g x w).bit .KRN_DEC_STATUS g 1 = true :=
  (State.bit_congr (State.reg_count_other _ _ _ _ _ _ (by decide))).trans (State.bit_setBit_same _ _ _ _ _ (by decide))

theorem State.missCounted_word (he : s.epochRun = true) :
    ∃ f ∈ (s.missCounted g x w).fab.words, f.slot = 16 * g + x ∧ wordValid f.word = false ∧ wordLate f.word = true := by
  let v := (s.settlePend g x).setPend (16 * g + x) [{ w with missed := true }]
  obtain ⟨f, hf, hslot, -, -, hvalid, hlate⟩ := (v.free 2).2.krnEmit_word g he x (v.free 2).1 v.now false true
  exact ⟨f, hf, hslot, hvalid, hlate⟩

end

theorem State.missCounted_count (h : tget [] s.krn.pend (16 * g + x) = [w]) :
    (s.missCounted g x w).regNat .KRN_MISS_CNT g = min 0xFFFF_FFFF (s.regNat .KRN_MISS_CNT g + 1) := by
  have hsent : (s.missSent g x w).regNat .KRN_MISS_CNT g = (s.settlePend g x).regNat .KRN_MISS_CNT g :=
    State.krnEmit_field (f := (·.regNat .KRN_MISS_CNT g))
      (fun u v => congrArg BitVec.toNat (State.reg_setReg_other _ _ _ _ _ _ (by decide))) (fun _ _ => rfl) _ _ _ _ _ _
  have hmarked : ((s.missSent g x w).setBit .KRN_DEC_STATUS g 1 true).regNat .KRN_MISS_CNT g = s.regNat .KRN_MISS_CNT g :=
    (congrArg BitVec.toNat (State.reg_setBit_other _ _ _ _ _ _ _ (by decide))).trans (hsent.trans (s.settlePend_missCount h))
  rw [State.missCounted, State.count_regNat, hmarked]

/-- The deadline of the one window pending passes unreported (R156). -/
theorem krnMissOp_misses (h : tget [] s.krn.pend (16 * g + x) = [w]) (hm : w.missed = false)
    (hd : w.at_ + s.fld .KRN_KDL (16 * g + x) 9 0 < s.ftg) :
    let t := krnMissOp g x s
    tget [] t.krn.pend (16 * g + x) = [{ w with missed := true }] ∧ t.bit .KRN_DEC_STATUS g 1 = true ∧
      t.regNat .KRN_MISS_CNT g = min 0xFFFF_FFFF (s.regNat .KRN_MISS_CNT g + 1) ∧
      (s.epochRun = true → ∃ f ∈ t.fab.words, f.slot = 16 * g + x ∧ wordValid f.word = false ∧ wordLate f.word = true) ∧
      OnlyAt [(.KRN_DEC_STATUS, g), (.KRN_MISS_CNT, g), (.FAB_RG_UP_CNT, g / 4)] s t := by
  let v := s.missCounted g x w
  have hread {β : Type} (f : State → β) (hf : f (v.raise (krnSource g)) = f v) : f (krnMissOp g x s) = f v :=
    (congrArg f (krnMissOp_of_due h hm hd)).trans (State.ite_field f hf rfl)
  have hreg (q : Reg) (j : Nat) : (krnMissOp g x s).reg q j = v.reg q j := hread (·.reg q j) (v.raise_reg _ q j)
  refine ⟨?_, (State.bit_congr (hreg _ _)).trans (s.missCounted_dec g x w),
    (congrArg BitVec.toNat (hreg _ _)).trans (State.missCounted_count h), fun he => ?_,
    (onlyAt_missCounted s g x w).trans (onlyAt_of_reg_eq hreg (hread (·.kept) (v.kept_raise _)))⟩
  · rw [hread (·.krn) (v.raise_krn _)]
    exact s.missSent_pend g x w
  · rw [hread (·.fab) (v.raise_fab _)]
    exact s.missCounted_word g x w he

end

/-! ### Hardware loops (R158) -/

/-- At the end of the loop 1 that is in its last pass the count becomes 0 and the PC leaves the body. -/
theorem State.loopRule_ends {pc : Nat} (h1 : s.fld .KRN_LC1 g 15 0 = 1) (he : s.fld .KRN_LE1 g 12 0 = pc) :
    s.loopRule g pc = ((pc + 1) % 8192, s.setReg .KRN_LC1 g 0) := by
  simp [State.loopRule, h1, he]

/-- A bundle without an A and a C instruction that ends loop 1 leaves LC1 at 0. -/
theorem State.issueBundle_endsLoop {w : BitVec 64} (hfl : (s.krn! g).flight = []) (hc : KB.cop w = 0)
    (h1 : s.fld .KRN_LC1 g 15 0 = 1) (he : s.fld .KRN_LE1 g 12 0 = s.krnPc g) :
    (s.issueBundle g w).fld .KRN_LC1 g 15 0 = 0 ∧ (s.issueBundle g w).krnPc g = (s.krnPc g + 1) % 8192 := by
  have htarget : s.cTarget g w (s.krnPc g) = none := by simp only [State.cTarget, hc]
  have hwrites : s.cWrites g w (s.krnPc g) = [] := by simp only [State.cWrites, hc]
  have hloop {q : Reg} (hq : q ∈ [Reg.KRN_LC1, .KRN_LE1]) : (s.bundleEnded g w).reg q g = s.reg q g := by
    have hcontrol : ∀ r ∈ [Reg.KRN_LC1, .KRN_LE1], r ∉ addressRegs ++ [Reg.KRN_KSTAT, .KRN_ATTN_CAUSE] ∧
        r ∉ [Reg.FAB_RG_UP_CNT, .KRN_OUTT_CNT, .KRN_DEC_STATUS, .KRN_MISS_CNT, .KRN_LATE_CNT] := by decide
    obtain ⟨haddr, heffect⟩ := hcontrol q hq
    rw [s.bundleEnded_reg_of_control g w hfl g haddr, State.cLanded, hwrites]
    exact s.bundleLanding_reg g w g heffect
  have hrule := State.loopRule_ends ((State.fld_congr (hloop (by decide))).trans h1)
    ((State.fld_congr (hloop (by decide))).trans he)
  have hmoved : s.bundleMoved g w =
      ((s.bundleEnded g w).setReg .KRN_LC1 g 0).setKrnPc g ((s.krnPc g + 1) % 8192) := by
    rw [s.bundleMoved_of_next g w htarget, hrule]
  refine ⟨?_, ?_⟩
  · rw [s.issueBundle_of_running g w (by omega), hmoved]
    exact (State.fld_setReg_other _ _ _ _ _ _ _ _ (by decide)).trans (State.fld_setReg_same _ _ _ _ _ _)
  · rw [s.issueBundle_pc, hmoved, State.setKrnPc_krnPc, Nat.mod_mod]

end

/-- Settles O29: the write of a command register reaches it over an access that changes no kernel state (`State.throughOpen_reg`),
and what each command then does is the rule of that command above. -/
theorem kernelEngineCommands : Obligations.KernelEngineCommands := by
  intro who dt g i v s p
  have hreg (a : Nat) {q : Reg} (j : Nat) (hlink : q ≠ .HIF_LINK) (hpower : q ≠ .PWR_STATE) :
      (s.throughOpen who a).reg q j = s.reg q j := s.throughOpen_reg who a j hlink hpower
  have hruns (a : Nat) : (s.throughOpen who a).krnRuns g = s.krnRuns g := State.bit_congr (hreg a _ (by decide) (by decide))
  have hkrn (a : Nat) : (s.throughOpen who a).krn = s.krn :=
    s.throughOpen_field (·.krn) (fun _ _ => rfl) (fun _ _ _ => rfl) (fun _ _ => rfl) (fun _ _ _ => rfl) State.raise_krn who a
  have hepoch (a : Nat) : (s.throughOpen who a).epochRun = s.epochRun :=
    s.throughOpen_field (·.epochRun) (fun _ _ => rfl) (fun _ _ _ => rfl) (fun _ _ => rfl) (fun _ _ _ => rfl)
      (fun u k => by simp [State.epochRun]) who a
  have hpruns : p.krnRuns g = s.krnRuns g := s.pass_bit _ _ _ _
  have hnow : p.now = s.now + dt := s.pass_now dt
  refine ⟨fun ie0 ho => ?start, fun ie0 ho hr => ?stop, fun ho => ?attn, fun hr ha hl => ?divert, fun he ha hs hf => ?inWord,
    fun ho => ?inCfg, fun x w hw hm hd => ?miss, fun w hr hfl hc ha h1 he => ?loop⟩
  case start =>
    intro u
    let y := u.setFld .KRN_CTRL g 2 2 (b2n ie0)
    have hie0 : y.fld .KRN_CTRL g 2 2 = b2n ie0 :=
      (State.fld_setFld_same _ _ _ _ _ _ (by decide)).trans (by cases ie0 <;> rfl)
    have hyruns : y.krnRuns g = s.krnRuns g := (State.bit_setFld_other _ _ _ _ _ _ _ _ _ (by decide)).trans (hruns _)
    have hyepoch : y.epochRun = s.epochRun := hepoch _
    have hinit : y.fld .KRN_PC_INIT g 12 0 = s.fld .KRN_PC_INIT g 12 0 :=
      (State.fld_setFld_other _ _ _ _ _ _ _ _ _ _ (by decide)).trans (State.fld_congr (hreg _ _ (by decide) (by decide)))
    refine completes_of_regAccess rfl ho ⟨?_, fun he hr => ?_, fun hb => ?_, ?_⟩
    · rw [krnCtrlOp_start]
      exact (State.fld_congr (krnStartOp_ctrl y g g)).trans hie0
    · have hstarts := krnStartOp_starts y g (hyepoch.trans he) (hyruns.trans hr)
      rw [hinit, hie0] at hstarts
      rwa [krnCtrlOp_start]
    · rw [krnCtrlOp_start, krnStartOp_of_busy y g (by rwa [hyepoch, hyruns])]
      exact ⟨State.krnResult_code _ _ (by decide), hkrn _,
        (onlyAt_setReg u _ (by simp)).trans ((onlyAt_krnResult y g _).mono (by simp))⟩
    · exact .of_kept ((kept_krnCtrlOp g _ _).trans (s.kept_throughOpen who _))
  case stop =>
    let y := (s.throughOpen who (regAddr .KRN_CTRL g)).setFld .KRN_CTRL g 2 2 (b2n ie0)
    have hyruns : y.krnRuns g = true := (State.bit_setFld_other _ _ _ _ _ _ _ _ _ (by decide)).trans ((hruns _).trans hr)
    have hyreg {q : Reg} (hctrl : q ≠ .KRN_CTRL) (hlink : q ≠ .HIF_LINK) (hpower : q ≠ .PWR_STATE) : y.reg q g = s.reg q g :=
      (State.reg_setFld_other _ _ _ _ _ _ _ _ hctrl).trans (hreg _ _ hlink hpower)
    obtain ⟨hhalts, hcode, herror, hpc, hhalted⟩ := krnStopOp_stops y g hyruns
    have hmem := (kept_krnCtrlOp g (BitVec.ofNat 32 (2 + 4 * b2n ie0)) _).trans (s.kept_throughOpen who (regAddr .KRN_CTRL g))
    refine completes_of_regAccess rfl ho ?_
    rw [krnCtrlOp_stop] at hmem ⊢
    exact ⟨hhalts, hcode, herror, hpc.trans (State.krnPc_congr (hyreg (by decide) (by decide) (by decide))),
      hhalted.trans (State.bit_congr (hyreg (by decide) (by decide) (by decide))), .of_kept hmem⟩
  case attn => exact completes_of_regAccess rfl ho ⟨State.krnLatch_sw _ g, onlyAt_krnLatch _ g 0⟩
  case divert =>
    obtain ⟨hipc, histat, hie, hinatt, hpc, hcc, honly⟩ :=
      divertOp_diverts (s := p) (hpruns.trans hr) ha (by rwa [State.krn!, s.pass_krn, hnow])
    exact ⟨divertOp g p, rfl, hipc.trans (s.pass_fld _ _ _ _ _), histat.trans (s.pass_fld _ _ _ _ _), hie, hinatt,
      hpc.trans (s.pass_fld _ _ _ _ _), hcc.trans (by rw [hnow]), (onlyAt_pass s dt).trans honly⟩
  case inWord =>
    have hepoch : p.epochRun = true := (s.pass_epochRun dt).trans he
    have hword := State.krnSourceWord_of_link (s := p) (v := v) ((s.pass_fld _ _ _ _ _).trans hs) hf
    have hin : p.krnIn g i = s.krnIn g i := by rw [State.krnIn, s.pass_krn]; rfl
    refine ⟨krnInWordOp g i v p, rfl, fun h => ?_, fun h => ?_⟩
    · obtain ⟨henters, honly⟩ := krnInWordOp_enters hepoch ha hword (by rwa [hin])
      exact ⟨henters.trans (by rw [hin, hnow]), (onlyAt_pass s dt).trans honly⟩
    · obtain ⟨hkept, hstatus, hcount, honly⟩ := krnInWordOp_drops hepoch ha hword (by rwa [hin])
      exact ⟨hkept.trans hin, hstatus, hcount.trans (by rw [State.regNat, s.pass_reg]; rfl), (onlyAt_pass s dt).trans honly⟩
  case inCfg =>
    intro u
    have hin : u.krnIn g i = s.krnIn g i := by rw [State.krnIn, hkrn]; rfl
    refine completes_of_regAccess rfl ho ⟨fun hbad => ?_, fun hsrc hwm hr => ?_⟩
    · rw [krnInCfgOp_refuses hbad]
      exact ⟨State.krnResult_code _ _ (by decide), hin, onlyAt_krnResult u g _⟩
    · exact krnInCfgOp_configures hsrc hwm ((hruns _).trans hr)
  case miss =>
    obtain ⟨hpend, hdec, hcount, hsent, honly⟩ := krnMissOp_misses (s := p) (g := g) (x := x) (w := w) (by rwa [s.pass_krn]) hm
      (by rwa [s.pass_fld])
    exact ⟨krnMissOp g x p, rfl, hpend, hdec, hcount.trans (by rw [State.regNat, s.pass_reg]; rfl),
      fun he => hsent ((s.pass_epochRun dt).trans he), (onlyAt_pass s dt).trans honly⟩
  case loop =>
    have hends : p.loopEnds g = true := by simp [State.loopEnds, p, h1, he, State.krnPc]
    have hissues : exec (.hardwareLoopEnd dt g) s = .next (p.issueBundle g w) := by
      refine congrArg _ ((if_pos hends).trans ?_)
      rw [State.krnIssue_of_ready hr rfl, State.unstalled_of_no_rds p g w (by omega)]
    have hmem : SameMemory s (p.issueBundle g w) := fun sp a => State.byte_congr
      (((p.issueBundle_mem g w).trans (State.aEffect_mem (by omega) (by omega) (by omega) p g)).trans (s.pass_mem dt)) sp a
    have hpc : p.krnPc g = s.krnPc g := s.pass_fld _ _ _ _ _
    obtain ⟨hcount, hnext⟩ := p.issueBundle_endsLoop (w := w) (by rwa [State.krn!, s.pass_krn]) hc ((s.pass_fld _ _ _ _ _).trans h1)
      ((s.pass_fld _ _ _ _ _).trans (he.trans hpc.symm))
    exact ⟨_, hissues, hcount, hpc ▸ hnext, (krnRegsOnly_of_reg_eq (s.pass_reg dt)).trans (krnRegsOnly_issueBundle p g w), hmem⟩

end Sys2Proof.Machine
end

-- ==== Proof of the decision fabric statement ====
section
/-!
PROOFS. The decision fabric (R186-R193, R197). A word that reaches a view (`State.putView`), the hub (`hubReadOp_waiting`) or its
phase (`State.hubSent`) changes the lists of the fabric in one update; the flags and counters that follow touch none of them. A
default is put in force or waits (`State.putDefault`, `State.waitDefault`), and FAB_VIEW_SEL shows one entry of a view
(`State.showView`).
-/

namespace Sys2Proof.Machine

section
variable {s : State}

/-- A flag set with its counter counted: the flag reads set, the counter one more. -/
theorem State.setBit_count_reads (s : State) {r q : Reg} (h : r ≠ q) (i j : Nat) {b : Nat} (hb : b < 32) :
    ((s.setBit r i b true).count q j).bit r i b = true ∧
      ((s.setBit r i b true).count q j).regNat q j = min 0xFFFF_FFFF (s.regNat q j + 1) := by
  have hcount : (s.setBit r i b true).regNat q j = s.regNat q j :=
    congrArg BitVec.toNat (s.reg_setBit_other _ _ _ _ _ _ h.symm)
  exact ⟨(State.bit_congr (State.reg_count_other _ _ _ _ _ _ h)).trans (s.bit_setBit_same _ _ _ _ hb),
    (State.count_regNat _ _ _).trans (by rw [hcount])⟩

theorem onlyAt_setBit_count {l : List (Reg × Nat)} {r q : Reg} {i j : Nat} (hr : (r, i) ∈ l) (hq : (q, j) ∈ l) (s : State)
    (b : Nat) : OnlyAt l s ((s.setBit r i b true).count q j) :=
  (onlyAt_setReg s _ hr).trans (onlyAt_setReg _ _ hq)

theorem onlyAt_onLink {l : List (Reg × Nat)} (h : (.HIF_LINK, 0) ∈ l) (s : State) (who : Requester) :
    OnlyAt l s (s.onLink who) := by
  have hsame : OnlyAt l s s := onlyAt_of_reg_eq (fun _ _ => rfl) rfl
  unfold State.onLink State.leaveL1
  split
  · split
    · exact onlyAt_setReg s _ h
    · exact hsame
  · exact hsame

/-! ### Delivery to a view (R187, R191, R192) -/

/-- The view of cluster `g` holds `w` for `slot`, delivered in the present cc. -/
def State.putView (s : State) (g slot : Nat) (w : BitVec 8) : State :=
  { s with fab := { s.fab with view := tset s.fab.view (1280 * g + slot) { word := w, cc := s.now, ftg := s.ftg } } }

theorem fabricDeliveryOp_of_arrival {g slot : Nat} {w : BitVec 8} (hw : s.arrivingWord g slot = some w) (he : s.epochRun = true)
    (ha : s.regionAwake (g / 4) = true) (hc : tfind s.fab.clearedAt g ≠ some s.now) :
    fabricDeliveryOp g slot s =
      if wordLate w then ((s.putView g slot w).setBit .FAB_CL_STATUS g 0 true).count .FAB_CL_LATE_CNT g
      else s.putView g slot w := by
  simp only [fabricDeliveryOp, hw, he, ha, if_neg hc]
  rfl

theorem fabricDeliveryOp_delivers {g slot : Nat} {w : BitVec 8} (hw : s.arrivingWord g slot = some w) (he : s.epochRun = true)
    (ha : s.regionAwake (g / 4) = true) (hc : tfind s.fab.clearedAt g ≠ some s.now) :
    let t := fabricDeliveryOp g slot s
    tfind t.fab.view (1280 * g + slot) = some { word := w, cc := s.now, ftg := s.ftg } ∧
      (wordLate w = true → t.bit .FAB_CL_STATUS g 0 = true ∧
        t.regNat .FAB_CL_LATE_CNT g = min 0xFFFF_FFFF (s.regNat .FAB_CL_LATE_CNT g + 1)) ∧
      (wordLate w = false → OnlyRegs [] s t) ∧ OnlyAt [(.FAB_CL_STATUS, g), (.FAB_CL_LATE_CNT, g)] s t := by
  intro t
  let u := s.putView g slot w
  have ht : t = _ := fabricDeliveryOp_of_arrival hw he ha hc
  have hview : t.fab = u.fab := by rw [ht]; exact u.ite_field (·.fab) rfl rfl
  have hput {l : List (Reg × Nat)} : OnlyAt l s u := onlyAt_of_reg_eq (fun _ _ => rfl) rfl
  refine ⟨by rw [hview]; exact tfind_tset_same _ _ _, ?_⟩
  cases hlate : wordLate w <;> rw [ht, hlate]
  case false => exact ⟨fun h => by contradiction, fun _ => OnlyAt.onlyRegs hput, hput⟩
  case true =>
    exact ⟨fun _ => u.setBit_count_reads (by decide) g g (by decide), fun h => by contradiction,
      hput.trans (onlyAt_setBit_count (by simp) (by simp) u 0)⟩

/-! ### The hub (R188-R190) -/

section
variable {slot : Nat} {w : BitVec 8} (hw : s.hubArrival slot = some w) (he : s.epochRun = true)
include hw he

/-- A word that the hub reads replaces the word of its slot that still waits (R189). -/
theorem hubReadOp_waiting : (hubReadOp slot s).fab.waiting =
    (s.fab.waiting.filter fun p => !(p.slot == slot && decide (s.now < p.c))) ++
      [{ slot, word := w, h := s.now, c := s.now + hubWait slot s.ftg }] := by
  simp only [hubReadOp, hw, he, Bool.not_true, Bool.false_eq_true, if_false]
  split <;> rfl

/-- It is shown in FAB_SLOT, and beside that only the flag and the count of a replaced word can change (R196). -/
theorem onlyAt_hubReadOp : OnlyAt [(.FAB_STATUS, 0), (.FAB_OVWR_CNT, 0)]
    (s.setReg .FAB_SLOT slot (BitVec.ofNat 32 (w.toNat + 256))) (hubReadOp slot s) := by
  simp only [hubReadOp, hw, he, Bool.not_true, Bool.false_eq_true, if_false]
  split
  · exact (onlyAt_of_reg_eq (fun _ _ => rfl) rfl).trans (onlyAt_setBit_count (by simp) (by simp) _ 1)
  · exact onlyAt_of_reg_eq (fun _ _ => rfl) rfl

theorem hubReadOp_holds :
    let t := hubReadOp slot s
    t.regNat .FAB_SLOT slot = w.toNat + 256 ∧
      ({ slot, word := w, h := s.now, c := s.now + hubWait slot s.ftg } : HubWord) ∈ t.fab.waiting ∧
      OnlyAt [(.FAB_SLOT, slot), (.FAB_STATUS, 0), (.FAB_OVWR_CNT, 0)] s t := by
  have honly := onlyAt_hubReadOp hw he
  refine ⟨?_, ?_, (onlyAt_setReg s _ (by simp)).trans (honly.mono (by simp))⟩
  · rw [State.regNat, honly.1 _ _ (by simp), State.reg_setReg_same, BitVec.toNat_ofNat]
    omega
  · rw [hubReadOp_waiting hw he]
    exact List.mem_append_right _ (List.mem_singleton_self _)

end

/-- The due word `w` of `slot` leaves on the legs that are locked and is counted. -/
def State.hubSent (s : State) (slot : Nat) (w : HubWord) : State :=
  let legs := s.downlegs slot (·.locked) true
  let sent : SentWord := { slot, word := w.word, c := s.now, legs := BitVec.ofNat 64 legs
                           loose := BitVec.ofNat 64 (s.downlegs slot (·.faulted) false) }
  let s' := { s with fab := { s.fab with
    waiting := s.fab.waiting.filter fun (p : HubWord) => !(p.slot == slot && decide (p.c ≤ s.now))
    sent := (s.fab.sent.filter fun (p : SentWord) => decide (s.now ≤ p.c + 32)) ++ [sent] } }
  s'.countWrap .FAB_BCAST_CNT

/-- After the word has left, the send counts the regions that it goes down to and flags and counts LATE, nothing else. -/
theorem hubSendOp_field {β : Type} {f : State → β} (hdown : ∀ s n v, f (State.setReg s .FAB_RG_DOWN_CNT n v) = f s)
    (hlate : ∀ s v, f (State.setReg s .FAB_LATE_CNT 0 v) = f s) (hstatus : ∀ s v, f (State.setReg s .FAB_STATUS 0 v) = f s)
    (hraise : ∀ s k, f (State.raise s k) = f s) {slot : Nat} {w : HubWord}
    (hw : s.fab.waiting.find? (fun p => p.slot == slot && decide (p.c ≤ s.now)) = some w) (he : s.epochRun = true) :
    f (hubSendOp slot s) = f (s.hubSent slot w) := by
  simp only [hubSendOp, hw, he, Bool.not_true, Bool.false_eq_true, if_false]
  exact (State.ite_field f (State.ite_field f ((hraise _ _).trans ((hstatus _ _).trans (hlate _ _))) (hlate _ _)) rfl).trans
    (State.forEach_field _ _ (s.hubSent slot w) f fun _ _ => hdown _ _ _)

theorem State.hubSent_count (slot : Nat) (w : HubWord) :
    (s.hubSent slot w).regNat .FAB_BCAST_CNT = (s.regNat .FAB_BCAST_CNT + 1) % 2 ^ 32 := by
  rw [State.regNat, State.hubSent, State.countWrap, State.reg_setReg_same, BitVec.toNat_ofNat]
  rfl

theorem hubSendOp_sends {slot : Nat} {w : HubWord}
    (hw : s.fab.waiting.find? (fun p => p.slot == slot && decide (p.c ≤ s.now)) = some w) (he : s.epochRun = true) :
    let t := hubSendOp slot s
    (∃ q ∈ t.fab.sent, q.slot = slot ∧ q.word = w.word ∧ q.c = s.now) ∧
      (∀ q ∈ t.fab.waiting, ¬(q.slot = slot ∧ q.c ≤ s.now)) ∧
      t.regNat .FAB_BCAST_CNT = (s.regNat .FAB_BCAST_CNT + 1) % 2 ^ 32 ∧
      OnlyRegs [.FAB_BCAST_CNT, .FAB_RG_DOWN_CNT, .FAB_LATE_CNT, .FAB_STATUS] s t := by
  intro t
  have hfab : t.fab = (s.hubSent slot w).fab :=
    hubSendOp_field (f := (·.fab)) (fun _ _ _ => rfl) (fun _ _ => rfl) (fun _ _ => rfl) State.raise_fab hw he
  have hreg {q : Reg} (j : Nat) (hq : q ∉ [Reg.FAB_RG_DOWN_CNT, .FAB_LATE_CNT, .FAB_STATUS]) :
      t.reg q j = (s.hubSent slot w).reg q j := by
    obtain ⟨hdown, hlate, hstatus⟩ : q ≠ .FAB_RG_DOWN_CNT ∧ q ≠ .FAB_LATE_CNT ∧ q ≠ .FAB_STATUS := by simpa using hq
    exact hubSendOp_field (f := (·.reg q j)) (fun u _ _ => u.reg_setReg_other _ _ _ _ _ hdown)
      (fun u _ => u.reg_setReg_other _ _ _ _ _ hlate) (fun u _ => u.reg_setReg_other _ _ _ _ _ hstatus)
      (fun u k => u.raise_reg k q j) hw he
  refine ⟨?_, fun q hq => ?_, ?_, fun q j hq => ?_, .of_kept (kept_hubSendOp slot s)⟩
  · rw [hfab]
    exact ⟨_, List.mem_append_right _ (List.mem_singleton_self _), rfl, rfl, rfl⟩
  · rw [hfab] at hq
    have hleft := (List.mem_filter.1 hq).2
    rintro ⟨hslot, hdue⟩
    simp [hslot, hdue] at hleft
  · exact (congrArg BitVec.toNat (hreg 0 (by decide))).trans (State.hubSent_count slot w)
  · obtain ⟨hcast, hrest⟩ : q ≠ .FAB_BCAST_CNT ∧ q ∉ [Reg.FAB_RG_DOWN_CNT, .FAB_LATE_CNT, .FAB_STATUS] := by
      simpa using hq
    exact (hreg j hrest).trans (State.reg_countWrap_other _ _ _ _ _ _ hcast)

/-! ### Defaults (R193) -/

theorem State.dfltWord_congr {t : State} {j : Nat} (hfab : t.fab = s.fab) (hnow : t.now = s.now)
    (hact : t.reg .FAB_DFLT_ACT j = s.reg .FAB_DFLT_ACT j) : t.dfltWord j = s.dfltWord j := by
  simp only [State.dfltWord, hfab, hnow, hact]

theorem State.putDefault_dfltWord (s : State) (j : Nat) (v : Word) : (s.putDefault j v).dfltWord j = s.dfltWord j := by
  have hold : tfind (s.putDefault j v).fab.dfltOld j = some (s.now, s.dfltWord j) := tfind_tset_same _ _ _
  rw [State.dfltWord, hold]
  exact if_pos rfl

theorem State.putDefault_pass_dfltWord (s : State) (j : Nat) (v : Word) : ((s.putDefault j v).pass 1).dfltWord j = v := by
  have hold : tfind ((s.putDefault j v).pass 1).fab.dfltOld j = some (s.now, s.dfltWord j) := by
    rw [State.pass_fab]
    exact tfind_tset_same _ _ _
  have hlater : s.now ≠ ((s.putDefault j v).pass 1).now := by
    rw [State.pass_now]
    exact Nat.ne_of_lt (Nat.lt_succ_self s.now)
  rw [State.dfltWord, hold]
  exact (if_neg hlater).trans ((State.pass_reg _ _ _ _).trans (State.reg_setReg_same _ _ _ _))

/-- Before the first epoch a default is stored and in force from the next cc. -/
theorem fabDfltOp_applies (he : s.epochRun = false) (j : Nat) (v : Word) :
    let t := fabDfltOp j v s
    t.reg .FAB_DFLT j = v ∧ (t.pass 1).dfltWord j = v ∧ t.dfltWord j = s.dfltWord j ∧
      OnlyAt [(.FAB_DFLT, j), (.FAB_DFLT_ACT, j)] s t := by
  have hop : fabDfltOp j v s = (s.setReg .FAB_DFLT j v).putDefault j v := by
    rw [fabDfltOp]
    exact if_pos (by rw [State.epochRun, State.setReg_clap, ← State.epochRun, he]; rfl)
  have hstored : OnlyAt [(.FAB_DFLT, j), (.FAB_DFLT_ACT, j)] s (s.setReg .FAB_DFLT j v) := onlyAt_setReg s v (by simp)
  have hput : OnlyAt [(.FAB_DFLT, j), (.FAB_DFLT_ACT, j)] (s.setReg .FAB_DFLT j v) ((s.setReg .FAB_DFLT j v).putDefault j v) :=
    (onlyAt_of_reg_eq (fun _ _ => rfl) rfl).trans (onlyAt_setReg _ v (by simp))
  rw [hop]
  exact ⟨(State.reg_setReg_other _ _ _ _ _ _ (by decide)).trans (State.reg_setReg_same s .FAB_DFLT j v),
    State.putDefault_pass_dfltWord _ j v, (State.putDefault_dfltWord _ j v).trans
    (State.dfltWord_congr rfl rfl (s.reg_setReg_other _ _ _ _ _ (by decide))), hstored.trans hput⟩

/-- The default waits for the next check; an earlier one of the register that still waits is dropped. -/
def State.waitDefault (s : State) (j : Nat) (v : Word) : State :=
  { s with fab := { s.fab with dflt := (s.fab.dflt.filter fun p => p.1 != j || p.2.2 == s.now) ++ [(j, v, s.now)] } }

/-- During an epoch a default is stored and waits, with DFLT_PEND set. -/
theorem fabDfltOp_waits (he : s.epochRun = true) (j : Nat) (v : Word) :
    let t := fabDfltOp j v s
    t.reg .FAB_DFLT j = v ∧ t.dfltWord j = s.dfltWord j ∧ t.bit .FAB_STATUS 0 0 = true ∧ (j, v, s.now) ∈ t.fab.dflt ∧
      OnlyAt [(.FAB_DFLT, j), (.FAB_STATUS, 0)] s t := by
  have hop : fabDfltOp j v s = ((s.setReg .FAB_DFLT j v).waitDefault j v).setBit .FAB_STATUS 0 0 true := by
    rw [fabDfltOp]
    exact if_neg (by rw [State.epochRun, State.setReg_clap, ← State.epochRun, he]; decide)
  have hact : (((s.setReg .FAB_DFLT j v).waitDefault j v).setBit .FAB_STATUS 0 0 true).reg .FAB_DFLT_ACT j =
      s.reg .FAB_DFLT_ACT j :=
    (State.reg_setBit_other _ _ _ _ _ _ _ (by decide)).trans (s.reg_setReg_other _ _ _ _ v (by decide))
  rw [hop]
  exact ⟨(State.reg_setBit_other _ _ _ _ _ _ _ (by decide)).trans (s.reg_setReg_same .FAB_DFLT j v),
    by simp only [State.dfltWord, hact]; rfl, State.bit_setBit_same _ _ _ _ _ (by decide),
    List.mem_append_right _ (List.mem_singleton_self _),
    (onlyAt_setReg s v (by simp)).trans ((onlyAt_of_reg_eq (fun _ _ => rfl) rfl).trans (onlyAt_setReg _ _ (by simp)))⟩

/-! ### The selected view (R197) -/

/-- FAB_VIEW_SEL selects `slot`, and the view registers show the entry `e`, or 0 without one. -/
def State.showView (s : State) (g slot : Nat) (e : Option ViewEntry) : State :=
  ((s.setReg .FAB_VIEW_SEL g (BitVec.ofNat 32 slot)).setReg .FAB_VIEW_WORD g
    (BitVec.ofNat 32 (e.elim 0 (·.word.toNat + 256)))).setPair .FAB_VIEW_FTG_LO .FAB_VIEW_FTG_HI g (e.elim 0 (·.ftg))

theorem fabViewOp_eq (s : State) (g : Nat) (v : Word) : fabViewOp g v s =
    s.showView g (bits v 10 0) (if bits v 10 0 < 1280 then tfind s.fab.view (1280 * g + bits v 10 0) else none) := by
  simp only [fabViewOp, State.setReg_fab]
  split
  next e h => rw [h]; rfl
  next h => rw [h]; rfl

theorem bits_selected (v : Word) : bits (BitVec.ofNat 32 (bits v 10 0)) 10 0 = bits v 10 0 := by
  simp only [bits, BitVec.toNat_ofNat]
  omega

theorem State.showView_sel (s : State) (g slot : Nat) (e : Option ViewEntry) :
    (s.showView g slot e).reg .FAB_VIEW_SEL g = BitVec.ofNat 32 slot :=
  (State.reg_setPair_other _ _ _ _ _ _ _ (by decide) (by decide)).trans
    ((State.reg_setReg_other _ _ _ _ _ _ (by decide)).trans (s.reg_setReg_same _ _ _))

theorem State.showView_word (s : State) (g slot : Nat) (e : Option ViewEntry) :
    (s.showView g slot e).reg .FAB_VIEW_WORD g = BitVec.ofNat 32 (e.elim 0 (·.word.toNat + 256)) :=
  (State.reg_setPair_other _ _ _ _ _ _ _ (by decide) (by decide)).trans (State.reg_setReg_same _ _ _ _)

theorem State.showView_ftg (s : State) (g slot : Nat) (e : Option ViewEntry) :
    (s.showView g slot e).pair .FAB_VIEW_FTG_LO .FAB_VIEW_FTG_HI g = e.elim 0 (·.ftg) % 2 ^ 64 :=
  State.pair_setPair _ (by decide) _ _

theorem onlyAt_showView (s : State) (g slot : Nat) (e : Option ViewEntry) :
    OnlyAt [(.FAB_VIEW_SEL, g), (.FAB_VIEW_WORD, g), (.FAB_VIEW_FTG_LO, g), (.FAB_VIEW_FTG_HI, g)] s (s.showView g slot e) :=
  ((onlyAt_setReg s _ (by simp)).trans (onlyAt_setReg _ _ (by simp))).trans (onlyAt_setPair _ _ (by simp) (by simp))

theorem fabViewOp_shows (s : State) (g : Nat) (v : Word) :
    let t := fabViewOp g v s
    t.fld .FAB_VIEW_SEL g 10 0 = bits v 10 0 ∧
      (∀ x, bits v 10 0 < 1280 → tfind s.fab.view (1280 * g + bits v 10 0) = some x →
        t.regNat .FAB_VIEW_WORD g = x.word.toNat + 256 ∧ t.pair .FAB_VIEW_FTG_LO .FAB_VIEW_FTG_HI g = x.ftg % 2 ^ 64) ∧
      (1280 ≤ bits v 10 0 → t.regNat .FAB_VIEW_WORD g = 0) ∧
      OnlyAt [(.FAB_VIEW_SEL, g), (.FAB_VIEW_WORD, g), (.FAB_VIEW_FTG_LO, g), (.FAB_VIEW_FTG_HI, g)] s t := by
  rw [fabViewOp_eq]
  refine ⟨?_, fun x hslot hx => ?_, fun hslot => ?_, onlyAt_showView _ _ _ _⟩
  · rw [State.fld, State.showView_sel]
    exact bits_selected v
  · rw [if_pos hslot, hx, State.regNat, State.showView_word, BitVec.toNat_ofNat]
    exact ⟨Nat.mod_eq_of_lt (by simp only [Option.elim_some]; omega), State.showView_ftg _ _ _ _⟩
  · rw [if_neg (Nat.not_lt.2 hslot), State.regNat, State.showView_word]
    rfl

end

/-- Settles O25: the events act on the state once their cc have passed, with the fabric and every register as before; the writes of
a default act past the link, which changes no default in force, and FAB_VIEW_SEL acts past its access. -/
theorem fabricWordsTravel : Obligations.FabricWordsTravel := by
  intro who dt g slot v s p
  have hnow : p.now = s.now + dt := s.pass_now dt
  have hcount (r : Reg) (i : Nat) : p.regNat r i = s.regNat r i := congrArg BitVec.toNat (s.pass_reg dt r i)
  have hpast {l : List (Reg × Nat)} : OnlyAt l s p := onlyAt_pass s dt
  have hepoch (he : s.epochRun = true) : p.epochRun = true := (s.pass_epochRun dt).trans he
  have hub (j : Fin 80) : regAddr .FAB_DFLT j < 0x0800_0000 := by
    revert j
    decide
  have hdflt (j : Nat) : (s.onLink who).dfltWord j = s.dfltWord j :=
    State.dfltWord_congr (s.onLink_field (·.fab) (fun _ _ => rfl) who) (s.onLink_now who) (s.onLink_reg who _ j (by decide))
  have hrun : (s.onLink who).epochRun = s.epochRun := congrArg (·.epoch.isSome) (s.onLink_clap who)
  refine ⟨fun w hw he ha hc => ?delivery, fun w hw he => ?read, fun w hw he => ?send, fun j ho he => ?applies,
    fun j ho he => ?waits, fun ho => ?view⟩
  case delivery =>
    obtain ⟨hview, hlate, hkept, honly⟩ := fabricDeliveryOp_delivers hw (hepoch he) ha (by rwa [s.pass_fab, hnow])
    rw [hnow] at hview
    rw [hcount] at hlate
    exact ⟨_, rfl, hview, hlate, fun h => hpast.onlyRegs.trans (hkept h), hpast.trans honly⟩
  case read =>
    obtain ⟨hslot, hwaits, honly⟩ := hubReadOp_holds hw (hepoch he)
    exact ⟨_, rfl, hslot, ⟨_, hwaits, rfl, rfl, hnow, congrArg (· + _) hnow⟩, hpast.trans honly⟩
  case send =>
    obtain ⟨hsent, hleft, hcast, honly⟩ := hubSendOp_sends hw (hepoch he)
    rw [hnow] at hsent hleft
    exact ⟨_, rfl, hsent, hleft, hcast.trans (by rw [hcount]), hpast.onlyRegs.trans honly⟩
  case applies =>
    obtain ⟨hstored, hnext, hkept, honly⟩ := fabDfltOp_applies (hrun.trans he) j v
    exact completes_of_hubWrite rfl ho (hub j) ⟨hstored, hnext, hkept.trans (hdflt j),
      (onlyAt_onLink (by simp) s who).trans (honly.mono (by simp))⟩
  case waits =>
    obtain ⟨hstored, hkept, hpend, hwaits, honly⟩ := fabDfltOp_waits (hrun.trans he) j v
    rw [s.onLink_now] at hwaits
    exact completes_of_hubWrite rfl ho (hub j) ⟨hstored, hkept.trans (hdflt j), hpend, hwaits,
      (onlyAt_onLink (by simp) s who).trans (honly.mono (by simp))⟩
  case view => exact completes_of_regAccess rfl ho (fabViewOp_shows _ g v)

end Sys2Proof.Machine
end

-- ==== Take engines: what their operations store ====
section
/-!
PROOFS. The operations that the take engines of the regions share (R202, R210-R217, R224): the engine stored beside its registers,
the fields of TK_STATUS, RING_FULL, the return to rest, and the event and the timestamp that a trigger sends.
-/

namespace Sys2Proof.Machine

/-! ### Registers that an effect stores -/

/-- A field that takes the value stored reads it. -/
theorem State.fld_setFld_of_lt (s : State) (r : Reg) (i hi lo : Nat) {v : Nat} (hhi : hi < 32) (hv : v < 2 ^ (hi + 1 - lo)) :
    (s.setFld r i hi lo v).fld r i hi lo = v := (s.fld_setFld_same r i hi lo v hhi).trans (Nat.mod_eq_of_lt hv)

theorem State.regNat_congr {s t : State} {r : Reg} {i : Nat} (h : t.reg r i = s.reg r i) : t.regNat r i = s.regNat r i :=
  congrArg BitVec.toNat h

theorem State.countWrap_regNat (s : State) (r : Reg) (i : Nat) :
    (s.countWrap r i).regNat r i = (s.regNat r i + 1) % 2 ^ 32 := by
  rw [State.regNat, State.countWrap, State.reg_setReg_same, BitVec.toNat_ofNat]

theorem OnlyAt.onlyRegs_fst {l : List (Reg × Nat)} {s t : State} (h : OnlyAt l s t) : OnlyRegs (l.map Prod.fst) s t :=
  ⟨fun q j hq => h.1 q j fun hm => hq (List.mem_map_of_mem hm), h.2⟩

theorem onlyRegs_of_reg_eq {rs : List Reg} {s t : State} (hr : ∀ q j, t.reg q j = s.reg q j) (hk : t.kept = s.kept) :
    OnlyRegs rs s t := (onlyAt_of_reg_eq hr hk).onlyRegs

/-- The lowest of codes below a bound lies below it. -/
theorem lowestCode_lt {cs : List (Bool × Nat)} {m c : Nat} (h : ∀ x ∈ cs, x.2 < m) (hc : lowestCode cs = some c) : c < m := by
  have hall : ∀ y ∈ lowestCode cs, y < m := by
    unfold lowestCode
    refine List.foldlRecOn (motive := fun o => ∀ y ∈ o, y < m) _ _ (by simp) fun o ho x hx => ?_
    have hxm : x.2 < m := h x (List.mem_of_mem_filter hx)
    cases o with
    | none => simpa using hxm
    | some z => exact fun y hy => Option.some.inj hy ▸ (Nat.min_le_right _ _).trans_lt hxm
  exact hall c hc

/-- Registers are stored 0. -/
def State.zeroed (s : State) (rs : List Reg) (i : Nat) : State := State.forEach rs (fun r s => s.setReg r i 0) s

theorem State.zeroed_reg {rs : List Reg} {q : Reg} (h : q ∈ rs) (s : State) (i : Nat) : (s.zeroed rs i).reg q i = 0 := by
  refine State.forEach_of_mem (P := fun u => u.reg q i = 0) h (fun u => u.reg_setReg_same q i 0) (fun r u hu => ?_) s
  rw [State.reg_setReg, hu, ite_self]

theorem State.zeroed_field {β : Type} (f : State → β) (h : ∀ s r i w, f (State.setReg s r i w) = f s) (s : State) (rs : List Reg)
    (i : Nat) : f (s.zeroed rs i) = f s := State.forEach_field _ _ s f fun _ _ => h _ _ _ _

theorem onlyRegs_zeroed (s : State) (rs : List Reg) (i : Nat) : OnlyRegs rs s (s.zeroed rs i) := by
  induction rs generalizing s with
  | nil => exact .refl [] s
  | cons r rs ih =>
    exact (onlyRegs_setReg List.mem_cons_self s i 0).trans ((ih (s.setReg r i 0)).mono (List.subset_cons_self r rs))

/-! ### Events and timestamps that leave an engine (R206, R224, R264) -/

theorem State.emitEvent_take (s : State) (i : Island) (c cc lin : Nat) : (s.emitEvent i c cc lin).take = s.take := by
  simp only [State.emitEvent]
  split
  · rfl
  · split
    · unfold State.flagLoop
      split <;> rfl
    · split <;> rfl

/-- What neither the links nor the timestamps under way to the system terms change, a timestamp leaves as it was. -/
theorem State.sysStamp_field {β : Type} (f : State → β) (hlink : ∀ s l x, f (State.setLink s l x) = f s)
    (hsys : ∀ s x, f (State.setSys s x) = f s) (s : State) (kind index ts at_ : Nat) (link : Bool) :
    f (s.sysStamp kind index ts at_ link) = f s := by
  have hsent (u : State) : f (u.linkStamp kind index ts at_) = f u :=
    State.forEach_field _ _ u f fun _ u => State.forEach_field _ _ u f fun _ _ => hlink _ _ _
  obtain ⟨x, hx⟩ : ∃ x, s.sysStamp kind index ts at_ link =
      if link then s.setSys x else (s.setSys x).linkStamp kind index ts at_ := ⟨_, rfl⟩
  rw [hx]
  exact State.ite_field f (hsys s x) ((hsent _).trans (hsys s x))

theorem onlyRegs_sysStamp (s : State) (kind index ts at_ : Nat) (link : Bool) :
    OnlyRegs [] s (s.sysStamp kind index ts at_ link) :=
  onlyRegs_of_reg_eq (fun q j => State.sysStamp_field (·.reg q j) (fun _ _ _ => rfl) (fun _ _ => rfl) s _ _ _ _ _)
    (s.kept_sysStamp _ _ _ _ _)

/-! ### The engine beside its registers -/

section
variable (s : State) (n : Nat)

theorem State.takeEngine_congr {s t : State} (h : t.take = s.take) (n : Nat) : t.takeEngine n = s.takeEngine n := by
  simp [State.takeEngine, h]

@[simp] theorem State.setTake_takeEngine (x : TakeEngine) : (s.setTake n x).takeEngine n = x := tget_tset_same _ _ _ _

@[simp] theorem State.setTake_tkState (x : TakeEngine) : (s.setTake n x).tkState n = s.tkState n := rfl

@[simp] theorem State.pass_takeEngine (dt : Nat) : (s.pass dt).takeEngine n = s.takeEngine n := by simp [State.takeEngine]

@[simp] theorem State.pass_tkState (dt : Nat) : (s.pass dt).tkState n = s.tkState n := s.pass_fld dt _ _ _ _

theorem onlyRegs_setTake {rs : List Reg} (x : TakeEngine) : OnlyRegs rs s (s.setTake n x) :=
  onlyRegs_of_reg_eq (fun _ _ => rfl) rfl

/-! ### TK_STATUS (R214, R224) -/

theorem State.tkState_congr {s t : State} {n : Nat} (h : t.reg .TK_STATUS n = s.reg .TK_STATUS n) :
    t.tkState n = s.tkState n := State.fld_congr h

theorem State.setTkState_tkState {st : Nat} (h : st < 4) : (s.setTkState n st).tkState n = st :=
  s.fld_setFld_of_lt _ _ _ _ (by decide) h

@[simp] theorem State.setTkState_takeEngine (st : Nat) : (s.setTkState n st).takeEngine n = s.takeEngine n := rfl

theorem State.setTkStatusBit_tkState {b : Nat} (h : 2 ≤ b) (v : Bool) : (s.setBit .TK_STATUS n b v).tkState n = s.tkState n :=
  s.fld_setBit_apart _ _ _ _ _ _ (by decide) (.inl (by omega))

theorem State.tkResult_code {code : Nat} (h : code < 2 ^ 8) : (s.tkResult n code).fld .TK_STATUS n 15 8 = code :=
  s.fld_setFld_of_lt _ _ _ _ (by decide) h

@[simp] theorem State.tkResult_tkState (code : Nat) : (s.tkResult n code).tkState n = s.tkState n :=
  s.fld_setFld_apart _ _ _ _ _ _ _ (by decide) (by decide)

@[simp] theorem State.tkResult_takeEngine (code : Nat) : (s.tkResult n code).takeEngine n = s.takeEngine n := rfl

theorem onlyAt_tkResult {l : List (Reg × Nat)} (h : (.TK_STATUS, n) ∈ l) (code : Nat) : OnlyAt l s (s.tkResult n code) :=
  onlyAt_setReg s _ h

/-! ### RING_FULL (R217) -/

/-- RING_FULL is stored; beside it at most the account of the full cc changes. -/
theorem State.settleRing_cases (at_ : Nat) :
    let u := s.setBit .TK_STATUS n 2 (s.ringFull n)
    s.settleRing n at_ = u ∨
      ∃ full dead, s.settleRing n at_ = u.setTake n { s.takeEngine n with fullFrom := full, deadFull := dead } := by
  simp only [State.settleRing]
  split
  · exact .inr ⟨_, _, rfl⟩
  · exact .inr ⟨_, _, rfl⟩
  · exact .inl rfl

theorem State.settleRing_reg (at_ : Nat) (q : Reg) (j : Nat) :
    (s.settleRing n at_).reg q j = (s.setBit .TK_STATUS n 2 (s.ringFull n)).reg q j := by
  obtain h | ⟨full, dead, h⟩ := s.settleRing_cases n at_ <;> rw [h]
  rfl

theorem onlyAt_settleRing {l : List (Reg × Nat)} (h : (.TK_STATUS, n) ∈ l) (at_ : Nat) : OnlyAt l s (s.settleRing n at_) :=
  ⟨fun q j hq => (s.settleRing_reg n at_ q j).trans ((onlyAt_setReg s _ h).1 q j hq), .of_kept (s.kept_settleRing n at_)⟩

@[simp] theorem State.settleRing_tkState (at_ : Nat) : (s.settleRing n at_).tkState n = s.tkState n :=
  (State.tkState_congr (s.settleRing_reg n at_ _ _)).trans (s.setTkStatusBit_tkState n (by decide) _)

theorem State.settleRing_takeEngine (at_ : Nat) : ∃ full dead,
    (s.settleRing n at_).takeEngine n = { s.takeEngine n with fullFrom := full, deadFull := dead } := by
  obtain h | ⟨full, dead, h⟩ := s.settleRing_cases n at_
  · exact ⟨_, _, congrArg (·.takeEngine n) h⟩
  · exact ⟨full, dead, by rw [h, State.setTake_takeEngine]⟩

/-! ### The return to rest (R212, R214) -/

/-- The counts of output samples are stored up to the present cc. -/
def State.countReds : State :=
  State.forEach (List.range 16) (fun i s => s.setReg .TK_RED_CNT (16 * n + i) (BitVec.ofNat 32 (s.redCount n i))) s

theorem State.settleReds_eq : s.settleReds n =
    (s.countReds n).setTake n { (s.countReds n).takeEngine n with redFrom := (s.countReds n).ftg } := rfl

theorem onlyRegs_settleReds : OnlyRegs [.TK_RED_CNT] s (s.settleReds n) :=
  (onlyRegs_forEach (fun _ u => onlyRegs_setReg (by decide) u _ _) _ s).trans (onlyRegs_setTake _ _ _)

theorem State.settleReds_takeEngine : (s.settleReds n).takeEngine n = { s.takeEngine n with redFrom := s.ftg } := by
  have hengine : (s.countReds n).takeEngine n = s.takeEngine n := State.forEach_field _ _ s (·.takeEngine n) fun _ _ => rfl
  have hftg : (s.countReds n).ftg = s.ftg := State.forEach_field _ _ s (·.ftg) fun _ _ => rfl
  rw [State.settleReds_eq, State.setTake_takeEngine, hengine, hftg]

/-- The output words of the region's kernels are forgotten (R157). -/
def State.forgetOutt : State :=
  State.forEach (List.range 4) (fun c s => { s with krn := { s.krn with outt := tdel s.krn.outt (4 * n + c) } }) s

theorem State.forgetOutt_field {β : Type} (f : State → β) (h : ∀ s k, f { s with krn := k } = f s) :
    f (s.forgetOutt n) = f s := State.forEach_field _ _ s f fun _ _ => h _ _

theorem onlyRegs_forgetOutt {rs : List Reg} : OnlyRegs rs s (s.forgetOutt n) :=
  onlyRegs_of_reg_eq (fun q j => s.forgetOutt_field n (·.reg q j) fun _ _ => rfl) (s.forgetOutt_field n (·.kept) fun _ _ => rfl)

theorem State.tkRest_eq (st : Nat) :
    let u := (s.settleReds n).setTkState n st
    s.tkRest n st = (u.setTake n { u.takeEngine n with disarming := false, forces := [] }).forgetOutt n := rfl

theorem onlyRegs_tkRest (st : Nat) : OnlyRegs [.TK_STATUS, .TK_RED_CNT] s (s.tkRest n st) := by
  have hreds : OnlyRegs [.TK_STATUS, .TK_RED_CNT] s (s.settleReds n) := (onlyRegs_settleReds s n).mono (by decide)
  exact hreds.trans ((onlyRegs_setReg (by decide) _ _ _).trans ((onlyRegs_setTake _ _ _).trans (onlyRegs_forgetOutt _ n)))

theorem State.tkRest_tkState {st : Nat} (h : st < 4) : (s.tkRest n st).tkState n = st := by
  rw [s.tkRest_eq n st, State.forgetOutt_field _ n (·.tkState n) fun _ _ => rfl, State.setTake_tkState,
    State.setTkState_tkState _ n h]

theorem State.tkRest_takeEngine (st : Nat) :
    (s.tkRest n st).takeEngine n = { s.takeEngine n with redFrom := s.ftg, disarming := false, forces := [] } := by
  rw [s.tkRest_eq n st, State.forgetOutt_field _ n (·.takeEngine n) fun _ _ => rfl, State.setTake_takeEngine,
    State.setTkState_takeEngine, s.settleReds_takeEngine n]

end

end Sys2Proof.Machine
end

-- ==== Proof of the take engines statement ====
section
/-!
PROOFS. The take engines of the regions (R203, R204, R214-R217). TK_ARM, TK_DISARM, TK_FORCE and TK_RD act on the state that the
access leaves (`State.throughOpen`), the trigger and the end of a span once their cc have passed. What each does is said once, of
the state that it acts on.
-/

namespace Sys2Proof.Machine

section
variable {s : State} {n : Nat}

/-! ### Arming (R204, R214, R215) -/

/-- The counters of the ring restart, and the counts of the mask tests. -/
def State.clearRing (s : State) (n : Nat) : State :=
  State.forEach (List.range 4) (fun i s => s.setReg .TK_MASK_CNT (4 * n + i) 0) (s.zeroed [.TK_TRIG, .TK_WR, .TK_RD, .TK_MISSED] n)

theorem State.clearRing_counter (s : State) (n : Nat) {q : Reg} (h : q ∈ [Reg.TK_TRIG, .TK_WR, .TK_RD, .TK_MISSED]) :
    (s.clearRing n).reg q n = 0 := by
  have hmask : q ∉ [Reg.TK_MASK_CNT] := by revert h; revert q; decide
  exact ((onlyRegs_forEach (fun _ u => onlyRegs_setReg (List.mem_singleton_self _) u _ _) _ _).1 q n hmask).trans
    (s.zeroed_reg h n)

theorem onlyRegs_clearRing (s : State) (n : Nat) :
    OnlyRegs [.TK_TRIG, .TK_WR, .TK_RD, .TK_MISSED, .TK_MASK_CNT] s (s.clearRing n) :=
  ((onlyRegs_zeroed s _ n).mono (by decide)).trans (onlyRegs_forEach (fun _ u => onlyRegs_setReg (by decide) u _ _) _ _)

theorem State.clearRing_takeEngine (s : State) (n : Nat) : (s.clearRing n).takeEngine n = s.takeEngine n := by
  let counters := s.zeroed [.TK_TRIG, .TK_WR, .TK_RD, .TK_MISSED] n
  calc (s.clearRing n).takeEngine n
      = counters.takeEngine n := State.forEach_field _ _ _ (·.takeEngine n) fun _ _ => rfl
    _ = s.takeEngine n := s.zeroed_field (·.takeEngine n) (fun _ _ _ _ => rfl) _ n

/-- LAG, TLEN and NSLOT of the arm are stored. -/
def State.sizeRing (s : State) (n lag tlen : Nat) : State :=
  let u := (s.setReg .TK_LAG n (BitVec.ofNat 32 lag)).setPair .TK_TLEN_LO .TK_TLEN_HI n tlen
  u.setReg .TK_NSLOT n (BitVec.ofNat 32 (u.fld .TK_RING_SIZE n 26 0 * 65536 / tlen))

theorem onlyRegs_sizeRing (s : State) (n lag tlen : Nat) :
    OnlyRegs [.TK_LAG, .TK_TLEN_LO, .TK_TLEN_HI, .TK_NSLOT] s (s.sizeRing n lag tlen) :=
  ((onlyRegs_setReg (by decide) s _ _).trans (onlyRegs_setPair (by decide) (by decide) _ _ _)).trans
    (onlyRegs_setReg (by decide) _ _ _)

theorem State.sizeRing_takeEngine (s : State) (n lag tlen : Nat) : (s.sizeRing n lag tlen).takeEngine n = s.takeEngine n := rfl

theorem State.sizeRing_lag (s : State) (n lag tlen : Nat) :
    (s.sizeRing n lag tlen).reg .TK_LAG n = BitVec.ofNat 32 lag := by
  simp [State.sizeRing]

theorem tkArmOp_of_armed (h : s.tkState n = 1 ∨ s.tkState n = 2) :
    tkArmOp n s = s.tkResult n (if s.epochRun then Code.ok else Code.busy) := if_pos h

theorem tkArmOp_of_refused (h1 : s.tkState n ≠ 1) (h2 : s.tkState n ≠ 2) {c : Nat}
    (hc : lowestCode (s.armChecks n (s.lagOf n)) = some c) : tkArmOp n s = s.tkResult n c := by
  simp [tkArmOp, h1, h2, hc]

/-- The codes of the arm checks fit their field. -/
theorem State.armChecks_lt (s : State) (n lag : Nat) : ∀ x ∈ s.armChecks n lag, x.2 < 2 ^ 8 := by
  have hcodes : (s.armChecks n lag).map Prod.snd = [Code.align, Code.armTooLong, Code.armTooLong, Code.busy, Code.range] := rfl
  have hfit : ∀ c ∈ [Code.align, Code.armTooLong, Code.armTooLong, Code.busy, Code.range], c < 2 ^ 8 := by decide
  exact fun x hx => hfit x.2 (hcodes ▸ List.mem_map_of_mem hx)

/-- The engine of an arm: from the next cc on, with no trigger before it. -/
def State.armEngine (s : State) (n : Nat) : TakeEngine :=
  let x := s.takeEngine n
  { x with armAt := s.ftg + 1, disarming := false, forces := [], takes := x.takes.filter (·.closed), lastFt := none
           lastEnd := s.ftg + 1, fullFrom := none, deadFull := 0, cfggen := x.cfggen + 1, redFrom := s.ftg + 1 }

/-- The engine is set up for the arm, its ring empty. -/
def State.armRing (s : State) (n : Nat) : State :=
  (((s.setTake n (s.armEngine n)).clearRing n).sizeRing n (s.lagOf n) (s.tkTlen n)).forgetOutt n

theorem tkArmOp_of_clear (h1 : s.tkState n ≠ 1) (h2 : s.tkState n ≠ 2) (hc : lowestCode (s.armChecks n (s.lagOf n)) = none) :
    tkArmOp n s = (((s.armRing n).setTkState n 1).settleRing n (s.armRing n).ftg).tkResult n Code.ok := by
  unfold tkArmOp
  rw [if_neg (not_or.2 ⟨h1, h2⟩)]
  extract_lets -underBinder lag
  split
  next c hsome => cases hsome.symm.trans hc
  next => rfl

theorem State.armRing_takeEngine (s : State) (n : Nat) : (s.armRing n).takeEngine n = s.armEngine n := by
  rw [State.armRing, State.forgetOutt_field _ n (·.takeEngine n) fun _ _ => rfl, State.sizeRing_takeEngine,
    State.clearRing_takeEngine, State.setTake_takeEngine]

/-- What an arm stores of the ring stands in the state set up for it: only TK_STATUS is stored after. -/
theorem onlyRegs_tkArmOp_armRing (h1 : s.tkState n ≠ 1) (h2 : s.tkState n ≠ 2)
    (hc : lowestCode (s.armChecks n (s.lagOf n)) = none) : OnlyRegs [.TK_STATUS] (s.armRing n) (tkArmOp n s) := by
  rw [tkArmOp_of_clear h1 h2 hc]
  have hring := (onlyAt_settleRing ((s.armRing n).setTkState n 1) n (List.mem_singleton_self _) (s.armRing n).ftg).onlyRegs_fst
  exact (onlyRegs_setReg (List.mem_singleton_self _) _ _ _).trans (hring.trans (onlyRegs_setReg (List.mem_singleton_self _) _ _ _))

/-- An engine at rest that meets no status of the arm checks is ARMED from the next cc on, its ring empty. -/
theorem tkArmOp_arms (h1 : s.tkState n ≠ 1) (h2 : s.tkState n ≠ 2) (hc : lowestCode (s.armChecks n (s.lagOf n)) = none) :
    let t := tkArmOp n s
    t.fld .TK_STATUS n 15 8 = Code.ok ∧ t.tkState n = 1 ∧
      (∀ q ∈ [Reg.TK_TRIG, .TK_WR, .TK_RD, .TK_MISSED], t.reg q n = 0) ∧ t.reg .TK_LAG n = BitVec.ofNat 32 (s.lagOf n) ∧
      (t.takeEngine n).armAt = s.ftg + 1 ∧
      OnlyRegs [.TK_STATUS, .TK_TRIG, .TK_WR, .TK_RD, .TK_MISSED, .TK_MASK_CNT, .TK_LAG, .TK_TLEN_LO, .TK_TLEN_HI, .TK_NSLOT]
        s t := by
  let cleared := (s.setTake n (s.armEngine n)).clearRing n
  have hstatus := onlyRegs_tkArmOp_armRing h1 h2 hc
  have hsized : OnlyRegs [.TK_LAG, .TK_TLEN_LO, .TK_TLEN_HI, .TK_NSLOT] cleared (s.armRing n) :=
    (onlyRegs_sizeRing cleared n _ _).trans (onlyRegs_forgetOutt _ n)
  have hop := tkArmOp_of_clear h1 h2 hc
  refine ⟨?code, ?state, fun q hq => ?counters, ?lag, ?armAt, ?only⟩
  case code => exact hop ▸ State.tkResult_code _ n (by decide)
  case state =>
    rw [hop, State.tkResult_tkState, State.settleRing_tkState]
    exact State.setTkState_tkState _ n (by decide)
  case counters =>
    have happart : q ∉ [Reg.TK_STATUS] ∧ q ∉ [Reg.TK_LAG, .TK_TLEN_LO, .TK_TLEN_HI, .TK_NSLOT] := by
      revert q
      decide
    exact (hstatus.1 q n happart.1).trans ((hsized.1 q n happart.2).trans (State.clearRing_counter _ n hq))
  case lag =>
    exact (hstatus.1 _ n (by decide)).trans (((onlyRegs_forgetOutt (rs := []) _ n).1 _ n (by decide)).trans
      (cleared.sizeRing_lag n _ _))
  case armAt =>
    obtain ⟨full, dead, hring⟩ := ((s.armRing n).setTkState n 1).settleRing_takeEngine n (s.armRing n).ftg
    rw [hop, State.tkResult_takeEngine, hring, State.setTkState_takeEngine, s.armRing_takeEngine n]
    rfl
  case only =>
    have hcleared : OnlyRegs [.TK_TRIG, .TK_WR, .TK_RD, .TK_MISSED, .TK_MASK_CNT] s cleared :=
      (onlyRegs_setTake s n _).trans (onlyRegs_clearRing _ n)
    exact (hcleared.mono (by decide)).trans ((hsized.mono (by decide)).trans (hstatus.mono (by decide)))

/-! ### Disarming and forcing (R203, R214) -/

theorem tkDisarmOp_of_armed (h : s.tkState n = 1) : tkDisarmOp n s = (s.tkRest n 0).tkResult n Code.ok := by
  simp [tkDisarmOp, h]

theorem tkDisarmOp_of_capture (h : s.tkState n = 2) :
    tkDisarmOp n s = (s.setTake n { s.takeEngine n with disarming := true }).tkResult n Code.ok := by
  simp [tkDisarmOp, h]

theorem tkDisarmOp_of_rest (h : s.tkState n = 0 ∨ s.tkState n = 3) : tkDisarmOp n s = s.tkResult n Code.ok := by
  obtain h | h := h <;> simp [tkDisarmOp, h]

theorem tkDisarmOp_code (n : Nat) (s : State) : (tkDisarmOp n s).fld .TK_STATUS n 15 8 = Code.ok :=
  State.tkResult_code _ n (by decide)

theorem onlyRegs_tkDisarmOp (n : Nat) (s : State) : OnlyRegs [.TK_STATUS, .TK_RED_CNT] s (tkDisarmOp n s) := by
  have hstored {u : State} (h : OnlyRegs [.TK_STATUS, .TK_RED_CNT] s u) :
      OnlyRegs [.TK_STATUS, .TK_RED_CNT] s (u.tkResult n Code.ok) := h.trans (onlyRegs_setReg (by decide) _ _ _)
  unfold tkDisarmOp
  split
  · exact hstored (onlyRegs_tkRest s n 0)
  · exact hstored (onlyRegs_setTake s n _)
  · exact hstored (.refl _ s)

theorem tkForceOp_of_armed (he : s.epochRun = true) (h : s.tkState n = 1 ∨ s.tkState n = 2) : tkForceOp n s =
    (s.setTake n { s.takeEngine n with forces := (s.takeEngine n).forces ++ [s.ftg] }).tkResult n Code.ok :=
  if_pos (by simpa [he] using h)

theorem tkForceOp_of_rest (h : s.epochRun = false ∨ (s.tkState n ≠ 1 ∧ s.tkState n ≠ 2)) : tkForceOp n s = s :=
  if_neg (by obtain h | ⟨h1, h2⟩ := h <;> simp [*])

/-! ### Triggers (R203, R204, R216, R217) -/

/-- A trigger at the position cc `f` of an engine: TRIG counts, the engine is in CAPTURE to the end of the take's span, and the
take stands last of those without a slate. Past these, a trigger marks the system take, and sends an event and a timestamp. -/
theorem State.takeTrigger_starts (s : State) (n p : Nat) (forced : Bool) :
    let t := s.takeTrigger n p forced
    t.regNat .TK_TRIG n = (s.regNat .TK_TRIG n + 1) % 2 ^ 32 ∧ t.tkState n = 2 ∧
      (t.takeEngine n).lastEnd = p / 8 + s.tkPost n ∧
      (∃ k : Take, (t.takeEngine n).takes = (s.takeEngine n).takes ++ [k] ∧ k.q = s.regNat .TK_TRIG n ∧ k.ft = p / 8 ∧
        k.closed = false) ∧ OnlyRegs [.TK_TRIG, .TK_STATUS, .EV_LOOP, .LEV_LOOP] s t := by
  unfold State.takeTrigger
  extract_lets x f pre sys short held flags k taken counted settled flagged nt e ended y z marked sent t
  have hstatus : OnlyRegs [.TK_STATUS] counted flagged :=
    (onlyAt_settleRing counted n (List.mem_singleton_self _) f).onlyRegs_fst.trans
      (onlyRegs_ite (onlyRegs_setReg (List.mem_singleton_self _) _ _ _) (.refl _ _))
  have hmarked : OnlyRegs [] ended marked ∧ marked.takeEngine n = ended.takeEngine n := by
    unfold marked
    clear_value sys ended
    split
    · exact ⟨onlyRegs_of_reg_eq (fun _ _ => rfl) rfl, rfl⟩
    · exact ⟨.refl _ _, rfl⟩
  have hbehind : OnlyRegs [.EV_LOOP, .LEV_LOOP] flagged t :=
    (onlyRegs_ite (onlyRegs_setTake flagged n _) (.refl _ _)).trans
      ((hmarked.1.mono (List.nil_subset _)).trans ((onlyRegs_ite (onlyRegs_emitEvent marked _ _ _ _) (.refl _ _)).trans
        ((onlyRegs_sysStamp sent _ _ _ _ _).mono (List.nil_subset _))))
  have hengine : t.takeEngine n = ended.takeEngine n :=
    calc t.takeEngine n
        = sent.takeEngine n := State.sysStamp_field (·.takeEngine n) (fun _ _ _ => rfl) (fun _ _ => rfl) _ _ _ _ _ _
      _ = marked.takeEngine n := State.ite_field (·.takeEngine n) (State.takeEngine_congr (marked.emitEvent_take _ _ _ _) n) rfl
      _ = ended.takeEngine n := hmarked.2
  have htakes : (t.takeEngine n).takes = x.takes ++ [k] ∧ (t.takeEngine n).lastEnd = f + s.tkPost n := by
    obtain ⟨full, dead, hring⟩ := counted.settleRing_takeEngine n f
    have hflagged : flagged.takeEngine n = settled.takeEngine n := State.ite_field (·.takeEngine n) rfl rfl
    have hended : (ended.takeEngine n).takes = (flagged.takeEngine n).takes ∧
        (ended.takeEngine n).lastEnd = (flagged.takeEngine n).lastEnd := by
      unfold ended
      split
      · rw [State.setTake_takeEngine]
        exact ⟨rfl, rfl⟩
      · exact ⟨rfl, rfl⟩
    have hcounted : counted.takeEngine n = taken.takeEngine n := rfl
    rw [hengine, hended.1, hended.2, hflagged, hring, hcounted, State.setTake_takeEngine]
    exact ⟨rfl, rfl⟩
  refine ⟨?trig, ?state, htakes.2, ⟨k, htakes.1, rfl, rfl, rfl⟩, ?only⟩
  case trig =>
    have hcounted : counted.regNat .TK_TRIG n = (taken.countWrap .TK_TRIG n).regNat .TK_TRIG n :=
      State.regNat_congr (State.reg_setFld_other _ _ _ _ _ _ _ _ (by decide))
    rw [State.regNat_congr (hbehind.1 _ n (by decide)), State.regNat_congr (hstatus.1 _ n (by decide)), hcounted]
    exact taken.countWrap_regNat .TK_TRIG n
  case state =>
    calc t.tkState n
        = flagged.tkState n := State.tkState_congr (hbehind.1 _ n (by decide))
      _ = settled.tkState n := State.ite_field (·.tkState n) (settled.setTkStatusBit_tkState n (by decide) _) rfl
      _ = counted.tkState n := counted.settleRing_tkState n f
      _ = 2 := State.setTkState_tkState _ n (by decide)
  case only =>
    have hcounted : OnlyRegs [.TK_TRIG, .TK_STATUS] s counted :=
      (onlyRegs_setTake s n _).trans ((onlyRegs_setReg (by decide) _ _ _).trans (onlyRegs_setReg (by decide) _ _ _))
    exact (hcounted.mono (by decide)).trans ((hstatus.mono (by decide)).trans (hbehind.mono (by decide)))

/-- The position that the trigger of this cc evaluates is one that TK_FORCE holds (R203, R204). -/
abbrev State.ForceDue (s : State) (n f : Nat) : Prop :=
  s.epochRun = true ∧ (s.tkState n = 1 ∨ s.tkState n = 2) ∧ s.fld .TK_LAG n 15 0 ≤ s.ftg ∧ f = s.ftg - s.fld .TK_LAG n 15 0 ∧
    (s.takeEngine n).armAt ≤ f ∧ f ∈ (s.takeEngine n).forces

/-- The engine without the forces at `f`. -/
def State.dropForce (s : State) (n f : Nat) : State :=
  s.setTake n { s.takeEngine n with forces := (s.takeEngine n).forces.filter (· != f) }

theorem State.dropForce_accepting (s : State) (n f : Nat) : (s.dropForce n f).accepting n f = s.accepting n f := by
  simp only [State.accepting, State.dropForce, State.setTake_takeEngine]
  rfl

/-- A miss counts in TK_MISSED and for the next slate. -/
def State.missTrigger (s : State) (n : Nat) : State :=
  (s.count .TK_MISSED n).setTake n { s.takeEngine n with missed := (s.takeEngine n).missed + 1 }

/-- A forced position is a trigger where the engine accepts it, else a miss. -/
theorem regionTriggerOp_of_force {f : Nat} (h : s.ForceDue n f) : regionTriggerOp n 0 s =
    if s.accepting n f then (s.dropForce n f).takeTrigger n (8 * f) true else (s.dropForce n f).missTrigger n := by
  obtain ⟨he, hstate, hlag, rfl, harm, hforce⟩ := h
  have hlive : ¬(!s.epochRun || (s.tkState n != 1 && s.tkState n != 2) || decide (s.ftg < s.fld .TK_LAG n 15 0) ||
      decide (s.ftg - s.fld .TK_LAG n 15 0 < (s.takeEngine n).armAt)) = true := by
    obtain hstate | hstate := hstate <;> simp [he, hstate, Nat.not_lt.2 hlag, Nat.not_lt.2 harm]
  unfold regionTriggerOp
  extract_lets lag st x f p forced edge dropped
  have hforced : forced = true := by simpa [forced] using hforce
  have hdropped : dropped = s.dropForce n f := rfl
  have hp : p = 8 * f := rfl
  clear_value forced edge dropped p
  rw [if_neg hlive]
  subst hforced hdropped hp
  rw [State.dropForce_accepting]
  cases s.accepting n f <;> rfl

/-- A forced position that the engine accepts starts a take. -/
theorem regionTriggerOp_starts {f : Nat} (h : s.ForceDue n f) (ha : s.accepting n f = true) :
    let t := regionTriggerOp n 0 s
    t.regNat .TK_TRIG n = (s.regNat .TK_TRIG n + 1) % 2 ^ 32 ∧ t.tkState n = 2 ∧ (t.takeEngine n).lastEnd = f + s.tkPost n ∧
      (∃ k : Take, (t.takeEngine n).takes = (s.takeEngine n).takes ++ [k] ∧ k.q = s.regNat .TK_TRIG n ∧ k.ft = f ∧
        k.closed = false) ∧ OnlyRegs [.TK_TRIG, .TK_STATUS, .EV_LOOP, .LEV_LOOP] s t := by
  have hop : regionTriggerOp n 0 s = (s.dropForce n f).takeTrigger n (8 * f) true :=
    (regionTriggerOp_of_force h).trans (if_pos ha)
  have hf : 8 * f / 8 = f := Nat.mul_div_cancel_left f (by decide)
  obtain ⟨htrig, hstate, hends, ⟨k, htakes, hq, hft, hclosed⟩, honly⟩ := (s.dropForce n f).takeTrigger_starts n (8 * f) true
  rw [State.dropForce, State.setTake_takeEngine] at htakes
  rw [hop]
  exact ⟨htrig, hstate, hends.trans (by rw [hf]; rfl), ⟨k, htakes, hq, hft.trans hf, hclosed⟩, (onlyRegs_setTake s n _).trans honly⟩

/-- One that it does not accept counts as MISSED. -/
theorem regionTriggerOp_misses {f : Nat} (h : s.ForceDue n f) (ha : s.accepting n f = false) :
    let t := regionTriggerOp n 0 s
    t.regNat .TK_MISSED n = min 0xFFFF_FFFF (s.regNat .TK_MISSED n + 1) ∧
      (t.takeEngine n).takes = (s.takeEngine n).takes ∧ OnlyAt [(.TK_MISSED, n)] s t := by
  have hop : regionTriggerOp n 0 s = (s.dropForce n f).missTrigger n := by
    rw [regionTriggerOp_of_force h, if_neg (by simp [ha])]
  rw [hop]
  refine ⟨State.count_regNat _ _ _, ?_, onlyAt_setReg s _ (by simp)⟩
  rw [State.missTrigger, State.setTake_takeEngine, State.dropForce, State.setTake_takeEngine]

/-! ### The end of a span (R214, R216) -/

theorem State.closeTakes_takes (s : State) (n : Nat) : ∀ k ∈ ((s.closeTakes n).takeEngine n).takes, k.closed = true := by
  rw [State.closeTakes, State.setTake_takeEngine]
  intro k hk
  obtain ⟨y, -, rfl⟩ := List.mem_map.1 hk
  rfl

/-- At the end of the last span the engine is ARMED again, or IDLE when disarming, and every take is closed. -/
theorem captureEndOp_ends (h : s.tkState n = 2) (hend : (s.takeEngine n).lastEnd ≤ s.ftg) :
    let t := captureEndOp n s
    t.tkState n = (if (s.takeEngine n).disarming then 0 else 1) ∧ (∀ k ∈ (t.takeEngine n).takes, k.closed = true) ∧
      OnlyRegs [.TK_STATUS, .TK_RED_CNT] s t := by
  have hop : captureEndOp n s =
      if (s.takeEngine n).disarming then (s.closeTakes n).tkRest n 0 else (s.closeTakes n).setTkState n 1 :=
    if_neg (by simp [h, Nat.not_lt.2 hend])
  have hclosed := s.closeTakes_takes n
  have honly : OnlyRegs [.TK_STATUS, .TK_RED_CNT] s (s.closeTakes n) := onlyRegs_setTake s n _
  intro t
  rw [show t = _ from hop]
  split
  · exact ⟨State.tkRest_tkState _ n (by decide), by rwa [State.tkRest_takeEngine], honly.trans (onlyRegs_tkRest _ n 0)⟩
  · exact ⟨State.setTkState_tkState _ n (by decide), hclosed, honly.trans (onlyRegs_setReg (by decide) _ _ _)⟩

/-! ### The read pointer (R217) -/

theorem tkRdOp_of_beyond {v : Word} (h : s.regNat .TK_TRIG n < v.toNat) : tkRdOp n v s = s.tkResult n Code.range := if_pos h

theorem tkRdOp_stores {v : Word} (h : v.toNat ≤ s.regNat .TK_TRIG n) :
    let t := tkRdOp n v s
    t.fld .TK_STATUS n 15 8 = Code.ok ∧ t.reg .TK_RD n = v ∧ OnlyAt [(.TK_STATUS, n), (.TK_RD, n)] s t := by
  intro t
  rw [show t = _ from if_neg (Nat.not_lt.2 h)]
  have hring := onlyAt_settleRing (l := [(.TK_STATUS, n)]) (s.setReg .TK_RD n v) n (by simp) s.ftg
  have hbehind := hring.trans (onlyAt_tkResult _ n (by simp) Code.ok)
  exact ⟨State.tkResult_code _ n (by decide), (hbehind.1 _ _ (by simp)).trans (s.reg_setReg_same _ _ _),
    (onlyAt_setReg s v (by simp)).trans (hbehind.mono (by simp))⟩

end

/-- Settles O34: each row acts on the state past its access, or past its cc, and does there what the rules above say; a force leaves
the present cc's footage with the engine. -/
theorem takeEnginesComplete : Obligations.TakeEnginesComplete := by
  intro who dt n v s p u
  have hcount (r : Reg) : p.regNat r n = s.regNat r n := State.regNat_congr (s.pass_reg dt r n)
  have hlag : p.fld .TK_LAG n 15 0 = s.fld .TK_LAG n 15 0 := s.pass_fld dt _ _ _ _
  have hengine : p.takeEngine n = s.takeEngine n := s.pass_takeEngine n dt
  have hstate : p.tkState n = s.tkState n := s.pass_tkState n dt
  have hpast {l : List (Reg × Nat)} : OnlyAt l s p := onlyAt_pass s dt
  refine ⟨fun ho => ?arm, fun ho => ?disarm, fun ho => ?force, fun he hst hl ha hf => ?trigger, fun hst hend => ?capture,
    fun ho => ?read⟩
  case arm =>
    refine completes_of_regAccess rfl ho ⟨fun h => ?_, fun h1 h2 c hc => ?_, fun h1 h2 hc => ?_⟩
    · rw [tkArmOp_of_armed h]
      exact ⟨onlyAt_tkResult u n (by simp) _, State.tkResult_tkState _ _ _, State.tkResult_code u n (by split <;> decide)⟩
    · rw [tkArmOp_of_refused h1 h2 hc]
      exact ⟨State.tkResult_code u n (lowestCode_lt (u.armChecks_lt n _) hc), State.tkResult_tkState _ _ _, rfl,
        onlyAt_tkResult u n (by simp) _⟩
    · obtain ⟨hcode, harmed, hzero, hsized, harmAt, honly⟩ := tkArmOp_arms h1 h2 hc
      exact ⟨hcode, harmed, hzero _ (by decide), hzero _ (by decide), hzero _ (by decide), hzero _ (by decide), hsized, harmAt, honly⟩
  case disarm =>
    refine completes_of_regAccess rfl ho ⟨fun h => ?_, fun h => ?_, fun h => ?_, tkDisarmOp_code n u, onlyRegs_tkDisarmOp n u⟩
    · rw [tkDisarmOp_of_armed h, State.tkResult_tkState, State.tkResult_takeEngine, State.tkRest_takeEngine]
      exact ⟨State.tkRest_tkState u n (by decide), rfl⟩
    · rw [tkDisarmOp_of_capture h, State.tkResult_tkState, State.tkResult_takeEngine, State.setTake_takeEngine]
      exact ⟨h, rfl⟩
    · rw [tkDisarmOp_of_rest h]
      exact ⟨State.tkResult_tkState _ _ _, rfl⟩
  case force =>
    refine completes_of_regAccess rfl ho ⟨fun he h => ?_, tkForceOp_of_rest⟩
    rw [tkForceOp_of_armed he h, State.tkResult_takeEngine, State.setTake_takeEngine]
    exact ⟨rfl, State.tkResult_code _ n (by decide), onlyAt_setReg u _ (by simp)⟩
  case trigger =>
    have hdue : p.ForceDue n (p.ftg - s.fld .TK_LAG n 15 0) :=
      ⟨(s.pass_epochRun dt).trans he, by rwa [hstate], by rwa [hlag], by rw [hlag], by rwa [hengine], by rwa [hengine]⟩
    have haccepts (f : Nat) : p.accepting n f = s.accepting n f := by
      simp only [State.accepting, State.ringFull, hengine, hcount]
    have hpost : p.tkPost n = s.tkPost n := by simp only [State.tkPost, hcount, p, State.pass_fld]
    refine ⟨_, rfl, fun h => ?_, fun h => ?_⟩
    · obtain ⟨htrig, hcapture, hends, htakes, honly⟩ := regionTriggerOp_starts hdue ((haccepts _).trans h)
      rw [hcount] at htrig htakes
      rw [hpost] at hends
      rw [hengine] at htakes
      exact ⟨htrig, hcapture, hends, htakes, hpast.onlyRegs.trans honly⟩
    · obtain ⟨hmissed, htakes, honly⟩ := regionTriggerOp_misses hdue ((haccepts _).trans h)
      exact ⟨hmissed.trans (by rw [hcount]), htakes.trans (by rw [hengine]), hpast.trans honly⟩
  case capture =>
    obtain ⟨hends, hclosed, honly⟩ := captureEndOp_ends (hstate.trans hst) (by rwa [hengine])
    rw [hengine] at hends
    exact ⟨_, rfl, hends, hclosed, hpast.onlyRegs.trans honly⟩
  case read =>
    intro w
    refine completes_of_regAccess rfl ho ⟨fun h => ?_, tkRdOp_stores⟩
    rw [tkRdOp_of_beyond h]
    exact ⟨State.tkResult_code w n (by decide), onlyAt_tkResult w n (by simp) _⟩

end Sys2Proof.Machine
end

-- ==== Proof of the system takes statement ====
section
/-!
PROOFS. The system take engine (R206-R209, R217, R222, R225). STK_ARM, STK_DISARM and STK_RD act on the state past the link, the
others once their cc have passed. What each does is said once, of the state that it acts on.
-/

namespace Sys2Proof.Machine

section
variable {s : State}

/-! ### STK_STATUS and RING_FULL (R217, R225) -/

theorem State.stkArmed_congr {s t : State} (h : t.reg .STK_STATUS 0 = s.reg .STK_STATUS 0) : t.stkArmed = s.stkArmed :=
  congrArg (· == 1) (State.fld_congr h)

theorem State.stkFull_congr {s t : State} (h : ∀ q j, t.reg q j = s.reg q j) : t.stkFull = s.stkFull := by
  have hcount (q : Reg) : t.regNat q = s.regNat q := State.regNat_congr (h q 0)
  have hsize : t.fld .STK_RING_SIZE 0 26 0 = s.fld .STK_RING_SIZE 0 26 0 := State.fld_congr (h _ 0)
  exact decide_eq_decide.2 (by simp only [State.stkSlots, hcount, hsize])

theorem State.stkResult_code {code : Nat} (h : code < 2 ^ 8) : (s.stkResult code).fld .STK_STATUS 0 15 8 = code :=
  s.fld_setFld_of_lt _ _ _ _ (by decide) h

theorem State.stkResult_state (code : Nat) : (s.stkResult code).fld .STK_STATUS 0 1 0 = s.fld .STK_STATUS 0 1 0 :=
  s.fld_setFld_apart _ _ _ _ _ _ _ (by decide) (by decide)

theorem State.stkResult_stkArmed (code : Nat) : (s.stkResult code).stkArmed = s.stkArmed :=
  congrArg (· == 1) (s.stkResult_state code)

theorem onlyRegs_stkResult {rs : List Reg} (h : .STK_STATUS ∈ rs) (s : State) (code : Nat) : OnlyRegs rs s (s.stkResult code) :=
  onlyRegs_setReg h s _ _

theorem onlyRegs_setSys {rs : List Reg} (s : State) (x : SysEngine) : OnlyRegs rs s (s.setSys x) :=
  onlyRegs_of_reg_eq (fun _ _ => rfl) rfl

/-- RING_FULL is stored; beside it at most the account of the full cc changes. -/
theorem State.settleSysRing_cases (s : State) (at_ : Nat) :
    let u := s.setBit .STK_STATUS 0 2 s.stkFull
    s.settleSysRing at_ = u ∨
      ∃ full dead, s.settleSysRing at_ = u.setSys { s.take.sys with fullFrom := full, deadFull := dead } := by
  simp only [State.settleSysRing]
  split
  · exact .inr ⟨_, _, rfl⟩
  · exact .inr ⟨_, _, rfl⟩
  · exact .inl rfl

theorem onlyRegs_settleSysRing {rs : List Reg} (h : .STK_STATUS ∈ rs) (s : State) (at_ : Nat) :
    OnlyRegs rs s (s.settleSysRing at_) := by
  have hbit : OnlyRegs rs s (s.setBit .STK_STATUS 0 2 s.stkFull) := onlyRegs_setReg h s _ _
  obtain hring | ⟨full, dead, hring⟩ := s.settleSysRing_cases at_
  · rwa [hring]
  · rw [hring]
    exact hbit.trans (onlyRegs_setSys _ _)

theorem State.settleSysRing_stkArmed (at_ : Nat) : (s.settleSysRing at_).stkArmed = s.stkArmed := by
  have hbit : (s.setBit .STK_STATUS 0 2 s.stkFull).stkArmed = s.stkArmed :=
    congrArg (· == 1) (s.fld_setBit_apart _ _ _ _ _ _ (by decide) (by decide))
  obtain hring | ⟨full, dead, hring⟩ := s.settleSysRing_cases at_ <;> rw [hring]
  · exact hbit
  · exact hbit

theorem State.settleSysRing_sys (at_ : Nat) :
    ∃ full dead, (s.settleSysRing at_).take.sys = { s.take.sys with fullFrom := full, deadFull := dead } := by
  obtain hring | ⟨full, dead, hring⟩ := s.settleSysRing_cases at_
  · exact ⟨_, _, congrArg (·.take.sys) hring⟩
  · exact ⟨full, dead, congrArg (·.take.sys) hring⟩

/-! ### Arming and disarming (R225) -/

/-- The counters of the system ring. -/
abbrev systemRingCounters : List Reg := [.STK_TRIG, .STK_WR, .STK_RD, .STK_MISSED, .STK_LATE_CNT]

/-- The byte address of the system ring. -/
def State.systemRing (s : State) : Nat := s.regNat .STK_RING_BASE_LO + s.fld .STK_RING_BASE_HI 0 9 0 * 2 ^ 32

/-- What an arm is refused for. -/
def State.systemArmChecks (s : State) : List (Bool × Nat) :=
  [(s.systemRing % 65536 != 0, Code.align), (!s.epochRun, Code.busy),
    (decide (s.memCap < s.systemRing + s.fld .STK_RING_SIZE 0 26 0 * 65536), Code.range)]

/-- The engine is set up for the arm, from the next cc on, its counters 0. -/
def State.armSystem (s : State) : State :=
  (s.setSys { s.take.sys with armAt := s.ftg + 1, holdEnd := 0, lastX := none, fullFrom := none, deadFull := 0,
                              cfggen := s.take.sys.cfggen + 1 }).zeroed systemRingCounters 0

theorem stkArmOp_of_armed (h : s.stkArmed = true) : stkArmOp s = s.stkResult Code.ok := if_pos h

theorem stkArmOp_of_refused (h : s.stkArmed = false) {c : Nat} (hc : lowestCode s.systemArmChecks = some c) :
    stkArmOp s = s.stkResult c := by
  unfold stkArmOp
  rw [if_neg (by simp [h])]
  extract_lets -underBinder base
  split
  next c' hsome => rw [Option.some.inj (hsome.symm.trans hc)]
  next hnone => cases hnone.symm.trans hc

theorem stkArmOp_of_clear (h : s.stkArmed = false) (hc : lowestCode s.systemArmChecks = none) :
    stkArmOp s = ((s.armSystem.setFld .STK_STATUS 0 1 0 1).settleSysRing s.armSystem.ftg).stkResult Code.ok := by
  unfold stkArmOp
  rw [if_neg (by simp [h])]
  extract_lets -underBinder base
  split
  next c hsome => cases hsome.symm.trans hc
  next => rfl

/-- A ring off its 64 KiB boundary is ALIGN, the lowest of the codes. -/
theorem State.systemArmChecks_of_align (h : s.systemRing % 65536 ≠ 0) : lowestCode s.systemArmChecks = some Code.align := by
  have hlowest : ∀ b c : Bool, lowestCode [(true, Code.align), (b, Code.busy), (c, Code.range)] = some Code.align := by decide
  rw [State.systemArmChecks, bne_iff_ne.2 h]
  exact hlowest _ _

theorem State.systemArmChecks_of_clear (ha : s.systemRing % 65536 = 0) (he : s.epochRun = true)
    (hm : s.systemRing + s.fld .STK_RING_SIZE 0 26 0 * 65536 ≤ s.memCap) : lowestCode s.systemArmChecks = none := by
  rw [State.systemArmChecks, ha, he, decide_eq_false (Nat.not_lt.2 hm)]
  rfl

/-- An arm changes STK_STATUS and the counters. -/
theorem onlyRegs_stkArmOp (s : State) : OnlyRegs (.STK_STATUS :: systemRingCounters) s (stkArmOp s) := by
  have hstored (u : State) (code : Nat) : OnlyRegs (.STK_STATUS :: systemRingCounters) u (u.stkResult code) :=
    onlyRegs_stkResult (by decide) u code
  cases ha : s.stkArmed with
  | true => exact stkArmOp_of_armed ha ▸ hstored s _
  | false =>
    cases hc : lowestCode s.systemArmChecks with
    | some c => exact stkArmOp_of_refused ha hc ▸ hstored s c
    | none =>
      have hzero : OnlyRegs systemRingCounters s s.armSystem := (onlyRegs_setSys s _).trans (onlyRegs_zeroed _ _ 0)
      rw [stkArmOp_of_clear ha hc]
      exact (hzero.mono (by decide)).trans ((onlyRegs_setReg (by decide) _ _ _).trans
        ((onlyRegs_settleSysRing (by decide) _ _).trans (hstored _ _)))

/-- An engine at rest that passes its checks is armed from the next cc on, its counters 0. -/
theorem stkArmOp_arms (h : s.stkArmed = false) (hc : lowestCode s.systemArmChecks = none) :
    let t := stkArmOp s
    t.stkArmed = true ∧ (∀ q ∈ systemRingCounters, t.reg q 0 = 0) ∧ t.take.sys.armAt = s.ftg + 1 ∧
      t.fld .STK_STATUS 0 15 8 = Code.ok := by
  let armed := s.armSystem.setFld .STK_STATUS 0 1 0 1
  let settled := armed.settleSysRing s.armSystem.ftg
  intro t
  rw [show t = settled.stkResult Code.ok from stkArmOp_of_clear h hc]
  refine ⟨?state, fun q hq => ?counters, ?armAt, State.stkResult_code (by decide)⟩
  case state =>
    have hset : armed.fld .STK_STATUS 0 1 0 = 1 := State.fld_setFld_of_lt _ _ _ _ _ (by decide) (by decide)
    rw [State.stkResult_stkArmed, State.settleSysRing_stkArmed, State.stkArmed, hset]
    rfl
  case counters =>
    have hq' : q ∉ [Reg.STK_STATUS] := by revert q; decide
    have hbehind : OnlyRegs [.STK_STATUS] s.armSystem (settled.stkResult Code.ok) :=
      (onlyRegs_setReg (List.mem_singleton_self _) _ _ _).trans ((onlyRegs_settleSysRing (List.mem_singleton_self _) _ _).trans
        (onlyRegs_stkResult (List.mem_singleton_self _) _ _))
    exact (hbehind.1 q 0 hq').trans (State.zeroed_reg hq _ 0)
  case armAt =>
    obtain ⟨full, dead, hring⟩ := armed.settleSysRing_sys s.armSystem.ftg
    have hsys : armed.take.sys.armAt = s.ftg + 1 := State.zeroed_field (·.take.sys.armAt) (fun _ _ _ _ => rfl) _ _ 0
    exact (congrArg (·.armAt) hring).trans hsys

theorem stkDisarmOp_disarms (s : State) :
    let t := stkDisarmOp s
    t.fld .STK_STATUS 0 1 0 = 0 ∧ t.fld .STK_STATUS 0 15 8 = Code.ok ∧ t.take = s.take ∧ OnlyRegs [.STK_STATUS] s t :=
  ⟨(State.stkResult_state _).trans (s.fld_setFld_of_lt _ _ _ _ (by decide) (by decide)), State.stkResult_code (by decide), rfl,
    (onlyRegs_setReg (List.mem_singleton_self _) s _ _).trans (onlyRegs_stkResult (List.mem_singleton_self _) _ _)⟩

/-! ### Timestamps (R208) -/

/-- The one timestamp under way has arrived. -/
abbrev State.StampArrives (s : State) (k : SysStamp) : Prop := s.take.sys.arriving = [k] ∧ k.at_ ≤ s.ftg

theorem State.StampArrives.find {k : SysStamp} (h : s.StampArrives k) :
    s.take.sys.arriving.find? (fun y => y.t == k.t && decide (y.at_ ≤ s.ftg)) = some k := by
  simp [h.1, h.2]

/-- The one timestamp under way has left it. -/
def State.stampTaken (s : State) (k : SysStamp) : SysEngine :=
  { s.take.sys with arriving := s.take.sys.arriving.erase k }

/-- A timestamp that joined its term is still held: its term can be true at an instant not yet decided. -/
def State.stampHeld (s : State) (y : SysStamp) : Bool :=
  decide (s.ftg < y.ts / 2048 + s.fld .STK_TERM y.t 31 16 + s.fld .STK_HZN 0 15 0 + 16)

theorem sysArrivalOp_of_late {k : SysStamp} (h : s.StampArrives k) (hlate : k.ts / 2048 + s.fld .STK_HZN 0 15 0 < k.at_) :
    let t := (s.setSys (s.stampTaken k)).count .STK_LATE_CNT
    sysArrivalOp k.t s =
      { t with take := { t.take with lateNext := t.take.lateNext ||| BitVec.ofNat 17 (65536 + t.fld .STK_REGMASK 0 15 0) } } := by
  unfold sysArrivalOp
  extract_lets -underBinder x
  rw [h.find]
  exact if_pos hlate

theorem sysArrivalOp_of_timely {k : SysStamp} (h : s.StampArrives k) (hin : k.at_ ≤ k.ts / 2048 + s.fld .STK_HZN 0 15 0) :
    sysArrivalOp k.t s = s.setSys { s.stampTaken k with joined := s.take.sys.joined.filter s.stampHeld ++ [k] } := by
  unfold sysArrivalOp
  extract_lets -underBinder x
  rw [h.find]
  exact if_neg (Nat.not_lt.2 hin)

theorem State.StampArrives.taken {k : SysStamp} (h : s.StampArrives k) : (s.stampTaken k).arriving = [] := by
  simp [State.stampTaken, h.1]

/-- One beyond the horizon counts in STK_LATE_CNT. -/
theorem sysArrivalOp_late {k : SysStamp} (h : s.StampArrives k) (hlate : k.ts / 2048 + s.fld .STK_HZN 0 15 0 < k.at_) :
    let t := sysArrivalOp k.t s
    t.take.sys.arriving = [] ∧ t.regNat .STK_LATE_CNT = min 0xFFFF_FFFF (s.regNat .STK_LATE_CNT + 1) ∧
      t.take.sys.joined = s.take.sys.joined ∧ OnlyRegs [.STK_LATE_CNT] s t := by
  intro t
  rw [show t = _ from sysArrivalOp_of_late h hlate]
  exact ⟨h.taken, State.count_regNat s _ _, rfl, onlyRegs_setReg (List.mem_singleton_self _) s _ _⟩

/-- One within the horizon joins its term. -/
theorem sysArrivalOp_joins {k : SysStamp} (h : s.StampArrives k) (hin : k.at_ ≤ k.ts / 2048 + s.fld .STK_HZN 0 15 0) :
    let t := sysArrivalOp k.t s
    t.take.sys.arriving = [] ∧ k ∈ t.take.sys.joined ∧ OnlyRegs [] s t := by
  intro t
  rw [show t = _ from sysArrivalOp_of_timely h hin]
  exact ⟨h.taken, List.mem_append_right _ (List.mem_singleton_self k), onlyRegs_setSys s _⟩

/-! ### Triggers (R207-R209) -/

/-- The instant that the trigger of this cc decides. -/
def State.decidedAt (s : State) (u : Nat) : Nat := 2048 * (s.ftg - s.fld .STK_HZN 0 15 0) + u

/-- It is a rising edge of the system pattern, and the engine is armed there. -/
structure State.SystemEdge (s : State) (u : Nat) : Prop where
  run : s.epochRun = true
  armed : s.stkArmed = true
  horizon : s.fld .STK_HZN 0 15 0 ≤ s.ftg
  armAt : s.take.sys.armAt ≤ s.ftg - s.fld .STK_HZN 0 15 0
  here : s.sysPatternAt (s.decidedAt u) = true
  rises : s.decidedAt u = 0 ∨ s.sysPatternAt (s.decidedAt u - 1) = false

theorem State.SystemEdge.live {u : Nat} (h : s.SystemEdge u) : ¬(!s.epochRun || !s.stkArmed ||
    decide (s.ftg < s.fld .STK_HZN 0 15 0) || decide (s.ftg - s.fld .STK_HZN 0 15 0 < s.take.sys.armAt)) = true := by
  simp [h.run, h.armed, Nat.not_lt.2 h.horizon, Nat.not_lt.2 h.armAt]

theorem State.SystemEdge.edge {u : Nat} (h : s.SystemEdge u) : ¬(!(s.sysPatternAt (s.decidedAt u) &&
    !(decide (0 < s.decidedAt u) && s.sysPatternAt (s.decidedAt u - 1)))) = true := by
  obtain hzero | hfalls := h.rises
  · simp [hzero, hzero ▸ h.here]
  · simp [h.here, hfalls]

/-- Inside the hold-off, or with the ring full, the edge is a miss. -/
theorem systemTriggerOp_misses {u : Nat} (h : s.SystemEdge u) (hmiss : s.decidedAt u < s.take.sys.holdEnd ∨ s.stkFull = true) :
    let t := systemTriggerOp u s
    t.regNat .STK_MISSED = min 0xFFFF_FFFF (s.regNat .STK_MISSED + 1) ∧ t.take.sys.takes = s.take.sys.takes ∧
      OnlyRegs [.STK_MISSED] s t := by
  have hop : systemTriggerOp u s =
      (s.count .STK_MISSED).setSys { s.take.sys with missed := s.take.sys.missed + 1 } :=
    (if_neg h.live).trans ((if_neg h.edge).trans (if_pos hmiss))
  intro t
  rw [show t = _ from hop]
  exact ⟨s.count_regNat _ _, rfl, onlyRegs_setReg (List.mem_singleton_self _) s _ _⟩

theorem State.stkEvent_take (s : State) (lo : Nat) : (s.stkEvent lo).take = s.take :=
  State.ite_field (·.take) (s.emitEvent_take _ _ _ _) rfl

theorem onlyRegs_stkEvent (s : State) (lo : Nat) : OnlyRegs [.EV_LOOP, .LEV_LOOP] s (s.stkEvent lo) :=
  onlyRegs_ite (onlyRegs_emitEvent s _ _ _ _) (.refl _ s)

/-- Else, inside the window, it is a trigger: TRIG counts, the hold-off begins, and the take stands last of those without a slate,
asserted six cc later. -/
theorem systemTriggerOp_starts {u : Nat} (h : s.SystemEdge u) (hhold : s.take.sys.holdEnd ≤ s.decidedAt u) (hfull : s.stkFull = false)
    (hstart : s.pair .STK_WIN_START_LO .STK_WIN_START_HI ≤ s.ftg - s.fld .STK_HZN 0 15 0)
    (hend : s.pair .STK_WIN_END_LO .STK_WIN_END_HI = 0 ∨
      s.ftg - s.fld .STK_HZN 0 15 0 < s.pair .STK_WIN_END_LO .STK_WIN_END_HI) :
    let t := systemTriggerOp u s
    t.regNat .STK_TRIG = (s.regNat .STK_TRIG + 1) % 2 ^ 32 ∧
      t.take.sys.holdEnd = s.decidedAt u + 2048 * s.fld .STK_HOLD 0 19 0 ∧
      (∃ k : SysTake, t.take.sys.takes = s.take.sys.takes ++ [k] ∧ k.q = s.regNat .STK_TRIG ∧ k.x = s.decidedAt u ∧
        k.assertAt = s.ftg + 6) ∧ OnlyRegs [.STK_TRIG, .STK_STATUS, .EV_LOOP, .LEV_LOOP] s t := by
  have hheld : ¬(s.decidedAt u < s.take.sys.holdEnd ∨ s.stkFull = true) := by simp [Nat.not_lt.2 hhold, hfull]
  have hwindow : ¬(s.ftg - s.fld .STK_HZN 0 15 0 < s.pair .STK_WIN_START_LO .STK_WIN_START_HI ∨
      (s.pair .STK_WIN_END_LO .STK_WIN_END_HI ≠ 0 ∧
        s.pair .STK_WIN_END_LO .STK_WIN_END_HI ≤ s.ftg - s.fld .STK_HZN 0 15 0)) := by omega
  unfold systemTriggerOp
  extract_lets hzn f x y e g link dead k taken settled nt closed t
  have ht : t = closed.stkEvent 0 :=
    (if_neg h.live).trans ((if_neg h.edge).trans ((if_neg hheld).trans (if_neg hwindow)))
  let counted := taken.countWrap .STK_TRIG
  have hsettled : OnlyRegs [.STK_STATUS] counted settled := onlyRegs_settleSysRing (List.mem_singleton_self _) counted f
  have hclosed : OnlyRegs [.STK_STATUS] counted closed :=
    hsettled.trans (onlyRegs_ite (onlyRegs_setReg (List.mem_singleton_self _) settled _ _) (.refl _ settled))
  have hbehind : OnlyRegs [.STK_STATUS, .EV_LOOP, .LEV_LOOP] counted t :=
    (hclosed.mono (by decide)).trans (ht ▸ (onlyRegs_stkEvent closed 0).mono (by decide))
  have hengine : t.take.sys.takes = s.take.sys.takes ++ [k] ∧ t.take.sys.holdEnd = x + 2048 * s.fld .STK_HOLD 0 19 0 := by
    obtain ⟨full, dead', hring⟩ := counted.settleSysRing_sys f
    have hsys : t.take.sys = settled.take.sys :=
      calc t.take.sys = closed.take.sys := congrArg (·.sys) (ht ▸ closed.stkEvent_take 0)
        _ = settled.take.sys := State.ite_field (·.take.sys) rfl rfl
    rw [hsys, hring]
    exact ⟨rfl, rfl⟩
  clear_value t
  refine ⟨?trig, hengine.2, ⟨k, hengine.1, rfl, rfl, rfl⟩, ?only⟩
  case trig =>
    rw [State.regNat_congr (hbehind.1 _ 0 (by decide))]
    exact taken.countWrap_regNat .STK_TRIG 0
  case only =>
    have hcounted : OnlyRegs [.STK_TRIG] s counted :=
      (onlyRegs_setSys s _).trans (onlyRegs_setReg (List.mem_singleton_self _) _ _ _)
    exact (hcounted.mono (by decide)).trans (hbehind.mono (by decide))

/-! ### Assertion (R209) -/

/-- The due takes are asserted. -/
def State.assertedTakes (s : State) : List SysTake :=
  s.take.sys.takes.map fun t => if t.assertAt ≤ s.ftg then { t with asserted := true } else t

theorem State.mem_assertedTakes {k : SysTake} (hk : k ∈ s.assertedTakes) (hdue : k.assertAt ≤ s.ftg) : k.asserted = true := by
  obtain ⟨t, -, rfl⟩ := List.mem_map.1 hk
  by_cases ht : t.assertAt ≤ s.ftg
  · rw [if_pos ht]
  · rw [if_neg ht] at hdue
    exact absurd hdue ht

/-- What no state of an engine changes, the marks that an assertion puts into the regions leave as it was. -/
theorem systemAssertOp_field {β : Type} (f : State → β) (h : ∀ s n x, f (State.setTake s n x) = f s) (s : State) :
    f (systemAssertOp s) = f (s.setSys { s.take.sys with takes := s.assertedTakes }) :=
  State.forEach_field _ _ _ f fun _ _ => State.forEach_field _ _ _ f fun _ _ => (h _ _ _).trans (h _ _ _)

theorem systemAssertOp_takes (s : State) : (systemAssertOp s).take.sys.takes = s.assertedTakes :=
  systemAssertOp_field (·.take.sys.takes) (fun _ _ _ => rfl) s

theorem onlyRegs_systemAssertOp (s : State) : OnlyRegs [] s (systemAssertOp s) :=
  onlyRegs_of_reg_eq (fun q j => systemAssertOp_field (·.reg q j) (fun _ _ _ => rfl) s) (kept_systemAssertOp s)

/-! ### Slates (R209, R222) -/

/-- A number that stands in the bytes written reads back. -/
theorem State.le_writeBytes_part (h : s.Inv) (sp a n v : Nat) (xs zs : List Byte) :
    (s.writeBytes sp a (xs ++ leBytes n v ++ zs)).le sp (a + xs.length) n = v % 256 ^ n := by
  have hbytes : (s.writeBytes sp a (xs ++ leBytes n v ++ zs)).bytes sp (a + xs.length) n = leBytes n v := by
    refine List.ext_getElem (by simp [State.bytes, length_leBytes]) fun k hk hk' => ?_
    have hpart : xs.length + k < (xs ++ leBytes n v ++ zs).length := by
      simp only [List.length_append]
      omega
    have hflat : flat sp (a + xs.length + k) = flat sp a + (xs.length + k) := by
      simp only [flat]
      omega
    simp only [State.bytes, List.getElem_map, List.getElem_range, State.byte, State.writeBytes]
    rw [hflat, memGet_memWriteAt_in _ _ _ h hpart]
    simp [hk']
  rw [State.le, hbytes, foldr_leBytes]

theorem sameOutside_writeBytes (h : s.Inv) (sp a : Nat) (bs : List Byte) :
    SameOutside (flat sp a) bs.length s (s.writeBytes sp a bs) :=
  fun _ _ ha => memGet_memWriteAt _ _ _ h ha

/-- The address of the slate of system take `k`. -/
def State.systemSlateBase (s : State) (k : SysTake) : Nat := s.systemRing + 64 * (k.q % max 1 s.stkSlots)

/-- The marks of the system's slate are taken, and the free value of its STOP_AT. -/
def State.systemMarked (s : State) : State := ((s.takeMarks 16).2.free 32).2

/-- The slate of system take `k`. -/
def State.systemSlate (s : State) (k : SysTake) : List Byte :=
  let m := s.takeMarks 16
  let f := k.x / 2048
  let under := (setBitsOf 16 k.rmask).any fun n =>
    (tget [] s.take.flagged (8 * n + 3)).any fun c => decide (f ≤ c + s.tkPre n) && decide (c < f + s.tkPost n)
  slateBytes k.q 0xFF 0 (k.flags ||| m.1 ||| (b2n under <<< 3)) (s.wallOfFootage f) f (k.x % 2048) k.dead s.take.sys.missed
    (m.2.free 32).1 0 k.terms k.rmask (s.take.sys.cfggen % 65536) k.q

theorem State.length_systemSlate (s : State) (k : SysTake) : (s.systemSlate k).length = 64 := by
  simp [State.systemSlate, slateBytes, length_leBytes]

/-- TAKE, ENGINE and TOFF stand at bytes 0, 4 and 28 of a slate. -/
theorem State.systemSlate_parts (s : State) (k : SysTake) : ∃ middle tail,
    s.systemSlate k = leBytes 4 k.q ++ leBytes 1 0xFF ++ middle ++ leBytes 2 (k.x % 2048) ++ tail ∧ middle.length = 23 :=
  ⟨leBytes 1 _ ++ leBytes 2 _ ++ leBytes 12 _ ++ leBytes 8 _, _,
    by simp only [State.systemSlate, slateBytes, List.append_assoc]; rfl, by simp [length_leBytes]⟩

/-- A slate is stored, WR counts, and the event and the source of the slate follow. -/
def State.storeSlate (s : State) (base : Nat) (bs : List Byte) (rest : List SysTake) : State :=
  let u := (s.systemMarked.writeBytes 0 base bs).setSys { s.take.sys with takes := rest, missed := 0 }
  ((u.countWrap .STK_WR).stkEvent 16).raise 432

theorem State.storeSlate_mem (s : State) (base : Nat) (bs : List Byte) (rest : List SysTake) :
    (s.storeSlate base bs rest).mem = (s.writeBytes 0 base bs).mem := by
  have hkept : (s.storeSlate base bs rest).kept = (s.systemMarked.writeBytes 0 base bs).kept := by
    rw [State.storeSlate, State.kept_raise, State.kept_stkEvent, State.kept_countWrap, State.kept_setSys]
  obtain ⟨-, -, hmem⟩ := State.kept_eq_iff.1 hkept
  exact hmem

theorem State.storeSlate_counts (s : State) (base : Nat) (bs : List Byte) (rest : List SysTake) :
    let t := s.storeSlate base bs rest
    t.take.sys.takes = rest ∧ t.regNat .STK_WR = (s.regNat .STK_WR + 1) % 2 ^ 32 ∧
      SameRegs [.STK_WR, .EV_LOOP, .LEV_LOOP] s t := by
  let taken := (s.systemMarked.writeBytes 0 base bs).setSys { s.take.sys with takes := rest, missed := 0 }
  let counted := taken.countWrap .STK_WR
  intro t
  have hbehind : OnlyRegs [.EV_LOOP, .LEV_LOOP] counted t :=
    (onlyRegs_stkEvent counted 16).trans (onlyRegs_of_reg_eq (State.raise_reg _ _) (State.kept_raise _ _))
  refine ⟨?takes, ?counts, fun q j hq => ?only⟩
  case takes =>
    have htake : t.take = counted.take := (State.raise_take _ _).trans (counted.stkEvent_take 16)
    exact congrArg (·.sys.takes) htake
  case counts =>
    rw [State.regNat_congr (hbehind.1 _ 0 (by decide))]
    exact taken.countWrap_regNat .STK_WR 0
  case only =>
    obtain ⟨hwr, hev⟩ := not_or.1 (mt List.mem_cons.2 hq)
    exact (hbehind.1 q j hev).trans (taken.reg_setReg_other _ _ _ _ _ hwr)

/-- A system take that is asserted, whose regions are done, stands first. -/
structure State.SystemSlateDue (s : State) (k : SysTake) (rest : List SysTake) : Prop where
  first : s.take.sys.takes = k :: rest
  asserted : k.asserted = true
  done : ∀ n ∈ setBitsOf 16 k.mask, s.regionDone n k = true

variable {k : SysTake} {rest : List SysTake}

theorem systemSlateOp_of_due (h : s.SystemSlateDue k rest) :
    systemSlateOp s = s.storeSlate (s.systemSlateBase k) (s.systemSlate k) rest := by
  have hdone : ¬(!k.asserted || !(setBitsOf 16 k.mask).all (fun n => s.regionDone n k)) = true := by
    simpa [h.asserted] using h.done
  unfold systemSlateOp
  extract_lets -underBinder y
  split
  next hnone => cases hnone.symm.trans h.first
  next k' rest' hsome =>
    obtain ⟨rfl, rfl⟩ := List.cons.inj (hsome.symm.trans h.first)
    exact if_neg hdone

theorem systemSlateOp_counts (h : s.SystemSlateDue k rest) :
    let t := systemSlateOp s
    t.take.sys.takes = rest ∧ t.regNat .STK_WR = (s.regNat .STK_WR + 1) % 2 ^ 32 ∧ SameRegs [.STK_WR, .EV_LOOP, .LEV_LOOP] s t := by
  rw [systemSlateOp_of_due h]
  exact s.storeSlate_counts _ _ rest

/-- In a state whose memory is in its canonical form, the slate reads in the ring, and no other byte changes. -/
theorem systemSlateOp_reads (h : s.SystemSlateDue k rest) (hinv : s.Inv) :
    let t := systemSlateOp s
    let base := s.systemSlateBase k
    t.le 0 base 4 = k.q % 2 ^ 32 ∧ t.le 0 (base + 4) 1 = 0xFF ∧ t.le 0 (base + 28) 2 = k.x % 2048 ∧
      SameOutside (flat 0 base) 64 s t := by
  have hmem : (systemSlateOp s).mem = (s.writeBytes 0 (s.systemSlateBase k) (s.systemSlate k)).mem := by
    rw [systemSlateOp_of_due h, State.storeSlate_mem]
  obtain ⟨middle, tail, hslate, hlen⟩ := s.systemSlate_parts k
  have hpart (xs zs : List Byte) (n v a : Nat) (hbs : s.systemSlate k = xs ++ leBytes n v ++ zs) (ha : xs.length = a) :
      (systemSlateOp s).le 0 (s.systemSlateBase k + a) n = v % 256 ^ n := by
    rw [State.le_congr hmem, hbs, ← ha]
    exact State.le_writeBytes_part hinv _ _ _ _ _ _
  refine ⟨?take, ?engine, ?toff, fun sp a ha => ?outside⟩
  case take => exact hpart [] _ 4 k.q 0 (by rw [hslate]; simp only [List.append_assoc, List.nil_append]; rfl) rfl
  case engine =>
    exact hpart (leBytes 4 k.q) _ 1 0xFF 4 (by rw [hslate]; simp only [List.append_assoc]; rfl) (length_leBytes _ _)
  case toff =>
    have htoff := hpart _ tail 2 (k.x % 2048) 28 hslate (by simp [length_leBytes, hlen])
    exact htoff.trans (Nat.mod_eq_of_lt ((Nat.mod_lt _ (by decide)).trans (by decide)))
  case outside =>
    rw [State.byte_congr hmem]
    exact sameOutside_writeBytes hinv 0 _ _ sp a (by rwa [s.length_systemSlate k])

/-! ### The read pointer (R217) -/

theorem stkRdOp_of_beyond {v : Word} (h : s.regNat .STK_TRIG < v.toNat) : stkRdOp v s = s.stkResult Code.range := if_pos h

theorem stkRdOp_stores {v : Word} (h : v.toNat ≤ s.regNat .STK_TRIG) :
    let t := stkRdOp v s
    t.fld .STK_STATUS 0 15 8 = Code.ok ∧ t.reg .STK_RD = v ∧ OnlyRegs [.STK_STATUS, .STK_RD] s t := by
  let stored := s.setReg .STK_RD 0 v
  have hbehind : OnlyRegs [.STK_STATUS] stored ((stored.settleSysRing s.ftg).stkResult Code.ok) :=
    (onlyRegs_settleSysRing (List.mem_singleton_self _) stored _).trans (onlyRegs_stkResult (List.mem_singleton_self _) _ _)
  intro t
  rw [show t = (stored.settleSysRing s.ftg).stkResult Code.ok from if_neg (Nat.not_lt.2 h)]
  exact ⟨State.stkResult_code (by decide), (hbehind.1 _ 0 (by decide)).trans (s.reg_setReg_same _ _ _),
    (onlyRegs_setReg (by decide) s _ _).trans (hbehind.mono (by decide))⟩

/-! ### What an access and the passing of cc leave -/

theorem onlyRegs_onLink_of {rs rs' : List Reg} (who : Requester) {t : State} (h : OnlyRegs rs (s.onLink who) t)
    (hlink : .HIF_LINK ∈ rs') (hrs : rs ⊆ rs') : OnlyRegs rs' s t :=
  (onlyAt_onLink (List.mem_singleton_self _) s who).onlyRegs_fst.mono (by simpa using hlink) |>.trans (h.mono hrs)

theorem State.onLink_regNat (s : State) (who : Requester) (q : Reg) (j : Nat) (h : q ≠ .HIF_LINK) :
    (s.onLink who).regNat q j = s.regNat q j := State.regNat_congr (s.onLink_reg who q j h)

theorem State.onLink_stkArmed (s : State) (who : Requester) : (s.onLink who).stkArmed = s.stkArmed :=
  State.stkArmed_congr (s.onLink_reg who _ _ (by decide))

theorem State.onLink_take (s : State) (who : Requester) : (s.onLink who).take = s.take :=
  State.onLink_field (·.take) (fun _ _ => rfl) s who

theorem State.onLink_ftg (s : State) (who : Requester) : (s.onLink who).ftg = s.ftg :=
  State.onLink_field (·.ftg) (fun _ _ => rfl) s who

theorem State.onLink_epochRun (s : State) (who : Requester) : (s.onLink who).epochRun = s.epochRun :=
  State.onLink_field (·.epochRun) (fun _ _ => rfl) s who

theorem State.onLink_systemRing (s : State) (who : Requester) : (s.onLink who).systemRing = s.systemRing := by
  simp [State.systemRing, State.onLink_regNat, State.onLink_fld]

theorem State.onLink_memCap (s : State) (who : Requester) : (s.onLink who).memCap = s.memCap := by
  simp [State.memCap, State.pair, State.onLink_regNat, State.onLink_bit]

theorem State.sysPatternAt_congr {s t : State} (hreg : ∀ q j, t.reg q j = s.reg q j) (htake : t.take = s.take) (x : Nat) :
    t.sysPatternAt x = s.sysPatternAt x := by
  have hcount (q : Reg) (j : Nat) : t.regNat q j = s.regNat q j := State.regNat_congr (hreg q j)
  have hstamp : t.stampTrue x = s.stampTrue x := funext fun k => by
    simp only [State.stampTrue, State.fld_congr (hreg .STK_TERM k.t)]
  simp only [State.sysPatternAt, State.sysTermsAt, hcount, hstamp, htake]

end

/-- Settles O36: each row acts on the state past the link, or past its cc, and does there what the rules above say. -/
theorem systemTakesComplete : Obligations.SystemTakesComplete := by
  intro who dt v s p
  let u := s.onLink who
  have hreg (q : Reg) (j : Nat) : p.reg q j = s.reg q j := s.pass_reg dt q j
  have hcount (q : Reg) : p.regNat q = s.regNat q := State.regNat_congr (hreg q 0)
  have hfld (q : Reg) (hi lo : Nat) : p.fld q 0 hi lo = s.fld q 0 hi lo := s.pass_fld dt _ _ _ _
  have hpair (lo hi : Reg) : p.pair lo hi = s.pair lo hi := by simp only [State.pair, hcount]
  have hsys : p.take = s.take := s.pass_take dt
  have hpast {rs : List Reg} : OnlyRegs rs s p := onlyRegs_of_reg_eq hreg (s.kept_pass dt)
  refine ⟨fun ho => ?arm, fun ho => ?disarm, fun x k harr hx hat => ?arrival,
    fun w => ?trigger, ⟨_, rfl, ?assert⟩, fun k rest hfirst hasserted hdone => ?slate, fun ho => ?read⟩
  case arm =>
    intro base
    have hrest : s.stkArmed = false → u.stkArmed = false := (s.onLink_stkArmed who).trans
    refine completes_of_hubWrite rfl ho (by decide) ⟨fun h ha he hm => ?_, fun h ha => ?_, fun h => ?_, ?_⟩
    · have hclear : lowestCode u.systemArmChecks = none := State.systemArmChecks_of_clear ((s.onLink_systemRing who).symm ▸ ha)
        ((s.onLink_epochRun who).trans he) (by rwa [s.onLink_systemRing who, s.onLink_memCap who, s.onLink_fld who _ _ _ _ (by decide)])
      obtain ⟨harmed, hzero, harmAt, hcode⟩ := stkArmOp_arms (hrest h) hclear
      exact ⟨harmed, hzero _ (by decide), hzero _ (by decide), hzero _ (by decide), hzero _ (by decide), hzero _ (by decide),
        harmAt.trans (congrArg (· + 1) (s.onLink_ftg who)), hcode⟩
    · rw [stkArmOp_of_refused (hrest h) (State.systemArmChecks_of_align ((s.onLink_systemRing who).symm ▸ ha))]
      exact ⟨State.stkResult_code (by decide), (State.stkResult_stkArmed _).trans (hrest h)⟩
    · rw [stkArmOp_of_armed ((s.onLink_stkArmed who).trans h)]
      exact ⟨State.stkResult_code (by decide), s.onLink_take who⟩
    · exact onlyRegs_onLink_of who (onlyRegs_stkArmOp u) (by decide) (by decide)
  case disarm =>
    obtain ⟨hstate, hcode, htake, honly⟩ := stkDisarmOp_disarms u
    exact completes_of_hubWrite rfl ho (by decide)
      ⟨hstate, hcode, htake.trans (s.onLink_take who), onlyRegs_onLink_of who honly (by decide) (by decide)⟩
  case arrival =>
    have harrives : p.StampArrives k := ⟨hsys ▸ harr, hat⟩
    rw [← hfld, ← hcount, ← hsys]
    refine ⟨sysArrivalOp x p, rfl, ?_⟩
    rw [← hx]
    obtain hlate | hin := Nat.lt_or_ge (k.ts / 2048 + p.fld .STK_HZN 0 15 0) k.at_
    · obtain ⟨hempty, hcounts, hjoined, honly⟩ := sysArrivalOp_late harrives hlate
      exact ⟨hempty, fun _ => ⟨hcounts, hjoined, hpast.trans honly⟩, fun h => absurd hlate (Nat.not_lt.2 h)⟩
    · obtain ⟨hempty, hjoins, honly⟩ := sysArrivalOp_joins harrives hin
      exact ⟨hempty, fun h => absurd h (Nat.not_lt.2 hin), fun _ => ⟨hjoins, hpast.trans honly⟩⟩
  case trigger =>
    intro f x he harmed hl harm hhere hrises
    have hdecided : p.decidedAt w = x := by rw [State.decidedAt, hfld]
    have hpattern (z : Nat) : p.sysPatternAt z = s.sysPatternAt z := State.sysPatternAt_congr hreg hsys z
    have hfull : p.stkFull = s.stkFull := State.stkFull_congr hreg
    have hedge : p.SystemEdge w :=
      { run := (s.pass_epochRun dt).trans he
        armed := (State.stkArmed_congr (hreg _ 0)).trans harmed
        horizon := by rwa [hfld]
        armAt := by rwa [hfld, hsys]
        here := by rwa [hdecided, hpattern]
        rises := by rwa [hdecided, hpattern] }
    refine ⟨_, rfl, fun hmiss => ?_, fun hhold hroom hstart hend => ?_⟩
    · obtain ⟨hmissed, htakes, honly⟩ := systemTriggerOp_misses hedge (by rwa [hdecided, hfull, hsys])
      rw [hcount] at hmissed
      rw [hsys] at htakes
      exact ⟨hmissed, htakes, hpast.trans honly⟩
    · obtain ⟨htrig, hends, htakes, honly⟩ := systemTriggerOp_starts hedge (by rwa [hdecided, hsys]) (hfull.trans hroom)
        (by rwa [hpair, hfld]) (by rwa [hpair, hfld])
      rw [hcount, hdecided, hsys] at htakes
      rw [hcount] at htrig
      rw [hdecided, hfld] at hends
      exact ⟨htrig, hends, htakes, hpast.trans honly⟩
  case assert =>
    have htakes : (systemAssertOp p).take.sys.takes = p.assertedTakes := systemAssertOp_takes p
    have hlength : p.assertedTakes.length = s.take.sys.takes.length := (List.length_map _).trans (by rw [hsys])
    exact ⟨fun k hk => State.mem_assertedTakes (htakes ▸ hk), (congrArg List.length htakes).trans hlength,
      hpast.trans (onlyRegs_systemAssertOp p)⟩
  case slate =>
    intro base
    have hdue : p.SystemSlateDue k rest := ⟨hsys ▸ hfirst, hasserted, hdone⟩
    have hbase : p.systemSlateBase k = base := by
      simp only [State.systemSlateBase, State.systemRing, State.stkSlots, hcount, hfld, base]
    obtain ⟨htakes, hcounts, honly⟩ := systemSlateOp_counts hdue
    refine ⟨_, rfl, htakes, hcounts.trans (by rw [hcount]), fun q j hq => (honly q j hq).trans (hreg q j), fun hinv => ?_⟩
    obtain ⟨htake, hengine, htoff, hsame⟩ := systemSlateOp_reads hdue (by rwa [State.Inv, s.pass_mem dt])
    rw [hbase] at htake hengine htoff hsame
    exact ⟨htake, hengine, htoff, fun sp a ha => (hsame sp a ha).trans (State.byte_congr (s.pass_mem dt) sp a)⟩
  case read =>
    have htrig : u.regNat .STK_TRIG = s.regNat .STK_TRIG := s.onLink_regNat who _ _ (by decide)
    refine completes_of_hubWrite rfl ho (by decide) ⟨fun h => ?_, fun h => ?_⟩
    · rw [stkRdOp_of_beyond (htrig.symm ▸ h)]
      exact ⟨State.stkResult_code (by decide),
        onlyRegs_onLink_of who (onlyRegs_stkResult (List.mem_singleton_self _) u _) (by decide) (by decide)⟩
    · obtain ⟨hcode, hstored, honly⟩ := stkRdOp_stores (s := u) (htrig.symm ▸ h)
      exact ⟨hcode, hstored, onlyRegs_onLink_of who honly (by decide) (by decide)⟩

end Sys2Proof.Machine
end

-- ==== Calibration: what its operations store ====
section
/-!
PROOFS. The operations that the calibration statements share (R230, R231, R237-R239): the conditions that the passing of cc
keeps, units and their residuals, the trims that the Gaffer moves, free values taken, and the end of a foreground run.
-/

namespace Sys2Proof.Machine

/-! ### Conditions of an update once cc have passed (R230, R231) -/

section
variable {s : State} (dt : Nat)

theorem State.active_pass (h : s.active = true) : (s.pass dt).active = true := by
  simp only [State.active, State.goAccepted, State.pass_bit, State.pass_host, State.pass_now, Bool.and_eq_true,
    Option.all_eq_true, decide_eq_true_eq] at h ⊢
  exact ⟨h.1, fun c hc => (h.2 c hc).trans_le (Nat.le_add_right _ _)⟩

theorem State.pass_held : (s.pass dt).held = s.held := by simp [State.held]

/-- Cores 0 and 1 run as long as no watchdog holds them. -/
theorem State.pass_coreRuns {k : Nat} (hk : k < 2) : (s.pass dt).coreRuns k = s.coreRuns k := by
  simp only [State.coreRuns, State.pass_held, State.pass_bit, if_pos hk]

@[simp] theorem State.pass_servedAt (index sub d : Nat) : (s.pass dt).servedAt index sub d = s.servedAt index sub d := by
  simp [State.servedAt]

@[simp] theorem State.pass_calOpt (u : Nat) : (s.pass dt).calOpt u = s.calOpt u := by simp [State.calOpt]

@[simp] theorem State.pass_calUnit (u : Nat) : (s.pass dt).calUnit u = s.calUnit u := by simp [State.calUnit]

@[simp] theorem State.pass_disc (x : Nat) : (s.pass dt).disc x = s.disc x := by simp [State.disc]

theorem State.background_pass {u : Nat} (h : s.background u = true) : (s.pass dt).background u = true := by
  have hrun : (s.pass dt).inRun u = s.inRun u := by simp [State.inRun]
  simp only [State.background, Bool.and_eq_true] at h
  obtain ⟨⟨⟨⟨hactive, hcore⟩, hon⟩, hopt⟩, hidle⟩ := h
  simp [State.background, State.active_pass dt hactive, State.pass_coreRuns, hcore, hrun, hidle, hopt, hon]

end
/-! ### Registers that an effect stores -/

theorem State.pair_congr {s t : State} {lo hi : Reg} {i : Nat} (hlo : t.reg lo i = s.reg lo i) (hhi : t.reg hi i = s.reg hi i) :
    t.pair lo hi i = s.pair lo hi i := by
  rw [State.pair, State.pair, State.regNat_congr hlo, State.regNat_congr hhi]

theorem wrapTo_lt (n : Nat) (x : Int) : wrapTo n x < 2 ^ n := by
  have hpos : (0 : Int) < (2 ^ n : Nat) := by exact_mod_cast Nat.two_pow_pos n
  have hlt := Int.emod_lt_of_pos x hpos
  have hnonneg := Int.emod_nonneg x hpos.ne'
  unfold wrapTo
  omega

/-- A 64-bit sum stored reads back. -/
theorem State.pair_setPair_wrapTo (s : State) {lo hi : Reg} (h : lo ≠ hi) (i : Nat) (x : Int) :
    (s.setPair lo hi i (wrapTo 64 x)).pair lo hi i = wrapTo 64 x :=
  (s.pair_setPair h i _).trans (Nat.mod_eq_of_lt (wrapTo_lt 64 x))

/-! ### Free values taken -/

/-- `t` is `s` once free values were taken. -/
def Freed (s t : State) : Prop := ∃ n, t = { s with freeCtr := n }

section
variable {s t u : State}

theorem Freed.refl (s : State) : Freed s s := ⟨s.freeCtr, rfl⟩

theorem Freed.trans (h : Freed s t) (h' : Freed t u) : Freed s u := by
  obtain ⟨m, rfl⟩ := h
  obtain ⟨n, rfl⟩ := h'
  exact ⟨n, rfl⟩

/-- One of two values that may be free is taken. -/
theorem Freed.of_ite {α : Type} {c : Prop} [Decidable c] {x y : α × State} (hx : Freed s x.2) (hy : Freed s y.2) :
    Freed s (if c then x else y).2 := by
  split
  · exact hx
  · exact hy

theorem freed_free (s : State) (w : Nat) : Freed s (s.free w).2 := ⟨_, rfl⟩

theorem freed_freeList (s : State) (n w : Nat) : Freed s (s.freeList n w).2 := by
  induction n generalizing s with
  | zero => exact .refl s
  | succ n ih => exact (freed_free s w).trans (ih _)

theorem freed_interleaveResiduals (s : State) (x : InterleaveEstimate) : Freed s (s.interleaveResiduals x).2 := by
  unfold State.interleaveResiduals
  extract_lets ra inv rb
  have hra : Freed s ra.2 := by
    unfold ra
    split
    · exact .refl s
    · exact freed_free s 32
  exact hra.trans (.of_ite (.refl _) (freed_free _ 32))

end

/-! ### Units and residuals (R237, R238) -/

section
variable {β : Type} (s : State) (u : Nat)

@[simp] theorem State.setCalUnit_calUnit (x : CalUnit) : (s.setCalUnit u x).calUnit u = x := tget_tset_same _ _ _ _

theorem State.calUnit_congr {s t : State} (h : t.cal.unit = s.cal.unit) (u : Nat) : t.calUnit u = s.calUnit u := by
  simp only [State.calUnit, h]

theorem State.raiseCal_field (f : State → β) (hraise : ∀ s k, f (State.raise s k) = f s) : f (s.raiseCal u) = f s := by
  unfold State.raiseCal
  split
  · exact hraise _ _
  · rfl

/-- One update more is stored with the unit, and its source may rise. -/
theorem State.calPublish_cases (status a b c : Nat) : ∃ x : CalUnit, x.updates = (s.calUnit u).updates + 1 ∧
    (s.calPublish u status a b c = s.setCalUnit u x ∨ s.calPublish u status a b c = (s.setCalUnit u x).raiseCal u) := by
  unfold State.calPublish
  extract_lets x l ok met missed st t
  refine ⟨{ x with state := st, last := status, updates := x.updates + 1, residA := a, residB := b, residC := c, met, missed },
    rfl, ?_⟩
  split
  · exact .inr rfl
  · exact .inl rfl

theorem State.calPublish_field (f : State → β) (hunit : ∀ s u x, f (State.setCalUnit s u x) = f s)
    (hraise : ∀ s k, f (State.raise s k) = f s) (status a b c : Nat) : f (s.calPublish u status a b c) = f s := by
  obtain ⟨x, -, h | h⟩ := s.calPublish_cases u status a b c <;> rw [h]
  · exact hunit s u x
  · exact (State.raiseCal_field _ u f hraise).trans (hunit s u x)

theorem State.calPublish_updates (status a b c : Nat) :
    ((s.calPublish u status a b c).calUnit u).updates = (s.calUnit u).updates + 1 := by
  obtain ⟨x, hx, h | h⟩ := s.calPublish_cases u status a b c <;> rw [h]
  · rw [State.setCalUnit_calUnit, hx]
  · rw [State.raiseCal_field _ u (·.calUnit u) fun s k => State.calUnit_congr (by simp) u, State.setCalUnit_calUnit, hx]

theorem onlyAt_calPublish {l : List (Reg × Nat)} (status a b c : Nat) : OnlyAt l s (s.calPublish u status a b c) :=
  onlyAt_of_reg_eq (fun q j => s.calPublish_field u (·.reg q j) (fun _ _ _ => rfl) (fun s k => s.raise_reg k q j) status a b c)
    (s.kept_calPublish u status a b c)

theorem onlyAt_calNoSignal {l : List (Reg × Nat)} : OnlyAt l s (s.calNoSignal u) :=
  onlyAt_of_reg_eq (fun _ _ => rfl) rfl

theorem State.calNoSignal_state : ((s.calNoSignal u).calUnit u).state = 7 := by
  rw [State.calNoSignal, State.setCalUnit_calUnit]

/-! ### Trims that the Gaffer moves (R230, R239) -/

/-- A trim, whether it is signed, and how far it moves. -/
abbrev TrimMove := (Reg × Nat × Nat × Nat) × Bool × Int

theorem State.trimWritten_field (f : State → β) (hunit : ∀ s u x, f (State.setCalUnit s u x) = f s) :
    f (s.trimWritten u) = f s :=
  State.ite_field f rfl (hunit _ _ _)

theorem State.trimWritten_updates : ((s.trimWritten u).calUnit u).updates = (s.calUnit u).updates :=
  State.ite_field (fun t => (t.calUnit u).updates) rfl (by rw [State.setCalUnit_calUnit])

/-- What neither the listed registers nor the note of a write changes, trims that move leave as it was. -/
theorem State.moveTrims_field (f : State → β) (hnote : ∀ s, f (State.trimWritten s u) = f s) (ms : List TrimMove)
    (hreg : ∀ s, ∀ m ∈ ms, ∀ w, f (State.setReg s m.1.1 m.1.2.1 w) = f s) :
    f (s.moveTrims u ms).2 = f s := by
  unfold State.moveTrims
  split
  · rfl
  · refine List.foldlRecOn (motive := fun a : Bool × State => f a.2 = f s) ms _ rfl fun a ha m hm => ?_
    exact (hnote _).trans ((hreg _ m hm _).trans ha)

theorem State.moveTrims_of_frozen (h : s.frozen u = true) (ms : List TrimMove) : (s.moveTrims u ms).2 = s := by
  rw [State.moveTrims, if_pos h]

theorem State.moveTrims_updates (ms : List TrimMove) :
    ((s.moveTrims u ms).2.calUnit u).updates = (s.calUnit u).updates :=
  s.moveTrims_field u (fun t => (t.calUnit u).updates) (fun t => t.trimWritten_updates u) ms fun _ _ _ _ => rfl

theorem onlyRegs_moveTrims {rs : List Reg} {ms : List TrimMove} (h : ∀ m ∈ ms, m.1.1 ∈ rs) :
    OnlyRegs rs s (s.moveTrims u ms).2 :=
  ⟨fun q j hq => s.moveTrims_field u (·.reg q j) (fun s => s.trimWritten_field u (·.reg q j) fun _ _ _ => rfl) ms
    fun s m hm _ => s.reg_setReg_other _ _ _ _ _ fun he => hq (he ▸ h m hm), .of_kept (s.kept_moveTrims u ms)⟩

end

/-! ### Freeze bits (R239) -/

/-- The registers that hold the freeze bits. -/
abbrev freezeRegs : List Reg := [.CAL_FRZ, .CAL_TILE_FRZ, .CAL_TIO_FRZ, .CAL_BIAS_FRZ, .CAL_IC_FRZ]

theorem frzHome_mem (u : Nat) : ∀ x ∈ frzHome u, x.1 ∈ freezeRegs := by
  unfold frzHome
  repeat' split
  all_goals simp

/-- Whether a unit is frozen follows from the freeze registers, what was written of them in this cc, and the cc. -/
theorem State.frozen_congr {s t : State} (hreg : ∀ q ∈ freezeRegs, ∀ j, t.reg q j = s.reg q j)
    (hold : t.cal.frzOld = s.cal.frzOld) (hnow : t.now = s.now) (u : Nat) : t.frozen u = s.frozen u := by
  unfold State.frozen
  split
  next r i b h =>
    have hword : t.frzWord r i = s.frzWord r i := by
      simp only [State.frzWord, hold, hnow, hreg r (frzHome_mem u _ h) i]
    rw [hword]
  next => rfl

/-! ### Runs (R231) -/

section
variable {β : Type} (s : State)

/-- An update of the run in progress counts, nothing else changes. -/
theorem State.stepRun_field (f : State → β) (h : ∀ s r, f { s with cal := { s.cal with run := r } } = f s) :
    f s.stepRun = f s := by
  unfold State.stepRun
  split
  · exact h _ _
  · rfl

/-- The end of a run stores its unit and status; only the noise source of a KIND 1 run is a register. -/
theorem State.endRun_field (f : State → β) (r : CalRun) (status : Nat)
    (hnoise : r.kind = 1 → ∀ s i v, f (State.setReg s .CAL_CL_CTRL i v) = f s) (hraise : ∀ s k, f (State.raise s k) = f s) :
    let t := { s with cal := { s.cal with run := none, lastU := r.u, lastStatus := status } }
    f (s.endRun r status) = f (t.setCalUnit r.u { t.calUnit r.u with last := status }) := by
  intro t
  unfold State.endRun
  refine (State.raiseCal_field _ _ f hraise).trans ?_
  split
  next hkind _ => exact hnoise hkind _ _ _
  next => rfl

theorem State.endRun_cal (r : CalRun) (status : Nat) :
    let t := s.endRun r status
    t.cal.run = none ∧ t.cal.lastU = r.u ∧ t.cal.lastStatus = status := by
  have hcal := s.endRun_field (·.cal) r status (fun _ _ _ _ => rfl) State.raise_cal
  intro t
  rw [show t.cal = _ from hcal]
  exact ⟨rfl, rfl, rfl⟩

theorem State.endRun_reg (r : CalRun) (status : Nat) (q : Reg) (j : Nat) (h : r.kind = 1 → q ≠ .CAL_CL_CTRL) :
    (s.endRun r status).reg q j = s.reg q j :=
  s.endRun_field (·.reg q j) r status (fun hk s _ _ => s.reg_setReg_other _ _ _ _ _ (h hk)) fun s k => s.raise_reg k q j

end

end Sys2Proof.Machine
end

-- ==== Proof of the calibration runs statement ====
section
/-!
PROOFS. Foreground runs, the histogram and freezing (R231, R235, R239, R240). CAL_RUN acts on the state as it is, its end on the
state once its cc have passed, CAL_HIST_POP and the freeze registers on the state that the access leaves
(`State.throughOpen`). What each does is said once, of the state that it acts on.
-/

namespace Sys2Proof.Machine

section
variable {β : Type} {s : State}

/-! ### A run that starts (R231) -/

/-- The run of KIND `kind` on unit `u` is in progress. -/
def State.runStarted (s : State) (u kind : Nat) : State := { s with cal := { s.cal with run := some { u, kind } } }

theorem State.wakeShallow_field (f : State → β) (hpower : ∀ s n x, f (State.setPower s n x) = f s)
    (hviews : ∀ s p, f (State.clearViews s p) = f s) (hcount : ∀ s n w, f (State.setReg s .PWR_STATE n w) = f s)
    (hraise : ∀ s k, f (State.raise s k) = f s) (s : State) (n : Nat) : f (s.wakeShallow n) = f s := by
  refine State.ite_field f ?_ rfl
  calc f (s.arriveRun n)
      = f ((s.setPower n _).clearViews _) := (hraise _ _).trans (hcount _ _ _)
    _ = f s := (hviews _ _).trans (hpower _ _ _)

theorem State.calRun_code (s : State) (v : Word) : (s.calRun v).1 = s.calRunCode (bits v 11 0) (bits v 15 12) := by
  unfold State.calRun
  extract_lets u kind code
  split <;> rfl

/-- A run that starts wakes the region of its unit, and one of KIND 1 connects the noise source. -/
theorem State.calRun_field_of_ok {v : Word} (h : s.calRunCode (bits v 11 0) (bits v 15 12) = Code.ok) (f : State → β)
    (hpower : ∀ s n x, f (State.setPower s n x) = f s) (hviews : ∀ s p, f (State.clearViews s p) = f s)
    (hreg : ∀ s, ∀ r ∈ [Reg.CAL_CL_CTRL, .PWR_STATE], ∀ i w, f (State.setReg s r i w) = f s)
    (hraise : ∀ s k, f (State.raise s k) = f s) :
    f (s.calRun v).2 = f (s.runStarted (bits v 11 0) (bits v 15 12)) := by
  unfold State.calRun
  extract_lets u kind code cal started woken
  rw [if_neg (not_not.2 h)]
  show f woken = f started
  unfold woken
  split
  next g _ =>
    have hwake : f (started.wakeShallow (g / 4)) = f started :=
      State.wakeShallow_field f hpower hviews (fun s => hreg s .PWR_STATE (by decide)) hraise started _
    split
    · exact (hreg _ .CAL_CL_CTRL (by decide) _ _).trans hwake
    · exact hwake
  next => rfl

theorem State.servedWrite_field (f : State → β) (hserved : ∀ s i j v, f (State.setServed s i j v) = f s)
    (hraise : ∀ s k, f (State.raise s k) = f s) (s : State) : f s.servedWrite = f s :=
  (hserved _ _ _ _).trans (hraise _ _)

theorem calRunOp_of_served (ha : s.active = true) (hc : s.coreRuns 0 = true) (v : Word) :
    calRunOp v s = (s.calRunServed v).2.emit (.objectAnswer (s.calRunServed v).1) := by
  simp [calRunOp, ha, hc]

theorem State.calRunServed_of_refused {v : Word} (h : s.calRunCode (bits v 11 0) (bits v 15 12) ≠ Code.ok) :
    s.calRunServed v = (s.calRunCode (bits v 11 0) (bits v 15 12), s) := by
  have hrefused : s.calRun v = (s.calRunCode (bits v 11 0) (bits v 15 12), s) := if_pos h
  rw [State.calRunServed, hrefused, if_neg h]

theorem State.calRunServed_of_ok {v : Word} (h : s.calRunCode (bits v 11 0) (bits v 15 12) = Code.ok) :
    s.calRunServed v = (Code.ok, (s.calRun v).2.servedWrite) := by
  have hcode : (s.calRun v).1 = Code.ok := (s.calRun_code v).trans h
  rw [State.calRunServed, hcode, if_pos rfl]

theorem State.calRunServed_field_of_ok {v : Word} (h : s.calRunCode (bits v 11 0) (bits v 15 12) = Code.ok) (f : State → β)
    (hpower : ∀ s n x, f (State.setPower s n x) = f s) (hviews : ∀ s p, f (State.clearViews s p) = f s)
    (hreg : ∀ s, ∀ r ∈ [Reg.CAL_CL_CTRL, .PWR_STATE], ∀ i w, f (State.setReg s r i w) = f s)
    (hraise : ∀ s k, f (State.raise s k) = f s) (hserved : ∀ s i j v, f (State.setServed s i j v) = f s) :
    f (s.calRunServed v).2 = f (s.runStarted (bits v 11 0) (bits v 15 12)) := by
  rw [State.calRunServed_of_ok h]
  exact (State.servedWrite_field f hserved hraise _).trans (State.calRun_field_of_ok h f hpower hviews hreg hraise)

theorem State.calRunServed_code (s : State) (v : Word) :
    (s.calRunServed v).1 = s.calRunCode (bits v 11 0) (bits v 15 12) := s.calRun_code v

theorem State.calRunServed_starts {v : Word} (h : s.calRunCode (bits v 11 0) (bits v 15 12) = Code.ok) :
    let t := (s.calRunServed v).2
    t.out = s.out ∧ t.cal.run = some { u := bits v 11 0, kind := bits v 15 12 } ∧ OnlyRegs [.CAL_CL_CTRL, .PWR_STATE] s t :=
  ⟨State.calRunServed_field_of_ok h (·.out) (fun _ _ _ => rfl) (fun _ _ => rfl) (fun _ _ _ _ _ => rfl) State.raise_out
      fun _ _ _ _ => rfl,
    State.calRunServed_field_of_ok h (·.cal.run) (fun _ _ _ => rfl) (fun _ _ => rfl) (fun _ _ _ _ _ => rfl)
      (fun s k => congrArg (·.run) (s.raise_cal k)) fun _ _ _ _ => rfl,
    fun q j hq => State.calRunServed_field_of_ok h (·.reg q j) (fun _ _ _ => rfl) (fun _ _ => rfl)
      (fun s _ hr _ _ => s.reg_setReg_other _ _ _ _ _ fun he => hq (he ▸ hr)) (fun s k => s.raise_reg k q j) fun _ _ _ _ => rfl,
    .of_kept (s.kept_calRunServed v)⟩

/-! ### A run that ends (R231, R239) -/

/-- A run has made what its KIND asks: 64 updates for KIND 1, a fit for KIND 3. -/
structure CalRun.Made (r : CalRun) : Prop where
  updates : r.kind = 1 → 64 ≤ r.steps
  fit : r.kind = 3 → 0 < r.steps

/-- What the run measured is written, unless its KIND writes as it goes or the unit is frozen. -/
def State.runApplied (s : State) (r : CalRun) (writes : List (Nat × Nat)) : State :=
  if (r.kind == 1 || r.kind == 3) || s.frozen r.u then s
  else match calClass r.u with
    | some (.discriminator, t) =>
      let home (i : Nat) : Reg := match i with | 1 => .TONE_TH0 | 2 => .TONE_TH1 | _ => .TONE_TH2
      let th (i : Nat) : Int := signed 32 ((tfind writes i).getD (s.regNat (home i) t))
      s.applyFit t ((tfind writes 0).getD (s.fld .TONE_ROT t 15 0)) [th 1, th 2, th 3]
    | _ => State.forEach writes (fun p s => s.putTrim r.u p) s

theorem calRunEndOp_of_made {r : CalRun} (hrun : s.cal.run = some r) (hcore : s.coreRuns 0 = true) (hmade : r.Made)
    (status : Nat) (writes : List (Nat × Nat)) (a b c : Nat) :
    let ended := (s.runApplied r writes).endRun r status
    calRunEndOp status writes a b c s =
      if r.kind == 1 || r.kind == 3 then ended else ended.calPublish r.u status a b c := by
  have hdone : ¬((r.kind = 1 ∧ r.steps < 64) ∨ (r.kind = 3 ∧ r.steps = 0) ∨ s.coreRuns 0 = false) := by
    have h1 := hmade.updates
    have h3 := hmade.fit
    simp only [hcore, Bool.true_eq_false, or_false]
    omega
  unfold calRunEndOp
  split
  next hnone => cases hnone.symm.trans hrun
  next r' hsome =>
    obtain rfl := Option.some.inj (hsome.symm.trans hrun)
    exact if_neg hdone

section
variable {r : CalRun} (hrun : s.cal.run = some r) (hcore : s.coreRuns 0 = true) (hmade : r.Made)
include hrun hcore hmade

/-- The residuals of the run are published after its end. -/
theorem calRunEndOp_field (f : State → β) (hunit : ∀ s u x, f (State.setCalUnit s u x) = f s)
    (hraise : ∀ s k, f (State.raise s k) = f s) (status : Nat) (writes : List (Nat × Nat)) (a b c : Nat) :
    f (calRunEndOp status writes a b c s) = f ((s.runApplied r writes).endRun r status) := by
  rw [calRunEndOp_of_made hrun hcore hmade]
  exact State.ite_field f rfl (State.calPublish_field _ _ f hunit hraise _ _ _ _)

theorem calRunEndOp_ends (status : Nat) (writes : List (Nat × Nat)) (a b c : Nat) :
    let t := calRunEndOp status writes a b c s
    t.cal.run = none ∧ t.cal.lastU = r.u ∧ t.cal.lastStatus = status := by
  have hfield := fun {γ : Type} (f : CalState → γ) (hunit : ∀ c x, f { c with unit := x } = f c) =>
    calRunEndOp_field hrun hcore hmade (fun t => f t.cal) (fun s _ _ => hunit s.cal _)
      (fun s k => congrArg f (s.raise_cal k)) status writes a b c
  obtain ⟨hnone, hunit, hstatus⟩ := (s.runApplied r writes).endRun_cal r status
  exact ⟨(hfield (·.run) fun _ _ => rfl).trans hnone, (hfield (·.lastU) fun _ _ => rfl).trans hunit,
    (hfield (·.lastStatus) fun _ _ => rfl).trans hstatus⟩

theorem calRunEndOp_reg (status : Nat) (writes : List (Nat × Nat)) (a b c : Nat) (q : Reg) (j : Nat)
    (h : r.kind = 1 → q ≠ .CAL_CL_CTRL) :
    (calRunEndOp status writes a b c s).reg q j = (s.runApplied r writes).reg q j :=
  (calRunEndOp_field hrun hcore hmade (·.reg q j) (fun _ _ _ => rfl) (fun s k => s.raise_reg k q j) _ _ _ _ _).trans
    (State.endRun_reg _ r status q j h)

end

theorem State.runApplied_of_frozen {r : CalRun} (h : s.frozen r.u = true) (writes : List (Nat × Nat)) :
    s.runApplied r writes = s := if_pos (by rw [h, Bool.or_true])

theorem calClass_of_rfDac {u : Nat} (hlo : 0x40 ≤ u) (hhi : u < 0xC0) : calClass u = some (.rfDac, u - 0x40) := by
  rw [calClass, if_neg (Nat.not_lt.2 hlo), if_pos hhi]

/-- Trim 0 of an RF DAC is its offset. -/
theorem State.putTrim_rfDac {u : Nat} (hlo : 0x40 ≤ u) (hhi : u < 0xC0) (x : Nat) :
    s.putTrim u (0, x) = (s.setFld .RFO_OFS_TRIM (u - 0x40) 11 0 x).trimWritten u := by
  simp [State.putTrim, unitTrims, calClass_of_rfDac hlo hhi]

theorem State.runApplied_reg_of_rfDac {r : CalRun} (hlo : 0x40 ≤ r.u) (hhi : r.u < 0xC0) (h1 : r.kind ≠ 1) (h3 : r.kind ≠ 3)
    (h : s.frozen r.u = false) (x : Nat) (q : Reg) (j : Nat) :
    (s.runApplied r [(0, x)]).reg q j = (s.setFld .RFO_OFS_TRIM (r.u - 0x40) 11 0 x).reg q j := by
  have hwritten : s.runApplied r [(0, x)] = s.putTrim r.u (0, x) := by
    simp [State.runApplied, h1, h3, h, calClass_of_rfDac hlo hhi, State.forEach]
  rw [hwritten, State.putTrim_rfDac hlo hhi]
  exact State.trimWritten_field _ _ (·.reg q j) fun _ _ _ => rfl

/-! ### The histogram (R235, R242) -/

/-- A command that is one read of a register open to it completes with what its effect makes of the state past the access, and
the word it answers. -/
theorem completes_of_regAccessRead {c : Instr} {who : Requester} {r : Reg} {i : Nat} {op : State → BitVec 64 × State}
    {P : State → Prop} (hc : exec c s = .next (s.regAccessRead who r i op)) (ho : s.OpenReg who r i)
    (hP : let x := op (s.throughOpen who (regAddr r i)); P (x.2.emit (.readData who x.1))) : Completes c s P :=
  ⟨_, hc, by rwa [State.regAccessRead, s.accessRead_open who _ op ho.1 ho.2]⟩

theorem State.throughOpen_rd (s : State) (who : Requester) (a : Nat) : (s.throughOpen who a).rd = s.rd :=
  s.throughOpen_field (·.rd) (fun _ _ => rfl) (fun _ _ _ => rfl) (fun _ _ => rfl) (fun _ _ _ => rfl) State.raise_rd who a

theorem histPopOp_of_empty {g : Nat} (h : tget [] s.rd.hist g = []) (who : Requester) : histPopOp who g s = (0, s) := by
  simp [histPopOp, h]

/-- The oldest entry has left the histogram and stands in the registers that show it. -/
def State.histClaimed (s : State) (g : Nat) (yi yq : Word) (rest : List (Nat × Word × Word)) : State :=
  (({ s with rd := { s.rd with hist := tset s.rd.hist g rest } }).setReg .CAL_HIST_YI g yi).setReg .CAL_HIST_YQ g yq

section
variable {g x : Nat} {yi yq : Word} {rest : List (Nat × Word × Word)} (h : tget [] s.rd.hist g = (x, yi, yq) :: rest)
include h

theorem histPopOp_word (who : Requester) : (histPopOp who g s).1 = BitVec.ofNat 64 (x + 256) := by
  simp only [histPopOp, h]

/-- What core 0 or 1 claims goes into the fit of its tone. -/
theorem histPopOp_field (f : State → β) (hdisc : ∀ s x d, f (State.setDisc s x d) = f s) (who : Requester) :
    f (histPopOp who g s).2 = f (s.histClaimed g yi yq rest) := by
  simp only [histPopOp, h]
  exact State.ite_field f (hdisc _ _ _) rfl

theorem histPopOp_claims (who : Requester) :
    let r := histPopOp who g s
    let t := r.2.emit (.readData who r.1)
    t.out = s.out ++ [.readData who (BitVec.ofNat 64 (x + 256))] ∧ tget [] t.rd.hist g = rest ∧ t.reg .CAL_HIST_YI g = yi ∧
      t.reg .CAL_HIST_YQ g = yq ∧ OnlyAt [(.CAL_HIST_YI, g), (.CAL_HIST_YQ, g)] s t := by
  let taken : State := { s with rd := { s.rd with hist := tset s.rd.hist g rest } }
  have hreg (q : Reg) (j : Nat) : (histPopOp who g s).2.reg q j = (s.histClaimed g yi yq rest).reg q j :=
    histPopOp_field h (·.reg q j) (fun _ _ _ => rfl) who
  have htaken : OnlyAt [(.CAL_HIST_YI, g), (.CAL_HIST_YQ, g)] s taken := onlyAt_of_reg_eq (fun _ _ => rfl) rfl
  have honly : OnlyAt [(.CAL_HIST_YI, g), (.CAL_HIST_YQ, g)] s (s.histClaimed g yi yq rest) :=
    htaken.trans ((onlyAt_setReg taken yi (by simp)).trans (onlyAt_setReg _ yq (by simp)))
  intro r t
  refine ⟨?out, ?rest, (hreg _ _).trans ?yi, (hreg _ _).trans ?yq,
    honly.trans (onlyAt_of_reg_eq hreg (histPopOp_field h (·.kept) (fun _ _ _ => rfl) who))⟩
  case out =>
    show r.2.out ++ [.readData who r.1] = _
    rw [show r.1 = _ from histPopOp_word h who, histPopOp_field h (·.out) (fun _ _ _ => rfl) who]
    rfl
  case rest => exact (histPopOp_field h (fun u => tget [] u.rd.hist g) (fun _ _ _ => rfl) who).trans (tget_tset_same _ _ _ _)
  case yi => exact (State.reg_setReg_other _ _ _ _ _ _ (by decide)).trans (State.reg_setReg_same _ _ _ _)
  case yq => exact State.reg_setReg_same _ _ _ _

end

/-! ### Freezing (R239, R240) -/

theorem freezeWriteOp_of_unreached {r : FreezeReg} (h : s.freezeReach r = false) (v : Word) : freezeWriteOp r v s = s := by
  simp [freezeWriteOp, h]

theorem State.takeMark_field (f : State → β) (htake : ∀ s x, f { s with take := x } = f s) (s : State) (n b : Nat) :
    f (s.takeMark n b) = f s := (htake _ _).trans (htake s _)

/-- The freeze register of `r` is stored, and what it was acts for the rest of the cc. -/
def State.freezeStored (s : State) (r : FreezeReg) (v : Word) : State :=
  let h := freezeHome r
  { s.setReg h.1 h.2.1 (v &&& h.2.2) with
    cal := { s.cal with frzOld := tset s.cal.frzOld (regKey h.1 h.2.1) (s.now, s.frzWord h.1 h.2.1) } }

/-- The takes of the regions with a frozen unit are marked. -/
def State.markFrozen (s : State) : State :=
  State.forEach ((List.range 16).filter s.calFrozen) (fun n s => s.takeMark n 4) s

theorem State.markFrozen_field (f : State → β) (htake : ∀ s x, f { s with take := x } = f s) (s : State) :
    f s.markFrozen = f s := State.forEach_field _ _ s f fun n s => s.takeMark_field f htake n 4

/-- Beside the takes that are marked and the source of the region, that is all a write of it does. -/
theorem freezeWriteOp_field {r : FreezeReg} (h : s.freezeReach r = true) (f : State → β)
    (htake : ∀ s x, f { s with take := x } = f s) (hraise : ∀ s k, f (State.raise s k) = f s) (v : Word) :
    f (freezeWriteOp r v s) = f (s.freezeStored r v) := by
  unfold freezeWriteOp
  extract_lets home old w changed mark marked stored after _ noted
  let cal : CalState := (s.freezeStored r v).cal
  have hcal : noted.cal = cal := by
    have hafter : after.cal = s.cal :=
      (stored.markFrozen_field (·.cal) fun _ _ => rfl).trans (s.markFrozen_field (·.cal) fun _ _ => rfl)
    have hnow : stored.now = s.now := s.markFrozen_field (·.now) fun _ _ => rfl
    change ({ after.cal with frzOld := tset after.cal.frzOld (regKey home.1 home.2.1) (stored.now, old) } : CalState) = cal
    rw [hafter, hnow]
    rfl
  have hnoted : f noted = f (s.freezeStored r v) := by
    calc f noted
        = f { after with cal } := by rw [← hcal]
      _ = f { stored with cal } := stored.markFrozen_field (fun t => f { t with cal }) fun t x => htake { t with cal } x
      _ = f (s.freezeStored r v) :=
          s.markFrozen_field (fun t => f { t.setReg home.1 home.2.1 w with cal })
            fun t x => htake { t.setReg home.1 home.2.1 w with cal } x
  rw [if_neg (by simp [h])]
  split
  · exact (State.ite_field f (hraise _ _) rfl).trans hnoted
  · exact hnoted

theorem freezeWriteOp_stores {r : FreezeReg} (h : s.freezeReach r = true) (v : Word) :
    let home := freezeHome r
    let t := freezeWriteOp r v s
    t.reg home.1 home.2.1 = v &&& home.2.2 ∧ t.frzWord home.1 home.2.1 = s.frzWord home.1 home.2.1 ∧
      OnlyAt [(home.1, home.2.1)] s t := by
  intro home t
  have hreg (q : Reg) (j : Nat) : t.reg q j = (s.setReg home.1 home.2.1 (v &&& home.2.2)).reg q j :=
    freezeWriteOp_field h (·.reg q j) (fun _ _ => rfl) (fun s k => s.raise_reg k q j) v
  have hold : t.cal.frzOld = tset s.cal.frzOld (regKey home.1 home.2.1) (s.now, s.frzWord home.1 home.2.1) :=
    freezeWriteOp_field h (·.cal.frzOld) (fun _ _ => rfl) (fun s k => congrArg (·.frzOld) (s.raise_cal k)) v
  have hnow : t.now = s.now := freezeWriteOp_field h (·.now) (fun _ _ => rfl) State.raise_now v
  refine ⟨(hreg _ _).trans (State.reg_setReg_same _ _ _ _), ?_, ?_⟩
  · simp [State.frzWord, hold, hnow]
  · exact (onlyAt_setReg s _ (List.mem_singleton_self _)).trans (onlyAt_of_reg_eq hreg (kept_freezeWriteOp r v s))

end

/-- Settles O37: a write of CAL_RUN acts on the state as it is, the end of a run on the state past its cc, CAL_HIST_POP and the
freeze registers on the state past their access; there each does what the rules above say. -/
theorem calibrationRuns : Obligations.CalibrationRuns := by
  intro who dt v g s p
  refine ⟨fun ha hc => ⟨_, rfl, ?run⟩, fun st ws a b c r hrun hc h1 h3 => ⟨_, rfl, ?runEnd⟩, fun ho => ?pop,
    fun r ho => ?freeze⟩
  case run =>
    let code := s.calRunCode (bits v 11 0) (bits v 15 12)
    have hserved : calRunOp v s = (s.calRunServed v).2.emit (.objectAnswer code) := by
      rw [calRunOp_of_served ha hc, s.calRunServed_code]
    rw [hserved]
    by_cases hok : code = Code.ok
    · obtain ⟨hout, hrun, honly⟩ := State.calRunServed_starts hok
      exact ⟨congrArg (· ++ _) hout, fun _ => ⟨hrun, honly⟩, fun h => absurd hok h⟩
    · rw [State.calRunServed_of_refused hok]
      exact ⟨rfl, fun h => absurd h hok, fun _ => rfl⟩
  case runEnd =>
    have hrun' : p.cal.run = some r := by rw [s.pass_cal dt, hrun]
    have hcore : p.coreRuns 0 = true := (s.pass_coreRuns dt (by decide)).trans hc
    obtain ⟨hnone, hunit, hstatus⟩ := calRunEndOp_ends hrun' hcore ⟨h1, h3⟩ st.toNat ws a.toNat b.toNat c.toNat
    have hreg := calRunEndOp_reg hrun' hcore ⟨h1, h3⟩ st.toNat
    refine ⟨hnone, hunit, hstatus, .of_kept ((kept_calRunEndOp _ _ _ _ _ _).trans (s.kept_pass dt)), fun hfrozen q j hq => ?_,
      fun x hws hlo hhi hk1 hk3 hfree => ?_⟩
    · rw [hreg _ _ _ _ _ _ fun _ => by simpa using hq, State.runApplied_of_frozen hfrozen, s.pass_reg dt]
    · have happlied (q : Reg) (j : Nat) := (hreg ws a.toNat b.toNat c.toNat q j fun h => absurd h hk1).trans
        (hws ▸ State.runApplied_reg_of_rfDac hlo hhi hk1 hk3 hfree x q j)
      exact ⟨(State.fld_congr (happlied _ _)).trans (State.fld_setFld_same _ _ _ _ _ _ (by decide)), fun q j hq =>
        (happlied q j).trans ((State.reg_setFld_other _ _ _ _ _ _ _ _ (by simpa using hq)).trans (s.pass_reg dt q j))⟩
  case pop =>
    intro u
    have hhist : u.rd = s.rd := s.throughOpen_rd who _
    refine completes_of_regAccessRead rfl ho ⟨fun h => ?_, fun x yi yq rest h => ?_⟩
    · rw [histPopOp_of_empty (hhist ▸ h)]
    · exact histPopOp_claims (hhist ▸ h) who
  case freeze =>
    intro u
    exact completes_of_regAccess rfl ho ⟨fun h => freezeWriteOp_stores h v, fun h => freezeWriteOp_of_unreached h v⟩

end Sys2Proof.Machine
end

-- ==== Calibration: blocks of statistics and interleave updates ====
section
/-!
PROOFS. The blocks of receiver statistics that end, and the updates that the Gaffer makes from them (R230, R232, R233, R238,
R239).
-/

namespace Sys2Proof.Machine

section
variable {s t : State}

theorem OnlyRegs.pair_eq {rs : List Reg} (h : OnlyRegs rs s t) {lo hi : Reg} (hlo : lo ∉ rs) (hhi : hi ∉ rs) (i : Nat) :
    t.pair lo hi i = s.pair lo hi i := State.pair_congr (h.1 lo i hlo) (h.1 hi i hhi)

theorem OnlyRegs.bit_eq {rs : List Reg} (h : OnlyRegs rs s t) {r : Reg} (hr : r ∉ rs) (i b : Nat) : t.bit r i b = s.bit r i b :=
  State.bit_congr (h.1 r i hr)

theorem OnlyRegs.fld_eq {rs : List Reg} (h : OnlyRegs rs s t) {r : Reg} (hr : r ∉ rs) (i hi lo : Nat) :
    t.fld r i hi lo = s.fld r i hi lo := State.fld_congr (h.1 r i hr)

/-! ### LOST (R232, R234) -/

/-- A block that finds READY set in `r` has lost the block before it. -/
def State.lossMarked (s : State) (r : Reg) (i : Nat) : State := if s.bit r i 0 then s.setBit r i 1 true else s

theorem State.lossMarked_lost {r : Reg} {i : Nat} (h : s.bit r i 0 = true) : (s.lossMarked r i).bit r i 1 = true := by
  rw [State.lossMarked, if_pos h]
  exact s.bit_setBit_same _ _ _ _ (by decide)

theorem State.lossMarked_fld (s : State) (r : Reg) (i : Nat) {hi lo : Nat} (hhi : hi < 32) (hlo : 1 < lo) :
    (s.lossMarked r i).fld r i hi lo = s.fld r i hi lo :=
  State.ite_field (·.fld r i hi lo) (s.fld_setBit_apart _ _ _ _ _ _ hhi (.inr hlo)) rfl

theorem onlyRegs_lossMarked {rs : List Reg} {r : Reg} (h : r ∈ rs) (s : State) (i : Nat) : OnlyRegs rs s (s.lossMarked r i) :=
  onlyRegs_ite (onlyRegs_setReg h s _ _) (.refl rs s)

/-! ### The sums of a block (R232) -/

theorem State.setQuad_eq (s : State) (lo hi : Reg) (g : Nat) (q : Int × Int × Int × Int) :
    s.setQuad lo hi g q =
      (((s.setPair lo hi (4 * g) (wrapTo 64 q.1)).setPair lo hi (4 * g + 1) (wrapTo 64 q.2.1)).setPair lo hi (4 * g + 2)
        (wrapTo 64 q.2.2.1)).setPair lo hi (4 * g + 3) (wrapTo 64 q.2.2.2) := rfl

theorem State.pair_setPair_inst (s : State) (lo hi : Reg) {i j : Nat} (h : j ≠ i) (v : Nat) :
    (s.setPair lo hi i v).pair lo hi j = s.pair lo hi j := by
  have hreg (q : Reg) : (s.setPair lo hi i v).reg q j = s.reg q j := by
    simp [State.setPair, State.reg_setReg, h.symm]
  exact State.pair_congr (hreg lo) (hreg hi)

theorem State.setQuad_pair (s : State) {lo hi : Reg} (h : lo ≠ hi) (g : Nat) (q : Int × Int × Int × Int) (k : Fin 4) :
    (s.setQuad lo hi g q).pair lo hi (4 * g + k) = wrapTo 64 ((quad q).getD k 0) := by
  rw [State.setQuad_eq]
  match k with
  | 0 => simp [State.pair_setPair_inst, State.pair_setPair_wrapTo _ h, quad]
  | 1 => simp [State.pair_setPair_inst, State.pair_setPair_wrapTo _ h, quad]
  | 2 => simp [State.pair_setPair_inst, State.pair_setPair_wrapTo _ h, quad]
  | 3 => simp [State.pair_setPair_wrapTo _ h, quad]

theorem onlyRegs_setQuad {rs : List Reg} {lo hi : Reg} (hlo : lo ∈ rs) (hhi : hi ∈ rs) (s : State) (g : Nat)
    (q : Int × Int × Int × Int) : OnlyRegs rs s (s.setQuad lo hi g q) :=
  onlyRegs_forEach (fun _ u => onlyRegs_setPair hlo hhi u _ _) _ s

/-- The sums of receiver `g`. -/
def State.sumsStored (s : State) (g : Nat) (a : StatSums) : State :=
  (((s.setQuad .ADC_S1_LO .ADC_S1_HI g a.s1).setQuad .ADC_S2_LO .ADC_S2_HI g a.s2).setQuad .ADC_C1_LO .ADC_C1_HI g a.c1).setPair
    .ADC_C2_LO .ADC_C2_HI g (wrapTo 64 a.c2)

/-- The registers of the sums. -/
abbrev sumRegs : List Reg :=
  [.ADC_S1_LO, .ADC_S1_HI, .ADC_S2_LO, .ADC_S2_HI, .ADC_C1_LO, .ADC_C1_HI, .ADC_C2_LO, .ADC_C2_HI]

theorem onlyRegs_sumsStored (s : State) (g : Nat) (a : StatSums) : OnlyRegs sumRegs s (s.sumsStored g a) :=
  (onlyRegs_setQuad (by decide) (by decide) s g _).trans <| (onlyRegs_setQuad (by decide) (by decide) _ g _).trans <|
    (onlyRegs_setQuad (by decide) (by decide) _ g _).trans (onlyRegs_setPair (by decide) (by decide) _ _ _)

theorem State.sumsStored_reads (s : State) (g : Nat) (a : StatSums) :
    let t := s.sumsStored g a
    t.pair .ADC_C2_LO .ADC_C2_HI g = wrapTo 64 a.c2 ∧ ∀ k : Fin 4,
      t.pair .ADC_S1_LO .ADC_S1_HI (4 * g + k) = wrapTo 64 ((quad a.s1).getD k 0) ∧
      t.pair .ADC_S2_LO .ADC_S2_HI (4 * g + k) = wrapTo 64 ((quad a.s2).getD k 0) ∧
      t.pair .ADC_C1_LO .ADC_C1_HI (4 * g + k) = wrapTo 64 ((quad a.c1).getD k 0) := by
  let s1 := s.setQuad .ADC_S1_LO .ADC_S1_HI g a.s1
  let s2 := s1.setQuad .ADC_S2_LO .ADC_S2_HI g a.s2
  let c1 := s2.setQuad .ADC_C1_LO .ADC_C1_HI g a.c1
  intro t
  have hc2 : OnlyRegs [.ADC_C2_LO, .ADC_C2_HI] c1 t := onlyRegs_setPair (by decide) (by decide) c1 _ _
  have hc1 : OnlyRegs [.ADC_C1_LO, .ADC_C1_HI, .ADC_C2_LO, .ADC_C2_HI] s2 t :=
    (onlyRegs_setQuad (by decide) (by decide) s2 g _).trans (hc2.mono (by decide))
  have hs2 : OnlyRegs [.ADC_S2_LO, .ADC_S2_HI, .ADC_C1_LO, .ADC_C1_HI, .ADC_C2_LO, .ADC_C2_HI] s1 t :=
    (onlyRegs_setQuad (by decide) (by decide) s1 g _).trans (hc1.mono (by decide))
  exact ⟨c1.pair_setPair_wrapTo (by decide) g a.c2, fun k =>
    ⟨(hs2.pair_eq (by decide) (by decide) _).trans (s.setQuad_pair (by decide) g a.s1 k),
      (hc1.pair_eq (by decide) (by decide) _).trans (s1.setQuad_pair (by decide) g a.s2 k),
      (hc2.pair_eq (by decide) (by decide) _).trans (s2.setQuad_pair (by decide) g a.c1 k)⟩⟩

/-- READY, OVR and DIRTY of a block that ends, and its count. -/
def State.blockMarked (s : State) (g : Nat) (ovr dirty : Bool) : State :=
  let u := ((s.setBit .ADC_STAT_STATUS g 0 true).setBit .ADC_STAT_STATUS g 2 ovr).setBit .ADC_STAT_STATUS g 3 dirty
  u.setFld .ADC_STAT_STATUS g 15 8 (u.fld .ADC_STAT_STATUS g 15 8 + 1)

theorem onlyRegs_blockMarked (s : State) (g : Nat) (ovr dirty : Bool) :
    OnlyRegs [.ADC_STAT_STATUS] s (s.blockMarked g ovr dirty) :=
  (onlyRegs_setReg (by decide) s _ _).trans <| (onlyRegs_setReg (by decide) _ _ _).trans <|
    (onlyRegs_setReg (by decide) _ _ _).trans (onlyRegs_setReg (by decide) _ _ _)

theorem State.blockMarked_reads (s : State) (g : Nat) (ovr dirty : Bool) :
    let t := s.blockMarked g ovr dirty
    t.bit .ADC_STAT_STATUS g 0 = true ∧ t.bit .ADC_STAT_STATUS g 1 = s.bit .ADC_STAT_STATUS g 1 ∧
      t.bit .ADC_STAT_STATUS g 2 = ovr ∧ t.bit .ADC_STAT_STATUS g 3 = dirty ∧
      t.fld .ADC_STAT_STATUS g 15 8 = (s.fld .ADC_STAT_STATUS g 15 8 + 1) % 256 := by
  simp [State.blockMarked]

theorem statBlockEndOp_of_ends {g : Nat} (h : s.statBlockEnds g = true) (xs : List Int) :
    let a := statSums (2 ^ (s.fld .ADC_STAT_CTRL g 12 8 + 3)) 0 xs {}
    statBlockEndOp g xs s = ((s.lossMarked .ADC_STAT_STATUS g).sumsStored g a).blockMarked g a.ovr (s.statDirty g) :=
  if_neg (by simp [h])

theorem statBlockEndOp_stores {g : Nat} (h : s.statBlockEnds g = true) (xs : List Int) :
    let a := statSums (2 ^ (s.fld .ADC_STAT_CTRL g 12 8 + 3)) 0 xs {}
    let t := statBlockEndOp g xs s
    t.pair .ADC_C2_LO .ADC_C2_HI g = wrapTo 64 a.c2 ∧
      (∀ k : Fin 4, t.pair .ADC_S1_LO .ADC_S1_HI (4 * g + k) = wrapTo 64 ((quad a.s1).getD k 0) ∧
        t.pair .ADC_S2_LO .ADC_S2_HI (4 * g + k) = wrapTo 64 ((quad a.s2).getD k 0) ∧
        t.pair .ADC_C1_LO .ADC_C1_HI (4 * g + k) = wrapTo 64 ((quad a.c1).getD k 0)) ∧
      t.bit .ADC_STAT_STATUS g 0 = true ∧ t.bit .ADC_STAT_STATUS g 2 = a.ovr ∧ t.bit .ADC_STAT_STATUS g 3 = s.statDirty g ∧
      (s.bit .ADC_STAT_STATUS g 0 = true → t.bit .ADC_STAT_STATUS g 1 = true) ∧
      t.fld .ADC_STAT_STATUS g 15 8 = (s.fld .ADC_STAT_STATUS g 15 8 + 1) % 256 ∧
      OnlyRegs (.ADC_STAT_STATUS :: sumRegs) s t := by
  intro a t
  let lost := s.lossMarked .ADC_STAT_STATUS g
  let summed := lost.sumsStored g a
  have ht : t = summed.blockMarked g a.ovr (s.statDirty g) := statBlockEndOp_of_ends h xs
  have hloss : OnlyRegs [.ADC_STAT_STATUS] s lost := onlyRegs_lossMarked (by decide) s g
  have hsums : OnlyRegs sumRegs lost summed := onlyRegs_sumsStored lost g a
  have hmark : OnlyRegs [.ADC_STAT_STATUS] summed t := ht ▸ onlyRegs_blockMarked _ _ _ _
  obtain ⟨hc2, hquads⟩ := lost.sumsStored_reads g a
  obtain ⟨hready, hlost, hovr, hdirty, hcount⟩ := summed.blockMarked_reads g a.ovr (s.statDirty g)
  rw [← ht] at hready hlost hovr hdirty hcount
  refine ⟨(hmark.pair_eq (by decide) (by decide) g).trans hc2, fun k => ?quads, hready, hovr, hdirty, fun hfound => ?lost,
    hcount.trans ?count, (hloss.mono (by decide)).trans ((hsums.mono (by decide)).trans (hmark.mono (by decide)))⟩
  case quads =>
    obtain ⟨hs1, hs2, hc1⟩ := hquads k
    exact ⟨(hmark.pair_eq (by decide) (by decide) _).trans hs1, (hmark.pair_eq (by decide) (by decide) _).trans hs2,
      (hmark.pair_eq (by decide) (by decide) _).trans hc1⟩
  case lost => exact hlost.trans ((hsums.bit_eq (by decide) g 1).trans (State.lossMarked_lost hfound))
  case count => rw [hsums.fld_eq (by decide), s.lossMarked_fld _ _ (by decide) (by decide)]

/-! ### Updates from a block (R230, R233) -/

/-- The Gaffer may update the unit from its block, which is READY and neither OVR nor DIRTY. -/
structure State.BlockUsable (s : State) (g : Nat) : Prop where
  may : s.mayUpdate g = true
  ready : s.bit .ADC_STAT_STATUS g 0 = true
  clean : s.bit .ADC_STAT_STATUS g 2 = false
  still : s.bit .ADC_STAT_STATUS g 3 = false

/-- The block is taken, and counts in a run on the unit. -/
def State.blockTaken (s : State) (g : Nat) : State :=
  let u := s.setBit .ADC_STAT_STATUS g 0 false
  if u.inRun g then u.stepRun else u

theorem State.blockTaken_field {β : Type} (s : State) (g : Nat) (f : State → β)
    (hrun : ∀ s r, f { s with cal := { s.cal with run := r } } = f s) :
    f (s.blockTaken g) = f (s.setBit .ADC_STAT_STATUS g 0 false) :=
  State.ite_field f (State.stepRun_field _ f hrun) rfl

theorem State.blockTaken_reg (s : State) (g : Nat) (q : Reg) (j : Nat) :
    (s.blockTaken g).reg q j = (s.setBit .ADC_STAT_STATUS g 0 false).reg q j := s.blockTaken_field g (·.reg q j) fun _ _ => rfl

theorem onlyAt_blockTaken (s : State) (g : Nat) : OnlyAt [(.ADC_STAT_STATUS, g)] s (s.blockTaken g) :=
  (onlyAt_setReg s _ (List.mem_singleton_self _)).trans
    (onlyAt_of_reg_eq (s.blockTaken_reg g) (s.blockTaken_field g (·.kept) fun _ _ => rfl))

theorem State.blockTaken_ready (s : State) (g : Nat) : (s.blockTaken g).bit .ADC_STAT_STATUS g 0 = false :=
  (State.bit_congr (s.blockTaken_reg g _ _)).trans (s.bit_setBit_same _ _ _ _ (by decide))

theorem State.blockTaken_frozen (s : State) (g u : Nat) : (s.blockTaken g).frozen u = s.frozen u := by
  have honly : OnlyRegs [.ADC_STAT_STATUS] s (s.blockTaken g) := (onlyAt_blockTaken s g).onlyRegs_fst
  exact State.frozen_congr (fun q hq j => honly.1 q j (by revert q; decide))
    (s.blockTaken_field g (·.cal.frzOld) fun _ _ => rfl) (s.blockTaken_field g (·.now) fun _ _ => rfl) u

/-- The registers of the trims of R233. -/
abbrev interleaveTrims : List Reg := [.ADC_OFS_TRIM, .ADC_GAIN_TRIM, .ADC_SKEW_TAP]

theorem interleaveMoves_mem (g mu : Nat) (x : InterleaveEstimate) (tap gain : List Nat) :
    ∀ m ∈ interleaveMoves g mu x tap gain, m.1.1 ∈ interleaveTrims := by
  intro m hm
  simp only [interleaveMoves, List.mem_append, List.mem_map] at hm
  obtain (⟨k, -, rfl⟩ | ⟨k, -, rfl⟩) | ⟨k, -, rfl⟩ := hm <;> simp

/-- The estimates `x` move the trims, and their residuals are published; what `x` does not give is a free value. -/
def State.estimateApplied (s : State) (g : Nat) (x : InterleaveEstimate) : State :=
  let ft := if x.e.isSome then ([], s) else s.freeList 4 9
  let fg := if x.gain.all Option.isSome then ([], ft.2) else ft.2.freeList 4 10
  let r := fg.2.interleaveResiduals x
  let t := r.2.moveTrims g (interleaveMoves g (s.calMu g) x ft.1 fg.1)
  t.2.calPublish g (trimStatus t.1) r.1.1 r.1.2.1 r.1.2.2

theorem State.estimateApplied_eq (s : State) (g : Nat) (x : InterleaveEstimate) : ∃ v ms status a b c,
    Freed s v ∧ (∀ m ∈ ms, m.1.1 ∈ interleaveTrims) ∧
      s.estimateApplied g x = (v.moveTrims g ms).2.calPublish g status a b c := by
  unfold State.estimateApplied
  extract_lets ft fg r t
  have hft : Freed s ft.2 := .of_ite (.refl s) (freed_freeList s 4 9)
  have hfg : Freed ft.2 fg.2 := .of_ite (.refl ft.2) (freed_freeList ft.2 4 10)
  exact ⟨r.2, _, _, _, _, _, hft.trans (hfg.trans (freed_interleaveResiduals fg.2 x)), interleaveMoves_mem g _ x _ _, rfl⟩

section
variable {g : Nat} (h : s.BlockUsable g)
include h

theorem interleaveUpdateOp_of_weak (hv : (s.latchedEstimate g).vb < 16 * fixOne) :
    interleaveUpdateOp g s = (s.blockTaken g).calNoSignal g := by
  unfold interleaveUpdateOp
  rw [if_neg (by simp [h.may, h.ready, h.clean, h.still])]
  exact if_pos hv

theorem interleaveUpdateOp_of_strong (hv : ¬(s.latchedEstimate g).vb < 16 * fixOne) :
    interleaveUpdateOp g s = (s.blockTaken g).estimateApplied g (s.latchedEstimate g) := by
  unfold interleaveUpdateOp
  rw [if_neg (by simp [h.may, h.ready, h.clean, h.still])]
  exact if_neg hv

/-- An update takes the block, moves the trims of a unit that is not frozen, and counts; below a variance of 16 it moves
none. -/
theorem interleaveUpdateOp_updates :
    let t := interleaveUpdateOp g s
    t.bit .ADC_STAT_STATUS g 0 = false ∧
      ((s.latchedEstimate g).vb < 16 * fixOne → (t.calUnit g).state = 7 ∧ OnlyAt [(.ADC_STAT_STATUS, g)] s t) ∧
      (16 * fixOne ≤ (s.latchedEstimate g).vb → (t.calUnit g).updates = (s.calUnit g).updates + 1) ∧
      (s.frozen g = true → OnlyAt [(.ADC_STAT_STATUS, g)] s t) ∧
      OnlyRegs (.ADC_STAT_STATUS :: interleaveTrims) s t := by
  have htaken := onlyAt_blockTaken s g
  intro t
  by_cases hv : (s.latchedEstimate g).vb < 16 * fixOne
  · have ht : t = (s.blockTaken g).calNoSignal g := interleaveUpdateOp_of_weak h hv
    have honly : OnlyAt [(.ADC_STAT_STATUS, g)] s t := ht ▸ htaken.trans (onlyAt_calNoSignal _ g)
    exact ⟨ht ▸ s.blockTaken_ready g, fun _ => ⟨ht ▸ State.calNoSignal_state _ g, honly⟩, fun h => absurd hv (not_lt.2 h),
      fun _ => honly, honly.onlyRegs_fst.mono (by simp)⟩
  · obtain ⟨v, ms, status, a, b, c, ⟨n, rfl⟩, hms, happlied⟩ := (s.blockTaken g).estimateApplied_eq g (s.latchedEstimate g)
    have ht : t = _ := (interleaveUpdateOp_of_strong h hv).trans happlied
    let free : State := { s.blockTaken g with freeCtr := n }
    have hfree : OnlyAt [(.ADC_STAT_STATUS, g)] s free := htaken.trans (onlyAt_of_reg_eq (fun _ _ => rfl) rfl)
    have hbehind : OnlyRegs interleaveTrims free t := by
      rw [ht]
      exact (onlyRegs_moveTrims free g hms).trans (OnlyAt.onlyRegs (onlyAt_calPublish _ g _ _ _ _))
    refine ⟨(hbehind.bit_eq (by decide) g 0).trans (s.blockTaken_ready g), fun h => absurd h hv, fun _ => ?counts,
      fun hfrozen => ?frozen, (hfree.onlyRegs_fst.mono (by simp)).trans (hbehind.mono (by decide))⟩
    case counts =>
      have hunit : (s.blockTaken g).calUnit g = s.calUnit g := s.blockTaken_field g (·.calUnit g) fun _ _ => rfl
      rw [ht, State.calPublish_updates, State.moveTrims_updates, ← hunit]
      rfl
    case frozen =>
      have hstill : free.frozen g = true := (s.blockTaken_frozen g g).trans hfrozen
      rw [ht, free.moveTrims_of_frozen g hstill]
      exact hfree.trans (onlyAt_calPublish free g _ _ _ _)

end

end

end Sys2Proof.Machine
end

-- ==== Calibration: the monitor and the discriminator fits ====
section
/-!
PROOFS. The blocks of the output monitor that end, with the updates that the Gaffer makes from them, and the fits of the
discriminators (R230, R234, R235, R237-R239).
-/

namespace Sys2Proof.Machine

section
variable {s : State}

/-! ### A monitor block that ends (R234) -/

/-- The sums of the monitor of cluster `g`. -/
def State.monitorSums (s : State) (g : Nat) (m : MonitorBlock) : State :=
  (((s.setPair .MON_VDC_LO .MON_VDC_HI g (wrapTo 64 m.vdc)).setPair .MON_VMS_LO .MON_VMS_HI g (wrapTo 64 m.vms)).setPair
    .MON_CDC_LO .MON_CDC_HI g (wrapTo 64 m.cdc)).setPair .MON_CMS_LO .MON_CMS_HI g (wrapTo 64 m.cms)

/-- Their registers. -/
abbrev monitorSumRegs : List Reg :=
  [.MON_VDC_LO, .MON_VDC_HI, .MON_VMS_LO, .MON_VMS_HI, .MON_CDC_LO, .MON_CDC_HI, .MON_CMS_LO, .MON_CMS_HI]

theorem onlyRegs_monitorSums (s : State) (g : Nat) (m : MonitorBlock) : OnlyRegs monitorSumRegs s (s.monitorSums g m) :=
  (onlyRegs_setPair (by decide) (by decide) s _ _).trans <| (onlyRegs_setPair (by decide) (by decide) _ _ _).trans <|
    (onlyRegs_setPair (by decide) (by decide) _ _ _).trans (onlyRegs_setPair (by decide) (by decide) _ _ _)

theorem State.monitorSums_reads (s : State) (g : Nat) (m : MonitorBlock) :
    let t := s.monitorSums g m
    t.pair .MON_VDC_LO .MON_VDC_HI g = wrapTo 64 m.vdc ∧ t.pair .MON_VMS_LO .MON_VMS_HI g = wrapTo 64 m.vms ∧
      t.pair .MON_CDC_LO .MON_CDC_HI g = wrapTo 64 m.cdc ∧ t.pair .MON_CMS_LO .MON_CMS_HI g = wrapTo 64 m.cms := by
  let vdc := s.setPair .MON_VDC_LO .MON_VDC_HI g (wrapTo 64 m.vdc)
  let vms := vdc.setPair .MON_VMS_LO .MON_VMS_HI g (wrapTo 64 m.vms)
  let cdc := vms.setPair .MON_CDC_LO .MON_CDC_HI g (wrapTo 64 m.cdc)
  intro t
  have hcdc : OnlyRegs [.MON_CMS_LO, .MON_CMS_HI] cdc t := onlyRegs_setPair (by decide) (by decide) cdc _ _
  have hvms : OnlyRegs [.MON_CDC_LO, .MON_CDC_HI, .MON_CMS_LO, .MON_CMS_HI] vms t :=
    (onlyRegs_setPair (by decide) (by decide) vms _ _).trans (hcdc.mono (by decide))
  have hvdc : OnlyRegs [.MON_VMS_LO, .MON_VMS_HI, .MON_CDC_LO, .MON_CDC_HI, .MON_CMS_LO, .MON_CMS_HI] vdc t :=
    (onlyRegs_setPair (by decide) (by decide) vdc _ _).trans (hvms.mono (by decide))
  exact ⟨(hvdc.pair_eq (by decide) (by decide) g).trans (s.pair_setPair_wrapTo (by decide) g m.vdc),
    (hvms.pair_eq (by decide) (by decide) g).trans (vdc.pair_setPair_wrapTo (by decide) g m.vms),
    (hcdc.pair_eq (by decide) (by decide) g).trans (vms.pair_setPair_wrapTo (by decide) g m.cdc),
    cdc.pair_setPair_wrapTo (by decide) g m.cms⟩

/-- The next block of the monitor begins, with LOST as found. -/
def State.monitorBegun (s : State) (g : Nat) : State :=
  let u : State := { s with cal := { s.cal with monFrom := tset s.cal.monFrom g s.now } }
  u.lossMarked .MON_STATUS g

theorem onlyRegs_monitorBegun (s : State) (g : Nat) : OnlyRegs [.MON_STATUS] s (s.monitorBegun g) := by
  let since : State := { s with cal := { s.cal with monFrom := tset s.cal.monFrom g s.now } }
  have hsince : OnlyRegs [.MON_STATUS] s since := onlyRegs_of_reg_eq (fun _ _ => rfl) rfl
  exact hsince.trans (onlyRegs_lossMarked (by decide) since g)

/-- The block that ended is stored, and READY set. -/
def State.monitorStored (s : State) (g : Nat) (m : MonitorBlock) : State :=
  ((s.monitorBegun g).monitorSums g m).setBit .MON_STATUS g 0 true

theorem onlyRegs_monitorStored (s : State) (g : Nat) (m : MonitorBlock) :
    OnlyRegs (.MON_STATUS :: monitorSumRegs) s (s.monitorStored g m) :=
  ((onlyRegs_monitorBegun s g).mono (by decide)).trans <| ((onlyRegs_monitorSums _ g m).mono (by decide)).trans
    (onlyRegs_setReg (by decide) _ _ _)

theorem State.monitorStored_sums (s : State) (g : Nat) (m : MonitorBlock) :
    let t := s.monitorStored g m
    t.pair .MON_VDC_LO .MON_VDC_HI g = wrapTo 64 m.vdc ∧ t.pair .MON_VMS_LO .MON_VMS_HI g = wrapTo 64 m.vms ∧
      t.pair .MON_CDC_LO .MON_CDC_HI g = wrapTo 64 m.cdc ∧ t.pair .MON_CMS_LO .MON_CMS_HI g = wrapTo 64 m.cms := by
  obtain ⟨hvdc, hvms, hcdc, hcms⟩ := (s.monitorBegun g).monitorSums_reads g m
  have hready : OnlyRegs [.MON_STATUS] ((s.monitorBegun g).monitorSums g m) (s.monitorStored g m) :=
    onlyRegs_setReg (by decide) _ _ _
  exact ⟨(hready.pair_eq (by decide) (by decide) g).trans hvdc, (hready.pair_eq (by decide) (by decide) g).trans hvms,
    (hready.pair_eq (by decide) (by decide) g).trans hcdc, (hready.pair_eq (by decide) (by decide) g).trans hcms⟩

theorem State.monitorStored_ready (s : State) (g : Nat) (m : MonitorBlock) : (s.monitorStored g m).bit .MON_STATUS g 0 = true :=
  State.bit_setBit_same _ _ _ _ _ (by decide)

theorem State.monitorStored_lost {g : Nat} (h : s.bit .MON_STATUS g 0 = true) (m : MonitorBlock) :
    (s.monitorStored g m).bit .MON_STATUS g 1 = true := by
  have hlost : (s.monitorBegun g).bit .MON_STATUS g 1 = true := State.lossMarked_lost h
  exact (State.bit_setBit_apart _ _ _ _ _ _ (by decide) (by decide)).trans
    (((onlyRegs_monitorSums _ g m).bit_eq (by decide) g 1).trans hlost)

theorem State.background_setReg (s : State) {r : Reg} (hctrl : r ≠ .FEAT_CTRL) (hpower : r ≠ .PWR_STATUS) (i : Nat) (w : Word)
    (u : Nat) : (s.setReg r i w).background u = s.background u := by
  have hactive : (s.setReg r i w).active = s.active := by
    simp only [State.active, State.goAccepted, State.bit_congr (s.reg_setReg_other r _ i _ w hctrl.symm)]
    rfl
  have hcore {k : Nat} (hk : k < 2) : (s.setReg r i w).coreRuns k = s.coreRuns k := by
    simp only [State.coreRuns, if_pos hk, State.bit_congr (s.reg_setReg_other r _ i _ w hpower.symm)]
    rfl
  simp only [State.background, hactive, hcore (show 0 < 2 by decide), hcore (show 1 < 2 by decide)]
  rfl

theorem State.monitorStored_background (s : State) (g : Nat) (m : MonitorBlock) (u : Nat) :
    (s.monitorStored g m).background u = s.background u := by
  have hpair (s : State) (lo hi : Reg) (v : Nat) (hlo : lo ∈ monitorSumRegs) (hhi : hi ∈ monitorSumRegs) :
      (s.setPair lo hi g v).background u = s.background u := by
    have hapart : ∀ r ∈ monitorSumRegs, r ≠ .FEAT_CTRL ∧ r ≠ .PWR_STATUS := by decide
    exact (State.background_setReg _ (hapart hi hhi).1 (hapart hi hhi).2 _ _ _).trans
      (s.background_setReg (hapart lo hlo).1 (hapart lo hlo).2 _ _ _)
  have hbit (s : State) (b : Nat) (v : Bool) : (s.setBit .MON_STATUS g b v).background u = s.background u :=
    s.background_setReg (by decide) (by decide) _ _ _
  unfold State.monitorStored State.monitorSums
  rw [hbit, hpair _ _ _ _ (by decide) (by decide), hpair _ _ _ _ (by decide) (by decide),
    hpair _ _ _ _ (by decide) (by decide), hpair _ _ _ _ (by decide) (by decide)]
  exact State.ite_field (·.background u) (hbit _ _ _) rfl

/-! ### The update from a monitor block (R230, R234) -/

/-- The Gaffer takes the block of selection `sel` and moves the trims of its unit. -/
def State.monitorUpdated (s : State) (g sel : Nat) (m : MonitorBlock) : State :=
  let u := monUnit g sel
  let s := s.setBit .MON_STATUS g 0 false
  let mu := s.calMu u
  let ofs := if sel < 2 then (Reg.RFO_OFS_TRIM, 2 * g + sel, 11, 0) else (.BBO_OFS_TRIM, 4 * g + (sel - 2), 11, 0)
  let fs := if sel < 2 then (Reg.RFO_FS_TRIM, 2 * g + sel, 11, 0) else (.BBO_FS_TRIM, 4 * g + (sel - 2), 11, 0)
  let t := s.moveTrims u [(ofs, true, -(roundAway (m.offset * 16) (2 ^ (16 + mu)))),
    (fs, true, -(roundAway (m.gain * 2 ^ 16) (2 ^ (32 + mu))))]
  t.2.calPublish u (trimStatus t.1) (toReal32 (m.gain.natAbs * 1000000) (2 ^ 32)) (toReal32 m.offset.natAbs (2 ^ 16))
    (t.2.calUnit u).residC

/-- The trims of the outputs that a monitor block moves. -/
abbrev outputTrims : List Reg := [.RFO_OFS_TRIM, .RFO_FS_TRIM, .BBO_OFS_TRIM, .BBO_FS_TRIM]

theorem onlyRegs_monitorUpdated (s : State) (g sel : Nat) (m : MonitorBlock) :
    OnlyRegs outputTrims (s.setBit .MON_STATUS g 0 false) (s.monitorUpdated g sel m) := by
  unfold State.monitorUpdated
  extract_lets u cleared mu ofs fs t
  have hofs : ofs.1 ∈ outputTrims := by unfold ofs; split <;> simp
  have hfs : fs.1 ∈ outputTrims := by unfold fs; split <;> simp
  have hmoved : OnlyRegs outputTrims cleared t.2 :=
    onlyRegs_moveTrims cleared u (List.forall_mem_cons.2 ⟨hofs, List.forall_mem_singleton.2 hfs⟩)
  exact hmoved.trans (OnlyAt.onlyRegs (onlyAt_calPublish _ u _ _ _ _))

theorem onlyRegs_monVisit (s : State) (g sel : Nat) : OnlyRegs [.MON_CTRL] s (s.monVisit g sel) := by
  unfold State.monVisit
  split
  next x _ =>
    exact (onlyRegs_setReg (by decide) s _ _).trans (onlyRegs_of_reg_eq (fun _ _ => rfl) rfl)
  next => exact .refl _ s

/-- The monitor of cluster `g` has an output selected, and its block is full. -/
structure State.MonitorDue (s : State) (g : Nat) : Prop where
  awake : s.regionAwake (g / 4) = true
  selected : s.fld .MON_CTRL g 2 0 < 6
  full : tget 0 s.cal.monFrom g + 2 ^ s.fld .MON_CTRL g 12 8 ≤ s.now

theorem monitorBlockEndOp_of_due {g : Nat} (h : s.MonitorDue g) (m : MonitorBlock) :
    let sel := s.fld .MON_CTRL g 2 0
    let u := s.monitorStored g m
    monitorBlockEndOp g m s =
      (if u.background (monUnit g sel) && !u.monMuted g sel then u.monitorUpdated g sel m else u).monVisit g sel := by
  unfold monitorBlockEndOp
  rw [if_neg (by simp [h.awake])]
  exact (if_neg (Nat.not_le.2 h.selected)).trans (if_neg (Nat.not_lt.2 h.full))

theorem monitorBlockEndOp_stores {g : Nat} (h : s.MonitorDue g) (m : MonitorBlock) :
    let t := monitorBlockEndOp g m s
    t.pair .MON_VDC_LO .MON_VDC_HI g = wrapTo 64 m.vdc ∧ t.pair .MON_VMS_LO .MON_VMS_HI g = wrapTo 64 m.vms ∧
      t.pair .MON_CDC_LO .MON_CDC_HI g = wrapTo 64 m.cdc ∧ t.pair .MON_CMS_LO .MON_CMS_HI g = wrapTo 64 m.cms ∧
      (s.bit .MON_STATUS g 0 = true → t.bit .MON_STATUS g 1 = true) ∧
      (s.background (monUnit g (s.fld .MON_CTRL g 2 0)) = false → t.bit .MON_STATUS g 0 = true) ∧
      OnlyRegs ([.MON_STATUS, .MON_CTRL] ++ monitorSumRegs ++ outputTrims) s t := by
  let sel := s.fld .MON_CTRL g 2 0
  let u := s.monitorStored g m
  let gaffer : Bool := u.background (monUnit g sel) && !u.monMuted g sel
  let v := if gaffer then u.monitorUpdated g sel m else u
  intro t
  have ht : t = v.monVisit g sel := monitorBlockEndOp_of_due h m
  have hvisit : OnlyRegs [.MON_CTRL] v t := ht ▸ onlyRegs_monVisit v g sel
  have hupdated := onlyRegs_monitorUpdated u g sel m
  have hv : OnlyRegs (.MON_STATUS :: outputTrims) u v :=
    onlyRegs_ite ((onlyRegs_setReg (by decide) u _ _).trans (hupdated.mono (by decide))) (.refl _ u)
  have hut : OnlyRegs ([.MON_STATUS, .MON_CTRL] ++ outputTrims) u t := (hv.mono (by decide)).trans (hvisit.mono (by decide))
  obtain ⟨hvdc, hvms, hcdc, hcms⟩ := s.monitorStored_sums g m
  refine ⟨(hut.pair_eq (by decide) (by decide) g).trans hvdc, (hut.pair_eq (by decide) (by decide) g).trans hvms,
    (hut.pair_eq (by decide) (by decide) g).trans hcdc, (hut.pair_eq (by decide) (by decide) g).trans hcms,
    fun hfound => (hvisit.bit_eq (by decide) g 1).trans ?lost, fun hidle => (hvisit.bit_eq (by decide) g 0).trans ?ready,
    ((onlyRegs_monitorStored s g m).mono (by decide)).trans (hut.mono (by decide))⟩
  case lost =>
    have hkept : (u.monitorUpdated g sel m).bit .MON_STATUS g 1 = u.bit .MON_STATUS g 1 :=
      (hupdated.bit_eq (by decide) g 1).trans (u.bit_setBit_apart _ _ _ _ _ (by decide) (by decide))
    exact (State.ite_field (·.bit .MON_STATUS g 1) hkept rfl).trans (State.monitorStored_lost hfound m)
  case ready =>
    have hleft : v = u := if_neg (by simp [gaffer, u, s.monitorStored_background, sel, hidle])
    exact hleft ▸ s.monitorStored_ready g m

/-! ### The fit of a discriminator (R235) -/

/-- The results since the last fit of tone `x` start anew, and the fit counts in a run on the unit. -/
def State.fitBegun (s : State) (x : Nat) : State :=
  let u := s.setDisc x { s.disc x with fresh := 0 }
  if u.inRun (0x200 + x) then u.stepRun else u

theorem State.fitBegun_field {β : Type} (s : State) (x : Nat) (f : State → β)
    (hrun : ∀ s r, f { s with cal := { s.cal with run := r } } = f s) :
    f (s.fitBegun x) = f (s.setDisc x { s.disc x with fresh := 0 }) :=
  State.ite_field f (State.stepRun_field _ f hrun) rfl

theorem onlyRegs_fitBegun {rs : List Reg} (s : State) (x : Nat) : OnlyRegs rs s (s.fitBegun x) :=
  onlyRegs_of_reg_eq (fun q j => s.fitBegun_field x (·.reg q j) fun _ _ => rfl) (s.fitBegun_field x (·.kept) fun _ _ => rfl)

@[simp] theorem State.setDisc_disc (s : State) (x : Nat) (d : DiscUnit) : (s.setDisc x d).disc x = d := tget_tset_same _ _ _ _

theorem State.fitBegun_fresh (s : State) (x : Nat) : ((s.fitBegun x).disc x).fresh = 0 := by
  rw [s.fitBegun_field x (·.disc x) fun _ _ => rfl, State.setDisc_disc]

/-- The registers of a tone set. -/
abbrev toneSetRegs : List Reg := [.TONE_ROT, .TONE_TH0, .TONE_TH1, .TONE_TH2, .TONE_STATUS]

theorem onlyRegs_applyFit (s : State) (x rot : Nat) (th : List Int) : OnlyRegs toneSetRegs s (s.applyFit x rot th) := by
  unfold State.applyFit
  extract_lets g k s1 s2 s3
  split
  · exact .refl _ s
  split
  · have hset : OnlyRegs toneSetRegs s s2 := (onlyRegs_setReg (by decide) s _ _).trans <|
      (onlyRegs_setReg (by decide) _ _ _).trans (onlyRegs_setReg (by decide) _ _ _)
    have hth2 (w : Word) : OnlyRegs toneSetRegs s2 (s2.setReg .TONE_TH2 x w) := onlyRegs_setReg (by decide) s2 _ _
    have hcommit (u : State) : OnlyRegs toneSetRegs u (u.commitSet false g k) :=
      (onlyAt_commitSet u false (l := [(.TONE_STATUS, 16 * g + x % 16)]) (by simp [k, setStatus_of_tone])).onlyRegs_fst.mono
        (by simp)
    have hnote (u : State) : OnlyRegs toneSetRegs u (u.trimWritten (0x200 + x)) :=
      onlyRegs_of_reg_eq (fun q j => u.trimWritten_field _ (·.reg q j) fun _ _ _ => rfl) (u.kept_trimWritten _)
    exact hset.trans ((hth2 _).trans ((hcommit _).trans (hnote _)))
  · exact (onlyRegs_setReg (by decide) s _ _).trans (onlyRegs_of_reg_eq (fun _ _ => rfl) rfl)

theorem State.applyFit_fresh (s : State) (x rot : Nat) (th : List Int) :
    ((s.applyFit x rot th).disc x).fresh = (s.disc x).fresh := by
  unfold State.applyFit
  extract_lets g k s1 s2 s3
  split
  · rfl
  split
  · exact State.trimWritten_field _ _ (fun u => (u.disc x).fresh) fun _ _ _ => rfl
  · show (tget {} (tset s3.cal.disc x _) x).fresh = _
    rw [tget_tset_same]
    rfl

/-- The fit stands to be read, and in the tone set with APPLY. -/
def State.fitKept (s : State) (x rot : Nat) (th : List Int) (mu : List (Int × Int)) : State :=
  let u := s.setDisc x { s.disc x with rot, th, mu }
  if bitOf (s.calOpt (0x200 + x)) 8 then u.applyFit x rot th else u

theorem State.fitKept_of_not_apply {x : Nat} (h : bitOf (s.calOpt (0x200 + x)) 8 = false) (rot : Nat) (th : List Int)
    (mu : List (Int × Int)) : s.fitKept x rot th mu = s.setDisc x { s.disc x with rot, th, mu } := if_neg (by simp [h])

theorem State.fitKept_fresh (s : State) (x rot : Nat) (th : List Int) (mu : List (Int × Int)) :
    ((s.fitKept x rot th mu).disc x).fresh = (s.disc x).fresh := by
  have hkept : ((s.setDisc x { s.disc x with rot, th, mu }).disc x).fresh = (s.disc x).fresh := by rw [State.setDisc_disc]
  unfold State.fitKept
  split
  · rw [State.applyFit_fresh, hkept]
  · exact hkept

theorem onlyRegs_setDisc {rs : List Reg} (s : State) (x : Nat) (d : DiscUnit) : OnlyRegs rs s (s.setDisc x d) :=
  onlyRegs_of_reg_eq (fun _ _ => rfl) rfl

theorem onlyRegs_fitKept (s : State) (x rot : Nat) (th : List Int) (mu : List (Int × Int)) :
    OnlyRegs toneSetRegs s (s.fitKept x rot th mu) :=
  onlyRegs_ite ((onlyRegs_setDisc s x _).trans (onlyRegs_applyFit _ x rot th)) (onlyRegs_setDisc s x _)

/-- A fit with the distance `d` of the projected means is kept, and its residuals are published; one that would divide by zero
is a free value. -/
def State.fitPublished (s : State) (x sigma d rot : Nat) (th : List Int) (mu : List (Int × Int)) (th0 : Int) : State :=
  let u := s.fitKept x rot th mu
  let ra := if sigma = 0 then u.free 32 else (gaussTail (d * 2 ^ 79 / sigma), u)
  let rb := if d = 0 then ra.2.free 32 else (toReal32 sigma (d * 2 ^ 16), ra.2)
  let rc := if sigma = 0 then rb.2.free 32 else (toReal32 ((th.getD 0 0 - th0).natAbs * 2 ^ 16) sigma, rb.2)
  rc.2.calPublish (0x200 + x) Code.ok ra.1 rb.1 rc.1

theorem State.fitPublished_eq (s : State) (x sigma d rot : Nat) (th : List Int) (mu : List (Int × Int)) (th0 : Int) :
    ∃ v a b c, Freed (s.fitKept x rot th mu) v ∧
      s.fitPublished x sigma d rot th mu th0 = v.calPublish (0x200 + x) Code.ok a b c := by
  unfold State.fitPublished
  extract_lets u ra rb rc
  have hra : Freed u ra.2 := .of_ite (freed_free u 32) (.refl u)
  have hrb : Freed ra.2 rb.2 := .of_ite (freed_free ra.2 32) (.refl ra.2)
  have hrc : Freed rb.2 rc.2 := .of_ite (freed_free rb.2 32) (.refl rb.2)
  exact ⟨rc.2, _, _, _, hra.trans (hrb.trans hrc), rfl⟩

/-- The fit `f`, started from the means of `old`. Means that coincide give a free ROT. -/
def State.fitMade (s : State) (x : Nat) (f : MixtureFit) (old : DiscUnit) : State :=
  let k := s.calOpt (0x200 + x) / 16 % 4
  let ms := orderMeans (old.mu.getD 0 (0, 0)) f.means
  let m0 := ms.getD 0 (0, 0)
  let m1 := ms.getD 1 (0, 0)
  let m2 := if k = 3 then ms.getD 2 (0, 0) else (0, 0)
  let fr := if m1 == m0 then s.free 16 else (rotOf (m1.1 - m0.1) (m1.2 - m0.2), s)
  let p (m : Int × Int) : Int := rotate m.1 m.2 fr.1
  fr.2.fitPublished x f.sigma (p m1 - p m0).natAbs fr.1 (fitThresholds k (p m0) (p m1) (p m2)) [m0, m1, m2] (old.th.getD 0 0)

theorem State.fitMade_eq (s : State) (x : Nat) (f : MixtureFit) (old : DiscUnit) : ∃ v d rot th mu, Freed s v ∧
    mu.length = 3 ∧ s.fitMade x f old = v.fitPublished x f.sigma d rot th mu (old.th.getD 0 0) := by
  unfold State.fitMade
  extract_lets k ms m0 m1 m2 fr p
  exact ⟨fr.2, _, _, _, _, .of_ite (freed_free s 16) (.refl s), rfl, rfl⟩

theorem discriminatorFitOp_of_weak {x : Nat} {f : MixtureFit} (hdue : s.fitDue x = true) (hw : f.weak = true) :
    discriminatorFitOp x f s = (s.fitBegun x).calNoSignal (0x200 + x) := by
  unfold discriminatorFitOp
  rw [if_neg (by simp [hdue])]
  exact if_pos hw

theorem discriminatorFitOp_of_good {x : Nat} {f : MixtureFit} (hdue : s.fitDue x = true) (hw : f.weak = false) :
    discriminatorFitOp x f s = (s.fitBegun x).fitMade x f (s.disc x) := by
  unfold discriminatorFitOp
  rw [if_neg (by simp [hdue])]
  exact if_neg (by simp [hw])

/-- A fit starts the next quarter of the window; a weak one takes the unit to NO_SIGNAL; a good one counts, and stays out of the
tone set without APPLY. -/
theorem discriminatorFitOp_fits {x : Nat} (hdue : s.fitDue x = true) (f : MixtureFit) :
    let t := discriminatorFitOp x f s
    (t.disc x).fresh = 0 ∧
      (f.weak = true → (t.calUnit (0x200 + x)).state = 7 ∧ OnlyRegs [] s t) ∧
      (f.weak = false → bitOf (s.calOpt (0x200 + x)) 8 = false →
        (t.calUnit (0x200 + x)).updates = (s.calUnit (0x200 + x)).updates + 1 ∧ (t.disc x).mu.length = 3 ∧ OnlyRegs [] s t) ∧
      OnlyRegs toneSetRegs s t := by
  have hbegun {rs : List Reg} : OnlyRegs rs s (s.fitBegun x) := onlyRegs_fitBegun s x
  intro t
  cases hw : f.weak with
  | true =>
    have ht : t = (s.fitBegun x).calNoSignal (0x200 + x) := discriminatorFitOp_of_weak hdue hw
    have honly {rs : List Reg} : OnlyRegs rs s t := ht ▸ hbegun.trans (OnlyAt.onlyRegs (onlyAt_calNoSignal _ _))
    exact ⟨ht ▸ s.fitBegun_fresh x, fun _ => ⟨ht ▸ State.calNoSignal_state _ _, honly⟩, fun h => by contradiction, honly⟩
  | false =>
    obtain ⟨v, d, rot, th, mu, ⟨n, rfl⟩, hlength, hmade⟩ := (s.fitBegun x).fitMade_eq x f (s.disc x)
    let free : State := { s.fitBegun x with freeCtr := n }
    obtain ⟨w, a, b, c, ⟨n', rfl⟩, hpublished⟩ := free.fitPublished_eq x f.sigma d rot th mu ((s.disc x).th.getD 0 0)
    let kept : State := free.fitKept x rot th mu
    have ht : t = State.calPublish { kept with freeCtr := n' } (0x200 + x) Code.ok a b c :=
      (discriminatorFitOp_of_good hdue hw).trans (hmade.trans hpublished)
    have hdisc : t.disc x = kept.disc x := by
      rw [ht]
      exact State.calPublish_field _ _ (·.disc x) (fun _ _ _ => rfl) (fun s k => by simp only [State.disc, State.raise_cal])
        _ _ _ _
    have hfree {rs : List Reg} : OnlyRegs rs s free := hbegun.trans (onlyRegs_of_reg_eq (fun _ _ => rfl) rfl)
    have hpublish {rs : List Reg} : OnlyRegs rs kept t :=
      (onlyRegs_of_reg_eq (t := { kept with freeCtr := n' }) (fun _ _ => rfl) rfl).trans
        (ht ▸ OnlyAt.onlyRegs (onlyAt_calPublish _ _ _ _ _ _))
    refine ⟨?fresh, fun h => by contradiction, fun _ happly => ?apart,
      hfree.trans ((onlyRegs_fitKept free x rot th mu).trans hpublish)⟩
    case fresh =>
      rw [hdisc, State.fitKept_fresh]
      exact s.fitBegun_fresh x
    case apart =>
      have hoff : bitOf (free.calOpt (0x200 + x)) 8 = false :=
        (s.fitBegun_field x (fun u => bitOf (u.calOpt (0x200 + x)) 8) fun _ _ => rfl).trans happly
      have hkept : kept = free.setDisc x { free.disc x with rot, th, mu } := State.fitKept_of_not_apply hoff rot th mu
      have hunit : kept.calUnit (0x200 + x) = s.calUnit (0x200 + x) := by
        rw [hkept]
        exact s.fitBegun_field x (·.calUnit (0x200 + x)) fun _ _ => rfl
      refine ⟨?counts, ?means, hfree.trans (OnlyRegs.trans ?kept hpublish)⟩
      case counts =>
        rw [ht, State.calPublish_updates, ← hunit]
        rfl
      case means => rw [hdisc, hkept, State.setDisc_disc, hlength]
      case kept => exact hkept ▸ onlyRegs_setDisc free x _

end

end Sys2Proof.Machine
end

-- ==== Proof of the calibration updates statement ====
section
/-!
PROOFS. Statistics blocks, interleave updates, the monitor and the fits (R230, R232-R235, R237-R239): each row acts on the state
once its cc have passed, and what the rows are due for stays due while cc pass.
-/

namespace Sys2Proof.Machine

section
variable {s : State} (dt : Nat)

@[simp] theorem State.pass_pair (lo hi : Reg) (i : Nat) : (s.pass dt).pair lo hi i = s.pair lo hi i :=
  State.pair_congr (s.pass_reg dt lo i) (s.pass_reg dt hi i)

theorem State.pass_latchedEstimate (g : Nat) : (s.pass dt).latchedEstimate g = s.latchedEstimate g := by
  simp only [State.latchedEstimate, State.pass_fld, State.pass_pair]

/-- Core 0 or 1 of the Gaffer runs as before. -/
theorem State.pass_updateCores : ((s.pass dt).coreRuns 0 || (s.pass dt).coreRuns 1) = (s.coreRuns 0 || s.coreRuns 1) := by
  rw [s.pass_coreRuns dt (by decide), s.pass_coreRuns dt (by decide)]

theorem State.mayUpdate_pass {u : Nat} (h : s.mayUpdate u = true) : (s.pass dt).mayUpdate u = true := by
  simp only [State.mayUpdate, State.pass_updateCores, State.pass_cal, Bool.or_eq_true (s.background u)] at h ⊢
  exact h.elim (fun hb => by rw [State.background_pass dt hb, Bool.true_or]) (fun hrun => by rw [hrun, Bool.or_true])

theorem State.BlockUsable.pass {g : Nat} (h : s.BlockUsable g) : (s.pass dt).BlockUsable g :=
  ⟨State.mayUpdate_pass dt h.may, (s.pass_bit dt _ _ _).trans h.ready, (s.pass_bit dt _ _ _).trans h.clean,
    (s.pass_bit dt _ _ _).trans h.still⟩

theorem State.fitDue_pass {x : Nat} (h : s.fitDue x = true) : (s.pass dt).fitDue x = true := by
  simp only [State.fitDue, State.pass_updateCores, State.pass_cal, State.pass_disc, State.pass_servedAt, Bool.and_eq_true,
    Bool.or_eq_true] at h ⊢
  obtain ⟨hcore, (⟨⟨hb, hwindow⟩, htotal⟩ | hrun)⟩ := h
  · exact ⟨hcore, .inl ⟨⟨State.background_pass dt hb, hwindow⟩, htotal⟩⟩
  · exact ⟨hcore, .inr hrun⟩

end

/-- Settles O38: past its cc each row does what the rules above say of the state that it acts on. -/
theorem calibrationUpdates : Obligations.CalibrationUpdates := by
  intro dt g x s p
  have hpast {l : List (Reg × Nat)} : OnlyAt l s p := onlyAt_pass s dt
  have hpastRegs {rs : List Reg} : OnlyRegs rs s p := OnlyAt.onlyRegs hpast
  refine ⟨fun xs hends => ⟨_, rfl, ?block⟩, fun hmay hready hclean hstill => ⟨_, rfl, ?update⟩,
    fun m hawake hsel hfull => ⟨_, rfl, ?monitor⟩, fun f hdue => ⟨_, rfl, ?fit⟩⟩
  case block =>
    obtain ⟨hc2, hquads, hread, hovr, hdirty, hlost, hcount, honly⟩ := statBlockEndOp_stores hends xs
    rw [s.pass_fld dt] at hc2 hquads hovr hcount
    rw [s.pass_bit dt] at hlost
    exact ⟨hc2, hquads, hread, hovr, hdirty, hlost, hcount, hpastRegs.trans honly⟩
  case update =>
    have husable : s.BlockUsable g := ⟨hmay, hready, hclean, hstill⟩
    obtain ⟨htaken, hweak, hcounts, hfrozen, honly⟩ := interleaveUpdateOp_updates (husable.pass dt)
    rw [s.pass_latchedEstimate dt] at hweak hcounts
    rw [s.pass_calUnit dt] at hcounts
    exact ⟨htaken, fun hv => (hweak hv).imp_right hpast.trans, hcounts, fun hf => hpast.trans (hfrozen hf), hpastRegs.trans honly⟩
  case monitor =>
    have hdue : p.MonitorDue g :=
      { awake := hawake
        selected := (s.pass_fld dt _ _ _ _).trans_lt hsel
        full := by rw [s.pass_cal dt, s.pass_fld dt, s.pass_now dt]; exact hfull }
    obtain ⟨hvdc, hvms, hcdc, hcms, hlost, hready, honly⟩ := monitorBlockEndOp_stores hdue m
    rw [s.pass_bit dt] at hlost
    rw [s.pass_fld dt] at hready
    exact ⟨hvdc, hvms, hcdc, hcms, hlost, hready, hpastRegs.trans honly⟩
  case fit =>
    obtain ⟨hfresh, hweak, hgood, honly⟩ := discriminatorFitOp_fits (State.fitDue_pass dt hdue) f
    rw [s.pass_calOpt dt, s.pass_calUnit dt] at hgood
    exact ⟨hfresh, fun hw => (hweak hw).imp_right hpastRegs.trans,
      fun hw happly => (hgood hw happly).imp_right (And.imp_right hpastRegs.trans), hpastRegs.trans honly⟩

end Sys2Proof.Machine
end

-- ==== Bias outputs: what a stop, a start and a result store ====
section
/-!
PROOFS. The operations that the bias statements share (R246, R247, R249-R253): entries that leave a table, a loop over distinct
outputs, accesses to a die, LAST_RESULT, and ramps that start, stop and step. What one output shows (`State.outputAt`) is changed
by no operation on another output, so a loop over outputs does at each what its step does there.
-/

namespace Sys2Proof.Machine

/-! ### Tables and loops -/

section
variable {α β : Type}

@[simp] theorem tfind_tdel_same (t : Table α) (k : Nat) : tfind (tdel t k) k = none := tfind_filter_none t _ k (by simp)

theorem tfind_tdel_ne (t : Table α) {k j : Nat} (h : j ≠ k) : tfind (tdel t k) j = tfind t j :=
  tfind_filter t _ j (by simp [h])

/-- What the steps of a loop at other elements than `a` leave as it was, a loop over distinct elements makes of a state that shows
it as before what its step at `a` makes of it. -/
theorem State.forEach_at {l : List α} {a : α} (hl : l.Nodup) (ha : a ∈ l) (shown : State → β) {f : α → State → State}
    (h : ∀ b ≠ a, ∀ s, shown (f b s) = shown s) (s : State) :
    ∃ u, shown u = shown s ∧ shown (State.forEach l f s) = shown (f a u) := by
  induction l generalizing s with
  | nil => cases ha
  | cons b l ih =>
    obtain ⟨hb, hl⟩ := List.nodup_cons.1 hl
    rcases List.mem_cons.1 ha with rfl | ha
    · have hrest : ∀ (m : List α), a ∉ m → ∀ s, shown (State.forEach m f s) = shown s := by
        intro m hm
        induction m with
        | nil => exact fun _ => rfl
        | cons c m ihm =>
          obtain ⟨hc, hm⟩ := not_or.1 (mt List.mem_cons.2 hm)
          exact fun s => (ihm hm (f c s)).trans (h c (Ne.symm hc) s)
      exact ⟨s, rfl, hrest l hb (f a s)⟩
    · obtain ⟨u, hu, hlast⟩ := ih hl ha (f b s)
      exact ⟨u, hu.trans (h b (fun he => hb (he ▸ ha)) s), hlast⟩

end

/-! ### The outputs of a die -/

/-- The outputs of a die. -/
def dieOutputs (die : Nat) : List Nat := (List.range 128).map (· + 128 * die)

theorem nodup_dieOutputs (die : Nat) : (dieOutputs die).Nodup :=
  List.nodup_range.map fun _ _ => Nat.add_right_cancel

theorem mem_dieOutputs (die : Nat) (x : Fin 128) : 128 * die + x ∈ dieOutputs die :=
  List.mem_map.2 ⟨x, List.mem_range.2 x.isLt, Nat.add_comm _ _⟩

/-! ### Accesses to a die (R247) -/

section
variable (s : State) (who : Requester)

@[simp] theorem State.onLink_bias : (s.onLink who).bias = s.bias := State.onLink_field (·.bias) (fun _ _ => rfl) s who

@[simp] theorem State.onLink_ramping (k : Nat) : (s.onLink who).ramping k = s.ramping k := by simp [State.ramping]

@[simp] theorem State.onLink_dieLive (die : Nat) : (s.onLink who).dieLive die = s.dieLive die := by
  simp [State.dieLive, State.onLink_bit]

theorem onlyRegs_onLink_self : OnlyRegs [.HIF_LINK] s (s.onLink who) :=
  (onlyAt_onLink (List.mem_singleton_self _) s who).onlyRegs_fst

end

/-- A write of a die's register, open to it, completes with the state past the link while the die is out of reach, and with what
its effect makes of that state otherwise. -/
theorem completes_of_dieAccess {c : Instr} {who : Requester} {r : Reg} {i die : Nat} {op : State → State} {s : State}
    {P : State → Prop} (hc : exec c s = .next (s.dieAccess who r i die op)) (ho : s.OpenReg who r i)
    (hr : regAddr r i < 0x0800_0000) (hdead : s.dieLive die = false → P (s.onLink who))
    (hlive : s.dieLive die = true → P (op (s.onLink who))) : Completes c s P := by
  refine completes_of_hubWrite hc ho hr ?_
  simp only [State.onLink_dieLive]
  cases h : s.dieLive die with
  | false => exact hdead h
  | true => exact hlive h

/-! ### What an output shows -/

/-- The ramp of output `k`, its registers, and the time. -/
def State.outputAt (s : State) (k : Nat) : Option Ramp × (Reg → Word) × Nat := (tfind s.bias.ramp k, (s.reg · k), s.now)

theorem State.outputAt_eq_iff {s t : State} {k : Nat} : t.outputAt k = s.outputAt k ↔
    tfind t.bias.ramp k = tfind s.bias.ramp k ∧ (∀ q, t.reg q k = s.reg q k) ∧ t.now = s.now := by
  simp [State.outputAt, funext_iff]

theorem State.setReg_outputAt (s : State) (r : Reg) {j k : Nat} (h : j ≠ k) (w : Word) :
    (s.setReg r j w).outputAt k = s.outputAt k :=
  State.outputAt_eq_iff.2 ⟨rfl, fun q => by simp [State.reg_setReg, h], rfl⟩

section
variable (s : State) {j k : Nat}

/-! ### LAST_RESULT -/

theorem State.biasResult_code {code : Nat} (h : code < 2 ^ 8) : (s.biasResult k code).fld .BIAS_STATUS k 15 8 = code :=
  s.fld_setFld_of_lt _ _ _ _ (by decide) h

theorem State.biasResult_bit (code : Nat) {b : Nat} (h : b < 8) :
    (s.biasResult k code).bit .BIAS_STATUS k b = s.bit .BIAS_STATUS k b :=
  s.bit_setFld_apart _ _ _ _ _ _ (by omega) (.inl h)

theorem onlyAt_biasResult (code : Nat) : OnlyAt [(.BIAS_STATUS, k)] s (s.biasResult k code) :=
  onlyAt_setReg s _ (List.mem_singleton_self _)

/-! ### Ramps that stop (R251, R253) -/

/-- No ramp of output `k` is in progress any more. -/
def State.rampEnded (s : State) (k : Nat) : State := { s with bias := { s.bias with ramp := tdel s.bias.ramp k } }

theorem State.rampEnded_ramp : tfind (s.rampEnded k).bias.ramp k = none := tfind_tdel_same _ _

theorem State.rampEnded_outputAt (h : j ≠ k) : (s.rampEnded j).outputAt k = s.outputAt k :=
  State.outputAt_eq_iff.2 ⟨tfind_tdel_ne _ h.symm, fun _ => rfl, rfl⟩

theorem onlyAt_rampEnded {l : List (Reg × Nat)} : OnlyAt l s (s.rampEnded k) := onlyAt_of_reg_eq (fun _ _ => rfl) rfl

theorem State.stopRamp_of_idle (h : s.ramping k = false) (code : Nat) : s.stopRamp code k = s := by
  unfold State.stopRamp
  split
  next hr => simp [State.ramping, hr] at h
  next => rfl

theorem State.stopRamp_of_ramping (h : s.ramping k = true) (code : Nat) : s.stopRamp code k =
    (((s.rampEnded k).setBit .BIAS_STATUS k 0 false).setBit .BIAS_STATUS k 2 true).biasResult k code := by
  unfold State.stopRamp
  split
  next => rfl
  next hr => simp [State.ramping, hr] at h

theorem State.stopRamp_ramp (code : Nat) : tfind (s.stopRamp code k).bias.ramp k = none := by
  cases h : s.ramping k with
  | false => rw [s.stopRamp_of_idle h]; simpa [State.ramping] using h
  | true => rw [s.stopRamp_of_ramping h]; exact s.rampEnded_ramp

theorem State.stopRamp_marks (h : s.ramping k = true) {code : Nat} (hcode : code < 2 ^ 8) :
    let t := s.stopRamp code k
    t.bit .BIAS_STATUS k 0 = false ∧ t.bit .BIAS_STATUS k 2 = true ∧ t.fld .BIAS_STATUS k 15 8 = code := by
  rw [s.stopRamp_of_ramping h]
  exact ⟨by simp [State.biasResult_bit], by simp [State.biasResult_bit], State.biasResult_code _ hcode⟩

theorem State.stopRamp_outputAt (h : j ≠ k) (code : Nat) : (s.stopRamp code j).outputAt k = s.outputAt k := by
  cases hj : s.ramping j with
  | false => rw [s.stopRamp_of_idle hj]
  | true =>
    rw [s.stopRamp_of_ramping hj]
    calc _ = _ := State.setReg_outputAt _ _ h _
      _ = _ := State.setReg_outputAt _ _ h _
      _ = _ := State.setReg_outputAt _ _ h _
      _ = s.outputAt k := s.rampEnded_outputAt h

theorem onlyAt_stopRamp (code : Nat) : OnlyAt [(.BIAS_STATUS, k)] s (s.stopRamp code k) := by
  have hmem : (Reg.BIAS_STATUS, k) ∈ [(Reg.BIAS_STATUS, k)] := List.mem_singleton_self _
  cases h : s.ramping k with
  | false => rw [s.stopRamp_of_idle h]; exact onlyAt_of_reg_eq (fun _ _ => rfl) rfl
  | true =>
    rw [s.stopRamp_of_ramping h]
    exact (onlyAt_rampEnded s).trans <| (onlyAt_setReg _ _ hmem).trans <| (onlyAt_setReg _ _ hmem).trans (onlyAt_setReg _ _ hmem)

/-- A STOP ends the ramp of output `k`, if any, and answers OK. -/
def State.stopOutput (s : State) (k : Nat) : State := (s.stopRamp Code.ok k).biasResult k Code.ok

theorem State.stopOutput_stops :
    let t := s.stopOutput k
    tfind t.bias.ramp k = none ∧ t.fld .BIAS_STATUS k 15 8 = Code.ok ∧
      (s.ramping k = true → t.bit .BIAS_STATUS k 2 = true) := by
  refine ⟨s.stopRamp_ramp Code.ok, State.biasResult_code _ (by decide), fun h => ?_⟩
  obtain ⟨-, hstopped, -⟩ := s.stopRamp_marks h (code := Code.ok) (by decide)
  exact (State.biasResult_bit _ _ (by decide)).trans hstopped

theorem State.stopOutput_outputAt (h : j ≠ k) : (s.stopOutput j).outputAt k = s.outputAt k :=
  (State.setReg_outputAt _ _ h _).trans (s.stopRamp_outputAt h _)

theorem onlyRegs_stopOutput : OnlyRegs [.BIAS_STATUS] s (s.stopOutput k) :=
  ((onlyAt_stopRamp s _).trans (onlyAt_biasResult _ _)).onlyRegs_fst

/-! ### Ramps that start (R250, R252) -/

/-- Output `k` ramps as `r` says. -/
def State.rampSet (s : State) (k : Nat) (r : Ramp) : State :=
  { s with bias := { s.bias with ramp := tset s.bias.ramp k r } }

theorem State.rampSet_ramp (r : Ramp) : tfind (s.rampSet k r).bias.ramp k = some r := tfind_tset_same _ _ _

theorem State.rampSet_outputAt (h : j ≠ k) (r : Ramp) : (s.rampSet j r).outputAt k = s.outputAt k :=
  State.outputAt_eq_iff.2 ⟨tfind_tset_ne _ _ _ _ h, fun _ => rfl, rfl⟩

theorem onlyAt_rampSet {l : List (Reg × Nat)} (r : Ramp) : OnlyAt l s (s.rampSet k r) := onlyAt_of_reg_eq (fun _ _ => rfl) rfl

/-- The target that output `k` is written. -/
def State.target20 (s : State) (k : Nat) : Int := signed 20 (s.fld .BIAS_TGT k 19 0)

/-- It lies outside the limits of the output. -/
def State.targetOutside (s : State) (k : Nat) : Prop :=
  s.target20 k < signed 20 (s.fld .BIAS_LIM_LO k 19 0) ∨ signed 20 (s.fld .BIAS_LIM_HI k 19 0) < s.target20 k

/-- The ramp that a GO of output `k` begins. -/
def State.rampOf (s : State) (k : Nat) : Ramp :=
  { tgt := s.target20 k, step := s.fld .BIAS_STEP k 18 0, div := s.fld .BIAS_STEP k 28 24, tick := s.now }

theorem State.startRamp_of_outside (h : s.targetOutside k) :
    s.startRamp k = (s.setBit .BIAS_STATUS k 3 true).biasResult k Code.range := if_pos h

theorem State.startRamp_of_inside (h : ¬s.targetOutside k) :
    s.startRamp k = ((s.rampSet k (s.rampOf k)).setBit .BIAS_STATUS k 0 true).biasResult k Code.ok := if_neg h

theorem State.startRamp_refuses (h : s.targetOutside k) :
    let t := s.startRamp k
    t.bit .BIAS_STATUS k 3 = true ∧ t.fld .BIAS_STATUS k 15 8 = Code.range ∧
      tfind t.bias.ramp k = tfind s.bias.ramp k := by
  rw [s.startRamp_of_outside h]
  exact ⟨by simp [State.biasResult_bit], State.biasResult_code _ (by decide), rfl⟩

theorem State.startRamp_starts (h : ¬s.targetOutside k) :
    let t := s.startRamp k
    t.bit .BIAS_STATUS k 0 = true ∧ t.fld .BIAS_STATUS k 15 8 = Code.ok ∧ tfind t.bias.ramp k = some (s.rampOf k) := by
  rw [s.startRamp_of_inside h]
  exact ⟨by simp [State.biasResult_bit], State.biasResult_code _ (by decide), s.rampSet_ramp _⟩

theorem State.startRamp_outputAt (h : j ≠ k) : (s.startRamp j).outputAt k = s.outputAt k := by
  by_cases hj : s.targetOutside j
  · rw [s.startRamp_of_outside hj]
    exact (State.setReg_outputAt _ _ h _).trans (State.setReg_outputAt _ _ h _)
  · rw [s.startRamp_of_inside hj]
    exact (State.setReg_outputAt _ _ h _).trans ((State.setReg_outputAt _ _ h _).trans (s.rampSet_outputAt h _))

theorem onlyRegs_startRamp : OnlyRegs [.BIAS_STATUS] s (s.startRamp k) := by
  have hmem : Reg.BIAS_STATUS ∈ [Reg.BIAS_STATUS] := List.mem_singleton_self _
  by_cases h : s.targetOutside k
  · rw [s.startRamp_of_outside h]
    exact (onlyRegs_setReg hmem _ _ _).trans (onlyRegs_setReg hmem _ _ _)
  · rw [s.startRamp_of_inside h]
    exact (onlyAt_rampSet s _).onlyRegs.trans ((onlyRegs_setReg hmem _ _ _).trans (onlyRegs_setReg hmem _ _ _))

theorem State.startRamp_stage : (s.startRamp k).bias.stage = s.bias.stage := State.ite_field (·.bias.stage) rfl rfl

/-! ### A step of a ramp (R250) -/

/-- ACT of output `k` reads `x`. -/
def State.actSet (s : State) (k : Nat) (x : Int) : State := s.setFld .BIAS_ACT k 19 0 (wrapTo 20 x)

theorem State.actSet_act (x : Int) : (s.actSet k x).fld .BIAS_ACT k 19 0 = wrapTo 20 x :=
  s.fld_setFld_of_lt _ _ _ _ (by decide) (wrapTo_lt 20 x)

theorem onlyAt_actSet (x : Int) : OnlyAt [(.BIAS_ACT, k)] s (s.actSet k x) := onlyAt_setReg s _ (List.mem_singleton_self _)

section
variable {r : Ramp} (hr : tfind s.bias.ramp k = some r) (hdue : r.tick + r.least ≤ s.now)
include hr hdue

theorem rampStepOp_of_due :
    let act := r.move (signed 20 (s.fld .BIAS_ACT k 19 0))
    let t := s.actSet k act
    rampStepOp k s = if act = r.tgt then ((t.rampEnded k).setBit .BIAS_STATUS k 0 false).setBit .BIAS_STATUS k 1 true
      else t.rampSet k { r with tick := s.now } := by
  unfold rampStepOp
  split
  next hnone => cases hnone.symm.trans hr
  next r' hsome =>
    obtain rfl := Option.some.inj (hsome.symm.trans hr)
    exact if_neg (Nat.not_lt.2 hdue)

/-- A due step that reaches the target ends the ramp with DONE, any other leaves it in progress. -/
theorem rampStepOp_steps :
    let act := r.move (signed 20 (s.fld .BIAS_ACT k 19 0))
    let t := rampStepOp k s
    t.fld .BIAS_ACT k 19 0 = wrapTo 20 act ∧
      (act = r.tgt → tfind t.bias.ramp k = none ∧ t.bit .BIAS_STATUS k 0 = false ∧ t.bit .BIAS_STATUS k 1 = true) ∧
      (act ≠ r.tgt → tfind t.bias.ramp k = some { r with tick := s.now } ∧ t.reg .BIAS_STATUS k = s.reg .BIAS_STATUS k) ∧
      OnlyAt [(.BIAS_ACT, k), (.BIAS_STATUS, k)] s t := by
  intro act t
  let moved := s.actSet k act
  have ht : t = _ := rampStepOp_of_due s hr hdue
  have hmoved : OnlyAt [(.BIAS_ACT, k), (.BIAS_STATUS, k)] s moved := (onlyAt_actSet s act).mono (by simp)
  by_cases hact : act = r.tgt
  · rw [if_pos hact] at ht
    have hbehind : OnlyAt [(.BIAS_STATUS, k)] moved t := ht ▸ (onlyAt_rampEnded moved).trans
      ((onlyAt_setReg _ _ (List.mem_singleton_self _)).trans (onlyAt_setReg _ _ (List.mem_singleton_self _)))
    refine ⟨(State.fld_congr (hbehind.1 _ _ (by simp))).trans (s.actSet_act act), fun _ => ?_, fun h => absurd hact h,
      hmoved.trans (hbehind.mono (by simp))⟩
    rw [ht]
    exact ⟨State.rampEnded_ramp _, by simp, by simp⟩
  · rw [if_neg hact] at ht
    refine ⟨ht ▸ s.actSet_act act, fun h => absurd h hact, fun _ => ht ▸ ⟨moved.rampSet_ramp _, ?_⟩,
      hmoved.trans (ht ▸ onlyAt_rampSet moved _)⟩
    exact (onlyAt_actSet s act).1 _ _ (by simp)

end

end

end Sys2Proof.Machine
end

-- ==== Proof of the bias outputs statement ====
section
/-!
PROOFS. Switches and ramps (R247, R249-R252). The writes act on the state past the link, the completion of a switch and the step
of a ramp on the state once their cc have passed; what each does is said once, of the state that it acts on.
-/

namespace Sys2Proof.Machine

section
variable (s : State) {k : Nat}

/-! ### Switches (R249) -/

theorem bits_conn (v : Word) : bits (BitVec.ofNat 32 (bits v 1 0)) 1 0 = bits v 1 0 := by
  simp only [bits, BitVec.toNat_ofNat]
  omega

/-- The switch of output `k` is to move to `c`. -/
def State.connAsked (s : State) (k c : Nat) : State :=
  let t := (s.setReg .BIAS_CTRL k (BitVec.ofNat 32 c)).biasResult k Code.ok
  { t with bias := { t.bias with conn := tset t.bias.conn k c } }

theorem biasConnOp_of_reserved {v : Word} (h : bits v 1 0 = 3) : biasConnOp k v s = s.biasResult k Code.range := if_pos h

theorem biasConnOp_of_ramping {v : Word} (h : bits v 1 0 ≠ 3) (hr : s.ramping k = true)
    (hc : bits v 1 0 ≠ s.fld .BIAS_CTRL k 1 0) : biasConnOp k v s = s.biasResult k Code.busy :=
  (if_neg h).trans (if_pos (by simp [hr, hc]))

theorem biasConnOp_of_still {v : Word} (h : bits v 1 0 ≠ 3) (hr : s.ramping k = false) :
    biasConnOp k v s = s.connAsked k (bits v 1 0) :=
  (if_neg h).trans (if_neg (by simp [hr]))

theorem State.connAsked_reads (v : Word) :
    let t := s.connAsked k (bits v 1 0)
    t.fld .BIAS_CTRL k 1 0 = bits v 1 0 ∧ tfind t.bias.conn k = some (bits v 1 0) ∧ t.fld .BIAS_STATUS k 15 8 = Code.ok ∧
      t.fld .BIAS_STATUS k 5 4 = s.fld .BIAS_STATUS k 5 4 ∧ OnlyAt [(.BIAS_STATUS, k), (.BIAS_CTRL, k)] s t := by
  let stored := s.setReg .BIAS_CTRL k (BitVec.ofNat 32 (bits v 1 0))
  let answered := stored.biasResult k Code.ok
  intro t
  have ht (q : Reg) (j : Nat) : t.reg q j = answered.reg q j := rfl
  have hstored : OnlyAt [(.BIAS_CTRL, k)] s stored := onlyAt_setReg s _ (List.mem_singleton_self _)
  have hanswered : OnlyAt [(.BIAS_STATUS, k)] stored answered := onlyAt_biasResult stored _
  refine ⟨?ctrl, tfind_tset_same _ _ _, (State.fld_congr (ht _ _)).trans (State.biasResult_code _ (by decide)), ?shown,
    (hstored.mono (by simp)).trans ((hanswered.mono (by simp)).trans (onlyAt_of_reg_eq ht rfl))⟩
  case ctrl =>
    calc t.fld .BIAS_CTRL k 1 0
        = stored.fld .BIAS_CTRL k 1 0 := State.fld_congr (hanswered.1 _ _ (by simp))
      _ = bits v 1 0 := (s.fld_setReg_same _ _ _ _ _).trans (bits_conn v)
  case shown =>
    calc t.fld .BIAS_STATUS k 5 4
        = stored.fld .BIAS_STATUS k 5 4 := stored.fld_setFld_apart _ _ _ _ _ _ _ (by decide) (.inl (by decide))
      _ = s.fld .BIAS_STATUS k 5 4 := State.fld_congr (hstored.1 _ _ (by simp))

theorem biasConnDoneOp_shows {c : Nat} (h : tfind s.bias.conn k = some c) :
    let t := biasConnDoneOp k s
    t.fld .BIAS_STATUS k 5 4 = c % 4 ∧ OnlyAt [(.BIAS_STATUS, k)] s t := by
  let moved : State := { s with bias := { s.bias with conn := tdel s.bias.conn k } }
  have hmoved : OnlyAt [(.BIAS_STATUS, k)] s moved := onlyAt_of_reg_eq (fun _ _ => rfl) rfl
  intro t
  have ht : t = moved.setFld .BIAS_STATUS k 5 4 c := by simp only [t, biasConnDoneOp, h]; rfl
  rw [ht]
  exact ⟨moved.fld_setFld_same _ _ _ _ _ (by decide), hmoved.trans (onlyAt_setReg moved _ (List.mem_singleton_self _))⟩

/-! ### GO (R250, R252) -/

/-- The outputs staged on a die are staged no more. -/
def State.stageTaken (s : State) (die : Nat) : State := { s with bias := { s.bias with stage := tdel s.bias.stage die } }

theorem onlyRegs_biasGoOp (die : Nat) : OnlyRegs [.BIAS_STATUS] s (biasGoOp die s) :=
  (onlyRegs_of_reg_eq (fun _ _ => rfl) rfl : OnlyRegs _ s (s.stageTaken die)).trans
    (onlyRegs_forEach (fun _ u => onlyRegs_startRamp u) _ _)

theorem biasGoOp_stage (die : Nat) : tget 0 (biasGoOp die s).bias.stage die = 0 := by
  have hloop : (biasGoOp die s).bias.stage = (s.stageTaken die).bias.stage :=
    State.forEach_field _ _ _ (·.bias.stage) fun _ u => u.startRamp_stage
  rw [hloop, tget]
  exact congrArg (Option.getD · 0) (tfind_tdel_same _ _)

/-- A GO of the die finds each staged output as the write found it. -/
theorem biasGoOp_at {die x : Nat} (hx : x < 128) (h : bitOf (tget 0 s.bias.stage die) x = true) :
    ∃ u : State, u.outputAt (128 * die + x) = s.outputAt (128 * die + x) ∧
      (biasGoOp die s).outputAt (128 * die + x) = (u.startRamp (128 * die + x)).outputAt (128 * die + x) := by
  obtain ⟨u, hu, hgo⟩ := State.forEach_at (nodup_setBitsOf 128 _) (mem_setBitsOf.2 ⟨hx, h⟩)
    (·.outputAt (128 * die + x)) (f := fun i u => u.startRamp (128 * die + i)) (fun b hb u => u.startRamp_outputAt (by omega))
    (s.stageTaken die)
  exact ⟨u, hu, hgo⟩

theorem State.targetOutside_congr {s t : State} (h : ∀ q ≠ .HIF_LINK, t.reg q k = s.reg q k) :
    t.targetOutside k ↔ s.targetOutside k := by
  simp only [State.targetOutside, State.target20, State.fld_congr (h .BIAS_TGT (by decide)),
    State.fld_congr (h .BIAS_LIM_LO (by decide)), State.fld_congr (h .BIAS_LIM_HI (by decide))]

theorem State.rampOf_congr {s t : State} (h : ∀ q ≠ .HIF_LINK, t.reg q k = s.reg q k) (hnow : t.now = s.now) :
    t.rampOf k = s.rampOf k := by
  simp only [State.rampOf, State.target20, State.fld_congr (h .BIAS_TGT (by decide)),
    State.fld_congr (h .BIAS_STEP (by decide)), hnow]

theorem biasGoOp_starts {die x : Nat} (hx : x < 128) (h : bitOf (tget 0 s.bias.stage die) x = true) :
    let o := 128 * die + x
    let t := biasGoOp die s
    (s.targetOutside o → t.bit .BIAS_STATUS o 3 = true ∧ t.fld .BIAS_STATUS o 15 8 = Code.range ∧
      tfind t.bias.ramp o = tfind s.bias.ramp o) ∧
    (¬s.targetOutside o → t.bit .BIAS_STATUS o 0 = true ∧ t.fld .BIAS_STATUS o 15 8 = Code.ok ∧
      tfind t.bias.ramp o = some (s.rampOf o)) := by
  intro o t
  obtain ⟨u, hu, hgo⟩ := biasGoOp_at s hx h
  obtain ⟨huramp, hureg, hunow⟩ := State.outputAt_eq_iff.1 hu
  obtain ⟨hramp, hreg, -⟩ := State.outputAt_eq_iff.1 hgo
  have houtside : u.targetOutside o ↔ s.targetOutside o := State.targetOutside_congr fun q _ => hureg q
  have hbegun : u.rampOf o = s.rampOf o := State.rampOf_congr (fun q _ => hureg q) hunow
  refine ⟨fun hout => ?_, fun hin => ?_⟩
  · obtain ⟨hrej, hcode, hkept⟩ := u.startRamp_refuses (houtside.2 hout)
    exact ⟨(State.bit_congr (hreg _)).trans hrej, (State.fld_congr (hreg _)).trans hcode, hramp.trans (hkept.trans huramp)⟩
  · obtain ⟨hon, hcode, hset⟩ := u.startRamp_starts (mt houtside.1 hin)
    exact ⟨(State.bit_congr (hreg _)).trans hon, (State.fld_congr (hreg _)).trans hcode,
      hramp.trans (hset.trans (congrArg some hbegun))⟩

/-! ### STOP (R251) -/

section
variable {l : List Nat}

theorem onlyRegs_stopOutputs : OnlyRegs [.BIAS_STATUS] s (State.forEach l (fun k u => u.stopOutput k) s) :=
  onlyRegs_forEach (fun _ u => onlyRegs_stopOutput u) l s

/-- A STOP of distinct outputs stops each as it was found. -/
theorem State.stopOutputs_stop (hl : l.Nodup) (hk : k ∈ l) :
    let t := State.forEach l (fun k u => u.stopOutput k) s
    tfind t.bias.ramp k = none ∧ t.fld .BIAS_STATUS k 15 8 = Code.ok ∧
      (s.ramping k = true → t.bit .BIAS_STATUS k 2 = true) := by
  intro t
  obtain ⟨u, hu, hstop⟩ := State.forEach_at hl hk (·.outputAt k) (f := fun k u => u.stopOutput k)
    (fun b hb u => u.stopOutput_outputAt hb) s
  obtain ⟨huramp, -, -⟩ := State.outputAt_eq_iff.1 hu
  obtain ⟨hramp, hreg, -⟩ := State.outputAt_eq_iff.1 hstop
  obtain ⟨hnone, hcode, hstopped⟩ := u.stopOutput_stops (k := k)
  refine ⟨hramp.trans hnone, (State.fld_congr (hreg _)).trans hcode, fun h => (State.bit_congr (hreg _)).trans (hstopped ?_)⟩
  simpa only [State.ramping, huramp] using h

end

theorem biasStopAllOp_eq (die : Nat) :
    biasStopAllOp die s = State.forEach (dieOutputs die) (fun k u => u.stopOutput k) s := rfl

theorem biasStopOp_eq (die i : Nat) (mask : Word) : biasStopOp die i mask s =
    State.forEach ((setBitsOf 32 mask.toNat).map (128 * die + 32 * i + ·)) (fun k u => u.stopOutput k) s :=
  by rw [State.forEach, List.foldl_map]; rfl

end

/-! ### Registers of the dies -/

theorem regAddr_biasCtrl_hub (k : Fin 256) : regAddr .BIAS_CTRL k < 0x0800_0000 := by
  show 0x91000 + (0x10000 * (k.val / 128) + (0x20 * (k.val % 128 / 1) + 0)) < 0x0800_0000
  omega

theorem regAddr_biasGo_hub (die : Fin 2) (i : Fin 4) : regAddr .BIAS_GO (4 * die + i) < 0x0800_0000 := by
  revert die i; decide

theorem regAddr_biasStop_hub (die : Fin 2) (i : Fin 4) : regAddr .BIAS_STOP (4 * die + i) < 0x0800_0000 := by
  revert die i; decide

theorem regAddr_biasDieCmd_hub (die : Fin 2) : regAddr .BIAS_DIE_CMD die < 0x0800_0000 := by
  revert die; decide

/-- Settles O40: a write to a die in reach acts past the link, where the outputs read as before it; the equations of its effect
above decide the case, and a write to a die out of reach leaves the state past the link. -/
theorem biasOutputsComplete : Obligations.BiasOutputsComplete := by
  intro who dt k die i v s
  let u := s.onLink who
  let p := s.pass dt
  have hlink : OnlyAt [(.HIF_LINK, 0)] s u := onlyAt_onLink (List.mem_singleton_self _) s who
  have hlinkRegs : OnlyRegs [.HIF_LINK] s u := onlyRegs_onLink_self s who
  have hreg (q : Reg) (j : Nat) (hq : q ≠ .HIF_LINK) : u.reg q j = s.reg q j := s.onLink_reg who q j hq
  have hramping (o : Nat) : u.ramping o = s.ramping o := s.onLink_ramping who o
  have hbias : u.bias = s.bias := s.onLink_bias who
  have hpast {l : List (Reg × Nat)} : OnlyAt l s p := onlyAt_pass s dt
  refine ⟨fun ho => ?conn, fun c hc => ⟨_, rfl, ?moved⟩, fun ho => ?stage, fun ho => ?go, fun ho hl => ?stopAll,
    fun ho hl => ?stop, fun r hr hdue => ⟨_, rfl, ?step⟩⟩
  case conn =>
    refine completes_of_dieAccess rfl ho (regAddr_biasCtrl_hub k) (fun hd => by simpa [hd] using hlinkRegs)
      (fun hd => ⟨fun h => by simp [hd] at h, fun _ hv => ?range, fun _ hv hr hc => ?busy, fun _ hv hr => ?stored⟩)
    case range =>
      rw [biasConnOp_of_reserved u hv]
      exact ⟨u.biasResult_code (by decide), (hlink.mono (by simp)).trans ((onlyAt_biasResult u _).mono (by simp))⟩
    case busy =>
      rw [biasConnOp_of_ramping u hv ((hramping k).trans hr) (by rwa [s.onLink_fld who _ _ _ _ (by decide)])]
      exact ⟨u.biasResult_code (by decide), (hlink.mono (by simp)).trans ((onlyAt_biasResult u _).mono (by simp))⟩
    case stored =>
      rw [biasConnOp_of_still u hv ((hramping k).trans hr)]
      obtain ⟨hctrl, hconn, hcode, hshown, honly⟩ := u.connAsked_reads (k := k) v
      exact ⟨hctrl, hconn, hcode, hshown.trans (s.onLink_fld who _ _ _ _ (by decide)),
        (hlink.mono (by simp)).trans (honly.mono (by simp))⟩
  case moved =>
    obtain ⟨hshown, honly⟩ := biasConnDoneOp_shows p (k := k) (c := c) (by rwa [s.pass_bias])
    exact ⟨hshown, hpast.trans honly⟩
  case stage =>
    refine completes_of_dieAccess rfl ho (regAddr_biasGo_hub die i)
      (fun hd => ⟨fun h => by simp [hd] at h, fun _ => hbias, hlinkRegs⟩)
      (fun hd => ⟨fun _ => ?_, fun h => by simp [hd] at h, ?_⟩)
    · exact (tget_tset_same _ _ _ _).trans (by rw [hbias])
    · exact hlinkRegs.trans (onlyRegs_of_reg_eq (fun _ _ => rfl) rfl)
  case go =>
    refine completes_of_dieAccess rfl ho (regAddr_biasDieCmd_hub die)
      (fun hd => ⟨fun _ => ⟨hlinkRegs, hbias⟩, fun h => by simp [hd] at h⟩)
      (fun hd => ⟨fun h => by simp [hd] at h, fun _ => ⟨biasGoOp_stage u die, fun x hx => ?_,
        (hlinkRegs.mono (by simp)).trans ((onlyRegs_biasGoOp u die).mono (by simp))⟩⟩)
    intro o tgt
    have hsame : u.targetOutside o ↔ s.targetOutside o := State.targetOutside_congr (hreg · o)
    have hramp : u.rampOf o = s.rampOf o := State.rampOf_congr (hreg · o) (s.onLink_now who)
    obtain ⟨hrefused, hstarted⟩ := biasGoOp_starts u x.isLt (by rwa [hbias])
    refine ⟨fun hout => hbias ▸ hrefused (hsame.2 hout), fun hlo hhi => ?_⟩
    obtain ⟨hon, hcode, hset⟩ := hstarted (mt hsame.1 (not_or.2 ⟨not_lt.2 hlo, not_lt.2 hhi⟩))
    exact ⟨hon, hcode, hset.trans (congrArg some hramp)⟩
  case stopAll =>
    refine completes_of_dieAccess rfl ho (regAddr_biasDieCmd_hub die) (fun hd => by simp [hd] at hl) (fun _ => ?_)
    rw [biasStopAllOp_eq]
    refine ⟨fun x => ?_, ?_⟩
    · have hstop := (s.onLink who).stopOutputs_stop (nodup_dieOutputs die) (mem_dieOutputs die x)
      exact hstop.imp_right And.left
    · exact (hlinkRegs.mono (by simp)).trans ((onlyRegs_stopOutputs u).mono (by simp))
  case stop =>
    refine completes_of_dieAccess rfl ho (regAddr_biasStop_hub die i) (fun hd => by simp [hd] at hl) (fun _ => ?_)
    rw [biasStopOp_eq]
    refine ⟨fun x hx => ?_, (hlinkRegs.mono (by simp)).trans ((onlyRegs_stopOutputs u).mono (by simp))⟩
    rw [← hramping]
    exact u.stopOutputs_stop ((nodup_setBitsOf 32 _).map fun _ _ => Nat.add_left_cancel)
      (List.mem_map_of_mem (mem_setBitsOf.2 ⟨x.isLt, hx⟩))
  case step =>
    obtain ⟨hact, hends, hgoes, honly⟩ := rampStepOp_steps p (k := k) (by rwa [s.pass_bias]) (by rwa [s.pass_now])
    rw [s.pass_fld] at hact hends hgoes
    rw [s.pass_now, s.pass_reg] at hgoes
    exact ⟨hact, hends, hgoes, hpast.trans honly⟩

end Sys2Proof.Machine
end

-- ==== Proof of the bias dies statement ====
section
/-!
PROOFS. Supplies and isolator links of the bias dies (R246, R247, R253). A die that loses its contents (`State.resetDie`) resets
the registers that `dieRegs` gives it, and no other; a die that comes up or within reach loads nothing while no image is saved.
-/

namespace Sys2Proof.Machine

theorem dieBit_dieSet : ∀ (m : BitVec 2) (die : Fin 2) (on : Bool), dieBit (dieSet m die on) die = on := by decide

section
variable {β : Type} (s : State) (die : Nat)

/-! ### What a die loses (R246) -/

theorem dieRegs_functional : ∀ p ∈ dieRegs, ∀ p' ∈ dieRegs, p.1 = p'.1 → p = p' := by decide

theorem dieRegs_pos : ∀ p ∈ dieRegs, 0 < p.2 := by decide

/-- The registers of die `die` are at their reset values. -/
def State.dieRegsReset (s : State) (die : Nat) : State :=
  State.forEach dieRegs (fun p s => s.resetRegs [p.1] (fun i => i / p.2 == die)) s

theorem State.dieRegsReset_in {q : Reg} {n : Nat} (h : (q, n) ∈ dieRegs) {j : Nat} (hj : j / n = die) :
    (s.dieRegsReset die).reg q j = resetWord s.variant q j := by
  have hvariant : (s.dieRegsReset die).variant = s.variant := State.forEach_field _ _ _ (·.variant) fun _ _ => rfl
  rw [← hvariant]
  refine State.forEach_of_mem (P := fun u => u.reg q j = resetWord u.variant q j) h
    (fun u => u.reg_resetRegs_in _ _ _ _ (List.mem_singleton_self q) (by simp [hj])) (fun p u hu => ?_) s
  by_cases hp : q ∈ [p.1] ∧ j / p.2 = die
  · exact u.reg_resetRegs_in _ _ _ _ hp.1 (by simp [hp.2])
  · refine (u.reg_resetRegs_other _ _ _ _ ?_).trans hu
    exact (not_and_or.1 hp).imp_right fun hne => by simp [hne]

theorem State.dieRegsReset_out {q : Reg} {j : Nat} (h : ∀ n, (q, n) ∈ dieRegs → j / n ≠ die) :
    (s.dieRegsReset die).reg q j = s.reg q j := by
  unfold State.dieRegsReset State.forEach
  refine List.foldlRecOn (motive := fun u : State => u.reg q j = s.reg q j) dieRegs _ rfl fun u hu p hp => ?_
  refine (u.reg_resetRegs_other _ _ _ _ ?_).trans hu
  by_cases hq : q = p.1
  · exact .inr (by simpa using h p.2 (hq ▸ hp))
  · exact .inl (by simpa using hq)

/-- What the bias side notes of die `die` is gone. -/
def BiasState.dieLost (b : BiasState) (die : Nat) : BiasState :=
  { b with stage := tdel b.stage die, ramp := b.ramp.filter (fun e => e.1 / 128 != die)
           conn := b.conn.filter (fun e => e.1 / 128 != die), ic := b.ic.filter (fun e => e.1 / 4 != die)
           extref := b.extref.filter (fun e => e.1 / 2 != die) }

/-- Then the lines of its converters fall. -/
theorem State.resetDie_eq : s.resetDie die =
    let lost := { s.dieRegsReset die with bias := (s.dieRegsReset die).bias.dieLost die }
    State.forEach (List.range 4) (fun c u => u.setLine (8 + (4 * die + c)) false) lost := by
  unfold State.resetDie State.dieRegsReset
  rfl

theorem State.resetDie_reg (q : Reg) (j : Nat) : (s.resetDie die).reg q j = (s.dieRegsReset die).reg q j := by
  rw [State.resetDie_eq]
  generalize s.dieRegsReset die = lost
  exact State.forEach_reg _ _ _ q j fun _ u => u.setLine_reg _ _ q j

theorem State.resetDie_flash : (s.resetDie die).flash = s.flash := by
  have hregs : (s.dieRegsReset die).flash = s.flash := State.forEach_field _ _ s (·.flash) fun _ _ => rfl
  rw [State.resetDie_eq, ← hregs]
  generalize s.dieRegsReset die = lost
  exact State.forEach_field _ _ _ (·.flash) fun _ u => u.setLine_flash _ _

theorem State.resetDie_ramp (k : Fin 128) : tfind (s.resetDie die).bias.ramp (128 * die + k) = none := by
  have hbias : (s.resetDie die).bias = (s.dieRegsReset die).bias.dieLost die := by
    rw [State.resetDie_eq]
    generalize s.dieRegsReset die = lost
    exact State.forEach_field _ _ _ (·.bias) fun _ u => u.setLine_bias _ _
  have hdie : (128 * die + k.val) / 128 = die := by omega
  rw [hbias]
  exact tfind_filter_none _ _ _ fun _ => by simp [hdie]

theorem onlyRegs_resetDie : OnlyRegs (dieRegs.map Prod.fst) s (s.resetDie die) :=
  ⟨fun q j hq => (s.resetDie_reg die q j).trans (s.dieRegsReset_out die fun _ h => absurd (List.mem_map_of_mem h) hq),
    .of_kept (s.kept_resetDie die)⟩

/-! ### The lines of both dies -/

theorem State.biasLines_field (f : State → β) (hline : ∀ s k on, f (State.setLine s k on) = f s) :
    f s.biasLines = f s := (hline _ _ _).trans (hline _ _ _)

theorem State.biasLines_reg (q : Reg) (j : Nat) : s.biasLines.reg q j = s.reg q j :=
  s.biasLines_field (·.reg q j) fun u k on => u.setLine_reg k on q j

@[simp] theorem State.biasLines_bias : s.biasLines.bias = s.bias := s.biasLines_field (·.bias) State.setLine_bias

theorem onlyAt_biasLines {l : List (Reg × Nat)} : OnlyAt l s s.biasLines :=
  onlyAt_of_reg_eq s.biasLines_reg s.kept_biasLines

/-! ### Saved objects (R246, R377) -/

/-- While no image is saved, a die that is live and in reach has nothing to load. -/
theorem State.loadDies_of_no_image (h : s.flash.newest = none) :
    ∃ due, s.loadDies = { s with bias := { s.bias with loadDue := due } } := by
  have hload (p : Nat → ObjPlace → Bool) : s.load p = s := by simp [State.load, h]
  simp only [State.loadDies, hload]
  split
  · exact ⟨s.bias.loadDue, rfl⟩
  · exact ⟨_, rfl⟩

end

/-! ### The marks of a die -/

section
variable (s : State) (die : Nat) (b : BiasState) (ms : List (Nat × Bool))

/-- The bias side becomes `b`, the bits `ms` of the die's BIAS_DIE_STATUS are stored, and the lines follow. -/
def State.dieMarked (s : State) (die : Nat) (b : BiasState) (ms : List (Nat × Bool)) : State :=
  (State.forEach ms (fun m u => u.setBit .BIAS_DIE_STATUS die m.1 m.2) { s with bias := b }).biasLines

theorem State.dieMarked_bias : (s.dieMarked die b ms).bias = b :=
  (State.biasLines_field _ (·.bias) State.setLine_bias).trans (State.forEach_field ms _ _ (·.bias) fun _ _ => rfl)

theorem State.dieMarked_flash : (s.dieMarked die b ms).flash = s.flash :=
  (State.biasLines_field _ (·.flash) State.setLine_flash).trans (State.forEach_field ms _ _ (·.flash) fun _ _ => rfl)

theorem State.dieMarked_bit (n : Nat) : (s.dieMarked die b ms).bit .BIAS_DIE_STATUS die n =
    (State.forEach ms (fun m u => u.setBit .BIAS_DIE_STATUS die m.1 m.2) { s with bias := b }).bit .BIAS_DIE_STATUS die n :=
  State.bit_congr (State.biasLines_reg _ _ _)

theorem onlyAt_dieMarked : OnlyAt [(.BIAS_DIE_STATUS, die)] s (s.dieMarked die b ms) := by
  let marked (u : State) : State := State.forEach ms (fun m u => u.setBit .BIAS_DIE_STATUS die m.1 m.2) u
  have hmarked (u : State) : OnlyAt [(.BIAS_DIE_STATUS, die)] u (marked u) :=
    List.foldlRecOn (motive := fun x : State => OnlyAt [(.BIAS_DIE_STATUS, die)] u x) ms _ (onlyAt_of_reg_eq (fun _ _ => rfl) rfl)
      fun _ hx _ _ => hx.trans (onlyAt_setReg _ _ (List.mem_singleton_self _))
  have hbias : OnlyAt [(.BIAS_DIE_STATUS, die)] s { s with bias := b } := onlyAt_of_reg_eq (fun _ _ => rfl) rfl
  exact hbias.trans ((hmarked _).trans (onlyAt_biasLines _))

end

section
variable (s : State) (die : Fin 2)

/-! ### Supplies (R246) -/

/-- The supply of the die has come up. -/
def BiasState.supplied (b : BiasState) (die : Nat) : BiasState :=
  { b with supplyUp := dieSet b.supplyUp die true, supplyFault := dieSet b.supplyFault die false
           loadDue := dieSet b.loadDue die true }

/-- It has failed. -/
def BiasState.failed (b : BiasState) (die : Nat) : BiasState :=
  { b with supplyUp := dieSet b.supplyUp die false, supplyFault := dieSet b.supplyFault die true }

theorem biasRiseOp_eq (extrefOk : Bool) : biasRiseOp die extrefOk s =
    (s.resetDie die).dieMarked die ((s.resetDie die).bias.supplied die) [(1, true), (3, true), (5, extrefOk)] := by
  unfold biasRiseOp State.dieMarked BiasState.supplied
  rfl

theorem biasFaultOp_of_up (h : dieBit s.bias.supplyUp die = true) : biasFaultOp die s =
    (s.resetDie die).dieMarked die ((s.resetDie die).bias.failed die) [(1, false), (2, true)] := by
  unfold biasFaultOp State.dieMarked BiasState.failed
  rw [if_neg (by simp [h])]
  rfl

/-- At reset a switch is shown open. -/
theorem connAct_reset (v : Variant) (j : Nat) : bits (resetWord v .BIAS_STATUS j) 5 4 = 0 := by
  show bits (fieldsReset (regInfo .BIAS_STATUS).fields) 5 4 = 0
  decide

theorem biasRiseOp_flash (extrefOk : Bool) : (biasRiseOp die extrefOk s).flash = s.flash := by
  rw [biasRiseOp_eq, State.dieMarked_flash, State.resetDie_flash]

theorem biasRiseOp_rises (extrefOk : Bool) :
    let t := biasRiseOp die extrefOk s
    dieBit t.bias.supplyUp die = true ∧ dieBit t.bias.supplyFault die = false ∧
      t.bit .BIAS_DIE_STATUS die 1 = true ∧ t.bit .BIAS_DIE_STATUS die 3 = true ∧ t.bit .BIAS_DIE_STATUS die 5 = extrefOk ∧
      (∀ k : Fin 128, tfind t.bias.ramp (128 * die + k) = none ∧ t.fld .BIAS_STATUS (128 * die + k) 5 4 = 0) ∧
      OnlyRegs (.BIAS_DIE_STATUS :: dieRegs.map Prod.fst) s t := by
  let lost := s.resetDie die
  intro t
  have ht : t = lost.dieMarked die (lost.bias.supplied die) _ := biasRiseOp_eq s die extrefOk
  have hbias : t.bias = lost.bias.supplied die := ht ▸ lost.dieMarked_bias die _ _
  have hmarked : OnlyAt [(.BIAS_DIE_STATUS, die.val)] lost t := ht ▸ onlyAt_dieMarked lost die _ _
  refine ⟨hbias ▸ dieBit_dieSet _ die true, hbias ▸ dieBit_dieSet _ die false, ?ok, ?lost, ?extref,
    fun k => ⟨hbias ▸ s.resetDie_ramp die k, ?conn⟩,
    ((onlyRegs_resetDie s die).mono (by simp)).trans (hmarked.onlyRegs_fst.mono (by simp))⟩
  case conn =>
    have hdie : (128 * die.val + k.val) / 128 = die := by omega
    have hreset : t.reg .BIAS_STATUS (128 * die + k) = resetWord s.variant .BIAS_STATUS (128 * die + k) :=
      calc _ = lost.reg .BIAS_STATUS (128 * die + k) := hmarked.1 _ _ (by simp)
        _ = _ := s.resetDie_reg die _ _
        _ = _ := s.dieRegsReset_in die (n := 128) (by decide) hdie
    rw [State.fld, hreset, connAct_reset]
  all_goals simp [ht, State.dieMarked_bit, State.forEach]

theorem biasFaultOp_fails (h : dieBit s.bias.supplyUp die = true) :
    let t := biasFaultOp die s
    dieBit t.bias.supplyUp die = false ∧ dieBit t.bias.supplyFault die = true ∧
      t.bit .BIAS_DIE_STATUS die 1 = false ∧ t.bit .BIAS_DIE_STATUS die 2 = true ∧
      (∀ q n, (q, n) ∈ dieRegs → ∀ j < n, t.reg q (n * die + j) = resetWord s.variant q (n * die + j)) ∧
      (∀ q n, (q, n) ∈ dieRegs → ∀ j, j / n ≠ die.val → t.reg q j = s.reg q j) ∧
      OnlyRegs (.BIAS_DIE_STATUS :: dieRegs.map Prod.fst) s t := by
  let lost := s.resetDie die
  intro t
  have ht : t = lost.dieMarked die (lost.bias.failed die) _ := biasFaultOp_of_up s die h
  have hbias : t.bias = lost.bias.failed die := ht ▸ lost.dieMarked_bias die _ _
  have hmarked : OnlyAt [(.BIAS_DIE_STATUS, die.val)] lost t := ht ▸ onlyAt_dieMarked lost die _ _
  have hreg {q : Reg} {n : Nat} (hq : (q, n) ∈ dieRegs) (j : Nat) : t.reg q j = (s.dieRegsReset die).reg q j := by
    have hnot : ∀ p ∈ dieRegs, p.1 ≠ .BIAS_DIE_STATUS := by decide
    exact (hmarked.1 _ _ (by simp [hnot _ hq])).trans (s.resetDie_reg die q j)
  refine ⟨hbias ▸ dieBit_dieSet _ die false, hbias ▸ dieBit_dieSet _ die true, ?ok, ?lost,
    fun q n hq j hj => (hreg hq _).trans (s.dieRegsReset_in die hq ?inside),
    fun q n hq j hj => (hreg hq j).trans (s.dieRegsReset_out die fun n' hq' => ?outside),
    ((onlyRegs_resetDie s die).mono (by simp)).trans (hmarked.onlyRegs_fst.mono (by simp))⟩
  case inside => rw [Nat.mul_add_div (dieRegs_pos _ hq), Nat.div_eq_of_lt hj, Nat.add_zero]
  case outside =>
    obtain ⟨-, rfl⟩ := Prod.mk.inj (dieRegs_functional _ hq _ hq' rfl)
    exact hj
  all_goals simp [ht, State.dieMarked_bit, State.forEach]

/-! ### Isolator links (R246, R247, R253) -/

theorem linkDownOp_of_linked (h : s.bit .BIAS_DIE_STATUS die 0 = true) :
    let cut := s.cutRamps die
    linkDownOp die s =
      cut.dieMarked die { cut.bias with linkFault := dieSet cut.bias.linkFault die true } [(0, false), (4, true)] := by
  unfold linkDownOp State.dieMarked
  rw [if_neg (by simp [h])]
  rfl

theorem linkUpOp_eq : linkUpOp die s =
    s.dieMarked die { s.bias with linkFault := dieSet s.bias.linkFault die false }
      [(0, true), (1, dieBit s.bias.supplyUp die)] := by
  unfold linkUpOp State.dieMarked
  rfl

theorem linkUpOp_flash : (linkUpOp die s).flash = s.flash := by rw [linkUpOp_eq, State.dieMarked_flash]

theorem State.cutRamps_eq (die : Nat) :
    s.cutRamps die = State.forEach (dieOutputs die) (fun k u => u.stopRamp Code.cut k) s := by
  rw [State.cutRamps, dieOutputs]

theorem onlyRegs_cutRamps : OnlyRegs [.BIAS_STATUS] s (s.cutRamps die) := by
  rw [State.cutRamps_eq]
  exact onlyRegs_forEach (fun k u => (onlyAt_stopRamp (k := k) u Code.cut).onlyRegs_fst) _ s

/-- A cut of the ramps of distinct outputs stops each as it was found. -/
theorem State.cutOutputs_cut {l : List Nat} (hl : l.Nodup) {k : Nat} (hk : k ∈ l) :
    let t := State.forEach l (fun k u => u.stopRamp Code.cut k) s
    tfind t.bias.ramp k = none ∧ (s.ramping k = true →
      t.bit .BIAS_STATUS k 0 = false ∧ t.bit .BIAS_STATUS k 2 = true ∧ t.fld .BIAS_STATUS k 15 8 = Code.cut) := by
  intro t
  obtain ⟨u, hu, hcut⟩ := State.forEach_at hl hk (·.outputAt k) (f := fun k u => u.stopRamp Code.cut k)
    (fun b hb u => u.stopRamp_outputAt hb _) s
  obtain ⟨huramp, -, -⟩ := State.outputAt_eq_iff.1 hu
  obtain ⟨hramp, hreg, -⟩ := State.outputAt_eq_iff.1 hcut
  refine ⟨hramp.trans (u.stopRamp_ramp _), fun h => ?_⟩
  have hfound : u.ramping k = true := by simpa only [State.ramping, huramp] using h
  obtain ⟨hoff, hstopped, hcode⟩ := u.stopRamp_marks hfound (code := Code.cut) (by decide)
  exact ⟨(State.bit_congr (hreg _)).trans hoff, (State.bit_congr (hreg _)).trans hstopped,
    (State.fld_congr (hreg _)).trans hcode⟩

theorem linkDownOp_cuts (h : s.bit .BIAS_DIE_STATUS die 0 = true) :
    let t := linkDownOp die s
    t.bit .BIAS_DIE_STATUS die 0 = false ∧ t.bit .BIAS_DIE_STATUS die 4 = true ∧ dieBit t.bias.linkFault die = true ∧
      (∀ x : Fin 128, let k := 128 * die + x.val
        tfind t.bias.ramp k = none ∧ t.reg .BIAS_ACT k = s.reg .BIAS_ACT k ∧ (s.ramping k = true →
          t.bit .BIAS_STATUS k 0 = false ∧ t.bit .BIAS_STATUS k 2 = true ∧ t.fld .BIAS_STATUS k 15 8 = Code.cut)) ∧
      OnlyRegs [.BIAS_DIE_STATUS, .BIAS_STATUS] s t := by
  have hcut : OnlyRegs [.BIAS_STATUS] s (s.cutRamps die) := onlyRegs_cutRamps s die
  have hstop (x : Fin 128) := s.cutOutputs_cut (nodup_dieOutputs die) (mem_dieOutputs die x)
  simp only [linkDownOp_of_linked s die h]
  rw [← s.cutRamps_eq] at hstop
  generalize s.cutRamps die = cut at hcut hstop ⊢
  have hmarked := onlyAt_dieMarked cut die
    { cut.bias with linkFault := dieSet cut.bias.linkFault die true } [(0, false), (4, true)]
  have honly : OnlyRegs [.BIAS_DIE_STATUS, .BIAS_STATUS] s _ :=
    (hcut.mono (by simp)).trans (hmarked.onlyRegs_fst.mono (by simp))
  refine ⟨?linked, ?fault, ?source, fun x => ?output, honly⟩
  case source => rw [State.dieMarked_bias]; exact dieBit_dieSet _ die true
  case output =>
    obtain ⟨hnone, hmarks⟩ := hstop x
    have hstatus := hmarked.1 .BIAS_STATUS (128 * die + x) (by simp)
    refine ⟨?_, honly.1 _ _ (by decide), fun hr => ?_⟩
    · rw [State.dieMarked_bias]
      exact hnone
    · rw [State.bit_congr hstatus, State.bit_congr hstatus, State.fld_congr hstatus]
      exact hmarks hr
  all_goals simp [State.dieMarked_bit, State.forEach]

theorem linkUpOp_shows :
    let t := linkUpOp die s
    t.bit .BIAS_DIE_STATUS die 0 = true ∧ t.bit .BIAS_DIE_STATUS die 1 = dieBit s.bias.supplyUp die ∧
      dieBit t.bias.linkFault die = false ∧ OnlyAt [(.BIAS_DIE_STATUS, die.val)] s t := by
  rw [linkUpOp_eq]
  refine ⟨?linked, ?supply, ?source, onlyAt_dieMarked s die _ _⟩
  case source => rw [State.dieMarked_bias]; exact dieBit_dieSet _ die false
  all_goals simp [State.dieMarked_bit, State.forEach]

end

/-- Settles O39: past its cc each row does what the rules above say of the state that it acts on, and a die that comes up or
within reach finds no image to load. -/
theorem biasDiesComplete : Obligations.BiasDiesComplete := by
  intro dt die s
  let p := s.pass dt
  have hpast {l : List (Reg × Nat)} : OnlyAt l s p := onlyAt_pass s dt
  have hpastRegs {rs : List Reg} : OnlyRegs rs s p := OnlyAt.onlyRegs hpast
  have hbias : p.bias = s.bias := s.pass_bias dt
  refine ⟨fun b hcool himage => ⟨_, rfl, ?rise⟩, fun hup => ⟨_, rfl, ?fault⟩, fun hlinked => ⟨_, rfl, ?down⟩,
    fun himage => ⟨_, rfl, ?up⟩⟩
  case rise =>
    have hrow : biasSupplyRiseOp die b p = (biasRiseOp die b p).loadDies := if_neg (by simp [p, hcool])
    have hrises := biasRiseOp_rises p die b
    have hnone : (biasRiseOp die b p).flash.newest = none := by rw [biasRiseOp_flash, s.pass_flash, himage]
    rw [hrow]
    generalize biasRiseOp die b p = risen at hrises hnone ⊢
    obtain ⟨hup, hclear, hok, hlost, hext, hout, honly⟩ := hrises
    obtain ⟨due, hload⟩ := risen.loadDies_of_no_image hnone
    rw [hload]
    exact ⟨hup, hclear, hok, hlost, hext, hout, hpastRegs.trans (honly.trans (onlyRegs_of_reg_eq (fun _ _ => rfl) rfl))⟩
  case fault =>
    obtain ⟨hdown, hfault, hok, hlatched, hreset, hother, honly⟩ := biasFaultOp_fails p die (hbias ▸ hup)
    rw [s.pass_variant] at hreset
    simp only [p, s.pass_reg] at hother
    exact ⟨hdown, hfault, hok, hlatched, hreset, hother, hpastRegs.trans honly⟩
  case down =>
    obtain ⟨hoff, hlatched, hfault, hout, honly⟩ := linkDownOp_cuts p die ((s.pass_bit dt _ _ _).trans hlinked)
    simp only [p, s.pass_reg, State.ramping, s.pass_bias] at hout
    exact ⟨hoff, hlatched, hfault, hout, hpastRegs.trans honly⟩
  case up =>
    have hshows := linkUpOp_shows p die
    have hnone : (linkUpOp die p).flash.newest = none := by rw [linkUpOp_flash, s.pass_flash, himage]
    rw [hbias] at hshows
    rw [isolatorUpOp]
    generalize linkUpOp die p = found at hshows hnone ⊢
    obtain ⟨hlinked, hsupply, hclear, honly⟩ := hshows
    obtain ⟨due, hload⟩ := found.loadDies_of_no_image hnone
    rw [hload]
    exact ⟨hlinked, hsupply, hclear, hpast.trans (honly.trans (onlyAt_of_reg_eq (fun _ _ => rfl) rfl))⟩

end Sys2Proof.Machine
end

-- ==== Proof of the converters statement ====
section
/-!
PROOFS. The integrating converters (R255-R259, R261). A result is stored with its marks, raises the level of its converter, and
the converter begins anew; a read of it takes the level away, and a configuration write restarts a converter that runs. The
result acts on the state once its cycles have passed, the accesses on the state past the link.
-/

namespace Sys2Proof.Machine

/-! ### The lines of level sources (R278, R279) -/

theorem settle_line {k : Nat} (h : levelSource k = true) (x : IrqSource) : (settle k x).line = x.line := by
  unfold settle
  split
  · rfl
  · rfl

theorem State.source_congr {s t : State} (h : t.irq = s.irq) (k : Nat) : t.source k = s.source k := by
  simp only [State.source, h]

theorem State.logFault_irq (s : State) (k : Nat) : (s.logFault k).irq = s.irq :=
  s.logFault_field (·.irq) (fun _ _ _ => rfl) (fun _ _ => rfl) k

/-- A level source that exists takes the condition of its block, one that rises only while the block is live. -/
theorem State.setLine_source_line (s : State) {k : Nat} {on : Bool} (hl : levelSource k = true) (hi : s.srcImpl k = true)
    (hlive : on = true → s.srcLive k = true) : ((s.setLine k on).source k).line = on := by
  let set := s.setSource k (settle k { s.source k with line := on })
  have hset : (set.source k).line = on := by
    rw [show set.source k = _ from tget_tset_same _ _ _ _, settle_line hl]
  have hlogged : ((set.logFault k).source k).line = on := by rw [State.source_congr (set.logFault_irq k), hset]
  have hmay : (!on || s.srcLive k) = true := by
    cases on with
    | false => rfl
    | true => exact hlive rfl
  unfold State.setLine
  rw [if_pos (by rw [hl, hi, hmay]; rfl)]
  exact (apply_ite (fun t => (State.source t k).line) _ _ _).trans (by rw [hlogged, hset, ite_self])

theorem levelSource_converter : ∀ c : Fin 8, levelSource (8 + c) = true := by decide

theorem State.srcImpl_converter (s : State) (c : Fin 8) : s.srcImpl (8 + c) = true := by
  unfold State.srcImpl
  rw [if_neg (by omega), if_neg (by omega), if_neg (by omega)]

/-- Whether the block of a source is live follows from the features accepted, the GO, and the cc. -/
theorem State.srcLive_congr {s t : State} (hnow : t.now = s.now) (hhost : t.host = s.host)
    (hctrl : t.reg .FEAT_CTRL 0 = s.reg .FEAT_CTRL 0) (haccept : t.reg .FEAT_ACCEPT 0 = s.reg .FEAT_ACCEPT 0) (k : Nat) :
    t.srcLive k = s.srcLive k := by
  have hactive : t.active = s.active := by simp only [State.active, State.goAccepted, State.bit, hnow, hhost, hctrl]
  have hfeat (b : Nat) : t.feat b = s.feat b := by simp only [State.feat, hactive, State.regNat, haccept]
  simp only [State.srcLive, hactive, hfeat]

section
variable (s : State) {c : Nat}

/-! ### A result (R255, R258, R259) -/

/-- The low word of a result: the code, its input, VALID, OVERRUN and CLIP. -/
def icWord (code input : Nat) (ovr clip : Bool) : Nat :=
  code + input * 2 ^ 24 + 2 ^ 28 + b2n ovr * 2 ^ 29 + b2n clip * 2 ^ 30

theorem icWord_reads {code input : Nat} (hcode : code < 2 ^ 24) (hinput : input < 16) (ovr clip : Bool) :
    let w := BitVec.ofNat 32 (icWord code input ovr clip)
    bits w 23 0 = code ∧ bits w 27 24 = input ∧ bits w 28 28 = 1 ∧ bits w 29 29 = b2n ovr ∧ bits w 30 30 = b2n clip := by
  have hovr : b2n ovr < 2 := by cases ovr <;> decide
  have hclip : b2n clip < 2 := by cases clip <;> decide
  simp only [icWord, bits, BitVec.toNat_ofNat, Nat.shiftRight_eq_div_pow]
  omega

/-- A result is stored with its number. -/
def State.icStored (s : State) (c w : Nat) : State :=
  (s.setReg .IC_DATA_LO c (BitVec.ofNat 32 w)).setReg .IC_DATA_HI c (BitVec.ofNat 32 ((s.regNat .IC_DATA_HI c + 1) % 65536))

/-- CLIP and OVERRUN are noted with the channel. -/
def State.icNoted (s : State) (c : Nat) (clip overran : Bool) : State :=
  let t := if clip then s.setBit .IC_STATUS_CH c 2 true else s
  if overran then (t.setBit .IC_STATUS_CH c 1 true).raise (16 + c) else t

/-- The converter goes on to its next result, at the next input of a scan. -/
def State.icNext (s : State) (c input : Nat) : State :=
  let scan := s.bit .IC_CTRL c 1
  let t := if scan then s.setFld .IC_STATUS_CH c 7 4 (nextInput (s.scanInputs c) input) else s
  { t with bias := { t.bias with ic := tset t.bias.ic c { since := t.now, settling := scan } } }

/-- What the result says of the external reference is shown, and a code of input 9 or 10 is published. -/
def State.icShown (s : State) (c input : Nat) (code : Int) (extrefOk : Bool) : State :=
  let t := s.setBit .BIAS_DIE_STATUS (c / 4) 5 extrefOk
  if input = 9 ∨ input = 10 then
    { t with bias := { t.bias with extref := tset t.bias.extref (2 * (c / 4) + (input - 9)) code } }.publishExtref (c / 4)
  else t

/-- The corrected code of a raw result, and whether it is at a code limit. -/
def State.icCorrected (s : State) (c : Nat) (raw : Int) : Int × Bool :=
  icCode (saturate 24 raw) (signed 20 (s.fld .IC_OFS_CORR c 19 0)) (signed 20 (s.fld .IC_GAIN_CORR c 19 0))

/-- A result is due: the die is supplied, the converter runs, and its cycles have passed. -/
structure State.IcDue (s : State) (c : Nat) : Prop where
  supplied : dieBit s.bias.supplyUp (c / 4) = true
  runs : s.bit .IC_CTRL c 0 = true
  passed : cyclesPassed (s.icCycles c (tget {} s.bias.ic c).settling) (tget {} s.bias.ic c).since s.now = true

theorem icResultOp_of_due (h : s.IcDue c) (raw : Int) (extrefOk : Bool) :
    let input := s.fld .IC_STATUS_CH c 7 4
    let r := s.icCorrected c raw
    let overran := s.bit .IC_DATA_LO c 28
    let stored := s.icStored c (icWord (wrapTo 24 r.1) input (overran || s.bit .IC_DATA_LO c 29) r.2)
    icResultOp c raw extrefOk s =
      (((stored.icNoted c r.2 overran).setLine (8 + c) true).icNext c input).icShown c input r.1 extrefOk := by
  unfold icResultOp
  exact if_neg (by simp [h.supplied, h.runs, h.passed])

theorem onlyAt_icStored (w : Nat) : OnlyAt [(.IC_DATA_LO, c), (.IC_DATA_HI, c)] s (s.icStored c w) :=
  (onlyAt_setReg s _ (by simp)).trans (onlyAt_setReg _ _ (by simp))

theorem onlyAt_ite {l : List (Reg × Nat)} {p : Prop} [Decidable p] {s t u : State} (ht : OnlyAt l s t) (hu : OnlyAt l s u) :
    OnlyAt l s (if p then t else u) := by
  split
  · exact ht
  · exact hu

theorem OnlyAt.refl (l : List (Reg × Nat)) (s : State) : OnlyAt l s s := onlyAt_of_reg_eq (fun _ _ => rfl) rfl

theorem onlyAt_icNoted (clip overran : Bool) : OnlyAt [(.IC_STATUS_CH, c)] s (s.icNoted c clip overran) := by
  let t := if clip then s.setBit .IC_STATUS_CH c 2 true else s
  have hclip : OnlyAt [(.IC_STATUS_CH, c)] s t := onlyAt_ite (onlyAt_setReg s _ (by simp)) (.refl _ s)
  have hovr : OnlyAt [(.IC_STATUS_CH, c)] t (t.setBit .IC_STATUS_CH c 1 true) := onlyAt_setReg t _ (by simp)
  exact onlyAt_ite ((hclip.trans hovr).trans (onlyAt_of_reg_eq (State.raise_reg _ _) (State.kept_raise _ _))) hclip

theorem onlyAt_setLine {l : List (Reg × Nat)} (k : Nat) (on : Bool) : OnlyAt l s (s.setLine k on) :=
  onlyAt_of_reg_eq (s.setLine_reg k on) (s.kept_setLine k on)

theorem onlyAt_icNext (input : Nat) : OnlyAt [(.IC_STATUS_CH, c)] s (s.icNext c input) :=
  (onlyAt_ite (onlyAt_setReg s _ (by simp)) (.refl _ s)).trans (onlyAt_of_reg_eq (fun _ _ => rfl) rfl)

/-- A published difference is an object that the Gaffer serves, no register. -/
theorem State.publishExtref_field {β : Type} (f : State → β) (h : ∀ s v, f { s with served := v } = f s) (die : Nat) :
    f (s.publishExtref die) = f s := by
  unfold State.publishExtref
  split
  · exact State.ite_field f rfl (h _ _)
  · rfl

theorem onlyAt_publishExtref {l : List (Reg × Nat)} (die : Nat) : OnlyAt l s (s.publishExtref die) :=
  onlyAt_of_reg_eq (fun q j => s.publishExtref_field (·.reg q j) (fun _ _ => rfl) die) (s.kept_publishExtref die)

theorem onlyAt_icShown (input : Nat) (code : Int) (extrefOk : Bool) :
    OnlyAt [(.BIAS_DIE_STATUS, c / 4)] s (s.icShown c input code extrefOk) := by
  have hset : OnlyAt [(.BIAS_DIE_STATUS, c / 4)] s (s.setBit .BIAS_DIE_STATUS (c / 4) 5 extrefOk) :=
    onlyAt_setReg s _ (by simp)
  exact onlyAt_ite ((hset.trans (onlyAt_of_reg_eq (fun _ _ => rfl) rfl)).trans (onlyAt_publishExtref _ _)) hset

theorem State.icNext_irq (input : Nat) : (s.icNext c input).irq = s.irq := State.ite_field (·.irq) rfl rfl

theorem State.icShown_irq (input : Nat) (code : Int) (extrefOk : Bool) :
    (s.icShown c input code extrefOk).irq = s.irq :=
  State.ite_field (·.irq) (State.publishExtref_field _ (·.irq) (fun _ _ => rfl) _) rfl

theorem State.icNoted_field {β : Type} (f : State → β) (hreg : ∀ s r i w, f (State.setReg s r i w) = f s)
    (hraise : ∀ s k, f (State.raise s k) = f s) (clip overran : Bool) : f (s.icNoted c clip overran) = f s := by
  have hclip : f (if clip then s.setBit .IC_STATUS_CH c 2 true else s) = f s := State.ite_field f (hreg _ _ _ _) rfl
  exact State.ite_field f ((hraise _ _).trans ((hreg _ _ _ _).trans hclip)) hclip

end

theorem icResultOp_results (s : State) {c : Fin 8} (h : s.IcDue c) (raw : Int) (extrefOk : Bool) :
    let r := s.icCorrected c raw
    let t := icResultOp c raw extrefOk s
    t.fld .IC_DATA_LO c 23 0 = wrapTo 24 r.1 ∧ t.fld .IC_DATA_LO c 27 24 = s.fld .IC_STATUS_CH c 7 4 ∧
      t.bit .IC_DATA_LO c 28 = true ∧ t.bit .IC_DATA_LO c 29 = (s.bit .IC_DATA_LO c 28 || s.bit .IC_DATA_LO c 29) ∧
      t.bit .IC_DATA_LO c 30 = r.2 ∧ t.regNat .IC_DATA_HI c = (s.regNat .IC_DATA_HI c + 1) % 65536 ∧
      (s.srcLive (8 + c) = true → (t.source (8 + c)).line = true) ∧
      OnlyAt [(.IC_DATA_LO, c.val), (.IC_DATA_HI, c.val), (.IC_STATUS_CH, c.val), (.BIAS_DIE_STATUS, c.val / 4)] s t := by
  intro r t
  let input := s.fld .IC_STATUS_CH c 7 4
  let overran := s.bit .IC_DATA_LO c 28
  let word := icWord (wrapTo 24 r.1) input (overran || s.bit .IC_DATA_LO c 29) r.2
  let stored := s.icStored c word
  let noted := stored.icNoted c r.2 overran
  let raised := noted.setLine (8 + c) true
  have ht : t = (raised.icNext c input).icShown c input r.1 extrefOk := icResultOp_of_due s h raw extrefOk
  have hstored : OnlyAt [(.IC_DATA_LO, c.val), (.IC_DATA_HI, c.val)] s stored := onlyAt_icStored s word
  have hnoted : OnlyAt [(.IC_STATUS_CH, c.val)] stored noted := onlyAt_icNoted stored _ _
  have hbehind : OnlyAt [(.IC_STATUS_CH, c.val), (.BIAS_DIE_STATUS, c.val / 4)] stored t :=
    (hnoted.mono (by simp)).trans <| (onlyAt_setLine noted _ _).trans <|
      ((onlyAt_icNext raised input).mono (by simp)).trans (ht ▸ (onlyAt_icShown _ input r.1 extrefOk).mono (by simp))
  have hlo : t.reg .IC_DATA_LO c = BitVec.ofNat 32 word := by
    rw [hbehind.1 _ _ (by simp)]
    simp [stored, State.icStored]
  have hhi : t.reg .IC_DATA_HI c = BitVec.ofNat 32 ((s.regNat .IC_DATA_HI c + 1) % 65536) := by
    rw [hbehind.1 _ _ (by simp)]
    exact State.reg_setReg_same _ _ _ _
  have hinput : input < 16 := Nat.mod_lt _ (by decide)
  obtain ⟨hcode, hin, hvalid, hovr, hclip⟩ := icWord_reads (wrapTo_lt 24 r.1) hinput (overran || s.bit .IC_DATA_LO c 29) r.2
  have hb2n (b : Bool) : (b2n b == 1) = b := by cases b <;> rfl
  refine ⟨?code, ?input, ?valid, ?ovr, ?clip, ?count, fun hlive => ?line,
    (hstored.mono (by simp)).trans (hbehind.mono (by simp))⟩
  case code => rw [State.fld, hlo, hcode]
  case input => rw [State.fld, hlo, hin]
  case valid => rw [State.bit, hlo, hvalid]; rfl
  case ovr => rw [State.bit, hlo, hovr, hb2n]
  case clip => rw [State.bit, hlo, hclip, hb2n]
  case count =>
    rw [State.regNat, hhi, BitVec.toNat_ofNat]
    omega
  case line =>
    have hnow : noted.now = s.now := stored.icNoted_field (·.now) (fun _ _ _ _ => rfl) State.raise_now _ _
    have hhost : noted.host = s.host := stored.icNoted_field (·.host) (fun _ _ _ _ => rfl) State.raise_host _ _
    have hreg (q : Reg) (hq : q ∉ [Reg.IC_DATA_LO, .IC_DATA_HI, .IC_STATUS_CH]) : noted.reg q 0 = s.reg q 0 :=
      (hnoted.1 _ _ (by simp_all)).trans (hstored.1 _ _ (by simp_all))
    have hstill : noted.srcLive (8 + c) = true :=
      (State.srcLive_congr hnow hhost (hreg _ (by decide)) (hreg _ (by decide)) _).trans hlive
    have hirq : t.irq = raised.irq := by rw [ht, State.icShown_irq, State.icNext_irq]
    rw [State.source_congr hirq]
    exact noted.setLine_source_line (levelSource_converter c) (noted.srcImpl_converter c) fun _ => hstill

/-! ### A read of a result (R258, R10) -/

theorem icClaimOp_of_unreached {s : State} {c : Nat} (h : s.dieLive (c / 4) = false) (who : Requester) :
    icClaimOp who c s = (0, s) := if_pos (by simp [h])

/-- The high word is captured, and VALID, OVERRUN and the level of the converter are taken away. -/
def State.icClaimed (s : State) (who : Requester) (c : Nat) : State :=
  (((s.capture who .IC_DATA_HI c (s.reg .IC_DATA_HI c)).setBit .IC_DATA_LO c 28 false).setBit .IC_DATA_LO c 29 false).setLine
    (8 + c) false

theorem icClaimOp_of_live {s : State} {c : Nat} (h : s.dieLive (c / 4) = true) (who : Requester) :
    icClaimOp who c s = ((s.reg .IC_DATA_LO c).zeroExtend 64, s.icClaimed who c) := if_neg (by simp [h])

theorem State.icClaimed_claims (s : State) (who : Requester) (c : Fin 8) :
    let t := s.icClaimed who c
    t.out = s.out ∧ t.bit .IC_DATA_LO c 28 = false ∧ t.bit .IC_DATA_LO c 29 = false ∧ (t.source (8 + c)).line = false ∧
      tfind t.snap (snapKey who .IC_DATA_HI c) = some (s.reg .IC_DATA_HI c) ∧ OnlyAt [(.IC_DATA_LO, c.val)] s t := by
  let captured := s.capture who .IC_DATA_HI c (s.reg .IC_DATA_HI c)
  let taken := (captured.setBit .IC_DATA_LO c 28 false).setBit .IC_DATA_LO c 29 false
  intro t
  have hbit (b : Nat) : t.bit .IC_DATA_LO c b = taken.bit .IC_DATA_LO c b := State.bit_congr (taken.setLine_reg _ _ _ _)
  have htaken : OnlyAt [(.IC_DATA_LO, c.val)] s taken :=
    (onlyAt_of_reg_eq (fun _ _ => rfl) rfl : OnlyAt _ s captured).trans
      ((onlyAt_setReg _ _ (by simp)).trans (onlyAt_setReg _ _ (by simp)))
  refine ⟨taken.setLine_out _ _, (hbit 28).trans (by simp [taken]), (hbit 29).trans (by simp [taken]),
    taken.setLine_source_line (levelSource_converter c) (taken.srcImpl_converter c) nofun,
    (congrArg (tfind · _) (taken.setLine_snap _ _)).trans (tfind_tset_same _ _ _), htaken.trans (onlyAt_setLine taken _ _)⟩

/-! ### A write of the configuration (R255-R257, R261) -/

/-- The bits that a configuration register of a converter holds. -/
def icMask : IcReg → Word
  | .ctrl => 0x3FF
  | .period => 0x7F0F_FFFF
  | .scan => 0xFF

theorem icReg_ne_status (r : IcReg) : icReg r ≠ .IC_STATUS_CH := by cases r <;> decide

theorem icReg_ne_link (r : IcReg) : icReg r ≠ .HIF_LINK := by cases r <;> decide

section
variable (s : State) {c : Nat}

theorem icConfigOp_of_bad {r : IcReg} {v : Word} (h : s.icBad c r v = true) :
    icConfigOp c r v s = s.setFld .IC_STATUS_CH c 15 8 Code.range := if_pos h

/-- The configuration is stored, and answered OK. -/
def State.icConfigured (s : State) (c : Nat) (r : IcReg) (v : Word) : State :=
  (s.setReg (icReg r) c (v &&& icMask r)).setFld .IC_STATUS_CH c 15 8 Code.ok

theorem icConfigOp_of_good {r : IcReg} {v : Word} (h : s.icBad c r v = false) :
    let t := s.icConfigured c r v
    icConfigOp c r v s = if s.bit .IC_CTRL c 0 || t.bit .IC_CTRL c 0 then t.icRestart c else t := by
  cases r <;> exact if_neg (by simp [h])

theorem onlyAt_icRestart : OnlyAt [(.IC_STATUS_CH, c)] s (s.icRestart c) :=
  (onlyAt_setReg s _ (by simp)).trans ((onlyAt_setReg _ _ (by simp)).trans (onlyAt_of_reg_eq (fun _ _ => rfl) rfl))

theorem State.icRestart_code : (s.icRestart c).fld .IC_STATUS_CH c 15 8 = s.fld .IC_STATUS_CH c 15 8 :=
  (State.fld_setFld_apart _ _ _ _ _ _ _ _ (by decide) (.inr (by decide))).trans
    (s.fld_setBit_apart _ _ _ _ _ _ (by decide) (.inr (by decide)))

theorem State.icRestart_since : tget {} (s.icRestart c).bias.ic c = ({ since := s.now } : Converter) := tget_tset_same _ _ _ _

theorem icConfigOp_stores {r : IcReg} {v : Word} (h : s.icBad c r v = false) :
    let t := icConfigOp c r v s
    t.fld .IC_STATUS_CH c 15 8 = Code.ok ∧ t.reg (icReg r) c = v &&& icMask r ∧
      (s.bit .IC_CTRL c 0 = true → tget {} t.bias.ic c = ({ since := s.now } : Converter)) ∧
      OnlyAt [(icReg r, c), (.IC_STATUS_CH, c)] s t := by
  let stored := s.setReg (icReg r) c (v &&& icMask r)
  let configured := s.icConfigured c r v
  intro t
  have ht : t = _ := icConfigOp_of_good s h
  have hconfigured : OnlyAt [(.IC_STATUS_CH, c)] stored configured := onlyAt_setReg stored _ (by simp)
  have hrestart : OnlyAt [(.IC_STATUS_CH, c)] configured t := ht ▸ onlyAt_ite (onlyAt_icRestart _) (.refl _ _)
  have hcode : t.fld .IC_STATUS_CH c 15 8 = configured.fld .IC_STATUS_CH c 15 8 :=
    ht ▸ State.ite_field (·.fld .IC_STATUS_CH c 15 8) (State.icRestart_code _) rfl
  refine ⟨hcode.trans (stored.fld_setFld_of_lt _ _ _ _ (by decide) (by decide)), ?_, fun hrun => ?_, ?_⟩
  · rw [hrestart.1 _ _ (by simp [icReg_ne_status]), hconfigured.1 _ _ (by simp [icReg_ne_status])]
    exact s.reg_setReg_same _ _ _
  · rw [ht, hrun, Bool.true_or, if_pos rfl]
    exact State.icRestart_since _
  · exact (onlyAt_setReg s _ (by simp)).trans ((hconfigured.mono (by simp)).trans (hrestart.mono (by simp)))

end

theorem regAddr_icData_hub (c : Fin 8) : regAddr .IC_DATA_LO c < 0x0800_0000 := by
  revert c; decide

theorem regAddr_icConfig_hub (r : IcReg) (c : Fin 8) : regAddr (icReg r) c < 0x0800_0000 := by
  revert c; cases r <;> decide

theorem State.onLink_icBad (s : State) (who : Requester) (c : Nat) (r : IcReg) (v : Word) :
    (s.onLink who).icBad c r v = s.icBad c r v := by
  cases r <;> simp [State.icBad, State.onLink_fld, State.onLink_bit]

/-- Settles O41: a result acts on the state once its cycles have passed, the accesses past the link, where the converter reads as
before them; there each does what the rules above say. -/
theorem convertersComplete : Obligations.ConvertersComplete := by
  intro who dt c v s p
  let u := s.onLink who
  have hpast {l : List (Reg × Nat)} : OnlyAt l s p := onlyAt_pass s dt
  have hlink : OnlyAt [(.HIF_LINK, 0)] s u := onlyAt_onLink (List.mem_singleton_self _) s who
  have hreg (q : Reg) (j : Nat) (hq : q ≠ .HIF_LINK) : u.reg q j = s.reg q j := s.onLink_reg who q j hq
  have hbias : u.bias = s.bias := s.onLink_bias who
  have hout : u.out = s.out := s.onLink_field (·.out) (fun _ _ => rfl) who
  have hlive : u.dieLive (c / 4) = s.dieLive (c / 4) := s.onLink_dieLive who _
  refine ⟨fun raw b hup hrun hcycles => ⟨_, rfl, ?result⟩, fun ho => ?claim, fun r ho hl => ?config⟩
  case result =>
    have hdue : p.IcDue c :=
      { supplied := by rwa [s.pass_bias]
        runs := (s.pass_bit dt _ _ _).trans hrun
        passed := by simpa [p, State.icCycles, State.icPeriod] using hcycles }
    have hcount : p.regNat .IC_DATA_HI c = s.regNat .IC_DATA_HI c := State.regNat_congr (s.pass_reg dt _ _)
    have hcorrected : p.icCorrected c raw = s.icCorrected c raw := by simp only [p, State.icCorrected, State.pass_fld]
    obtain ⟨hcode, hinput, hvalid, hovr, hclip, hnumber, hline, honly⟩ := icResultOp_results p hdue raw b
    rw [hcorrected] at hcode hclip
    rw [s.pass_fld] at hinput
    rw [s.pass_bit, s.pass_bit] at hovr
    rw [hcount] at hnumber
    exact ⟨hcode, hinput, hvalid, hovr, hclip, hnumber, hline, hpast.trans honly⟩
  case claim =>
    refine completes_of_regAccessRead rfl ho ?_
    rw [s.throughOpen_hub who _ (regAddr_icData_hub c)]
    refine ⟨fun hd => ?_, fun hd => ?_⟩
    · rw [icClaimOp_of_unreached (hlive.trans hd)]
      exact ⟨congrArg (· ++ _) hout, (onlyRegs_onLink_self s who).trans (onlyRegs_of_reg_eq (fun _ _ => rfl) rfl)⟩
    · rw [icClaimOp_of_live (hlive.trans hd)]
      obtain ⟨hsent, hvalid, hovr, hline, hhigh, honly⟩ := u.icClaimed_claims who c
      rw [hreg _ _ (by decide)] at hhigh
      refine ⟨?_, hvalid, hovr, hline, hhigh, (hlink.mono (by simp)).trans ((honly.mono (by simp)).trans ?_)⟩
      · rw [hreg _ _ (by decide)]
        exact congrArg (· ++ _) (hsent.trans hout)
      · exact onlyAt_of_reg_eq (fun _ _ => rfl) rfl
  case config =>
    refine completes_of_dieAccess rfl ho (regAddr_icConfig_hub r c) (fun hd => by simp [hd] at hl) (fun _ => ?_)
    have hbad : u.icBad c r v = s.icBad c r v := s.onLink_icBad who c r v
    have hrun : u.bit .IC_CTRL c 0 = s.bit .IC_CTRL c 0 := s.onLink_bit who _ _ _ (by decide)
    cases h : s.icBad c r v with
    | true =>
      rw [icConfigOp_of_bad u (hbad.trans h)]
      have hset : OnlyAt [(.IC_STATUS_CH, c.val)] u (u.setFld .IC_STATUS_CH c 15 8 Code.range) := onlyAt_setReg u _ (by simp)
      refine ⟨fun _ => ⟨u.fld_setFld_of_lt _ _ _ _ (by decide) (by decide), ?_, hbias⟩, nofun,
        (hlink.mono (by simp)).trans (hset.mono (by simp))⟩
      exact (hset.1 _ _ (by simp [icReg_ne_status])).trans (hreg _ _ (icReg_ne_link r))
    | false =>
      obtain ⟨hcode, hstored, hrestart, honly⟩ := icConfigOp_stores u (hbad.trans h)
      refine ⟨nofun, fun _ => ⟨hcode, hstored, fun hs => ?_⟩, (hlink.mono (by simp)).trans (honly.mono (by simp))⟩
      rw [hrestart (hrun.trans hs)]
      exact ⟨s.onLink_now who, rfl⟩

end Sys2Proof.Machine
end
